-- ==== Sys2Proof/Word.lean ====
section
/-! DEFINITION. The words of the device (R6, R11): 64-bit registers and context words, and bytes. -/

namespace Sys2Proof

/-- A 64-bit register, context word or ring word (R11). -/
abbrev Word := BitVec 64

/-- A byte (R10). -/
abbrev Byte := BitVec 8

end Sys2Proof
end

