-- ==== Sys2Proof/Syntax.lean ====
section
/-! DEFINITION. The commands of the block: one constructor per row of spec/opcode_table.json (commands without operands last, so that
compiled Lean can hold every one). Operands name what the step concerns
(a port, a context, a ring and an entry in progress, an engine and a thread, a register) and carry what the environment brings
(frame bytes, words read from host memory or flash, sensor values, errors found in memories). -/

namespace Sys2Proof

/-- What a memory read met: nothing, a correctable word, or an uncorrectable word of the entry or atom read (R206, R207, R454). -/
inductive ReadErr where
  | none
  | corr (word : Nat)
  | uncorr (word : Nat)
  deriving DecidableEq, Repr

/-- What an access to an engine's memory met in the word it reads: nothing, a correctable error, or an uncorrectable one (R302). -/
inductive MemErr where
  | none
  | corr
  | uncorr
  deriving DecidableEq, Repr

/-- What the regulator of a rail answers to a read of its voltage and current (R437): nothing usable, AVSBus data, or PMBus data with its
VOUT_MODE. -/
inductive RailRead where
  | failed
  | avs (volt cur : Nat)
  | pmbus (mode : BitVec 8) (vout iout : BitVec 16)
  deriving DecidableEq, Repr

/-- What a dequeue met in the cells it read (R316, R323). -/
inductive CellErr where
  | none
  | corr
  | uncorr
  deriving DecidableEq, Repr

/-- The word a scrub read and what it met: a tile word of a table place, or a retained word in one or both copies (R542). -/
inductive ScrubErr where
  | clean
  | tileCorr (table place word : Nat)
  | tileUncorr (table place word : Nat)
  | retainedOne
  | retainedBoth
  | passDone
  deriving DecidableEq, Repr

inductive Instr where
  /-- FRAME_RX (R120). -/
  | frameRx (port : Nat) (bytes : List Byte) (fcsOk : Bool) (ago : BitVec 40) (frags : Nat)
  /-- CROSSING (R44). -/
  | crossing (quad : Nat)
  /-- PARSE (R146). -/
  | parse (ctx : Nat)
  /-- LOOKUP (R181). -/
  | lookup (ctx : Nat) (err : ReadErr)
  /-- DRAM_LPM_READ (R188). -/
  | dramLpmRead (ctx : Nat)
  /-- CHAMOIS_SEARCH (R217). -/
  | chamoisSearch (ctx : Nat)
  /-- ACTION_MERGE (R244). -/
  | actionMerge (ctx : Nat) (bad : Bool) (errs : List ReadErr)
  /-- POLICE (R362). -/
  | police (ctx : Nat)
  /-- ADMISSION (R319). -/
  | admission (ctx : Nat) (bad : Bool)
  /-- MC_COPY (R329). -/
  | mcCopy (ctx : Nat)
  /-- RECORD_LINK (R324). -/
  | recordLink (port : Nat)
  /-- RESIDUE_MOVE (R325). -/
  | residueMove (port : Nat)
  /-- RESIDUE_TIMEOUT (R325). -/
  | residueTimeout (port : Nat)
  /-- CAPTURE_RECORD_WRITE (R336). -/
  | captureRecordWrite
  /-- DEQUEUE (R356). -/
  | dequeue (port : Nat) (err : CellErr)
  /-- EGRESS_REWRITE (R260). -/
  | egressRewrite (ctx : Nat) (err err2 : ReadErr)
  /-- FRAME_TX (R32). -/
  | frameTx (ctx : Nat) (dev : BitVec 40) (cut : Option Nat)
  /-- TS_REPORT_WRITE (R383). -/
  | tsReportWrite
  /-- RECIRC_RETURN (R161). -/
  | recircReturn (ctx : Nat)
  /-- HOST_DELIVERY (R503). -/
  | hostDelivery (ctx : Nat)
  /-- RX_ASSIGN (R504). -/
  | rxAssign (ring : Nat)
  /-- HOST_INJECT (R508). -/
  | hostInject
  /-- THREAD_TAKE (R278). -/
  | threadTake (e : Nat)
  /-- SUM (R281). -/
  | engSum (e : Nat) (t : Nat) (f : MemErr)
  /-- DIF (R281). -/
  | engDif (e : Nat) (t : Nat) (f : MemErr)
  /-- MSK (R281). -/
  | engMsk (e : Nat) (t : Nat) (f : MemErr)
  /-- JOIN (R281). -/
  | engJoin (e : Nat) (t : Nat) (f : MemErr)
  /-- FLIP (R281). -/
  | engFlip (e : Nat) (t : Nat) (f : MemErr)
  /-- LSL (R281). -/
  | engLsl (e : Nat) (t : Nat) (f : MemErr)
  /-- LSR (R281). -/
  | engLsr (e : Nat) (t : Nat) (f : MemErr)
  /-- MULL (R281). -/
  | engMull (e : Nat) (t : Nat) (f : MemErr)
  /-- LESS (R281). -/
  | engLess (e : Nat) (t : Nat) (f : MemErr)
  /-- SUMK (R281). -/
  | engSumk (e : Nat) (t : Nat) (f : MemErr)
  /-- MSKK (R281). -/
  | engMskk (e : Nat) (t : Nat) (f : MemErr)
  /-- JOINK (R281). -/
  | engJoink (e : Nat) (t : Nat) (f : MemErr)
  /-- FLIPK (R281). -/
  | engFlipk (e : Nat) (t : Nat) (f : MemErr)
  /-- LSLK (R281). -/
  | engLslk (e : Nat) (t : Nat) (f : MemErr)
  /-- LSRK (R281). -/
  | engLsrk (e : Nat) (t : Nat) (f : MemErr)
  /-- FIELD (R281). -/
  | engField (e : Nat) (t : Nat) (f : MemErr)
  /-- SETH (R281). -/
  | engSeth (e : Nat) (t : Nat) (f : MemErr)
  /-- PUTH (R281). -/
  | engPuth (e : Nat) (t : Nat) (f : MemErr)
  /-- DLD (R281). -/
  | engDld (e : Nat) (t : Nat) (f : MemErr) (m : MemErr)
  /-- DST (R281). -/
  | engDst (e : Nat) (t : Nat) (f : MemErr)
  /-- PLD (R281). -/
  | engPld (e : Nat) (t : Nat) (f : MemErr)
  /-- PST (R281). -/
  | engPst (e : Nat) (t : Nat) (f : MemErr)
  /-- CLD (R281). -/
  | engCld (e : Nat) (t : Nat) (f : MemErr)
  /-- CST (R284). -/
  | engCst (e : Nat) (t : Nat) (f : MemErr)
  /-- IFEQ (R281). -/
  | engIfeq (e : Nat) (t : Nat) (f : MemErr)
  /-- IFNE (R281). -/
  | engIfne (e : Nat) (t : Nat) (f : MemErr)
  /-- IFLO (R281). -/
  | engIflo (e : Nat) (t : Nat) (f : MemErr)
  /-- IFHS (R281). -/
  | engIfhs (e : Nat) (t : Nat) (f : MemErr)
  /-- IFZ (R281). -/
  | engIfz (e : Nat) (t : Nat) (f : MemErr)
  /-- IFNZ (R281). -/
  | engIfnz (e : Nat) (t : Nat) (f : MemErr)
  /-- CALL (R281). -/
  | engCall (e : Nat) (t : Nat) (f : MemErr)
  /-- GOTO (R281). -/
  | engGoto (e : Nat) (t : Nat) (f : MemErr)
  /-- TLK (R289). -/
  | engTlk (e : Nat) (t : Nat) (f : MemErr)
  /-- CNT (R289). -/
  | engCnt (e : Nat) (t : Nat) (f : MemErr)
  /-- CRC (R289). -/
  | engCrc (e : Nat) (t : Nat) (f : MemErr)
  /-- WAIT (R286). -/
  | engWait (e : Nat) (t : Nat) (f : MemErr)
  /-- MSG (R291). -/
  | engMsg (e : Nat) (t : Nat) (f : MemErr)
  /-- NEWP (R292). -/
  | engNewp (e : Nat) (t : Nat) (f : MemErr)
  /-- TIME (R281). -/
  | engTime (e : Nat) (t : Nat) (f : MemErr)
  /-- SLEEP (R301). -/
  | engSleep (e : Nat) (t : Nat) (f : MemErr)
  /-- CHARGE (R298). -/
  | engCharge (e : Nat) (t : Nat) (f : MemErr)
  /-- HEADADJ (R285). -/
  | engHeadadj (e : Nat) (t : Nat) (f : MemErr)
  /-- SEND (R296). -/
  | engSend (e : Nat) (t : Nat) (f : MemErr)
  /-- DROP (R297). -/
  | engDrop (e : Nat) (t : Nat) (f : MemErr)
  /-- TRAP (R299). -/
  | engTrap (e : Nat) (t : Nat) (f : MemErr)
  /-- FRAG_LOOKUP (R294). -/
  | fragLookup (e : Nat) (t : Nat) (i : Nat) (m : MemErr)
  /-- FRAG_INSERT (R294). -/
  | fragInsert (e : Nat) (t : Nat) (i : Nat) (m : MemErr)
  /-- FRAG_ADD (R294). -/
  | fragAdd (e : Nat) (t : Nat) (i : Nat) (m : MemErr)
  /-- FRAG_DELETE (R294). -/
  | fragDelete (e : Nat) (t : Nat) (i : Nat) (m : MemErr)
  /-- ASYNC_OP_COMPLETE (R286). -/
  | asyncOpComplete (e : Nat) (t : Nat) (i : Nat) (m : MemErr) (err : ReadErr)
  /-- SLEEP_WAKE (R301). -/
  | sleepWake (e : Nat) (t : Nat)
  /-- ENG_MSG_WRITE (R291). -/
  | engMsgWrite (e : Nat)
  /-- FRAG_EXPIRED (R295). -/
  | fragExpired (i : Nat)
  /-- ENG_FRAG_FLUSH (R295). -/
  | engFragFlush
  /-- ENG_MEM_ACCESS (R282). -/
  | engMemAccess (e : Nat) (data : Option Word) (m : MemErr)
  /-- INSERT (R197). -/
  | tabInsert (r : Nat) (i : Nat)
  /-- DELETE (R197). -/
  | tabDelete (r : Nat) (i : Nat)
  /-- SEARCH (R198). -/
  | tabSearch (r : Nat) (i : Nat) (err : ReadErr)
  /-- NEXT (R199). -/
  | tabNext (r : Nat) (i : Nat) (err : ReadErr)
  /-- FLUSH_PORT (R197). -/
  | tabFlushPort (r : Nat) (i : Nat)
  /-- AGE_SCAN (R194). -/
  | tabAgeScan (r : Nat) (i : Nat)
  /-- FENCE (R203). -/
  | tabFence (r : Nat) (i : Nat)
  /-- FLOW (R197). -/
  | tabFlow (r : Nat) (i : Nat) (err : ReadErr)
  /-- FENCE_DONE (R203). -/
  | fenceDone (r : Nat) (i : Nat)
  /-- FENCE_TIMEOUT (R204). -/
  | fenceTimeout (r : Nat) (i : Nat)
  /-- AGING_TEST (R194). -/
  | agingTest (r : Nat) (i : Nat) (err : ReadErr)
  /-- HIT_BIT_SET (R193). -/
  | hitBitSet
  /-- CORRECTION_WRITE_BACK (R206). -/
  | correctionWriteBack
  /-- LEARN_CANDIDATE (R190). -/
  | learnCandidate
  /-- FAWN_EXPIRED (R190). -/
  | fawnExpired (i : Nat)
  /-- NOTIFICATION_WRITE (R192). -/
  | notificationWrite
  /-- CHAMOIS_UPDATE (R223). -/
  | chamoisUpdate (g : Nat)
  /-- COMPARE_INDEX (R232). -/
  | compareIndex (entries : List (Nat × Option Word)) (data : Option (List Word))
  /-- CMP_RESTART (R235). -/
  | cmpRestart
  /-- STR_LOAD_START (R81). -/
  | strLoadStart (v : Word)
  /-- STR_LOAD_ABORT (R86). -/
  | strLoadAbort
  /-- STR_LOAD_DATA (R82). -/
  | strLoadData (v : Word)
  /-- STR_FLASH_READ (R78). -/
  | strFlashRead (data : Option (List Byte))
  /-- LOAD_DONE (R86). -/
  | loadDone
  /-- STR_FLIP (R87). -/
  | strFlip
  /-- FLIP_DONE (R88). -/
  | flipDone
  /-- DRAIN_DONE (R86). -/
  | drainDone
  /-- DRAIN_SLOW (R86). -/
  | drainSlow
  /-- STR_FORCE (R94). -/
  | strForce
  /-- FUSE_PROGRAM (R77). -/
  | fuseProgram (v : Word)
  /-- FUSE_REVOKE (R77). -/
  | fuseRevoke (v : Word)
  /-- FUSE_OP_DONE (R99). -/
  | fuseOpDone (ok : Bool)
  /-- PORT_ADMIN_UP (R111). -/
  | portAdminUp (n : Nat)
  /-- PORT_ADMIN_DOWN (R130). -/
  | portAdminDown (n : Nat)
  /-- PORT_RESTART (R111). -/
  | portRestart (n : Nat)
  /-- BASE_PAGE_EXCHANGE (R116). -/
  | basePageExchange (n : Nat) (lp : Word)
  /-- TRAIN_DONE (R111). -/
  | trainDone (n : Nat)
  /-- TRAIN_FAIL (R111). -/
  | trainFail (n : Nat)
  /-- LINK_UP (R111). -/
  | linkUp (n : Nat)
  /-- ALIGN_TIMEOUT (R111). -/
  | alignTimeout (n : Nat)
  /-- LINK_DOWN (R128). -/
  | linkDown (n : Nat)
  /-- REMOTE_FAULT (R112). -/
  | remoteFault (n : Nat) (rf : Bool)
  /-- HOLD_EXPIRED (R129). -/
  | holdExpired (n : Nat)
  /-- MM_VERIFY_SEND (R124). -/
  | mmVerifySend (n : Nat)
  /-- MM_VERIFY_RESPONSE (R123). -/
  | mmVerifyResponse (n : Nat)
  /-- RCLK_SQUELCH (R127). -/
  | rclkSquelch (k : Nat)
  /-- RCLK_SELECT (R127). -/
  | rclkSelect (k : Nat) (v : Word)
  /-- PUNT_RATE_WRITE (R163). -/
  | puntRateWrite (v : Word)
  /-- PRS_MAL_LAST_READ (R163). -/
  | prsMalLastRead
  /-- COST_CAL_DISABLE (R265). -/
  | costCalDisable (s : Nat)
  /-- SPILL_CTRL_WRITE (R322). -/
  | spillCtrlWrite (v : Word)
  /-- MSESS_A_WRITE (R337). -/
  | msessAWrite (n : Nat) (v : Word)
  /-- SCH_FLUSH (R361). -/
  | schFlush (v : Word)
  /-- FLUSH_DONE (R361). -/
  | flushDone
  /-- SHAPER_WRITE (R351). -/
  | shaperWrite (kind : Nat) (n : Nat) (v : Word)
  /-- POLICER_WRITE (R351). -/
  | policerWrite (p : Nat) (v : Word)
  /-- TIM_TIME_READ (R372). -/
  | timTimeRead
  /-- TIM_STEP (R376). -/
  | timStep (v : Word)
  /-- HART_SAMPLE (R378). -/
  | hartSample (v : Word)
  /-- HART_CLEAR (R378). -/
  | hartClear
  /-- REF_SELECT (R374). -/
  | refSelect (sel : Bool)
  /-- PLL_RELOCK (R374). -/
  | pllRelock
  /-- REF_LOST (R374). -/
  | refLost
  /-- PPS_EDGE (R379). -/
  | ppsEdge (rising : Bool) (dev : BitVec 40)
  /-- PPS_EXPECT_WRITE (R379). -/
  | ppsExpectWrite (v : Word)
  /-- TRIGGER_ARM (R387). -/
  | triggerArm (k : Nat) (v : Word)
  /-- TRIGGER_DISARM (R408). -/
  | triggerDisarm (k : Nat)
  /-- TRIGGER_FIRE (R388). -/
  | triggerFire (k : Nat)
  /-- PPS_OUT_ENABLE (R391). -/
  | ppsOutEnable (v : Word)
  /-- CAPTURE_EDGE (R394). -/
  | captureEdge (k : Nat) (rising : Bool) (dev : BitVec 40)
  /-- TIM_CAP_LAST_READ (R394). -/
  | timCapLastRead (k : Nat)
  /-- CFG_CHANGE (R397). -/
  | cfgChange (n : Nat) (v : Word)
  /-- GATE_CANCEL (R397). -/
  | gateCancel (n : Nat)
  /-- GATE_CHANGE (R399). -/
  | gateChange (n : Nat)
  /-- GATE_CYCLE_START (R400). -/
  | gateCycleStart (n : Nat)
  /-- GATE_ENTRY (R403). -/
  | gateEntry (n : Nat)
  /-- GATE_OVERSIZE (R405). -/
  | gateOversize (q : Nat)
  /-- GATE_DISABLE (R401). -/
  | gateDisable (n : Nat) (v : Word)
  /-- PACE_MEASURE (R417). -/
  | paceMeasure (g : Nat) (pace : Nat)
  /-- TRIM_STEP (R416). -/
  | trimStep (g : Nat)
  /-- SENSOR_READ (R423). -/
  | sensorRead (temps : List (BitVec 12))
  /-- FEED_FRAME (R424). -/
  | feedFrame (vc : BitVec 16) (ic : BitVec 16)
  /-- ALARM_EDGE (R429). -/
  | alarmEdge (k : Nat) (rising : Bool)
  /-- FLOOR_WRITE (R431). -/
  | floorWrite (v : Word)
  /-- LADDER_DISABLE (R436). -/
  | ladderDisable (v : Word)
  /-- RUNG_WRITE (R443). -/
  | rungWrite (k : Nat) (v : Word)
  /-- RAIL_STEP (R422). -/
  | railStep (k : Nat) (ok : Bool)
  /-- RAIL_TELEMETRY (R437). -/
  | railTelemetry (k : Nat) (read : RailRead)
  /-- RAIL_WRITE (R438). -/
  | railWrite (k : Nat) (v : Word) (ok : Bool)
  /-- DRAM_REQUEST (R452). -/
  | dramRequest (cls : Nat) (addr : Nat) (data : Option (List Byte))
  /-- DRAM_COMMAND (R455). -/
  | dramCommand (chan : Nat) (sub : Nat) (err : ReadErr)
  /-- ROW_CLOSE (R459). -/
  | rowClose (chan : Nat) (bank : Nat)
  /-- REFRESH_INTERVAL (R461). -/
  | refreshInterval (chan : Nat)
  /-- MR4_READ (R460). -/
  | mr4Read (chan : Nat) (rr : BitVec 5) (hot : Bool)
  /-- SP_REQUEST (R464). -/
  | spRequest (v : Word)
  /-- SP_PHASE_DONE (R465). -/
  | spPhaseDone (chan : Nat)
  /-- TRAIN_STEP_DONE (R463). -/
  | trainStepDone (chan : Nat) (ok : Bool)
  /-- DQS_OSC_READ (R466). -/
  | dqsOscRead (chan : Nat) (drifts : List Nat)
  /-- DMC_TRAIN_GO (R467). -/
  | dmcTrainGo (v : Word)
  /-- SP_RATE_WRITE (R462). -/
  | spRateWrite (k : Nat) (v : Word)
  /-- RESERVE_WRITE (R469). -/
  | reserveWrite (v : Word)
  /-- DOORBELL (R488). -/
  | doorbell (g : Nat)
  /-- DOORBELL_SCAN (R488). -/
  | doorbellScan (g : Nat)
  /-- ENTRY_FETCH (R489). -/
  | entryFetch (r : Nat) (words : Option (List Word))
  /-- PAD (R482). -/
  | subPad (r : Nat) (i : Nat)
  /-- NOP (R492). -/
  | subNop (r : Nat) (i : Nat)
  /-- COPY (R494). -/
  | subCopy (r : Nat) (i : Nat)
  /-- WRITE_INLINE (R494). -/
  | subWriteInline (r : Nat) (i : Nat)
  /-- TX (R507). -/
  | subTx (r : Nat) (i : Nat) (data : Option (List Byte))
  /-- RX_BUF (R505). -/
  | subRxBuf (r : Nat) (i : Nat)
  /-- XLT_INV (R512). -/
  | subXltInv (r : Nat) (i : Nat)
  /-- XLT_INV_DONE (R512). -/
  | xltInvDone (r : Nat) (i : Nat)
  /-- DMA_CHUNK (R495). -/
  | dmaChunk (r : Nat) (i : Nat) (data : Option (List Byte))
  /-- COMPLETION_WRITE (R499). -/
  | completionWrite (r : Nat)
  /-- RING_PI_WRITE (R490). -/
  | ringPiWrite (r : Nat) (v : Word)
  /-- RING_CI_WRITE (R498). -/
  | ringCiWrite (c : Nat) (v : Word)
  /-- RING_ARM (R502). -/
  | ringArm (c : Nat)
  /-- RING_ENABLE (R486). -/
  | ringEnable (r : Nat)
  /-- RING_RESET (R484). -/
  | ringReset (r : Nat)
  /-- RING_RESUME (R515). -/
  | ringResume (r : Nat)
  /-- RING_SKIP (R515). -/
  | ringSkip (r : Nat)
  /-- RING_STOPPED (R484). -/
  | ringStopped (r : Nat)
  /-- XLT_WALK (R513). -/
  | xltWalk (r : Nat) (kind : Nat) (i : Nat) (iova : Nat) (write : Bool) (entries : List (Nat × Option Word))
  /-- FAULT_RECORD_WRITE (R517). -/
  | faultRecordWrite (f : Nat)
  /-- PCIE_LINK_CHANGE (R472). -/
  | pcieLinkChange (speed : Nat) (width : Nat)
  /-- VF_FLR (R520). -/
  | vfFlr (f : Nat)
  /-- BAD_ACCESS (R478). -/
  | badAccess (f : Nat) (addr : Nat) (size : Nat) (write : Bool)
  /-- EVENT_WRITE (R521). -/
  | eventWrite (src : Nat) (mask : Bool) (v : Word)
  /-- BLOCK_RESTART_DONE (R531). -/
  | blockRestartDone (n : Nat)
  /-- WARM_RESTART_DONE (R535). -/
  | warmRestartDone (bad : Option Nat)
  /-- PROTOCOL_VIOLATION (R526). -/
  | protocolViolation (g : Nat)
  /-- REGION_STALL (R526). -/
  | regionStall (g : Nat)
  /-- FAULT_ACK (R529). -/
  | faultAck (k : Nat) (v : Word)
  /-- FLT_INJECT (R526). -/
  | fltInject (v : Word)
  /-- TILE_REPAIR (R543). -/
  | tileRepair (v : Word)
  /-- SCRUB_WORD (R542). -/
  | scrubWord (err : ScrubErr)
  /-- ENG_TRAP_LAST_READ (R299). -/
  | engTrapLastRead (e : Nat)
  /-- PMC_OVERFLOW (R552). -/
  | pmcOverflow (c : Nat)
  /-- PMC_SNAP (R554). -/
  | pmcSnap (g : Nat)
  /-- PMC_CLEAR (R556). -/
  | pmcClear (g : Nat)
  /-- PMC_CNT_WRITE (R553). -/
  | pmcCntWrite (c : Nat) (v : Word) (ovf : Bool)
  /-- PMC_UNFREEZE (R552). -/
  | pmcUnfreeze (g : Nat)
  /-- COLD_START (R557). -/
  | coldStart (straps : BitVec 4)
  /-- COLD_REQ (R558). -/
  | coldReq (v : Word) (sideband : Bool)
  /-- PERST (R557). -/
  | perst (level : Bool)
  /-- FUSE_STAGE_DONE (R560). -/
  | fuseStageDone (bad : Option Nat)
  /-- SELFTEST_DONE (R560). -/
  | selftestDone (bad : Option Nat)
  /-- RIMS_DONE (R560). -/
  | rimsDone (bad : Option Nat)
  /-- RETAIN_DONE (R541). -/
  | retainDone (bad : Option Nat) (fixed : Nat)
  /-- RELEASE_DONE (R560). -/
  | releaseDone (bad : Option Nat) (rails : List Nat)
  /-- SYS_LOAD_DATA (R567). -/
  | sysLoadData (v : Word) (f : Nat) (size : Nat)
  /-- SB_WRITE (R572). -/
  | sbWrite (off : Nat) (data : List Byte)
  /-- SB_READ (R571). -/
  | sbRead (off : Nat) (n : Nat)
  /-- REGISTER_WRITE (R16). -/
  | registerWrite (addr : Nat) (v : Word) (narrow : Bool)
  /-- FRAG (R289). -/
  | engFrag (e : Nat) (t : Nat) (f : MemErr)
  /-- TRIGGER_PULSE_END (R388). -/
  | triggerPulseEnd (k : Nat)
  /-- SOURCE_LANE_LOCK (R127). -/
  | sourceLaneLock (k : Nat)
  /-- PPS_SLOT_END (R379). -/
  | ppsSlotEnd
  /-- CAP_RECORD_WRITE (R394). -/
  | capRecordWrite
  /-- FORECAST_TICK (R427). -/
  | forecastTick
  /-- FAST_ALERT (R431). -/
  | fastAlert
  /-- FAST_ALERT_REARM (R430). -/
  | fastAlertRearm
  /-- LADDER_STEP (R431). -/
  | ladderStep
  /-- LADDER_RELAX (R431). -/
  | ladderRelax
  /-- RECALIBRATION (R441). -/
  | recalibration
  /-- DMC_ECC_LAST_READ (R454). -/
  | dmcEccLastRead
  /-- HOST_RESET (R520). -/
  | hostReset
  /-- HIF_ACCESS_LOG_READ (R478). -/
  | hifAccessLogRead
  /-- FAULT (R527). -/
  | fault
  /-- ELAND_RESTART_DONE (R537). -/
  | elandRestartDone
  /-- ELAND_WATCHDOG (R526). -/
  | elandWatchdog
  /-- TBL_ECC_LAST_READ (R207). -/
  | tblEccLastRead
  /-- AAR_CMP_LAST_READ (R233). -/
  | aarCmpLastRead
  /-- COLD_RESET (R557). -/
  | coldReset
  /-- STREAM_STAGE_DONE (R79). -/
  | streamStageDone
  /-- SB_TIMEOUT (R572). -/
  | sbTimeout
  /-- SB_STATUS_READ (R572). -/
  | sbStatusRead
  deriving DecidableEq, Repr

end Sys2Proof
end

