-- ==== Sys2Proof/Decode.lean ====
section
/-! DEFINITION. The command table gives its rows no bits: commands are steps of a block, not encoded words. No word spells a command. -/

namespace Sys2Proof

/-- The command that a word of `nbits` bits spells by the table: none, for no row has bits. -/
def decodeTableWord (_nbits _w : Nat) : Option Instr := none

end Sys2Proof
end

