-- ==== Sys2Proof/Config.lean ====
section
/-! DEFINITION. What the manual leaves open or what one die fixes: constants without a value. Nothing in Lean can evaluate them,
so a statement about them holds for every value. Free values of the device's own choices are `free` applied to the counter
`Dev.freeCtr` (log entry 6). -/

namespace Sys2Proof.Config

/-- A value the manual leaves to the device (log entry 6). -/
opaque free : Nat → Nat

/-- A result that the manual does not state, as a function of the operands (log entry 6). -/
opaque freeOf : Nat → List Nat → Nat

/-- The serial of the die's fuses, SYS_SERIAL0 and SYS_SERIAL1 below its check (R568; log entry 5). -/
opaque serialLo : Word
opaque serialHi : BitVec 32

/-- The pace of region g at V_LR, fixed at test (R419; log entry 5). -/
opaque lrPace : Nat → BitVec 16

/-- The thermal sensor that reads region g (R423; log entry 5). -/
opaque sensorOf : Nat → Nat

/-- The digest of the public key of the Vrelnan slot, key slot 4 (R74, R76; log entry 5). -/
opaque keyDigest : Nat → List Byte

end Sys2Proof.Config
end

