-- ==== Sys2Proof/Machine/RegAddr.lean ====
section
/-! DEFINITION. BAR0 offsets of the registers (R62 and the register tables of the chapters): one function per register,
its arguments the instance numbers. Written from the register tables of spec/. -/

namespace Sys2Proof.Machine.Reg

def SYS_ID : Nat := 0x0
def SYS_SERIAL0 : Nat := 0x8
def SYS_SERIAL1 : Nat := 0x10
def SYS_STAGE : Nat := 0x18
def SYS_REASON : Nat := 0x20
def SYS_ELAPSED : Nat := 0x28
def SYS_STRAP : Nat := 0x30
def SYS_LOAD_DATA : Nat := 0x38
def SYS_LOAD_STATUS : Nat := 0x40
def SYS_CTRL : Nat := 0x48
def SYS_SB_SCRATCH : Nat := 0x50
def SYS_SB_STATUS : Nat := 0x58
def SYS_MSIX_PBA (n : Nat) : Nat := 0x7F0 + 0x8 * n
def SYS_MSIX_ADDR (n : Nat) : Nat := 0x800 + 0x10 * n
def SYS_MSIX_CTRL (n : Nat) : Nat := 0x808 + 0x10 * n
def STR_LOAD_CTRL : Nat := 0x1000
def STR_LOAD_FLASH_OFS : Nat := 0x1008
def STR_LOAD_DATA : Nat := 0x1010
def STR_LOAD_STATUS : Nat := 0x1018
def STR_LOAD_DETAIL : Nat := 0x1020
def STR_GEN : Nat := 0x1028
def STR_FLIP : Nat := 0x1030
def STR_FLIP_STATUS : Nat := 0x1038
def STR_DRAIN_LIMIT : Nat := 0x1040
def STR_DRAIN_COUNT : Nat := 0x1048
def STR_FORCE : Nat := 0x1050
def STR_FORCE_DISCARDS : Nat := 0x1058
def STR_EVENT : Nat := 0x1060
def STR_EVENT_MASK : Nat := 0x1068
def STR_BASE_ID : Nat := 0x1070
def STR_ID_ACTIVE : Nat := 0x1078
def STR_ID_IDLE : Nat := 0x1080
def STR_KEY_STATE : Nat := 0x1088
def STR_FUSE_CMD : Nat := 0x1090
def STR_FUSE_DATA (n : Nat) : Nat := 0x1098 + 0x8 * n
def FLT_STATUS (n : Nat) : Nat := 0x10000 + 0x8 * n
def FLT_ECHO (n : Nat) : Nat := 0x10018 + 0x8 * n
def FLT_EVENT : Nat := 0x10030
def FLT_EVENT_MASK : Nat := 0x10038
def FLT_RESTART : Nat := 0x10040
def FLT_INJECT : Nat := 0x10048
def FLT_LOG_PTR : Nat := 0x10050
def FLT_SCRUB : Nat := 0x10058
def FLT_TREPAIR : Nat := 0x10060
def FLT_COUNT (n : Nat) : Nat := 0x10100 + 0x8 * n
def FLT_LINE (n : Nat) : Nat := 0x10800 + 0x8 * n
def FLT_LOG (n : Nat) : Nat := 0x11000 + 0x8 * n
def PMC_EVENT : Nat := 0x20000
def PMC_EVENT_MASK : Nat := 0x20008
def PMC_GCTRL (n : Nat) : Nat := 0x20100 + 0x8 * n
def PMC_GSTAT (n : Nat) : Nat := 0x20200 + 0x8 * n
def PMC_SNAP_TIME (n : Nat) : Nat := 0x20300 + 0x8 * n
def PMC_SEL (n : Nat) : Nat := 0x21000 + 0x8 * n
def PMC_CNT (n : Nat) : Nat := 0x22000 + 0x8 * n
def PMC_RELOAD (n : Nat) : Nat := 0x23000 + 0x8 * n
def PMC_SNAPV (n : Nat) : Nat := 0x24000 + 0x8 * n
def PWR_CTRL : Nat := 0x40000
def PWR_LADDER : Nat := 0x40008
def PWR_FEED_CFG : Nat := 0x40010
def PWR_FEED_SCALE : Nat := 0x40018
def PWR_FEED_LIMIT : Nat := 0x40020
def PWR_FEED : Nat := 0x40028
def PWR_FC_LIMIT : Nat := 0x40030
def PWR_FC_CFG : Nat := 0x40038
def PWR_FC : Nat := 0x40040
def PWR_CAL : Nat := 0x40048
def PWR_THERM_LIMIT : Nat := 0x40050
def PWR_ALARM : Nat := 0x40058
def PWR_SHED : Nat := 0x40060
def PWR_EVENT : Nat := 0x40068
def PWR_EVENT_MASK : Nat := 0x40070
def PWR_PMBUS : Nat := 0x40078
def PWR_RUNG (n : Nat) : Nat := 0x40400 + 0x8 * n
def PWR_RAIL (n : Nat) : Nat := 0x40500 + 0x8 * n
def PWR_RAIL_STAT (n : Nat) : Nat := 0x40540 + 0x8 * n
def PWR_PORTSET (n : Nat) : Nat := 0x40600 + 0x8 * n
def PWR_ACC (n : Nat) : Nat := 0x40700 + 0x8 * n
def PWR_ALARM_OVR (n : Nat) : Nat := 0x40780 + 0x8 * n
def PWR_COUNT (n : Nat) : Nat := 0x40800 + 0x8 * n
def PWR_REGION (n : Nat) : Nat := 0x41000 + 0x8 * n
def PWR_ADJ (n : Nat) : Nat := 0x42000 + 0x8 * n
def PWR_THERM (n : Nat) : Nat := 0x43000 + 0x8 * n
def TIM_TIME : Nat := 0x80000
def TIM_FREE : Nat := 0x80008
def TIM_FREE_LATCH : Nat := 0x80010
def TIM_RATE : Nat := 0x80018
def TIM_STEP : Nat := 0x80020
def TIM_CTRL : Nat := 0x80028
def TIM_HART_CTRL : Nat := 0x80030
def TIM_HART_GAIN : Nat := 0x80038
def TIM_HART_STEP : Nat := 0x80040
def TIM_HART_SAMPLE : Nat := 0x80048
def TIM_HART_STATE : Nat := 0x80050
def TIM_PPS_IN : Nat := 0x80058
def TIM_PPS_OUT : Nat := 0x80060
def TIM_TS_RING : Nat := 0x80068
def TIM_CAP_RING : Nat := 0x80070
def TIM_CAP_LEVEL : Nat := 0x80078
def TIM_EVENT : Nat := 0x80080
def TIM_EVENT_MASK : Nat := 0x80088
def TIM_TRIG_EVENT : Nat := 0x80090
def TIM_TRIG_EVENT_MASK : Nat := 0x80098
def TIM_CAP_EVENT : Nat := 0x800A0
def TIM_CAP_EVENT_MASK : Nat := 0x800A8
def TIM_TRIG_TARGET (n : Nat) : Nat := 0x80100 + 0x8 * n
def TIM_TRIG_CTRL (n : Nat) : Nat := 0x80180 + 0x8 * n
def TIM_CAP_CTRL (n : Nat) : Nat := 0x80200 + 0x8 * n
def TIM_CAP_LAST (n : Nat) : Nat := 0x80280 + 0x8 * n
def TIM_CAP_OVR (n : Nat) : Nat := 0x80300 + 0x8 * n
def TIM_PORT_LAT (n : Nat) : Nat := 0x81000 + 0x8 * n
def TIM_PORT_CORR (n : Nat) : Nat := 0x81800 + 0x8 * n
def TIM_COUNT (n : Nat) : Nat := 0x82000 + 0x8 * n
def GAT_CTRL (n : Nat) : Nat := 0xC0000 + 0x40 * n
def GAT_ADMIN_BASE (n : Nat) : Nat := 0xC0008 + 0x40 * n
def GAT_ADMIN_CYCLE (n : Nat) : Nat := 0xC0010 + 0x40 * n
def GAT_OPER_BASE (n : Nat) : Nat := 0xC0018 + 0x40 * n
def GAT_OPER_CYCLE (n : Nat) : Nat := 0xC0020 + 0x40 * n
def GAT_STATUS (n : Nat) : Nat := 0xC0028 + 0x40 * n
def GAT_EVENT (n : Nat) : Nat := 0xC0030 + 0x40 * n
def GAT_EVENT_MASK (n : Nat) : Nat := 0xC0038 + 0x40 * n
def GAT_SEL : Nat := 0xC2000
def GAT_DATA : Nat := 0xC2008
def GAT_OVERSIZE (n : Nat) : Nat := 0xC4000 + 0x8 * n
def GAT_OVERRUN (n : Nat) : Nat := 0xC4400 + 0x8 * n
def GAT_CHANGES (n : Nat) : Nat := 0xC4800 + 0x8 * n
def PRT_MODE (n : Nat) : Nat := 0x100000 + 0x1000 * n
def PRT_CTRL (n : Nat) : Nat := 0x100008 + 0x1000 * n
def PRT_STATUS (n : Nat) : Nat := 0x100010 + 0x1000 * n
def PRT_AN_ADV (n : Nat) : Nat := 0x100018 + 0x1000 * n
def PRT_AN_LP (n : Nat) : Nat := 0x100020 + 0x1000 * n
def PRT_LINK_TIMER (n : Nat) : Nat := 0x100028 + 0x1000 * n
def PRT_HOLD (n : Nat) : Nat := 0x100030 + 0x1000 * n
def PRT_STALE (n : Nat) : Nat := 0x100038 + 0x1000 * n
def PRT_MM_CTRL (n : Nat) : Nat := 0x100040 + 0x1000 * n
def PRT_MM_STATUS (n : Nat) : Nat := 0x100048 + 0x1000 * n
def PRT_EVENT (n : Nat) : Nat := 0x100050 + 0x1000 * n
def PRT_EVENT_MASK (n : Nat) : Nat := 0x100058 + 0x1000 * n
def PRT_COUNT (o n : Nat) : Nat := 0x100800 + 0x1000 * o + 0x8 * n
def PRT_RCLK (n : Nat) : Nat := 0x184000 + 0x8 * n
def PRT_RCLK_EVENT : Nat := 0x184020
def PRT_RCLK_EVENT_MASK : Nat := 0x184028
def PRT_LANE_STATUS (n : Nat) : Nat := 0x184100 + 0x8 * n
def PRS_PUNT_RATE : Nat := 0x200000
def PRS_PUNT_LEVEL : Nat := 0x200008
def PRS_EVENT : Nat := 0x200010
def PRS_EVENT_MASK : Nat := 0x200018
def PRS_MAL_LAST : Nat := 0x200020
def PRS_MAL_COUNT (n : Nat) : Nat := 0x201000 + 0x8 * n
def PRS_COUNT (n : Nat) : Nat := 0x201800 + 0x8 * n
def TBL_NOTIFY_RING : Nat := 0x280000
def TBL_FAWN_TIMEOUT : Nat := 0x280008
def TBL_FAWN_STATUS : Nat := 0x280010
def TBL_EVENT : Nat := 0x280018
def TBL_EVENT_MASK : Nat := 0x280020
def TBL_ECC_LAST : Nat := 0x280028
def TBL_TABLE (n : Nat) : Nat := 0x281000 + 0x8 * n
def TBL_COUNT (n : Nat) : Nat := 0x281800 + 0x8 * n
def AAR_CMP_CTRL : Nat := 0x300000
def AAR_CMP_STATUS : Nat := 0x300008
def AAR_CMP_LAST : Nat := 0x300010
def AAR_EVENT : Nat := 0x300018
def AAR_EVENT_MASK : Nat := 0x300020
def AAR_SHADOW (n : Nat) : Nat := 0x301000 + 0x8 * n
def AAR_TABLE (n : Nat) : Nat := 0x301800 + 0x8 * n
def AAR_COUNT (n : Nat) : Nat := 0x302000 + 0x8 * n
def ACT_EVENT : Nat := 0x380000
def ACT_EVENT_MASK : Nat := 0x380008
def ACT_PORT_SUB (n : Nat) : Nat := 0x380800 + 0x8 * n
def ACT_COST (n : Nat) : Nat := 0x381000 + 0x8 * n
def ACT_COST_REF (n : Nat) : Nat := 0x381100 + 0x8 * n
def ACT_CLASS_PJ (n : Nat) : Nat := 0x381200 + 0x8 * n
def ACT_CLASS_CNT (n : Nat) : Nat := 0x381300 + 0x8 * n
def ACT_CLASS_BYTES (n : Nat) : Nat := 0x381400 + 0x8 * n
def ACT_COUNT (n : Nat) : Nat := 0x381500 + 0x8 * n
def ACT_GROUP (n : Nat) : Nat := 0x388000 + 0x8 * n
def ACT_MEMBER (n : Nat) : Nat := 0x390000 + 0x8 * n
def ENG_CTRL (n : Nat) : Nat := 0x400000 + 0x4000 * n
def ENG_STATUS (n : Nat) : Nat := 0x400008 + 0x4000 * n
def ENG_TRAP_LAST (n : Nat) : Nat := 0x400010 + 0x4000 * n
def ENG_EVENT (n : Nat) : Nat := 0x400018 + 0x4000 * n
def ENG_EVENT_MASK (n : Nat) : Nat := 0x400020 + 0x4000 * n
def ENG_MEM_ADDR (n : Nat) : Nat := 0x400028 + 0x4000 * n
def ENG_MEM_DATA (n : Nat) : Nat := 0x400030 + 0x4000 * n
def ENG_THREAD (o n : Nat) : Nat := 0x400040 + 0x4000 * o + 0x8 * n
def ENG_COUNT (o n : Nat) : Nat := 0x400100 + 0x4000 * o + 0x8 * n
def ENG_FRAG_TIMEOUT : Nat := 0x402000
def ENG_FRAG_STATUS : Nat := 0x402008
def ENG_FRAG_FLUSH : Nat := 0x402010
def ENG_MSG_RING : Nat := 0x402018
def ENG_LIMIT : Nat := 0x402020
def ENG_GEVENT : Nat := 0x402028
def ENG_GEVENT_MASK : Nat := 0x402030
def ENG_GCOUNT (n : Nat) : Nat := 0x402100 + 0x8 * n
def BUF_SHARED_LIMIT : Nat := 0x800000
def BUF_MC_LIMIT : Nat := 0x800008
def BUF_STATUS : Nat := 0x800010
def BUF_SPILL_CTRL : Nat := 0x800018
def BUF_SPILL_STATUS : Nat := 0x800020
def BUF_RESIDUE_LIMIT : Nat := 0x800028
def BUF_RESIDUE_STATUS : Nat := 0x800030
def BUF_CAP_CTRL : Nat := 0x800038
def BUF_CAP_STATUS : Nat := 0x800040
def BUF_EVENT : Nat := 0x800048
def BUF_EVENT_MASK : Nat := 0x800050
def BUF_PROFILE (n : Nat) : Nat := 0x800400 + 0x8 * n
def BUF_MSESS_A (n : Nat) : Nat := 0x800800 + 0x8 * n
def BUF_MSESS_B (n : Nat) : Nat := 0x800C00 + 0x8 * n
def BUF_COUNT (n : Nat) : Nat := 0x801000 + 0x8 * n
def BUF_MCGROUP (n : Nat) : Nat := 0x808000 + 0x8 * n
def BUF_MCLIST (n : Nat) : Nat := 0x840000 + 0x8 * n
def BUF_QOCC (n : Nat) : Nat := 0x8C0000 + 0x8 * n
def SCH_EVENT : Nat := 0xA00000
def SCH_EVENT_MASK : Nat := 0xA00008
def SCH_FLUSH : Nat := 0xA00010
def SCH_LEVEL_SEL : Nat := 0xA00018
def SCH_ESCALE : Nat := 0xA00028
def SCH_LEVEL_DATA : Nat := 0xA00020
def SCH_COUNT (n : Nat) : Nat := 0xA00100 + 0x8 * n
def SCH_PORT (n : Nat) : Nat := 0xA01000 + 0x8 * n
def SCH_GROUP (n : Nat) : Nat := 0xA02000 + 0x8 * n
def SCH_SUB (n : Nat) : Nat := 0xA10000 + 0x8 * n
def SCH_QCFG (n : Nat) : Nat := 0xA40000 + 0x8 * n
def SCH_POL (n : Nat) : Nat := 0xB80000 + 0x8 * n
def SCH_POL_DROP (n : Nat) : Nat := 0xC00000 + 0x8 * n
def DMC_CTRL : Nat := 0x1000000
def DMC_RANGE (n : Nat) : Nat := 0x1000040 + 0x8 * n
def DMC_RESERVE : Nat := 0x1000060
def DMC_REFRESH : Nat := 0x1000068
def DMC_SP (n : Nat) : Nat := 0x1000080 + 0x8 * n
def DMC_SP_CTRL : Nat := 0x10000A0
def DMC_TRAIN : Nat := 0x10000A8
def DMC_RETRAIN : Nat := 0x10000B0
def DMC_ECC_LAST : Nat := 0x10000B8
def DMC_EVENT : Nat := 0x10000C0
def DMC_EVENT_MASK : Nat := 0x10000C8
def DMC_CHAN_CFG (n : Nat) : Nat := 0x1000100 + 0x8 * n
def DMC_CHAN_STATUS (n : Nat) : Nat := 0x1000120 + 0x8 * n
def DMC_COUNT (o n : Nat) : Nat := 0x1001000 + 0x100 * o + 0x8 * n
def HIF_LINK : Nat := 0x2000000
def HIF_EVENT : Nat := 0x2000008
def HIF_EVENT_MASK : Nat := 0x2000010
def HIF_ACCESS_LOG : Nat := 0x2000018
def HIF_HOST_STATUS : Nat := 0x2000020
def HIF_FUNC (n : Nat) : Nat := 0x2000080 + 0x8 * n
def HIF_COUNT (n : Nat) : Nat := 0x2000100 + 0x8 * n
def HIF_GROUP (n : Nat) : Nat := 0x2001000 + 0x8 * n
def HIF_EVT_MAP (n : Nat) : Nat := 0x2002000 + 0x8 * n
def HIF_ERR_MAP (n : Nat) : Nat := 0x2004000 + 0x8 * n
def HIF_FAULT_MAP (n : Nat) : Nat := 0x2006000 + 0x8 * n
def HIF_RXMAP (n : Nat) : Nat := 0x2020000 + 0x8 * n
def RNG_BASE (n : Nat) : Nat := 0x4000000 + 0x40 * n
def RNG_CFG_S (n : Nat) : Nat := 0x4000008 + 0x40 * n
def RNG_CFG_C (n : Nat) : Nat := 0x4200008 + 0x40 * n
def RNG_PI_S (n : Nat) : Nat := 0x4000010 + 0x40 * n
def RNG_PI_C (n : Nat) : Nat := 0x4200010 + 0x40 * n
def RNG_FETCH (n : Nat) : Nat := 0x4000018 + 0x40 * n
def RNG_CI (n : Nat) : Nat := 0x4200018 + 0x40 * n
def RNG_STATE (n : Nat) : Nat := 0x4000020 + 0x40 * n
def RNG_ERR_INDEX (n : Nat) : Nat := 0x4000028 + 0x40 * n
def RNG_PROG (n : Nat) : Nat := 0x4000030 + 0x40 * n
def RNG_WB (n : Nat) : Nat := 0x4200030 + 0x40 * n
def RNG_CTRL (n : Nat) : Nat := 0x4000038 + 0x40 * n
def XLT_SPACE (n : Nat) : Nat := 0xC000000 + 0x8 * n

end Sys2Proof.Machine.Reg
end

