-- ==== Sys2Proof/Machine/RegFields.lean ====
section
/-! DEFINITION. The fields of the registers: lowest bit and width of each (the register tables of the chapters). -/

namespace Sys2Proof.Machine

/-- A field of a 64-bit word: its lowest bit and its width. -/
structure Fld where
  lo : Nat
  w : Nat
  deriving DecidableEq, Repr

end Sys2Proof.Machine

namespace Sys2Proof.Machine.F

def SYS_ID_PART_CODE : Fld := ⟨0, 16⟩
def SYS_ID_REVISION : Fld := ⟨16, 8⟩
def SYS_ID_GRADE : Fld := ⟨24, 4⟩
def SYS_ID_VENDOR : Fld := ⟨32, 16⟩
def SYS_SERIAL0_SERIAL : Fld := ⟨0, 64⟩
def SYS_SERIAL1_SERIAL_HI : Fld := ⟨0, 32⟩
def SYS_SERIAL1_CHECK : Fld := ⟨32, 8⟩
def SYS_STAGE_STAGE : Fld := ⟨0, 4⟩
def SYS_STAGE_WARM : Fld := ⟨4, 1⟩
def SYS_STAGE_ENTERED_US : Fld := ⟨32, 32⟩
def SYS_REASON_CODE : Fld := ⟨0, 8⟩
def SYS_REASON_DETAIL : Fld := ⟨8, 24⟩
def SYS_REASON_STAGE : Fld := ⟨32, 4⟩
def SYS_ELAPSED_US : Fld := ⟨0, 64⟩
def SYS_STRAP_BOOT_SRC : Fld := ⟨0, 2⟩
def SYS_STRAP_SB_ADDR : Fld := ⟨2, 2⟩
def SYS_LOAD_DATA_DATA : Fld := ⟨0, 64⟩
def SYS_LOAD_STATUS_STATE : Fld := ⟨0, 3⟩
def SYS_LOAD_STATUS_COPY : Fld := ⟨3, 1⟩
def SYS_LOAD_STATUS_ERR : Fld := ⟨8, 8⟩
def SYS_LOAD_STATUS_STRAY : Fld := ⟨16, 1⟩
def SYS_LOAD_STATUS_RESTARTS : Fld := ⟨24, 8⟩
def SYS_LOAD_STATUS_BYTES : Fld := ⟨32, 32⟩
def SYS_CTRL_COLD_REQ : Fld := ⟨0, 1⟩
def SYS_CTRL_SB_COLD_EN : Fld := ⟨1, 1⟩
def SYS_CTRL_KEY : Fld := ⟨16, 16⟩
def SYS_SB_SCRATCH_DATA : Fld := ⟨0, 64⟩
def SYS_SB_STATUS_DENIED : Fld := ⟨0, 16⟩
def SYS_SB_STATUS_NACKS : Fld := ⟨16, 16⟩
def SYS_SB_STATUS_TIMEOUTS : Fld := ⟨32, 16⟩
def SYS_MSIX_PBA_PENDING : Fld := ⟨0, 64⟩
def SYS_MSIX_ADDR_ADDR : Fld := ⟨0, 64⟩
def SYS_MSIX_CTRL_DATA : Fld := ⟨0, 32⟩
def SYS_MSIX_CTRL_MASKED : Fld := ⟨32, 1⟩
def STR_LOAD_CTRL_START : Fld := ⟨0, 1⟩
def STR_LOAD_CTRL_ABORT : Fld := ⟨1, 1⟩
def STR_LOAD_CTRL_SRC : Fld := ⟨2, 2⟩
def STR_LOAD_FLASH_OFS_OFS : Fld := ⟨0, 32⟩
def STR_LOAD_DATA_DATA : Fld := ⟨0, 64⟩
def STR_LOAD_STATUS_STATE : Fld := ⟨0, 3⟩
def STR_LOAD_STATUS_ERR : Fld := ⟨8, 8⟩
def STR_LOAD_STATUS_STRAY : Fld := ⟨16, 1⟩
def STR_LOAD_STATUS_BYTES : Fld := ⟨32, 32⟩
def STR_LOAD_DETAIL_SECTION : Fld := ⟨0, 9⟩
def STR_LOAD_DETAIL_BLOCK_CODE : Fld := ⟨16, 8⟩
def STR_LOAD_DETAIL_OFFSET : Fld := ⟨32, 32⟩
def STR_GEN_ACTIVE : Fld := ⟨0, 1⟩
def STR_GEN_STATE0 : Fld := ⟨1, 3⟩
def STR_GEN_STATE1 : Fld := ⟨4, 3⟩
def STR_FLIP_FLIP : Fld := ⟨0, 1⟩
def STR_FLIP_STATUS_CODE : Fld := ⟨0, 4⟩
def STR_FLIP_STATUS_FLIPS : Fld := ⟨32, 32⟩
def STR_DRAIN_LIMIT_LIMIT : Fld := ⟨0, 20⟩
def STR_DRAIN_COUNT_COUNT : Fld := ⟨0, 32⟩
def STR_DRAIN_COUNT_ELAPSED : Fld := ⟨32, 32⟩
def STR_FORCE_FORCE : Fld := ⟨0, 1⟩
def STR_FORCE_DISCARDS_COUNT : Fld := ⟨0, 32⟩
def STR_EVENT_LOAD_DONE : Fld := ⟨0, 1⟩
def STR_EVENT_LOAD_ERROR : Fld := ⟨1, 1⟩
def STR_EVENT_FLIP_DONE : Fld := ⟨2, 1⟩
def STR_EVENT_FLIP_REFUSED : Fld := ⟨3, 1⟩
def STR_EVENT_DRAIN_SLOW : Fld := ⟨4, 1⟩
def STR_EVENT_DRAIN_DONE : Fld := ⟨5, 1⟩
def STR_EVENT_FORCE_DONE : Fld := ⟨6, 1⟩
def STR_BASE_ID_ID : Fld := ⟨0, 64⟩
def STR_ID_ACTIVE_ID : Fld := ⟨0, 64⟩
def STR_ID_IDLE_ID : Fld := ⟨0, 64⟩
def STR_KEY_STATE_SLOTn : Fld := ⟨0, 10⟩
def STR_KEY_STATE_OPEN : Fld := ⟨10, 1⟩
def STR_KEY_STATE_BOOT_SLOT : Fld := ⟨12, 3⟩
def STR_KEY_STATE_OVL_SLOT : Fld := ⟨16, 3⟩
def STR_FUSE_CMD_SLOT : Fld := ⟨0, 3⟩
def STR_FUSE_CMD_OP : Fld := ⟨4, 2⟩
def STR_FUSE_CMD_GO : Fld := ⟨8, 1⟩
def STR_FUSE_CMD_RESULT : Fld := ⟨12, 4⟩
def STR_FUSE_CMD_UNLOCK : Fld := ⟨16, 16⟩
def STR_FUSE_DATA_DIGEST : Fld := ⟨0, 64⟩
def FLT_STATUS_LINES : Fld := ⟨0, 64⟩
def FLT_ECHO_LINES : Fld := ⟨0, 64⟩
def FLT_EVENT_FAULT_C : Fld := ⟨0, 1⟩
def FLT_EVENT_FAULT_U : Fld := ⟨1, 1⟩
def FLT_EVENT_FAULT_F : Fld := ⟨2, 1⟩
def FLT_EVENT_ECHO : Fld := ⟨3, 1⟩
def FLT_EVENT_RESTART_DONE : Fld := ⟨4, 1⟩
def FLT_EVENT_WARM_DONE : Fld := ⟨5, 1⟩
def FLT_EVENT_SCRUB_DONE : Fld := ⟨6, 1⟩
def FLT_RESTART_STATE : Fld := ⟨0, 2⟩
def FLT_RESTART_BLOCKS : Fld := ⟨2, 6⟩
def FLT_RESTART_LINE : Fld := ⟨8, 8⟩
def FLT_RESTART_LAST_US : Fld := ⟨16, 16⟩
def FLT_RESTART_ECHO_OPEN : Fld := ⟨32, 1⟩
def FLT_INJECT_LINE : Fld := ⟨0, 8⟩
def FLT_INJECT_CLASS : Fld := ⟨8, 2⟩
def FLT_INJECT_KIND : Fld := ⟨10, 1⟩
def FLT_INJECT_GO : Fld := ⟨16, 1⟩
def FLT_LOG_PTR_NEXT : Fld := ⟨0, 6⟩
def FLT_LOG_PTR_WRAPPED : Fld := ⟨6, 1⟩
def FLT_SCRUB_PERIOD : Fld := ⟨0, 16⟩
def FLT_SCRUB_RUNNING : Fld := ⟨16, 1⟩
def FLT_TREPAIR_TILE : Fld := ⟨0, 8⟩
def FLT_TREPAIR_WORD : Fld := ⟨8, 15⟩
def FLT_TREPAIR_GO : Fld := ⟨24, 1⟩
def FLT_TREPAIR_RESULT : Fld := ⟨25, 3⟩
def FLT_COUNT_COUNT : Fld := ⟨0, 48⟩
def FLT_LINE_CLASS : Fld := ⟨0, 2⟩
def FLT_LINE_COUNT_C : Fld := ⟨8, 16⟩
def FLT_LINE_COUNT_U : Fld := ⟨24, 16⟩
def FLT_LINE_COUNT_F : Fld := ⟨40, 8⟩
def FLT_LINE_ECHOES : Fld := ⟨48, 16⟩
def FLT_LOG_LINE : Fld := ⟨0, 8⟩
def FLT_LOG_CLASS : Fld := ⟨8, 2⟩
def FLT_LOG_ORIG : Fld := ⟨10, 2⟩
def FLT_LOG_ESCALATED : Fld := ⟨12, 1⟩
def FLT_LOG_ECHO : Fld := ⟨13, 1⟩
def FLT_LOG_INJECTED : Fld := ⟨14, 1⟩
def FLT_LOG_KIND : Fld := ⟨15, 1⟩
def FLT_LOG_REACTION : Fld := ⟨16, 2⟩
def FLT_LOG_SEQ : Fld := ⟨18, 14⟩
def FLT_LOG_TIME_NS : Fld := ⟨32, 32⟩
def PMC_EVENT_OVERFLOW : Fld := ⟨0, 32⟩
def PMC_EVENT_SNAP_DONE : Fld := ⟨32, 1⟩
def PMC_GCTRL_EN : Fld := ⟨0, 1⟩
def PMC_GCTRL_FREEZE_ON_OVF : Fld := ⟨1, 1⟩
def PMC_GCTRL_SNAP_ON_OVF : Fld := ⟨2, 1⟩
def PMC_GCTRL_SNAP : Fld := ⟨3, 1⟩
def PMC_GCTRL_CLEAR : Fld := ⟨4, 1⟩
def PMC_GSTAT_OVF : Fld := ⟨0, 8⟩
def PMC_GSTAT_OVF_PENDING : Fld := ⟨8, 1⟩
def PMC_GSTAT_FROZEN : Fld := ⟨9, 1⟩
def PMC_SNAP_TIME_TIME : Fld := ⟨0, 64⟩
def PMC_SEL_REGION : Fld := ⟨0, 9⟩
def PMC_SEL_EVENT : Fld := ⟨16, 8⟩
def PMC_CNT_COUNT : Fld := ⟨0, 48⟩
def PMC_RELOAD_VALUE : Fld := ⟨0, 48⟩
def PMC_RELOAD_EN : Fld := ⟨63, 1⟩
def PMC_SNAPV_COUNT : Fld := ⟨0, 48⟩
def PWR_CTRL_EN : Fld := ⟨0, 1⟩
def PWR_CTRL_CAL_EN : Fld := ⟨1, 1⟩
def PWR_CTRL_GUARD_EN : Fld := ⟨2, 1⟩
def PWR_CTRL_FLOOR : Fld := ⟨8, 5⟩
def PWR_CTRL_ALERT_LEVEL : Fld := ⟨16, 5⟩
def PWR_CTRL_ALERT_MAX : Fld := ⟨24, 5⟩
def PWR_CTRL_STEP_US : Fld := ⟨32, 16⟩
def PWR_CTRL_RELAX_MS : Fld := ⟨48, 16⟩
def PWR_LADDER_LEVEL : Fld := ⟨0, 5⟩
def PWR_LADDER_TRIGGERS : Fld := ⟨8, 5⟩
def PWR_LADDER_IN_FORCE : Fld := ⟨16, 16⟩
def PWR_LADDER_LAST_STEP : Fld := ⟨32, 32⟩
def PWR_FEED_CFG_EN : Fld := ⟨0, 1⟩
def PWR_FEED_CFG_PERIOD_US : Fld := ⟨8, 10⟩
def PWR_FEED_CFG_SCLK_DIV : Fld := ⟨20, 4⟩
def PWR_FEED_SCALE_V_LSB_UV : Fld := ⟨0, 20⟩
def PWR_FEED_SCALE_I_LSB_UA : Fld := ⟨32, 20⟩
def PWR_FEED_LIMIT_PLIMIT_MW : Fld := ⟨0, 24⟩
def PWR_FEED_LIMIT_VMIN_MV : Fld := ⟨24, 20⟩
def PWR_FEED_LIMIT_HYST_MW : Fld := ⟨44, 20⟩
def PWR_FEED_V_CODE : Fld := ⟨0, 16⟩
def PWR_FEED_I_CODE : Fld := ⟨16, 16⟩
def PWR_FEED_P_MW : Fld := ⟨32, 24⟩
def PWR_FEED_STALE : Fld := ⟨56, 1⟩
def PWR_FEED_BREACH : Fld := ⟨57, 1⟩
def PWR_FC_LIMIT_LIMIT_MW : Fld := ⟨0, 24⟩
def PWR_FC_LIMIT_HYST_MW : Fld := ⟨24, 24⟩
def PWR_FC_LIMIT_EN : Fld := ⟨48, 1⟩
def PWR_FC_CFG_WINDOW_US : Fld := ⟨0, 11⟩
def PWR_FC_CFG_FIXED_MW : Fld := ⟨12, 20⟩
def PWR_FC_P_MW : Fld := ⟨0, 24⟩
def PWR_FC_DYN_MW : Fld := ⟨24, 24⟩
def PWR_FC_BREACH : Fld := ⟨48, 1⟩
def PWR_CAL_PERIOD_MS : Fld := ⟨0, 10⟩
def PWR_CAL_MIN_UJ : Fld := ⟨16, 16⟩
def PWR_CAL_LEAK_AUTO : Fld := ⟨32, 1⟩
def PWR_THERM_LIMIT_WARN : Fld := ⟨0, 12⟩
def PWR_THERM_LIMIT_CRIT : Fld := ⟨16, 12⟩
def PWR_ALARM_EN : Fld := ⟨0, 16⟩
def PWR_ALARM_POL : Fld := ⟨16, 16⟩
def PWR_ALARM_STEP : Fld := ⟨32, 16⟩
def PWR_ALARM_LEVEL : Fld := ⟨48, 16⟩
def PWR_SHED_POL : Fld := ⟨0, 8⟩
def PWR_SHED_ASSERTED : Fld := ⟨8, 8⟩
def PWR_SHED_FORCE : Fld := ⟨16, 8⟩
def PWR_EVENT_LADDER_UP : Fld := ⟨0, 1⟩
def PWR_EVENT_LADDER_DOWN : Fld := ⟨1, 1⟩
def PWR_EVENT_FEED_BREACH : Fld := ⟨2, 1⟩
def PWR_EVENT_FEED_STALE : Fld := ⟨3, 1⟩
def PWR_EVENT_FC_BREACH : Fld := ⟨4, 1⟩
def PWR_EVENT_THERM_WARN : Fld := ⟨5, 1⟩
def PWR_EVENT_THERM_CRIT : Fld := ⟨6, 1⟩
def PWR_EVENT_TEMP_SKEW : Fld := ⟨7, 1⟩
def PWR_EVENT_ALARM : Fld := ⟨8, 1⟩
def PWR_EVENT_OVERRUN : Fld := ⟨9, 1⟩
def PWR_EVENT_PACE_LOW : Fld := ⟨10, 1⟩
def PWR_EVENT_GUARD_FLOOR : Fld := ⟨11, 1⟩
def PWR_EVENT_CLAMPED : Fld := ⟨12, 1⟩
def PWR_EVENT_BUS_ERROR : Fld := ⟨13, 1⟩
def PWR_EVENT_CAL_DONE : Fld := ⟨14, 1⟩
def PWR_PMBUS_FAST : Fld := ⟨0, 1⟩
def PWR_RUNG_KIND : Fld := ⟨0, 4⟩
def PWR_RUNG_ARG : Fld := ⟨16, 32⟩
def PWR_RAIL_VOUT_MV : Fld := ⟨0, 12⟩
def PWR_RAIL_VMIN_MV : Fld := ⟨12, 12⟩
def PWR_RAIL_VMAX_MV : Fld := ⟨24, 12⟩
def PWR_RAIL_BUS : Fld := ⟨36, 1⟩
def PWR_RAIL_ADDR : Fld := ⟨37, 7⟩
def PWR_RAIL_PAGE : Fld := ⟨44, 8⟩
def PWR_RAIL_LEAK : Fld := ⟨52, 12⟩
def PWR_RAIL_STAT_V_MV : Fld := ⟨0, 12⟩
def PWR_RAIL_STAT_I_MA : Fld := ⟨12, 20⟩
def PWR_RAIL_STAT_FACTOR : Fld := ⟨32, 9⟩
def PWR_RAIL_STAT_HELD : Fld := ⟨41, 1⟩
def PWR_PORTSET_PORTS : Fld := ⟨0, 64⟩
def PWR_ACC_COUNT : Fld := ⟨0, 48⟩
def PWR_ALARM_OVR_COUNT : Fld := ⟨0, 48⟩
def PWR_COUNT_COUNT : Fld := ⟨0, 48⟩
def PWR_REGION_TRIM_BASE : Fld := ⟨0, 8⟩
def PWR_REGION_TRIM : Fld := ⟨8, 8⟩
def PWR_REGION_GUARD : Fld := ⟨16, 1⟩
def PWR_REGION_BELOW_LR : Fld := ⟨17, 1⟩
def PWR_REGION_SENSOR : Fld := ⟨18, 6⟩
def PWR_REGION_PACE : Fld := ⟨24, 12⟩
def PWR_REGION_LR_PACE : Fld := ⟨36, 12⟩
def PWR_REGION_VEFF_MV : Fld := ⟨48, 12⟩
def PWR_ADJ_NBR : Fld := ⟨0, 54⟩
def PWR_ADJ_COUNT : Fld := ⟨54, 3⟩
def PWR_THERM_TEMP : Fld := ⟨0, 12⟩
def PWR_THERM_VALID : Fld := ⟨12, 1⟩
def TIM_TIME_FRAC : Fld := ⟨0, 32⟩
def TIM_TIME_NS : Fld := ⟨32, 32⟩
def TIM_FREE_FREE : Fld := ⟨0, 64⟩
def TIM_FREE_LATCH_FREE : Fld := ⟨0, 64⟩
def TIM_RATE_ADJ : Fld := ⟨0, 32⟩
def TIM_STEP_OFFSET : Fld := ⟨0, 40⟩
def TIM_CTRL_REF_SEL : Fld := ⟨0, 1⟩
def TIM_CTRL_LOCKED : Fld := ⟨1, 1⟩
def TIM_HART_CTRL_SRC : Fld := ⟨0, 2⟩
def TIM_HART_CTRL_STEP_EN : Fld := ⟨2, 1⟩
def TIM_HART_CTRL_KP_SHIFT : Fld := ⟨8, 6⟩
def TIM_HART_CTRL_KI_SHIFT : Fld := ⟨16, 6⟩
def TIM_HART_CTRL_CLEAR : Fld := ⟨24, 1⟩
def TIM_HART_GAIN_KP : Fld := ⟨0, 16⟩
def TIM_HART_GAIN_KI : Fld := ⟨16, 16⟩
def TIM_HART_STEP_STEP_NS : Fld := ⟨0, 30⟩
def TIM_HART_SAMPLE_OFFSET : Fld := ⟨0, 40⟩
def TIM_HART_STATE_INTEG : Fld := ⟨0, 32⟩
def TIM_HART_STATE_LAST_E : Fld := ⟨32, 32⟩
def TIM_PPS_IN_EXPECT : Fld := ⟨0, 32⟩
def TIM_PPS_IN_FALLING : Fld := ⟨32, 1⟩
def TIM_PPS_OUT_NEXT : Fld := ⟨0, 32⟩
def TIM_PPS_OUT_EN : Fld := ⟨32, 1⟩
def TIM_PPS_OUT_WIDTH : Fld := ⟨40, 16⟩
def TIM_TS_RING_RING : Fld := ⟨0, 15⟩
def TIM_TS_RING_EN : Fld := ⟨15, 1⟩
def TIM_CAP_RING_RING : Fld := ⟨0, 15⟩
def TIM_CAP_RING_EN : Fld := ⟨15, 1⟩
def TIM_CAP_LEVEL_CAP : Fld := ⟨0, 16⟩
def TIM_CAP_LEVEL_PPS : Fld := ⟨16, 1⟩
def TIM_EVENT_STEPPED : Fld := ⟨0, 1⟩
def TIM_EVENT_STEP_RANGE : Fld := ⟨1, 1⟩
def TIM_EVENT_PPS_SAMPLE : Fld := ⟨2, 1⟩
def TIM_EVENT_PPS_MISSING : Fld := ⟨3, 1⟩
def TIM_EVENT_PPS_EXTRA : Fld := ⟨4, 1⟩
def TIM_EVENT_REF_LOST : Fld := ⟨5, 1⟩
def TIM_EVENT_TS_LOST : Fld := ⟨6, 1⟩
def TIM_EVENT_CAP_LOST : Fld := ⟨7, 1⟩
def TIM_EVENT_TS_NOT_FOUND : Fld := ⟨8, 1⟩
def TIM_TRIG_EVENT_FIRED : Fld := ⟨0, 16⟩
def TIM_TRIG_EVENT_LATE : Fld := ⟨16, 16⟩
def TIM_CAP_EVENT_CAPTURED : Fld := ⟨0, 16⟩
def TIM_CAP_EVENT_OVERRUN : Fld := ⟨16, 16⟩
def TIM_TRIG_TARGET_NS : Fld := ⟨0, 32⟩
def TIM_TRIG_TARGET_FRAC : Fld := ⟨32, 8⟩
def TIM_TRIG_CTRL_ARM : Fld := ⟨0, 1⟩
def TIM_TRIG_CTRL_DISARM : Fld := ⟨1, 1⟩
def TIM_TRIG_CTRL_ARMED : Fld := ⟨2, 1⟩
def TIM_TRIG_CTRL_LATE : Fld := ⟨3, 1⟩
def TIM_TRIG_CTRL_MODE : Fld := ⟨4, 2⟩
def TIM_TRIG_CTRL_INVERT : Fld := ⟨6, 1⟩
def TIM_TRIG_CTRL_WIDTH : Fld := ⟨8, 16⟩
def TIM_TRIG_CTRL_PERIOD : Fld := ⟨24, 30⟩
def TIM_CAP_CTRL_EN : Fld := ⟨0, 1⟩
def TIM_CAP_CTRL_EDGE : Fld := ⟨1, 2⟩
def TIM_CAP_CTRL_RECORD : Fld := ⟨3, 1⟩
def TIM_CAP_LAST_NS : Fld := ⟨0, 32⟩
def TIM_CAP_LAST_FRAC : Fld := ⟨32, 8⟩
def TIM_CAP_LAST_RISING : Fld := ⟨40, 1⟩
def TIM_CAP_LAST_VALID : Fld := ⟨41, 1⟩
def TIM_CAP_OVR_COUNT : Fld := ⟨0, 48⟩
def TIM_PORT_LAT_RX : Fld := ⟨0, 16⟩
def TIM_PORT_LAT_TX : Fld := ⟨16, 16⟩
def TIM_PORT_CORR_ADD : Fld := ⟨0, 32⟩
def TIM_COUNT_COUNT : Fld := ⟨0, 48⟩
def GAT_CTRL_EN : Fld := ⟨0, 1⟩
def GAT_CTRL_CFG_CHANGE : Fld := ⟨1, 1⟩
def GAT_CTRL_CANCEL : Fld := ⟨2, 1⟩
def GAT_CTRL_INIT_GATES : Fld := ⟨8, 8⟩
def GAT_CTRL_PREEMPT : Fld := ⟨16, 8⟩
def GAT_CTRL_GUARD : Fld := ⟨24, 8⟩
def GAT_ADMIN_BASE_BASE : Fld := ⟨0, 32⟩
def GAT_ADMIN_BASE_LIST_LEN : Fld := ⟨32, 11⟩
def GAT_ADMIN_CYCLE_CYCLE : Fld := ⟨0, 30⟩
def GAT_ADMIN_CYCLE_EXT : Fld := ⟨32, 30⟩
def GAT_OPER_BASE_BASE : Fld := ⟨0, 32⟩
def GAT_OPER_BASE_LIST_LEN : Fld := ⟨32, 11⟩
def GAT_OPER_CYCLE_CYCLE : Fld := ⟨0, 30⟩
def GAT_OPER_CYCLE_EXT : Fld := ⟨32, 30⟩
def GAT_STATUS_PENDING : Fld := ⟨0, 1⟩
def GAT_STATUS_ERR : Fld := ⟨1, 3⟩
def GAT_STATUS_RUNNING : Fld := ⟨4, 1⟩
def GAT_STATUS_HOLD : Fld := ⟨5, 1⟩
def GAT_STATUS_GATES : Fld := ⟨8, 8⟩
def GAT_STATUS_CUR_ENTRY : Fld := ⟨16, 10⟩
def GAT_STATUS_CHANGE_TIME : Fld := ⟨32, 32⟩
def GAT_EVENT_CHANGED : Fld := ⟨0, 1⟩
def GAT_EVENT_CHANGE_ERROR : Fld := ⟨1, 1⟩
def GAT_EVENT_OVERSIZE : Fld := ⟨2, 1⟩
def GAT_EVENT_OVERRUN : Fld := ⟨3, 1⟩
def GAT_SEL_PORT : Fld := ⟨0, 7⟩
def GAT_SEL_BANK : Fld := ⟨8, 1⟩
def GAT_SEL_ENTRY : Fld := ⟨16, 10⟩
def GAT_DATA_GATES : Fld := ⟨0, 8⟩
def GAT_DATA_OP : Fld := ⟨8, 2⟩
def GAT_DATA_INTERVAL : Fld := ⟨32, 30⟩
def GAT_OVERSIZE_COUNT : Fld := ⟨0, 48⟩
def GAT_OVERRUN_COUNT : Fld := ⟨0, 48⟩
def GAT_CHANGES_COUNT : Fld := ⟨0, 48⟩
def PRT_MODE_FIRST_LANE : Fld := ⟨0, 7⟩
def PRT_MODE_WIDTH : Fld := ⟨8, 3⟩
def PRT_MODE_AN_EN : Fld := ⟨11, 1⟩
def PRT_MODE_MODE : Fld := ⟨12, 4⟩
def PRT_MODE_FEC_NONE : Fld := ⟨16, 1⟩
def PRT_MODE_FEC_BASE_R : Fld := ⟨17, 1⟩
def PRT_MODE_FEC_RS : Fld := ⟨18, 1⟩
def PRT_MODE_MAX_FRAME : Fld := ⟨20, 14⟩
def PRT_MODE_TX_INVERT : Fld := ⟨36, 1⟩
def PRT_MODE_RX_INVERT : Fld := ⟨37, 1⟩
def PRT_CTRL_ADMIN_UP : Fld := ⟨0, 1⟩
def PRT_CTRL_RESTART : Fld := ⟨1, 1⟩
def PRT_STATUS_LINK : Fld := ⟨0, 1⟩
def PRT_STATUS_STATE : Fld := ⟨1, 3⟩
def PRT_STATUS_LF : Fld := ⟨4, 1⟩
def PRT_STATUS_RF : Fld := ⟨5, 1⟩
def PRT_STATUS_RES_FEC : Fld := ⟨6, 2⟩
def PRT_STATUS_RES_MODE : Fld := ⟨8, 4⟩
def PRT_STATUS_RES_RANK : Fld := ⟨12, 4⟩
def PRT_STATUS_HOLD_LEFT : Fld := ⟨16, 16⟩
def PRT_AN_ADV_ABIL : Fld := ⟨0, 10⟩
def PRT_AN_ADV_FEC_REQ : Fld := ⟨16, 1⟩
def PRT_AN_ADV_FEC_ABLE : Fld := ⟨17, 1⟩
def PRT_AN_ADV_VALID : Fld := ⟨18, 1⟩
def PRT_AN_LP_ABIL : Fld := ⟨0, 10⟩
def PRT_AN_LP_FEC_REQ : Fld := ⟨16, 1⟩
def PRT_AN_LP_FEC_ABLE : Fld := ⟨17, 1⟩
def PRT_AN_LP_VALID : Fld := ⟨18, 1⟩
def PRT_LINK_TIMER_DOWN_DEBOUNCE : Fld := ⟨0, 10⟩
def PRT_LINK_TIMER_UP_DEBOUNCE : Fld := ⟨16, 16⟩
def PRT_HOLD_HOLD : Fld := ⟨0, 16⟩
def PRT_STALE_AGEk : Fld := ⟨0, 64⟩
def PRT_MM_CTRL_EN : Fld := ⟨0, 1⟩
def PRT_MM_CTRL_VERIFY_DIS : Fld := ⟨1, 1⟩
def PRT_MM_CTRL_ADD_FRAG : Fld := ⟨2, 2⟩
def PRT_MM_CTRL_VERIFY_TIME : Fld := ⟨8, 8⟩
def PRT_MM_STATUS_VERIFY : Fld := ⟨0, 3⟩
def PRT_MM_STATUS_ACTIVE : Fld := ⟨3, 1⟩
def PRT_EVENT_LINK_UP : Fld := ⟨0, 1⟩
def PRT_EVENT_LINK_DOWN : Fld := ⟨1, 1⟩
def PRT_EVENT_NO_HCD : Fld := ⟨2, 1⟩
def PRT_EVENT_TRAIN_FAIL : Fld := ⟨3, 1⟩
def PRT_EVENT_HOLD_EXPIRED : Fld := ⟨4, 1⟩
def PRT_EVENT_MM_VERIFY_DONE : Fld := ⟨5, 1⟩
def PRT_EVENT_MM_VERIFY_FAIL : Fld := ⟨6, 1⟩
def PRT_COUNT_COUNT : Fld := ⟨0, 48⟩
def PRT_RCLK_LANE : Fld := ⟨0, 7⟩
def PRT_RCLK_EN : Fld := ⟨7, 1⟩
def PRT_RCLK_DIV : Fld := ⟨8, 2⟩
def PRT_RCLK_SQUELCHED : Fld := ⟨16, 1⟩
def PRT_RCLK_EVENT_RCLK_SQUELCH : Fld := ⟨0, 4⟩
def PRT_LANE_STATUS_SIGNAL : Fld := ⟨0, 1⟩
def PRT_LANE_STATUS_CDR_LOCK : Fld := ⟨1, 1⟩
def PRT_LANE_STATUS_RATE : Fld := ⟨2, 3⟩
def PRT_LANE_STATUS_TX_INVERT : Fld := ⟨5, 1⟩
def PRT_LANE_STATUS_RX_INVERT : Fld := ⟨6, 1⟩
def PRT_LANE_STATUS_BOUND : Fld := ⟨7, 1⟩
def PRT_LANE_STATUS_PORT : Fld := ⟨8, 7⟩
def PRS_PUNT_RATE_RATE : Fld := ⟨0, 24⟩
def PRS_PUNT_RATE_BURST : Fld := ⟨32, 16⟩
def PRS_PUNT_LEVEL_TOKENS : Fld := ⟨0, 16⟩
def PRS_EVENT_MALFORMED : Fld := ⟨0, 1⟩
def PRS_EVENT_PUNT_LIMITED : Fld := ⟨1, 1⟩
def PRS_EVENT_RECIRC_LIMIT : Fld := ⟨2, 1⟩
def PRS_MAL_LAST_IN_PORT : Fld := ⟨0, 8⟩
def PRS_MAL_LAST_IN_PIPE : Fld := ⟨8, 3⟩
def PRS_MAL_LAST_G : Fld := ⟨11, 1⟩
def PRS_MAL_LAST_PASS : Fld := ⟨12, 3⟩
def PRS_MAL_LAST_MAL_REASON : Fld := ⟨16, 8⟩
def PRS_MAL_LAST_END_STATE : Fld := ⟨24, 9⟩
def PRS_MAL_LAST_PAYLOAD_OFS : Fld := ⟨33, 9⟩
def PRS_MAL_LAST_LAYERS : Fld := ⟨42, 5⟩
def PRS_MAL_LAST_VALID : Fld := ⟨47, 1⟩
def PRS_MAL_COUNT_COUNT : Fld := ⟨0, 48⟩
def PRS_COUNT_COUNT : Fld := ⟨0, 48⟩
def TBL_NOTIFY_RING_RING : Fld := ⟨0, 15⟩
def TBL_NOTIFY_RING_EN : Fld := ⟨15, 1⟩
def TBL_FAWN_TIMEOUT_TIMEOUT : Fld := ⟨0, 16⟩
def TBL_FAWN_STATUS_PENDING : Fld := ⟨0, 13⟩
def TBL_FAWN_STATUS_CONFLICT : Fld := ⟨16, 13⟩
def TBL_FAWN_STATUS_QUEUED : Fld := ⟨32, 9⟩
def TBL_EVENT_NOTIFY_BLOCKED : Fld := ⟨0, 1⟩
def TBL_EVENT_LEARN_OVERFLOW : Fld := ⟨1, 1⟩
def TBL_EVENT_ECC_UNCORR : Fld := ⟨2, 1⟩
def TBL_EVENT_DRAM_WAIT : Fld := ⟨3, 1⟩
def TBL_ECC_LAST_TILE : Fld := ⟨0, 8⟩
def TBL_ECC_LAST_WORD : Fld := ⟨8, 15⟩
def TBL_ECC_LAST_TABLE : Fld := ⟨24, 8⟩
def TBL_ECC_LAST_VALID : Fld := ⟨32, 1⟩
def TBL_TABLE_KIND : Fld := ⟨0, 2⟩
def TBL_TABLE_IN_GEN0 : Fld := ⟨2, 1⟩
def TBL_TABLE_IN_GEN1 : Fld := ⟨3, 1⟩
def TBL_TABLE_OCCUPIED : Fld := ⟨4, 24⟩
def TBL_TABLE_CAPACITY : Fld := ⟨32, 32⟩
def TBL_COUNT_COUNT : Fld := ⟨0, 48⟩
def AAR_CMP_CTRL_EN : Fld := ⟨0, 1⟩
def AAR_CMP_CTRL_REPAIR : Fld := ⟨1, 1⟩
def AAR_CMP_CTRL_PERIOD : Fld := ⟨16, 16⟩
def AAR_CMP_CTRL_RESTART : Fld := ⟨32, 1⟩
def AAR_CMP_STATUS_RUNNING : Fld := ⟨0, 1⟩
def AAR_CMP_STATUS_TABLE : Fld := ⟨8, 8⟩
def AAR_CMP_STATUS_INDEX : Fld := ⟨16, 18⟩
def AAR_CMP_STATUS_LAST_SWEEP : Fld := ⟨48, 16⟩
def AAR_CMP_LAST_TABLE : Fld := ⟨0, 8⟩
def AAR_CMP_LAST_INDEX : Fld := ⟨8, 18⟩
def AAR_CMP_LAST_KIND : Fld := ⟨26, 2⟩
def AAR_CMP_LAST_VALID : Fld := ⟨28, 1⟩
def AAR_EVENT_MISMATCH : Fld := ⟨0, 1⟩
def AAR_EVENT_REPAIRED : Fld := ⟨1, 1⟩
def AAR_EVENT_SHADOW_FAULT : Fld := ⟨2, 1⟩
def AAR_EVENT_UPDATE_WAIT : Fld := ⟨3, 1⟩
def AAR_EVENT_SWEEP_DONE : Fld := ⟨4, 1⟩
def AAR_SHADOW_EN : Fld := ⟨0, 1⟩
def AAR_SHADOW_LOC : Fld := ⟨1, 1⟩
def AAR_SHADOW_ADDR : Fld := ⟨6, 42⟩
def AAR_SHADOW_SPACE : Fld := ⟨48, 10⟩
def AAR_TABLE_WIDTH : Fld := ⟨0, 2⟩
def AAR_TABLE_IN_GEN0 : Fld := ⟨2, 1⟩
def AAR_TABLE_IN_GEN1 : Fld := ⟨3, 1⟩
def AAR_TABLE_CHAINS : Fld := ⟨4, 7⟩
def AAR_TABLE_OCCUPIED : Fld := ⟨13, 19⟩
def AAR_TABLE_CAPACITY : Fld := ⟨32, 32⟩
def AAR_COUNT_COUNT : Fld := ⟨0, 48⟩
def ACT_EVENT_BAD_ACTION : Fld := ⟨0, 1⟩
def ACT_EVENT_SPREAD_EMPTY : Fld := ⟨1, 1⟩
def ACT_EVENT_REWRITE_MISS : Fld := ⟨2, 1⟩
def ACT_EVENT_REWRITE_BAD : Fld := ⟨3, 1⟩
def ACT_EVENT_TOO_LONG : Fld := ⟨4, 1⟩
def ACT_PORT_SUB_SUB : Fld := ⟨0, 14⟩
def ACT_COST_A : Fld := ⟨0, 16⟩
def ACT_COST_B : Fld := ⟨16, 16⟩
def ACT_COST_CAL_EN : Fld := ⟨32, 1⟩
def ACT_COST_REF_A_REF : Fld := ⟨0, 16⟩
def ACT_COST_REF_B_REF : Fld := ⟨16, 16⟩
def ACT_COST_REF_SPAN : Fld := ⟨32, 8⟩
def ACT_CLASS_PJ_COUNT : Fld := ⟨0, 48⟩
def ACT_CLASS_CNT_COUNT : Fld := ⟨0, 48⟩
def ACT_CLASS_BYTES_COUNT : Fld := ⟨0, 48⟩
def ACT_COUNT_COUNT : Fld := ⟨0, 48⟩
def ACT_GROUP_BASE : Fld := ⟨0, 14⟩
def ACT_GROUP_SIZE : Fld := ⟨16, 9⟩
def ACT_GROUP_PROFILE : Fld := ⟨28, 4⟩
def ACT_GROUP_LINK_TRACK : Fld := ⟨32, 1⟩
def ACT_GROUP_MEMBER_REWRITE : Fld := ⟨33, 1⟩
def ACT_MEMBER_PORT : Fld := ⟨0, 8⟩
def ACT_MEMBER_UP : Fld := ⟨8, 1⟩
def ACT_MEMBER_REWRITE_PTR : Fld := ⟨16, 20⟩
def ENG_CTRL_DISPATCH_EN : Fld := ⟨0, 1⟩
def ENG_STATUS_LOADED : Fld := ⟨0, 1⟩
def ENG_STATUS_GEN : Fld := ⟨1, 1⟩
def ENG_STATUS_SHARED : Fld := ⟨2, 1⟩
def ENG_STATUS_QUEUED : Fld := ⟨8, 6⟩
def ENG_STATUS_BUSY : Fld := ⟨16, 8⟩
def ENG_STATUS_RESIDENT : Fld := ⟨24, 4⟩
def ENG_TRAP_LAST_CODE : Fld := ⟨0, 4⟩
def ENG_TRAP_LAST_THREAD : Fld := ⟨4, 3⟩
def ENG_TRAP_LAST_PC : Fld := ⟨8, 12⟩
def ENG_TRAP_LAST_SOFT_CODE : Fld := ⟨20, 8⟩
def ENG_TRAP_LAST_VALID : Fld := ⟨28, 1⟩
def ENG_EVENT_TRAP : Fld := ⟨0, 1⟩
def ENG_EVENT_DMEM_ECC : Fld := ⟨1, 1⟩
def ENG_MEM_ADDR_ADDR : Fld := ⟨0, 14⟩
def ENG_MEM_ADDR_SPACE : Fld := ⟨16, 1⟩
def ENG_MEM_DATA_DATA : Fld := ⟨0, 64⟩
def ENG_THREAD_STATE : Fld := ⟨0, 3⟩
def ENG_THREAD_RESIDENT : Fld := ⟨3, 1⟩
def ENG_THREAD_PC : Fld := ⟨16, 12⟩
def ENG_THREAD_OUTSTANDING : Fld := ⟨32, 4⟩
def ENG_THREAD_STEPS : Fld := ⟨48, 16⟩
def ENG_COUNT_COUNT : Fld := ⟨0, 48⟩
def ENG_FRAG_TIMEOUT_TIMEOUT : Fld := ⟨0, 16⟩
def ENG_FRAG_STATUS_USED : Fld := ⟨0, 13⟩
def ENG_FRAG_FLUSH_FLUSH : Fld := ⟨0, 1⟩
def ENG_MSG_RING_RING : Fld := ⟨0, 15⟩
def ENG_MSG_RING_EN : Fld := ⟨15, 1⟩
def ENG_LIMIT_STEPS : Fld := ⟨0, 16⟩
def ENG_GEVENT_ENG_NONE : Fld := ⟨0, 1⟩
def ENG_GEVENT_ENG_FULL : Fld := ⟨1, 1⟩
def ENG_GEVENT_FRAG_FULL : Fld := ⟨2, 1⟩
def ENG_GEVENT_MSG_BLOCKED : Fld := ⟨3, 1⟩
def ENG_GCOUNT_COUNT : Fld := ⟨0, 48⟩
def BUF_SHARED_LIMIT_SHARED : Fld := ⟨0, 19⟩
def BUF_MC_LIMIT_LIMIT : Fld := ⟨0, 19⟩
def BUF_STATUS_FREE : Fld := ⟨0, 20⟩
def BUF_STATUS_SHARED_USED : Fld := ⟨20, 20⟩
def BUF_STATUS_MC_USED : Fld := ⟨40, 20⟩
def BUF_SPILL_CTRL_EN : Fld := ⟨0, 1⟩
def BUF_SPILL_CTRL_CHANNELS : Fld := ⟨1, 4⟩
def BUF_SPILL_CTRL_BASE_MIB : Fld := ⟨16, 16⟩
def BUF_SPILL_CTRL_SIZE_MIB : Fld := ⟨32, 13⟩
def BUF_SPILL_STATUS_USED : Fld := ⟨0, 27⟩
def BUF_SPILL_STATUS_CAPACITY : Fld := ⟨32, 27⟩
def BUF_RESIDUE_LIMIT_LIMIT : Fld := ⟨0, 16⟩
def BUF_RESIDUE_STATUS_ENTRIES : Fld := ⟨0, 13⟩
def BUF_CAP_CTRL_EN : Fld := ⟨0, 1⟩
def BUF_CAP_CTRL_CHANNEL : Fld := ⟨1, 2⟩
def BUF_CAP_CTRL_BASE_MIB : Fld := ⟨16, 16⟩
def BUF_CAP_CTRL_SIZE_MIB : Fld := ⟨32, 16⟩
def BUF_CAP_STATUS_STAGED : Fld := ⟨0, 32⟩
def BUF_EVENT_NO_CELLS : Fld := ⟨0, 1⟩
def BUF_EVENT_RESIDUE_FULL : Fld := ⟨1, 1⟩
def BUF_EVENT_RESIDUE_TIMEOUT : Fld := ⟨2, 1⟩
def BUF_EVENT_SPILL_FULL : Fld := ⟨3, 1⟩
def BUF_EVENT_CELL_ECC : Fld := ⟨4, 1⟩
def BUF_EVENT_SPILL_ECC : Fld := ⟨5, 1⟩
def BUF_EVENT_CAPTURE_LOST : Fld := ⟨6, 1⟩
def BUF_EVENT_MC_BAD_ENTRY : Fld := ⟨7, 1⟩
def BUF_EVENT_SPILL_CFG_BUSY : Fld := ⟨8, 1⟩
def BUF_PROFILE_MIN : Fld := ⟨0, 16⟩
def BUF_PROFILE_ALPHA : Fld := ⟨16, 4⟩
def BUF_PROFILE_YSHIFT : Fld := ⟨20, 2⟩
def BUF_PROFILE_RSHIFT : Fld := ⟨22, 2⟩
def BUF_PROFILE_SPILL_EN : Fld := ⟨24, 1⟩
def BUF_PROFILE_MAX : Fld := ⟨32, 19⟩
def BUF_MSESS_A_KIND : Fld := ⟨0, 2⟩
def BUF_MSESS_A_PORT : Fld := ⟨8, 8⟩
def BUF_MSESS_A_SUB : Fld := ⟨16, 14⟩
def BUF_MSESS_A_TC : Fld := ⟨30, 3⟩
def BUF_MSESS_A_TRUNC : Fld := ⟨33, 14⟩
def BUF_MSESS_B_REWRITE_PTR : Fld := ⟨0, 20⟩
def BUF_MSESS_B_N : Fld := ⟨20, 24⟩
def BUF_MSESS_B_RANDOM : Fld := ⟨44, 1⟩
def BUF_MSESS_B_CAP_SLOTS : Fld := ⟨45, 3⟩
def BUF_MSESS_B_RING : Fld := ⟨48, 15⟩
def BUF_COUNT_COUNT : Fld := ⟨0, 48⟩
def BUF_MCGROUP_BASE : Fld := ⟨0, 16⟩
def BUF_MCGROUP_COUNT : Fld := ⟨16, 10⟩
def BUF_MCLIST_PORT : Fld := ⟨0, 8⟩
def BUF_MCLIST_VALID : Fld := ⟨8, 1⟩
def BUF_MCLIST_SRC_PRUNE : Fld := ⟨9, 1⟩
def BUF_MCLIST_SUB : Fld := ⟨11, 14⟩
def BUF_MCLIST_REWRITE_PTR : Fld := ⟨25, 20⟩
def BUF_QOCC_CELLS : Fld := ⟨0, 19⟩
def BUF_QOCC_PACKETS : Fld := ⟨19, 19⟩
def BUF_QOCC_SPILL_CELLS : Fld := ⟨38, 26⟩
def SCH_EVENT_POLICED : Fld := ⟨0, 1⟩
def SCH_EVENT_QUEUE_DISABLED : Fld := ⟨1, 1⟩
def SCH_EVENT_FLUSH_DONE : Fld := ⟨2, 1⟩
def SCH_FLUSH_QUEUE : Fld := ⟨0, 17⟩
def SCH_FLUSH_GO : Fld := ⟨32, 1⟩
def SCH_LEVEL_SEL_INDEX : Fld := ⟨0, 17⟩
def SCH_LEVEL_SEL_KIND : Fld := ⟨18, 3⟩
def SCH_ESCALE_SCALE : Fld := ⟨0, 9⟩
def SCH_LEVEL_DATA_LEVEL : Fld := ⟨0, 48⟩
def SCH_LEVEL_DATA_UNIT : Fld := ⟨48, 1⟩
def SCH_LEVEL_DATA_CONFORMING : Fld := ⟨49, 1⟩
def SCH_LEVEL_DATA_VALID : Fld := ⟨50, 1⟩
def SCH_COUNT_COUNT : Fld := ⟨0, 48⟩
def SCH_PORT_RATE : Fld := ⟨0, 16⟩
def SCH_PORT_BURST : Fld := ⟨16, 20⟩
def SCH_PORT_UNIT : Fld := ⟨36, 1⟩
def SCH_PORT_SHAPE_EN : Fld := ⟨37, 1⟩
def SCH_PORT_OVERHEAD : Fld := ⟨38, 8⟩
def SCH_GROUP_RATE : Fld := ⟨0, 16⟩
def SCH_GROUP_BURST : Fld := ⟨16, 20⟩
def SCH_GROUP_UNIT : Fld := ⟨36, 1⟩
def SCH_GROUP_SHAPE_EN : Fld := ⟨37, 1⟩
def SCH_GROUP_WEIGHT : Fld := ⟨38, 8⟩
def SCH_GROUP_PARENT : Fld := ⟨48, 11⟩
def SCH_GROUP_VALID : Fld := ⟨63, 1⟩
def SCH_SUB_RATE : Fld := ⟨0, 16⟩
def SCH_SUB_BURST : Fld := ⟨16, 20⟩
def SCH_SUB_UNIT : Fld := ⟨36, 1⟩
def SCH_SUB_SHAPE_EN : Fld := ⟨37, 1⟩
def SCH_SUB_WEIGHT : Fld := ⟨38, 8⟩
def SCH_SUB_PARENT : Fld := ⟨48, 11⟩
def SCH_SUB_VALID : Fld := ⟨63, 1⟩
def SCH_QCFG_RATE : Fld := ⟨0, 16⟩
def SCH_QCFG_BURST : Fld := ⟨16, 20⟩
def SCH_QCFG_UNIT : Fld := ⟨36, 1⟩
def SCH_QCFG_SHAPE_EN : Fld := ⟨37, 1⟩
def SCH_QCFG_WEIGHT : Fld := ⟨38, 8⟩
def SCH_QCFG_STRICT : Fld := ⟨46, 1⟩
def SCH_QCFG_EN : Fld := ⟨47, 1⟩
def SCH_QCFG_ADM_PROFILE : Fld := ⟨48, 6⟩
def SCH_QCFG_STALE : Fld := ⟨54, 2⟩
def SCH_POL_RATE : Fld := ⟨0, 16⟩
def SCH_POL_BURST : Fld := ⟨16, 20⟩
def SCH_POL_UNIT : Fld := ⟨36, 1⟩
def SCH_POL_EN : Fld := ⟨37, 1⟩
def SCH_POL_DROP_COUNT : Fld := ⟨0, 48⟩
def DMC_CTRL_OPEN_NS : Fld := ⟨0, 16⟩
def DMC_CTRL_WB_HIGH : Fld := ⟨16, 8⟩
def DMC_CTRL_WB_LOW : Fld := ⟨24, 8⟩
def DMC_RANGE_BASE_MIB : Fld := ⟨0, 16⟩
def DMC_RANGE_SIZE_MIB : Fld := ⟨16, 16⟩
def DMC_RESERVE_RESERVE0 : Fld := ⟨0, 12⟩
def DMC_RESERVE_RESERVE1 : Fld := ⟨16, 12⟩
def DMC_RESERVE_RESERVE2 : Fld := ⟨32, 12⟩
def DMC_RESERVE_RESERVE3 : Fld := ⟨48, 12⟩
def DMC_REFRESH_PER_BANK : Fld := ⟨0, 1⟩
def DMC_REFRESH_POSTPONE_EN : Fld := ⟨1, 1⟩
def DMC_REFRESH_PULLIN_EN : Fld := ⟨2, 1⟩
def DMC_REFRESH_MR4_MS : Fld := ⟨8, 8⟩
def DMC_SP_RATE : Fld := ⟨0, 3⟩
def DMC_SP_TRAINED : Fld := ⟨8, 4⟩
def DMC_SP_CTRL_REQ : Fld := ⟨0, 2⟩
def DMC_SP_CTRL_TARGET : Fld := ⟨8, 2⟩
def DMC_TRAIN_CHANNELS : Fld := ⟨0, 4⟩
def DMC_TRAIN_SP : Fld := ⟨4, 2⟩
def DMC_TRAIN_GO : Fld := ⟨8, 1⟩
def DMC_TRAIN_FAILED : Fld := ⟨16, 4⟩
def DMC_RETRAIN_PERIOD_MS : Fld := ⟨0, 16⟩
def DMC_RETRAIN_THRESH_PS : Fld := ⟨16, 8⟩
def DMC_ECC_LAST_ATOM : Fld := ⟨0, 28⟩
def DMC_ECC_LAST_CHANNEL : Fld := ⟨28, 2⟩
def DMC_ECC_LAST_CLASS : Fld := ⟨30, 2⟩
def DMC_ECC_LAST_UNCORR : Fld := ⟨32, 1⟩
def DMC_ECC_LAST_VALID : Fld := ⟨33, 1⟩
def DMC_EVENT_ECC_CORR : Fld := ⟨0, 1⟩
def DMC_EVENT_ECC_UNCORR : Fld := ⟨1, 1⟩
def DMC_EVENT_ACCESS_ERROR : Fld := ⟨2, 1⟩
def DMC_EVENT_TRAIN_FAIL : Fld := ⟨3, 1⟩
def DMC_EVENT_SP_DONE : Fld := ⟨4, 1⟩
def DMC_EVENT_TEMP_HIGH : Fld := ⟨5, 1⟩
def DMC_EVENT_POSTPONE_MAX : Fld := ⟨6, 1⟩
def DMC_EVENT_RESERVE_BAD : Fld := ⟨7, 1⟩
def DMC_CHAN_CFG_EN : Fld := ⟨0, 1⟩
def DMC_CHAN_CFG_RANKS : Fld := ⟨1, 1⟩
def DMC_CHAN_CFG_DENSITY : Fld := ⟨4, 3⟩
def DMC_CHAN_STATUS_STATE : Fld := ⟨0, 3⟩
def DMC_CHAN_STATUS_SP : Fld := ⟨4, 2⟩
def DMC_CHAN_STATUS_FSP : Fld := ⟨6, 1⟩
def DMC_CHAN_STATUS_RR : Fld := ⟨8, 5⟩
def DMC_CHAN_STATUS_DEBT : Fld := ⟨16, 5⟩
def DMC_CHAN_STATUS_DATA_MIB : Fld := ⟨32, 14⟩
def DMC_COUNT_COUNT : Fld := ⟨0, 48⟩
def HIF_LINK_SPEED : Fld := ⟨0, 4⟩
def HIF_LINK_WIDTH : Fld := ⟨4, 6⟩
def HIF_EVENT_ACCESS_ERR : Fld := ⟨0, 1⟩
def HIF_EVENT_RING_ERROR : Fld := ⟨1, 1⟩
def HIF_EVENT_RING_FAULT : Fld := ⟨2, 1⟩
def HIF_EVENT_CQ_STALL : Fld := ⟨3, 1⟩
def HIF_EVENT_FAULT_LOST : Fld := ⟨4, 1⟩
def HIF_EVENT_HOST_DROP : Fld := ⟨5, 1⟩
def HIF_EVENT_LINK_CHANGE : Fld := ⟨6, 1⟩
def HIF_ACCESS_LOG_ADDR : Fld := ⟨0, 28⟩
def HIF_ACCESS_LOG_FUNC : Fld := ⟨28, 4⟩
def HIF_ACCESS_LOG_SIZE : Fld := ⟨32, 2⟩
def HIF_ACCESS_LOG_WRITE : Fld := ⟨34, 1⟩
def HIF_ACCESS_LOG_VALID : Fld := ⟨35, 1⟩
def HIF_HOST_STATUS_HELD : Fld := ⟨0, 10⟩
def HIF_FUNC_FAULT_RING : Fld := ⟨0, 15⟩
def HIF_FUNC_FAULT_EN : Fld := ⟨15, 1⟩
def HIF_FUNC_TABLE_EN : Fld := ⟨16, 1⟩
def HIF_COUNT_COUNT : Fld := ⟨0, 48⟩
def HIF_GROUP_FUNC : Fld := ⟨0, 4⟩
def HIF_EVT_MAP_VECTOR : Fld := ⟨0, 7⟩
def HIF_EVT_MAP_FUNC : Fld := ⟨8, 4⟩
def HIF_EVT_MAP_EN : Fld := ⟨16, 1⟩
def HIF_ERR_MAP_RINGS : Fld := ⟨0, 64⟩
def HIF_FAULT_MAP_RINGS : Fld := ⟨0, 64⟩
def HIF_RXMAP_BASE : Fld := ⟨0, 15⟩
def HIF_RXMAP_LOG2N : Fld := ⟨15, 3⟩
def HIF_RXMAP_EN : Fld := ⟨18, 1⟩
def RNG_BASE_BASE : Fld := ⟨12, 36⟩
def RNG_BASE_LOG2_SIZE : Fld := ⟨48, 5⟩
def RNG_BASE_SPACE : Fld := ⟨53, 10⟩
def RNG_CFG_S_CQ : Fld := ⟨0, 15⟩
def RNG_CFG_S_PRIO : Fld := ⟨16, 2⟩
def RNG_CFG_C_VECTOR : Fld := ⟨0, 7⟩
def RNG_CFG_C_WB_EN : Fld := ⟨8, 1⟩
def RNG_PI_S_PI : Fld := ⟨0, 17⟩
def RNG_PI_C_PI : Fld := ⟨0, 17⟩
def RNG_FETCH_FETCH : Fld := ⟨0, 17⟩
def RNG_FETCH_DONE : Fld := ⟨32, 17⟩
def RNG_CI_CI : Fld := ⟨0, 17⟩
def RNG_CI_ARM : Fld := ⟨63, 1⟩
def RNG_STATE_STATE : Fld := ⟨0, 3⟩
def RNG_STATE_ERR : Fld := ⟨8, 8⟩
def RNG_STATE_STALLED : Fld := ⟨16, 1⟩
def RNG_STATE_HELD : Fld := ⟨17, 3⟩
def RNG_STATE_IN_PROGRESS : Fld := ⟨20, 3⟩
def RNG_ERR_INDEX_INDEX : Fld := ⟨0, 17⟩
def RNG_PROG_DONE_BYTES : Fld := ⟨0, 32⟩
def RNG_WB_ADDR : Fld := ⟨3, 45⟩
def RNG_CTRL_ENABLE : Fld := ⟨0, 1⟩
def RNG_CTRL_RESET : Fld := ⟨1, 1⟩
def RNG_CTRL_RESUME : Fld := ⟨2, 1⟩
def RNG_CTRL_SKIP : Fld := ⟨3, 1⟩
def XLT_SPACE_EN : Fld := ⟨0, 1⟩
def XLT_SPACE_FUNC : Fld := ⟨4, 4⟩
def XLT_SPACE_ROOT : Fld := ⟨12, 40⟩

end Sys2Proof.Machine.F
end

