-- ==== Sys2Proof/Machine/RegTable.lean ====
section
/-! DEFINITION. The register map as a table: for each family of registers its place in BAR0 (R62), and for each field its access
type (R16) and its reset value (R15). Reset values the manual gives per instance are in `regReset`. -/

namespace Sys2Proof.Machine

/-- The access types of R16. -/
inductive Acc where
  | ro | rw | wo | w1c | rc | ws
  deriving DecidableEq, Repr

/-- A field of a family: where it stands, its access type and its reset value. -/
structure FieldSpec where
  lo : Nat
  w : Nat
  acc : Acc
  reset : Nat
  deriving DecidableEq, Repr

/-- A family of registers: base, stride and count of its instances, within `ocount` windows of `ostride` bytes. -/
structure RegFam where
  base : Nat
  stride : Nat
  count : Nat
  ostride : Nat
  ocount : Nat
  fields : List FieldSpec
  deriving DecidableEq, Repr

def famsSYS0 : List RegFam :=
  [ ⟨0x0, 0x8, 1, 0x0, 1, [⟨0, 16, .ro, 38400⟩, ⟨16, 8, .ro, 160⟩, ⟨24, 4, .ro, 1⟩, ⟨32, 16, .ro, 8090⟩]⟩  -- SYS_ID
  , ⟨0x8, 0x8, 1, 0x0, 1, [⟨0, 64, .ro, 0⟩]⟩  -- SYS_SERIAL0
  , ⟨0x10, 0x8, 1, 0x0, 1, [⟨0, 32, .ro, 0⟩, ⟨32, 8, .ro, 0⟩]⟩  -- SYS_SERIAL1
  , ⟨0x18, 0x8, 1, 0x0, 1, [⟨0, 4, .ro, 1⟩, ⟨4, 1, .ro, 0⟩, ⟨32, 32, .ro, 0⟩]⟩  -- SYS_STAGE
  , ⟨0x20, 0x8, 1, 0x0, 1, [⟨0, 8, .ro, 0⟩, ⟨8, 24, .ro, 0⟩, ⟨32, 4, .ro, 0⟩]⟩  -- SYS_REASON
  , ⟨0x28, 0x8, 1, 0x0, 1, [⟨0, 64, .ro, 0⟩]⟩  -- SYS_ELAPSED
  , ⟨0x30, 0x8, 1, 0x0, 1, [⟨0, 2, .ro, 0⟩, ⟨2, 2, .ro, 0⟩]⟩  -- SYS_STRAP
  , ⟨0x38, 0x8, 1, 0x0, 1, [⟨0, 64, .wo, 0⟩]⟩  -- SYS_LOAD_DATA
  , ⟨0x40, 0x8, 1, 0x0, 1, [⟨0, 3, .ro, 0⟩, ⟨3, 1, .ro, 0⟩, ⟨8, 8, .ro, 0⟩, ⟨16, 1, .w1c, 0⟩, ⟨24, 8, .ro, 0⟩, ⟨32, 32, .ro, 0⟩]⟩  -- SYS_LOAD_STATUS
  , ⟨0x48, 0x8, 1, 0x0, 1, [⟨0, 1, .ws, 0⟩, ⟨1, 1, .rw, 1⟩, ⟨16, 16, .wo, 0⟩]⟩  -- SYS_CTRL
  , ⟨0x50, 0x8, 1, 0x0, 1, [⟨0, 64, .rw, 0⟩]⟩  -- SYS_SB_SCRATCH
  , ⟨0x58, 0x8, 1, 0x0, 1, [⟨0, 16, .rc, 0⟩, ⟨16, 16, .rc, 0⟩, ⟨32, 16, .rc, 0⟩]⟩  -- SYS_SB_STATUS
  , ⟨0x7F0, 0x8, 2, 0x0, 1, [⟨0, 64, .ro, 0⟩]⟩  -- SYS_MSIX_PBA
  , ⟨0x800, 0x10, 128, 0x0, 1, [⟨0, 64, .rw, 0⟩]⟩  -- SYS_MSIX_ADDR
  , ⟨0x808, 0x10, 128, 0x0, 1, [⟨0, 32, .rw, 0⟩, ⟨32, 1, .rw, 1⟩]⟩  -- SYS_MSIX_CTRL
  ]

/-- The registers of block SYS. -/
def famsSYS : List RegFam := famsSYS0

def famsSTR0 : List RegFam :=
  [ ⟨0x1000, 0x8, 1, 0x0, 1, [⟨0, 1, .ws, 0⟩, ⟨1, 1, .ws, 0⟩, ⟨2, 2, .rw, 0⟩]⟩  -- STR_LOAD_CTRL
  , ⟨0x1008, 0x8, 1, 0x0, 1, [⟨0, 32, .rw, 0⟩]⟩  -- STR_LOAD_FLASH_OFS
  , ⟨0x1010, 0x8, 1, 0x0, 1, [⟨0, 64, .wo, 0⟩]⟩  -- STR_LOAD_DATA
  , ⟨0x1018, 0x8, 1, 0x0, 1, [⟨0, 3, .ro, 3⟩, ⟨8, 8, .ro, 0⟩, ⟨16, 1, .w1c, 0⟩, ⟨32, 32, .ro, 0⟩]⟩  -- STR_LOAD_STATUS
  , ⟨0x1020, 0x8, 1, 0x0, 1, [⟨0, 9, .ro, 511⟩, ⟨16, 8, .ro, 0⟩, ⟨32, 32, .ro, 0⟩]⟩  -- STR_LOAD_DETAIL
  , ⟨0x1028, 0x8, 1, 0x0, 1, [⟨0, 1, .ro, 0⟩, ⟨1, 3, .ro, 3⟩, ⟨4, 3, .ro, 0⟩]⟩  -- STR_GEN
  , ⟨0x1030, 0x8, 1, 0x0, 1, [⟨0, 1, .ws, 0⟩]⟩  -- STR_FLIP
  , ⟨0x1038, 0x8, 1, 0x0, 1, [⟨0, 4, .ro, 0⟩, ⟨32, 32, .ro, 0⟩]⟩  -- STR_FLIP_STATUS
  , ⟨0x1040, 0x8, 1, 0x0, 1, [⟨0, 20, .rw, 2000⟩]⟩  -- STR_DRAIN_LIMIT
  , ⟨0x1048, 0x8, 1, 0x0, 1, [⟨0, 32, .ro, 0⟩, ⟨32, 32, .ro, 0⟩]⟩  -- STR_DRAIN_COUNT
  , ⟨0x1050, 0x8, 1, 0x0, 1, [⟨0, 1, .ws, 0⟩]⟩  -- STR_FORCE
  , ⟨0x1058, 0x8, 1, 0x0, 1, [⟨0, 32, .ro, 0⟩]⟩  -- STR_FORCE_DISCARDS
  , ⟨0x1060, 0x8, 1, 0x0, 1, [⟨0, 1, .w1c, 0⟩, ⟨1, 1, .w1c, 0⟩, ⟨2, 1, .w1c, 0⟩, ⟨3, 1, .w1c, 0⟩, ⟨4, 1, .w1c, 0⟩, ⟨5, 1, .w1c, 0⟩, ⟨6, 1, .w1c, 0⟩]⟩  -- STR_EVENT
  , ⟨0x1068, 0x8, 1, 0x0, 1, [⟨0, 1, .rw, 0⟩, ⟨1, 1, .rw, 0⟩, ⟨2, 1, .rw, 0⟩, ⟨3, 1, .rw, 0⟩, ⟨4, 1, .rw, 0⟩, ⟨5, 1, .rw, 0⟩, ⟨6, 1, .rw, 0⟩]⟩  -- STR_EVENT_MASK
  , ⟨0x1070, 0x8, 1, 0x0, 1, [⟨0, 64, .ro, 0⟩]⟩  -- STR_BASE_ID
  , ⟨0x1078, 0x8, 1, 0x0, 1, [⟨0, 64, .ro, 0⟩]⟩  -- STR_ID_ACTIVE
  , ⟨0x1080, 0x8, 1, 0x0, 1, [⟨0, 64, .ro, 0⟩]⟩  -- STR_ID_IDLE
  , ⟨0x1088, 0x8, 1, 0x0, 1, [⟨0, 10, .ro, 0⟩, ⟨10, 1, .ro, 0⟩, ⟨12, 3, .ro, 0⟩, ⟨16, 3, .ro, 7⟩]⟩  -- STR_KEY_STATE
  , ⟨0x1090, 0x8, 1, 0x0, 1, [⟨0, 3, .rw, 0⟩, ⟨4, 2, .rw, 0⟩, ⟨8, 1, .ws, 0⟩, ⟨12, 4, .ro, 0⟩, ⟨16, 16, .wo, 0⟩]⟩  -- STR_FUSE_CMD
  , ⟨0x1098, 0x8, 6, 0x0, 1, [⟨0, 64, .rw, 0⟩]⟩  -- STR_FUSE_DATA
  ]

/-- The registers of block STR. -/
def famsSTR : List RegFam := famsSTR0

def famsFLT0 : List RegFam :=
  [ ⟨0x10000, 0x8, 3, 0x0, 1, [⟨0, 64, .w1c, 0⟩]⟩  -- FLT_STATUS
  , ⟨0x10018, 0x8, 3, 0x0, 1, [⟨0, 64, .w1c, 0⟩]⟩  -- FLT_ECHO
  , ⟨0x10030, 0x8, 1, 0x0, 1, [⟨0, 1, .w1c, 0⟩, ⟨1, 1, .w1c, 0⟩, ⟨2, 1, .w1c, 0⟩, ⟨3, 1, .w1c, 0⟩, ⟨4, 1, .w1c, 0⟩, ⟨5, 1, .w1c, 0⟩, ⟨6, 1, .w1c, 0⟩]⟩  -- FLT_EVENT
  , ⟨0x10038, 0x8, 1, 0x0, 1, [⟨0, 1, .rw, 0⟩, ⟨1, 1, .rw, 0⟩, ⟨2, 1, .rw, 0⟩, ⟨3, 1, .rw, 0⟩, ⟨4, 1, .rw, 0⟩, ⟨5, 1, .rw, 0⟩, ⟨6, 1, .rw, 0⟩]⟩  -- FLT_EVENT_MASK
  , ⟨0x10040, 0x8, 1, 0x0, 1, [⟨0, 2, .ro, 0⟩, ⟨2, 6, .ro, 0⟩, ⟨8, 8, .ro, 0⟩, ⟨16, 16, .ro, 0⟩, ⟨32, 1, .ro, 0⟩]⟩  -- FLT_RESTART
  , ⟨0x10048, 0x8, 1, 0x0, 1, [⟨0, 8, .rw, 0⟩, ⟨8, 2, .rw, 0⟩, ⟨10, 1, .rw, 0⟩, ⟨16, 1, .ws, 0⟩]⟩  -- FLT_INJECT
  , ⟨0x10050, 0x8, 1, 0x0, 1, [⟨0, 6, .ro, 0⟩, ⟨6, 1, .ro, 0⟩]⟩  -- FLT_LOG_PTR
  , ⟨0x10058, 0x8, 1, 0x0, 1, [⟨0, 16, .rw, 60⟩, ⟨16, 1, .ro, 0⟩]⟩  -- FLT_SCRUB
  , ⟨0x10060, 0x8, 1, 0x0, 1, [⟨0, 8, .rw, 0⟩, ⟨8, 15, .rw, 0⟩, ⟨24, 1, .ws, 0⟩, ⟨25, 3, .ro, 0⟩]⟩  -- FLT_TREPAIR
  , ⟨0x10100, 0x8, 10, 0x0, 1, [⟨0, 48, .ro, 0⟩]⟩  -- FLT_COUNT
  , ⟨0x10800, 0x8, 192, 0x0, 1, [⟨0, 2, .ro, 0⟩, ⟨8, 16, .ro, 0⟩, ⟨24, 16, .ro, 0⟩, ⟨40, 8, .ro, 0⟩, ⟨48, 16, .ro, 0⟩]⟩  -- FLT_LINE
  , ⟨0x11000, 0x8, 64, 0x0, 1, [⟨0, 8, .ro, 0⟩, ⟨8, 2, .ro, 0⟩, ⟨10, 2, .ro, 0⟩, ⟨12, 1, .ro, 0⟩, ⟨13, 1, .ro, 0⟩, ⟨14, 1, .ro, 0⟩, ⟨15, 1, .ro, 0⟩, ⟨16, 2, .ro, 0⟩, ⟨18, 14, .ro, 0⟩, ⟨32, 32, .ro, 0⟩]⟩  -- FLT_LOG
  ]

/-- The registers of block FLT. -/
def famsFLT : List RegFam := famsFLT0

def famsPMC0 : List RegFam :=
  [ ⟨0x20000, 0x8, 1, 0x0, 1, [⟨0, 32, .w1c, 0⟩, ⟨32, 1, .w1c, 0⟩]⟩  -- PMC_EVENT
  , ⟨0x20008, 0x8, 1, 0x0, 1, [⟨0, 32, .rw, 0⟩, ⟨32, 1, .rw, 0⟩]⟩  -- PMC_EVENT_MASK
  , ⟨0x20100, 0x8, 32, 0x0, 1, [⟨0, 1, .rw, 0⟩, ⟨1, 1, .rw, 0⟩, ⟨2, 1, .rw, 0⟩, ⟨3, 1, .ws, 0⟩, ⟨4, 1, .ws, 0⟩]⟩  -- PMC_GCTRL
  , ⟨0x20200, 0x8, 32, 0x0, 1, [⟨0, 8, .w1c, 0⟩, ⟨8, 1, .w1c, 0⟩, ⟨9, 1, .w1c, 0⟩]⟩  -- PMC_GSTAT
  , ⟨0x20300, 0x8, 32, 0x0, 1, [⟨0, 64, .ro, 0⟩]⟩  -- PMC_SNAP_TIME
  , ⟨0x21000, 0x8, 256, 0x0, 1, [⟨0, 9, .rw, 0⟩, ⟨16, 8, .rw, 0⟩]⟩  -- PMC_SEL
  , ⟨0x22000, 0x8, 256, 0x0, 1, [⟨0, 48, .rw, 0⟩]⟩  -- PMC_CNT
  , ⟨0x23000, 0x8, 256, 0x0, 1, [⟨0, 48, .rw, 0⟩, ⟨63, 1, .rw, 0⟩]⟩  -- PMC_RELOAD
  , ⟨0x24000, 0x8, 256, 0x0, 1, [⟨0, 48, .ro, 0⟩]⟩  -- PMC_SNAPV
  ]

/-- The registers of block PMC. -/
def famsPMC : List RegFam := famsPMC0

def famsPWR0 : List RegFam :=
  [ ⟨0x40000, 0x8, 1, 0x0, 1, [⟨0, 1, .rw, 1⟩, ⟨1, 1, .rw, 0⟩, ⟨2, 1, .rw, 1⟩, ⟨8, 5, .rw, 0⟩, ⟨16, 5, .rw, 1⟩, ⟨24, 5, .rw, 16⟩, ⟨32, 16, .rw, 10⟩, ⟨48, 16, .rw, 100⟩]⟩  -- PWR_CTRL
  , ⟨0x40008, 0x8, 1, 0x0, 1, [⟨0, 5, .ro, 0⟩, ⟨8, 5, .ro, 0⟩, ⟨16, 16, .ro, 0⟩, ⟨32, 32, .ro, 0⟩]⟩  -- PWR_LADDER
  , ⟨0x40010, 0x8, 1, 0x0, 1, [⟨0, 1, .rw, 0⟩, ⟨8, 10, .rw, 1⟩, ⟨20, 4, .rw, 0⟩]⟩  -- PWR_FEED_CFG
  , ⟨0x40018, 0x8, 1, 0x0, 1, [⟨0, 20, .rw, 0⟩, ⟨32, 20, .rw, 0⟩]⟩  -- PWR_FEED_SCALE
  , ⟨0x40020, 0x8, 1, 0x0, 1, [⟨0, 24, .rw, 16777215⟩, ⟨24, 20, .rw, 0⟩, ⟨44, 20, .rw, 0⟩]⟩  -- PWR_FEED_LIMIT
  , ⟨0x40028, 0x8, 1, 0x0, 1, [⟨0, 16, .ro, 0⟩, ⟨16, 16, .ro, 0⟩, ⟨32, 24, .ro, 0⟩, ⟨56, 1, .ro, 0⟩, ⟨57, 1, .ro, 0⟩]⟩  -- PWR_FEED
  , ⟨0x40030, 0x8, 1, 0x0, 1, [⟨0, 24, .rw, 16777215⟩, ⟨24, 24, .rw, 0⟩, ⟨48, 1, .rw, 0⟩]⟩  -- PWR_FC_LIMIT
  , ⟨0x40038, 0x8, 1, 0x0, 1, [⟨0, 11, .rw, 100⟩, ⟨12, 20, .rw, 0⟩]⟩  -- PWR_FC_CFG
  , ⟨0x40040, 0x8, 1, 0x0, 1, [⟨0, 24, .ro, 0⟩, ⟨24, 24, .ro, 0⟩, ⟨48, 1, .ro, 0⟩]⟩  -- PWR_FC
  , ⟨0x40048, 0x8, 1, 0x0, 1, [⟨0, 10, .rw, 100⟩, ⟨16, 16, .rw, 1000⟩, ⟨32, 1, .rw, 1⟩]⟩  -- PWR_CAL
  , ⟨0x40050, 0x8, 1, 0x0, 1, [⟨0, 12, .rw, 400⟩, ⟨16, 12, .rw, 460⟩]⟩  -- PWR_THERM_LIMIT
  , ⟨0x40058, 0x8, 1, 0x0, 1, [⟨0, 16, .rw, 0⟩, ⟨16, 16, .rw, 0⟩, ⟨32, 16, .rw, 0⟩, ⟨48, 16, .ro, 0⟩]⟩  -- PWR_ALARM
  , ⟨0x40060, 0x8, 1, 0x0, 1, [⟨0, 8, .rw, 0⟩, ⟨8, 8, .ro, 0⟩, ⟨16, 8, .rw, 0⟩]⟩  -- PWR_SHED
  , ⟨0x40068, 0x8, 1, 0x0, 1, [⟨0, 1, .w1c, 0⟩, ⟨1, 1, .w1c, 0⟩, ⟨2, 1, .w1c, 0⟩, ⟨3, 1, .w1c, 0⟩, ⟨4, 1, .w1c, 0⟩, ⟨5, 1, .w1c, 0⟩, ⟨6, 1, .w1c, 0⟩, ⟨7, 1, .w1c, 0⟩, ⟨8, 1, .w1c, 0⟩, ⟨9, 1, .w1c, 0⟩, ⟨10, 1, .w1c, 0⟩, ⟨11, 1, .w1c, 0⟩, ⟨12, 1, .w1c, 0⟩, ⟨13, 1, .w1c, 0⟩, ⟨14, 1, .w1c, 0⟩]⟩  -- PWR_EVENT
  , ⟨0x40070, 0x8, 1, 0x0, 1, [⟨0, 1, .rw, 0⟩, ⟨1, 1, .rw, 0⟩, ⟨2, 1, .rw, 0⟩, ⟨3, 1, .rw, 0⟩, ⟨4, 1, .rw, 0⟩, ⟨5, 1, .rw, 0⟩, ⟨6, 1, .rw, 0⟩, ⟨7, 1, .rw, 0⟩, ⟨8, 1, .rw, 0⟩, ⟨9, 1, .rw, 0⟩, ⟨10, 1, .rw, 0⟩, ⟨11, 1, .rw, 0⟩, ⟨12, 1, .rw, 0⟩, ⟨13, 1, .rw, 0⟩, ⟨14, 1, .rw, 0⟩]⟩  -- PWR_EVENT_MASK
  , ⟨0x40078, 0x8, 1, 0x0, 1, [⟨0, 1, .rw, 1⟩]⟩  -- PWR_PMBUS
  , ⟨0x40400, 0x8, 16, 0x0, 1, [⟨0, 4, .rw, 0⟩, ⟨16, 32, .rw, 0⟩]⟩  -- PWR_RUNG
  , ⟨0x40500, 0x8, 6, 0x0, 1, [⟨0, 12, .rw, 0⟩, ⟨12, 12, .rw, 0⟩, ⟨24, 12, .rw, 0⟩, ⟨36, 1, .rw, 0⟩, ⟨37, 7, .rw, 0⟩, ⟨44, 8, .rw, 0⟩, ⟨52, 12, .rw, 0⟩]⟩  -- PWR_RAIL
  , ⟨0x40540, 0x8, 6, 0x0, 1, [⟨0, 12, .ro, 0⟩, ⟨12, 20, .ro, 0⟩, ⟨32, 9, .ro, 256⟩, ⟨41, 1, .ro, 0⟩]⟩  -- PWR_RAIL_STAT
  , ⟨0x40600, 0x8, 16, 0x0, 1, [⟨0, 64, .rw, 0⟩]⟩  -- PWR_PORTSET
  , ⟨0x40700, 0x8, 9, 0x0, 1, [⟨0, 48, .ro, 0⟩]⟩  -- PWR_ACC
  , ⟨0x40780, 0x8, 16, 0x0, 1, [⟨0, 48, .ro, 0⟩]⟩  -- PWR_ALARM_OVR
  , ⟨0x40800, 0x8, 11, 0x0, 1, [⟨0, 48, .ro, 0⟩]⟩  -- PWR_COUNT
  , ⟨0x41000, 0x8, 288, 0x0, 1, [⟨0, 8, .rw, 0⟩, ⟨8, 8, .ro, 0⟩, ⟨16, 1, .rw, 1⟩, ⟨17, 1, .ro, 0⟩, ⟨18, 6, .ro, 0⟩, ⟨24, 12, .ro, 0⟩, ⟨36, 12, .ro, 0⟩, ⟨48, 12, .ro, 0⟩]⟩  -- PWR_REGION
  , ⟨0x42000, 0x8, 288, 0x0, 1, [⟨0, 54, .ro, 0⟩, ⟨54, 3, .ro, 0⟩]⟩  -- PWR_ADJ
  ]

def famsPWR1 : List RegFam :=
  [ ⟨0x43000, 0x8, 64, 0x0, 1, [⟨0, 12, .ro, 0⟩, ⟨12, 1, .ro, 0⟩]⟩  -- PWR_THERM
  ]

/-- The registers of block PWR. -/
def famsPWR : List RegFam := famsPWR0 ++ famsPWR1

def famsTIM0 : List RegFam :=
  [ ⟨0x80000, 0x8, 1, 0x0, 1, [⟨0, 32, .ro, 0⟩, ⟨32, 32, .ro, 0⟩]⟩  -- TIM_TIME
  , ⟨0x80008, 0x8, 1, 0x0, 1, [⟨0, 64, .ro, 0⟩]⟩  -- TIM_FREE
  , ⟨0x80010, 0x8, 1, 0x0, 1, [⟨0, 64, .ro, 0⟩]⟩  -- TIM_FREE_LATCH
  , ⟨0x80018, 0x8, 1, 0x0, 1, [⟨0, 32, .rw, 0⟩]⟩  -- TIM_RATE
  , ⟨0x80020, 0x8, 1, 0x0, 1, [⟨0, 40, .wo, 0⟩]⟩  -- TIM_STEP
  , ⟨0x80028, 0x8, 1, 0x0, 1, [⟨0, 1, .rw, 0⟩, ⟨1, 1, .ro, 1⟩]⟩  -- TIM_CTRL
  , ⟨0x80030, 0x8, 1, 0x0, 1, [⟨0, 2, .rw, 0⟩, ⟨2, 1, .rw, 0⟩, ⟨8, 6, .rw, 0⟩, ⟨16, 6, .rw, 0⟩, ⟨24, 1, .ws, 0⟩]⟩  -- TIM_HART_CTRL
  , ⟨0x80038, 0x8, 1, 0x0, 1, [⟨0, 16, .rw, 0⟩, ⟨16, 16, .rw, 0⟩]⟩  -- TIM_HART_GAIN
  , ⟨0x80040, 0x8, 1, 0x0, 1, [⟨0, 30, .rw, 1000⟩]⟩  -- TIM_HART_STEP
  , ⟨0x80048, 0x8, 1, 0x0, 1, [⟨0, 40, .wo, 0⟩]⟩  -- TIM_HART_SAMPLE
  , ⟨0x80050, 0x8, 1, 0x0, 1, [⟨0, 32, .ro, 0⟩, ⟨32, 32, .ro, 0⟩]⟩  -- TIM_HART_STATE
  , ⟨0x80058, 0x8, 1, 0x0, 1, [⟨0, 32, .rw, 0⟩, ⟨32, 1, .rw, 0⟩]⟩  -- TIM_PPS_IN
  , ⟨0x80060, 0x8, 1, 0x0, 1, [⟨0, 32, .rw, 0⟩, ⟨32, 1, .rw, 0⟩, ⟨40, 16, .rw, 100⟩]⟩  -- TIM_PPS_OUT
  , ⟨0x80068, 0x8, 1, 0x0, 1, [⟨0, 15, .rw, 0⟩, ⟨15, 1, .rw, 0⟩]⟩  -- TIM_TS_RING
  , ⟨0x80070, 0x8, 1, 0x0, 1, [⟨0, 15, .rw, 0⟩, ⟨15, 1, .rw, 0⟩]⟩  -- TIM_CAP_RING
  , ⟨0x80078, 0x8, 1, 0x0, 1, [⟨0, 16, .ro, 0⟩, ⟨16, 1, .ro, 0⟩]⟩  -- TIM_CAP_LEVEL
  , ⟨0x80080, 0x8, 1, 0x0, 1, [⟨0, 1, .w1c, 0⟩, ⟨1, 1, .w1c, 0⟩, ⟨2, 1, .w1c, 0⟩, ⟨3, 1, .w1c, 0⟩, ⟨4, 1, .w1c, 0⟩, ⟨5, 1, .w1c, 0⟩, ⟨6, 1, .w1c, 0⟩, ⟨7, 1, .w1c, 0⟩, ⟨8, 1, .w1c, 0⟩]⟩  -- TIM_EVENT
  , ⟨0x80088, 0x8, 1, 0x0, 1, [⟨0, 1, .rw, 0⟩, ⟨1, 1, .rw, 0⟩, ⟨2, 1, .rw, 0⟩, ⟨3, 1, .rw, 0⟩, ⟨4, 1, .rw, 0⟩, ⟨5, 1, .rw, 0⟩, ⟨6, 1, .rw, 0⟩, ⟨7, 1, .rw, 0⟩, ⟨8, 1, .rw, 0⟩]⟩  -- TIM_EVENT_MASK
  , ⟨0x80090, 0x8, 1, 0x0, 1, [⟨0, 16, .w1c, 0⟩, ⟨16, 16, .w1c, 0⟩]⟩  -- TIM_TRIG_EVENT
  , ⟨0x80098, 0x8, 1, 0x0, 1, [⟨0, 16, .rw, 0⟩, ⟨16, 16, .rw, 0⟩]⟩  -- TIM_TRIG_EVENT_MASK
  , ⟨0x800A0, 0x8, 1, 0x0, 1, [⟨0, 16, .w1c, 0⟩, ⟨16, 16, .w1c, 0⟩]⟩  -- TIM_CAP_EVENT
  , ⟨0x800A8, 0x8, 1, 0x0, 1, [⟨0, 16, .rw, 0⟩, ⟨16, 16, .rw, 0⟩]⟩  -- TIM_CAP_EVENT_MASK
  , ⟨0x80100, 0x8, 16, 0x0, 1, [⟨0, 32, .rw, 0⟩, ⟨32, 8, .rw, 0⟩]⟩  -- TIM_TRIG_TARGET
  , ⟨0x80180, 0x8, 16, 0x0, 1, [⟨0, 1, .ws, 0⟩, ⟨1, 1, .ws, 0⟩, ⟨2, 1, .ro, 0⟩, ⟨3, 1, .ro, 0⟩, ⟨4, 2, .rw, 0⟩, ⟨6, 1, .rw, 0⟩, ⟨8, 16, .rw, 10⟩, ⟨24, 30, .rw, 0⟩]⟩  -- TIM_TRIG_CTRL
  , ⟨0x80200, 0x8, 16, 0x0, 1, [⟨0, 1, .rw, 0⟩, ⟨1, 2, .rw, 0⟩, ⟨3, 1, .rw, 0⟩]⟩  -- TIM_CAP_CTRL
  ]

def famsTIM1 : List RegFam :=
  [ ⟨0x80280, 0x8, 16, 0x0, 1, [⟨0, 32, .rc, 0⟩, ⟨32, 8, .rc, 0⟩, ⟨40, 1, .rc, 0⟩, ⟨41, 1, .rc, 0⟩]⟩  -- TIM_CAP_LAST
  , ⟨0x80300, 0x8, 16, 0x0, 1, [⟨0, 48, .ro, 0⟩]⟩  -- TIM_CAP_OVR
  , ⟨0x81000, 0x8, 130, 0x0, 1, [⟨0, 16, .rw, 0⟩, ⟨16, 16, .rw, 0⟩]⟩  -- TIM_PORT_LAT
  , ⟨0x81800, 0x8, 130, 0x0, 1, [⟨0, 32, .rw, 0⟩]⟩  -- TIM_PORT_CORR
  , ⟨0x82000, 0x8, 12, 0x0, 1, [⟨0, 48, .ro, 0⟩]⟩  -- TIM_COUNT
  ]

/-- The registers of block TIM. -/
def famsTIM : List RegFam := famsTIM0 ++ famsTIM1

def famsGAT0 : List RegFam :=
  [ ⟨0xC0000, 0x40, 128, 0x0, 1, [⟨0, 1, .rw, 0⟩, ⟨1, 1, .ws, 0⟩, ⟨2, 1, .ws, 0⟩, ⟨8, 8, .rw, 255⟩, ⟨16, 8, .rw, 0⟩, ⟨24, 8, .rw, 20⟩]⟩  -- GAT_CTRL
  , ⟨0xC0008, 0x40, 128, 0x0, 1, [⟨0, 32, .rw, 0⟩, ⟨32, 11, .rw, 0⟩]⟩  -- GAT_ADMIN_BASE
  , ⟨0xC0010, 0x40, 128, 0x0, 1, [⟨0, 30, .rw, 0⟩, ⟨32, 30, .rw, 0⟩]⟩  -- GAT_ADMIN_CYCLE
  , ⟨0xC0018, 0x40, 128, 0x0, 1, [⟨0, 32, .ro, 0⟩, ⟨32, 11, .ro, 0⟩]⟩  -- GAT_OPER_BASE
  , ⟨0xC0020, 0x40, 128, 0x0, 1, [⟨0, 30, .ro, 0⟩, ⟨32, 30, .ro, 0⟩]⟩  -- GAT_OPER_CYCLE
  , ⟨0xC0028, 0x40, 128, 0x0, 1, [⟨0, 1, .ro, 0⟩, ⟨1, 3, .ro, 0⟩, ⟨4, 1, .ro, 0⟩, ⟨5, 1, .ro, 0⟩, ⟨8, 8, .ro, 255⟩, ⟨16, 10, .ro, 0⟩, ⟨32, 32, .ro, 0⟩]⟩  -- GAT_STATUS
  , ⟨0xC0030, 0x40, 128, 0x0, 1, [⟨0, 1, .w1c, 0⟩, ⟨1, 1, .w1c, 0⟩, ⟨2, 1, .w1c, 0⟩, ⟨3, 1, .w1c, 0⟩]⟩  -- GAT_EVENT
  , ⟨0xC0038, 0x40, 128, 0x0, 1, [⟨0, 1, .rw, 0⟩, ⟨1, 1, .rw, 0⟩, ⟨2, 1, .rw, 0⟩, ⟨3, 1, .rw, 0⟩]⟩  -- GAT_EVENT_MASK
  , ⟨0xC2000, 0x8, 1, 0x0, 1, [⟨0, 7, .rw, 0⟩, ⟨8, 1, .rw, 0⟩, ⟨16, 10, .rw, 0⟩]⟩  -- GAT_SEL
  , ⟨0xC2008, 0x8, 1, 0x0, 1, [⟨0, 8, .rw, 0⟩, ⟨8, 2, .rw, 0⟩, ⟨32, 30, .rw, 0⟩]⟩  -- GAT_DATA
  , ⟨0xC4000, 0x8, 128, 0x0, 1, [⟨0, 48, .ro, 0⟩]⟩  -- GAT_OVERSIZE
  , ⟨0xC4400, 0x8, 128, 0x0, 1, [⟨0, 48, .ro, 0⟩]⟩  -- GAT_OVERRUN
  , ⟨0xC4800, 0x8, 128, 0x0, 1, [⟨0, 48, .ro, 0⟩]⟩  -- GAT_CHANGES
  ]

/-- The registers of block GAT. -/
def famsGAT : List RegFam := famsGAT0

def famsPRT0 : List RegFam :=
  [ ⟨0x100000, 0x1000, 130, 0x0, 1, [⟨0, 7, .ro, 0⟩, ⟨8, 3, .ro, 0⟩, ⟨11, 1, .rw, 0⟩, ⟨12, 4, .rw, 0⟩, ⟨16, 1, .rw, 0⟩, ⟨17, 1, .rw, 0⟩, ⟨18, 1, .rw, 0⟩, ⟨20, 14, .rw, 0⟩, ⟨36, 1, .ro, 0⟩, ⟨37, 1, .ro, 0⟩]⟩  -- PRT_MODE
  , ⟨0x100008, 0x1000, 130, 0x0, 1, [⟨0, 1, .rw, 0⟩, ⟨1, 1, .ws, 0⟩]⟩  -- PRT_CTRL
  , ⟨0x100010, 0x1000, 130, 0x0, 1, [⟨0, 1, .ro, 0⟩, ⟨1, 3, .ro, 0⟩, ⟨4, 1, .ro, 0⟩, ⟨5, 1, .ro, 0⟩, ⟨6, 2, .ro, 0⟩, ⟨8, 4, .ro, 0⟩, ⟨12, 4, .ro, 0⟩, ⟨16, 16, .ro, 0⟩]⟩  -- PRT_STATUS
  , ⟨0x100018, 0x1000, 130, 0x0, 1, [⟨0, 10, .rw, 1023⟩, ⟨16, 1, .rw, 0⟩, ⟨17, 1, .ro, 0⟩, ⟨18, 1, .ro, 0⟩]⟩  -- PRT_AN_ADV
  , ⟨0x100020, 0x1000, 130, 0x0, 1, [⟨0, 10, .ro, 0⟩, ⟨16, 1, .ro, 0⟩, ⟨17, 1, .ro, 0⟩, ⟨18, 1, .ro, 0⟩]⟩  -- PRT_AN_LP
  , ⟨0x100028, 0x1000, 130, 0x0, 1, [⟨0, 10, .rw, 10⟩, ⟨16, 16, .rw, 100⟩]⟩  -- PRT_LINK_TIMER
  , ⟨0x100030, 0x1000, 130, 0x0, 1, [⟨0, 16, .rw, 0⟩]⟩  -- PRT_HOLD
  , ⟨0x100038, 0x1000, 132, 0x0, 1, [⟨0, 64, .rw, 0⟩]⟩  -- PRT_STALE
  , ⟨0x100040, 0x1000, 130, 0x0, 1, [⟨0, 1, .rw, 0⟩, ⟨1, 1, .rw, 0⟩, ⟨2, 2, .rw, 0⟩, ⟨8, 8, .rw, 10⟩]⟩  -- PRT_MM_CTRL
  , ⟨0x100048, 0x1000, 130, 0x0, 1, [⟨0, 3, .ro, 0⟩, ⟨3, 1, .ro, 0⟩]⟩  -- PRT_MM_STATUS
  , ⟨0x100050, 0x1000, 130, 0x0, 1, [⟨0, 1, .w1c, 0⟩, ⟨1, 1, .w1c, 0⟩, ⟨2, 1, .w1c, 0⟩, ⟨3, 1, .w1c, 0⟩, ⟨4, 1, .w1c, 0⟩, ⟨5, 1, .w1c, 0⟩, ⟨6, 1, .w1c, 0⟩]⟩  -- PRT_EVENT
  , ⟨0x100058, 0x1000, 130, 0x0, 1, [⟨0, 1, .rw, 0⟩, ⟨1, 1, .rw, 0⟩, ⟨2, 1, .rw, 0⟩, ⟨3, 1, .rw, 0⟩, ⟨4, 1, .rw, 0⟩, ⟨5, 1, .rw, 0⟩, ⟨6, 1, .rw, 0⟩]⟩  -- PRT_EVENT_MASK
  , ⟨0x100800, 0x8, 29, 0x1000, 132, [⟨0, 48, .ro, 0⟩]⟩  -- PRT_COUNT
  , ⟨0x184000, 0x8, 4, 0x0, 1, [⟨0, 7, .rw, 0⟩, ⟨7, 1, .rw, 0⟩, ⟨8, 2, .rw, 0⟩, ⟨16, 1, .ro, 1⟩]⟩  -- PRT_RCLK
  , ⟨0x184020, 0x8, 1, 0x0, 1, [⟨0, 4, .w1c, 0⟩]⟩  -- PRT_RCLK_EVENT
  , ⟨0x184028, 0x8, 1, 0x0, 1, [⟨0, 4, .rw, 0⟩]⟩  -- PRT_RCLK_EVENT_MASK
  , ⟨0x184100, 0x8, 96, 0x0, 1, [⟨0, 1, .ro, 0⟩, ⟨1, 1, .ro, 0⟩, ⟨2, 3, .ro, 0⟩, ⟨5, 1, .ro, 0⟩, ⟨6, 1, .ro, 0⟩, ⟨7, 1, .ro, 0⟩, ⟨8, 7, .ro, 0⟩]⟩  -- PRT_LANE_STATUS
  ]

/-- The registers of block PRT. -/
def famsPRT : List RegFam := famsPRT0

def famsPRS0 : List RegFam :=
  [ ⟨0x200000, 0x8, 1, 0x0, 1, [⟨0, 24, .rw, 10000⟩, ⟨32, 16, .rw, 64⟩]⟩  -- PRS_PUNT_RATE
  , ⟨0x200008, 0x8, 1, 0x0, 1, [⟨0, 16, .ro, 64⟩]⟩  -- PRS_PUNT_LEVEL
  , ⟨0x200010, 0x8, 1, 0x0, 1, [⟨0, 1, .w1c, 0⟩, ⟨1, 1, .w1c, 0⟩, ⟨2, 1, .w1c, 0⟩]⟩  -- PRS_EVENT
  , ⟨0x200018, 0x8, 1, 0x0, 1, [⟨0, 1, .rw, 0⟩, ⟨1, 1, .rw, 0⟩, ⟨2, 1, .rw, 0⟩]⟩  -- PRS_EVENT_MASK
  , ⟨0x200020, 0x8, 1, 0x0, 1, [⟨0, 8, .rc, 0⟩, ⟨8, 3, .rc, 0⟩, ⟨11, 1, .rc, 0⟩, ⟨12, 3, .rc, 0⟩, ⟨16, 8, .rc, 0⟩, ⟨24, 9, .rc, 0⟩, ⟨33, 9, .rc, 0⟩, ⟨42, 5, .rc, 0⟩, ⟨47, 1, .rc, 0⟩]⟩  -- PRS_MAL_LAST
  , ⟨0x201000, 0x8, 256, 0x0, 1, [⟨0, 48, .ro, 0⟩]⟩  -- PRS_MAL_COUNT
  , ⟨0x201800, 0x8, 10, 0x0, 1, [⟨0, 48, .ro, 0⟩]⟩  -- PRS_COUNT
  ]

/-- The registers of block PRS. -/
def famsPRS : List RegFam := famsPRS0

def famsTBL0 : List RegFam :=
  [ ⟨0x280000, 0x8, 1, 0x0, 1, [⟨0, 15, .rw, 0⟩, ⟨15, 1, .rw, 0⟩]⟩  -- TBL_NOTIFY_RING
  , ⟨0x280008, 0x8, 1, 0x0, 1, [⟨0, 16, .rw, 100⟩]⟩  -- TBL_FAWN_TIMEOUT
  , ⟨0x280010, 0x8, 1, 0x0, 1, [⟨0, 13, .ro, 0⟩, ⟨16, 13, .ro, 0⟩, ⟨32, 9, .ro, 0⟩]⟩  -- TBL_FAWN_STATUS
  , ⟨0x280018, 0x8, 1, 0x0, 1, [⟨0, 1, .w1c, 0⟩, ⟨1, 1, .w1c, 0⟩, ⟨2, 1, .w1c, 0⟩, ⟨3, 1, .w1c, 0⟩]⟩  -- TBL_EVENT
  , ⟨0x280020, 0x8, 1, 0x0, 1, [⟨0, 1, .rw, 0⟩, ⟨1, 1, .rw, 0⟩, ⟨2, 1, .rw, 0⟩, ⟨3, 1, .rw, 0⟩]⟩  -- TBL_EVENT_MASK
  , ⟨0x280028, 0x8, 1, 0x0, 1, [⟨0, 8, .rc, 0⟩, ⟨8, 15, .rc, 0⟩, ⟨24, 8, .rc, 0⟩, ⟨32, 1, .rc, 0⟩]⟩  -- TBL_ECC_LAST
  , ⟨0x281000, 0x8, 256, 0x0, 1, [⟨0, 2, .ro, 0⟩, ⟨2, 1, .ro, 0⟩, ⟨3, 1, .ro, 0⟩, ⟨4, 24, .ro, 0⟩, ⟨32, 32, .ro, 0⟩]⟩  -- TBL_TABLE
  , ⟨0x281800, 0x8, 16, 0x0, 1, [⟨0, 48, .ro, 0⟩]⟩  -- TBL_COUNT
  ]

/-- The registers of block TBL. -/
def famsTBL : List RegFam := famsTBL0

def famsAAR0 : List RegFam :=
  [ ⟨0x300000, 0x8, 1, 0x0, 1, [⟨0, 1, .rw, 0⟩, ⟨1, 1, .rw, 0⟩, ⟨16, 16, .rw, 1000⟩, ⟨32, 1, .ws, 0⟩]⟩  -- AAR_CMP_CTRL
  , ⟨0x300008, 0x8, 1, 0x0, 1, [⟨0, 1, .ro, 0⟩, ⟨8, 8, .ro, 0⟩, ⟨16, 18, .ro, 0⟩, ⟨48, 16, .ro, 0⟩]⟩  -- AAR_CMP_STATUS
  , ⟨0x300010, 0x8, 1, 0x0, 1, [⟨0, 8, .rc, 0⟩, ⟨8, 18, .rc, 0⟩, ⟨26, 2, .rc, 0⟩, ⟨28, 1, .rc, 0⟩]⟩  -- AAR_CMP_LAST
  , ⟨0x300018, 0x8, 1, 0x0, 1, [⟨0, 1, .w1c, 0⟩, ⟨1, 1, .w1c, 0⟩, ⟨2, 1, .w1c, 0⟩, ⟨3, 1, .w1c, 0⟩, ⟨4, 1, .w1c, 0⟩]⟩  -- AAR_EVENT
  , ⟨0x300020, 0x8, 1, 0x0, 1, [⟨0, 1, .rw, 0⟩, ⟨1, 1, .rw, 0⟩, ⟨2, 1, .rw, 0⟩, ⟨3, 1, .rw, 0⟩, ⟨4, 1, .rw, 0⟩]⟩  -- AAR_EVENT_MASK
  , ⟨0x301000, 0x8, 256, 0x0, 1, [⟨0, 1, .rw, 0⟩, ⟨1, 1, .rw, 0⟩, ⟨6, 42, .rw, 0⟩, ⟨48, 10, .rw, 0⟩]⟩  -- AAR_SHADOW
  , ⟨0x301800, 0x8, 256, 0x0, 1, [⟨0, 2, .ro, 0⟩, ⟨2, 1, .ro, 0⟩, ⟨3, 1, .ro, 0⟩, ⟨4, 7, .ro, 0⟩, ⟨13, 19, .ro, 0⟩, ⟨32, 32, .ro, 0⟩]⟩  -- AAR_TABLE
  , ⟨0x302000, 0x8, 9, 0x0, 1, [⟨0, 48, .ro, 0⟩]⟩  -- AAR_COUNT
  ]

/-- The registers of block AAR. -/
def famsAAR : List RegFam := famsAAR0

def famsACT0 : List RegFam :=
  [ ⟨0x380000, 0x8, 1, 0x0, 1, [⟨0, 1, .w1c, 0⟩, ⟨1, 1, .w1c, 0⟩, ⟨2, 1, .w1c, 0⟩, ⟨3, 1, .w1c, 0⟩, ⟨4, 1, .w1c, 0⟩]⟩  -- ACT_EVENT
  , ⟨0x380008, 0x8, 1, 0x0, 1, [⟨0, 1, .rw, 0⟩, ⟨1, 1, .rw, 0⟩, ⟨2, 1, .rw, 0⟩, ⟨3, 1, .rw, 0⟩, ⟨4, 1, .rw, 0⟩]⟩  -- ACT_EVENT_MASK
  , ⟨0x380800, 0x8, 132, 0x0, 1, [⟨0, 14, .rw, 0⟩]⟩  -- ACT_PORT_SUB
  , ⟨0x381000, 0x8, 32, 0x0, 1, [⟨0, 16, .ro, 0⟩, ⟨16, 16, .ro, 0⟩, ⟨32, 1, .rw, 0⟩]⟩  -- ACT_COST
  , ⟨0x381100, 0x8, 32, 0x0, 1, [⟨0, 16, .ro, 0⟩, ⟨16, 16, .ro, 0⟩, ⟨32, 8, .ro, 0⟩]⟩  -- ACT_COST_REF
  , ⟨0x381200, 0x8, 32, 0x0, 1, [⟨0, 48, .ro, 0⟩]⟩  -- ACT_CLASS_PJ
  , ⟨0x381300, 0x8, 32, 0x0, 1, [⟨0, 48, .ro, 0⟩]⟩  -- ACT_CLASS_CNT
  , ⟨0x381400, 0x8, 32, 0x0, 1, [⟨0, 48, .ro, 0⟩]⟩  -- ACT_CLASS_BYTES
  , ⟨0x381500, 0x8, 16, 0x0, 1, [⟨0, 48, .ro, 0⟩]⟩  -- ACT_COUNT
  , ⟨0x388000, 0x8, 4096, 0x0, 1, [⟨0, 14, .rw, 0⟩, ⟨16, 9, .rw, 0⟩, ⟨28, 4, .rw, 0⟩, ⟨32, 1, .rw, 0⟩, ⟨33, 1, .rw, 0⟩]⟩  -- ACT_GROUP
  , ⟨0x390000, 0x8, 16384, 0x0, 1, [⟨0, 8, .rw, 0⟩, ⟨8, 1, .rw, 0⟩, ⟨16, 20, .rw, 0⟩]⟩  -- ACT_MEMBER
  ]

/-- The registers of block ACT. -/
def famsACT : List RegFam := famsACT0

def famsENG0 : List RegFam :=
  [ ⟨0x400000, 0x4000, 256, 0x0, 1, [⟨0, 1, .rw, 1⟩]⟩  -- ENG_CTRL
  , ⟨0x400008, 0x4000, 256, 0x0, 1, [⟨0, 1, .ro, 0⟩, ⟨1, 1, .ro, 0⟩, ⟨2, 1, .ro, 0⟩, ⟨8, 6, .ro, 0⟩, ⟨16, 8, .ro, 0⟩, ⟨24, 4, .ro, 0⟩]⟩  -- ENG_STATUS
  , ⟨0x400010, 0x4000, 256, 0x0, 1, [⟨0, 4, .rc, 0⟩, ⟨4, 3, .rc, 0⟩, ⟨8, 12, .rc, 0⟩, ⟨20, 8, .rc, 0⟩, ⟨28, 1, .rc, 0⟩]⟩  -- ENG_TRAP_LAST
  , ⟨0x400018, 0x4000, 256, 0x0, 1, [⟨0, 1, .w1c, 0⟩, ⟨1, 1, .w1c, 0⟩]⟩  -- ENG_EVENT
  , ⟨0x400020, 0x4000, 256, 0x0, 1, [⟨0, 1, .rw, 0⟩, ⟨1, 1, .rw, 0⟩]⟩  -- ENG_EVENT_MASK
  , ⟨0x400028, 0x4000, 256, 0x0, 1, [⟨0, 14, .rw, 0⟩, ⟨16, 1, .rw, 0⟩]⟩  -- ENG_MEM_ADDR
  , ⟨0x400030, 0x4000, 256, 0x0, 1, [⟨0, 64, .rw, 0⟩]⟩  -- ENG_MEM_DATA
  , ⟨0x400040, 0x8, 8, 0x4000, 256, [⟨0, 3, .ro, 0⟩, ⟨3, 1, .ro, 0⟩, ⟨16, 12, .ro, 0⟩, ⟨32, 4, .ro, 0⟩, ⟨48, 16, .ro, 0⟩]⟩  -- ENG_THREAD
  , ⟨0x400100, 0x8, 8, 0x4000, 256, [⟨0, 48, .ro, 0⟩]⟩  -- ENG_COUNT
  , ⟨0x402000, 0x8, 1, 0x0, 1, [⟨0, 16, .rw, 1000⟩]⟩  -- ENG_FRAG_TIMEOUT
  , ⟨0x402008, 0x8, 1, 0x0, 1, [⟨0, 13, .ro, 0⟩]⟩  -- ENG_FRAG_STATUS
  , ⟨0x402010, 0x8, 1, 0x0, 1, [⟨0, 1, .ws, 0⟩]⟩  -- ENG_FRAG_FLUSH
  , ⟨0x402018, 0x8, 1, 0x0, 1, [⟨0, 15, .rw, 0⟩, ⟨15, 1, .rw, 0⟩]⟩  -- ENG_MSG_RING
  , ⟨0x402020, 0x8, 1, 0x0, 1, [⟨0, 16, .rw, 4096⟩]⟩  -- ENG_LIMIT
  , ⟨0x402028, 0x8, 1, 0x0, 1, [⟨0, 1, .w1c, 0⟩, ⟨1, 1, .w1c, 0⟩, ⟨2, 1, .w1c, 0⟩, ⟨3, 1, .w1c, 0⟩]⟩  -- ENG_GEVENT
  , ⟨0x402030, 0x8, 1, 0x0, 1, [⟨0, 1, .rw, 0⟩, ⟨1, 1, .rw, 0⟩, ⟨2, 1, .rw, 0⟩, ⟨3, 1, .rw, 0⟩]⟩  -- ENG_GEVENT_MASK
  , ⟨0x402100, 0x8, 8, 0x0, 1, [⟨0, 48, .ro, 0⟩]⟩  -- ENG_GCOUNT
  ]

/-- The registers of block ENG. -/
def famsENG : List RegFam := famsENG0

def famsBUF0 : List RegFam :=
  [ ⟨0x800000, 0x8, 1, 0x0, 1, [⟨0, 19, .rw, 327680⟩]⟩  -- BUF_SHARED_LIMIT
  , ⟨0x800008, 0x8, 1, 0x0, 1, [⟨0, 19, .rw, 32768⟩]⟩  -- BUF_MC_LIMIT
  , ⟨0x800010, 0x8, 1, 0x0, 1, [⟨0, 20, .ro, 393216⟩, ⟨20, 20, .ro, 0⟩, ⟨40, 20, .ro, 0⟩]⟩  -- BUF_STATUS
  , ⟨0x800018, 0x8, 1, 0x0, 1, [⟨0, 1, .rw, 0⟩, ⟨1, 4, .rw, 0⟩, ⟨16, 16, .rw, 0⟩, ⟨32, 13, .rw, 0⟩]⟩  -- BUF_SPILL_CTRL
  , ⟨0x800020, 0x8, 1, 0x0, 1, [⟨0, 27, .ro, 0⟩, ⟨32, 27, .ro, 0⟩]⟩  -- BUF_SPILL_STATUS
  , ⟨0x800028, 0x8, 1, 0x0, 1, [⟨0, 16, .rw, 100⟩]⟩  -- BUF_RESIDUE_LIMIT
  , ⟨0x800030, 0x8, 1, 0x0, 1, [⟨0, 13, .ro, 0⟩]⟩  -- BUF_RESIDUE_STATUS
  , ⟨0x800038, 0x8, 1, 0x0, 1, [⟨0, 1, .rw, 0⟩, ⟨1, 2, .rw, 0⟩, ⟨16, 16, .rw, 0⟩, ⟨32, 16, .rw, 0⟩]⟩  -- BUF_CAP_CTRL
  , ⟨0x800040, 0x8, 1, 0x0, 1, [⟨0, 32, .ro, 0⟩]⟩  -- BUF_CAP_STATUS
  , ⟨0x800048, 0x8, 1, 0x0, 1, [⟨0, 1, .w1c, 0⟩, ⟨1, 1, .w1c, 0⟩, ⟨2, 1, .w1c, 0⟩, ⟨3, 1, .w1c, 0⟩, ⟨4, 1, .w1c, 0⟩, ⟨5, 1, .w1c, 0⟩, ⟨6, 1, .w1c, 0⟩, ⟨7, 1, .w1c, 0⟩, ⟨8, 1, .w1c, 0⟩]⟩  -- BUF_EVENT
  , ⟨0x800050, 0x8, 1, 0x0, 1, [⟨0, 1, .rw, 0⟩, ⟨1, 1, .rw, 0⟩, ⟨2, 1, .rw, 0⟩, ⟨3, 1, .rw, 0⟩, ⟨4, 1, .rw, 0⟩, ⟨5, 1, .rw, 0⟩, ⟨6, 1, .rw, 0⟩, ⟨7, 1, .rw, 0⟩, ⟨8, 1, .rw, 0⟩]⟩  -- BUF_EVENT_MASK
  , ⟨0x800400, 0x8, 64, 0x0, 1, [⟨0, 16, .rw, 0⟩, ⟨16, 4, .rw, 8⟩, ⟨20, 2, .rw, 1⟩, ⟨22, 2, .rw, 2⟩, ⟨24, 1, .rw, 0⟩, ⟨32, 19, .rw, 0⟩]⟩  -- BUF_PROFILE
  , ⟨0x800808, 0x8, 127, 0x0, 1, [⟨0, 2, .rw, 0⟩, ⟨8, 8, .rw, 0⟩, ⟨16, 14, .rw, 0⟩, ⟨30, 3, .rw, 0⟩, ⟨33, 14, .rw, 0⟩]⟩  -- BUF_MSESS_A
  , ⟨0x800C08, 0x8, 127, 0x0, 1, [⟨0, 20, .rw, 0⟩, ⟨20, 24, .rw, 0⟩, ⟨44, 1, .rw, 0⟩, ⟨45, 3, .rw, 1⟩, ⟨48, 15, .rw, 0⟩]⟩  -- BUF_MSESS_B
  , ⟨0x801000, 0x8, 18, 0x0, 1, [⟨0, 48, .ro, 0⟩]⟩  -- BUF_COUNT
  , ⟨0x808000, 0x8, 16384, 0x0, 1, [⟨0, 16, .rw, 0⟩, ⟨16, 10, .rw, 0⟩]⟩  -- BUF_MCGROUP
  , ⟨0x840000, 0x8, 65536, 0x0, 1, [⟨0, 8, .rw, 0⟩, ⟨8, 1, .rw, 0⟩, ⟨9, 1, .rw, 0⟩, ⟨11, 14, .rw, 0⟩, ⟨25, 20, .rw, 0⟩]⟩  -- BUF_MCLIST
  , ⟨0x8C0000, 0x8, 131072, 0x0, 1, [⟨0, 19, .ro, 0⟩, ⟨19, 19, .ro, 0⟩, ⟨38, 26, .ro, 0⟩]⟩  -- BUF_QOCC
  ]

/-- The registers of block BUF. -/
def famsBUF : List RegFam := famsBUF0

def famsSCH0 : List RegFam :=
  [ ⟨0xA00000, 0x8, 1, 0x0, 1, [⟨0, 1, .w1c, 0⟩, ⟨1, 1, .w1c, 0⟩, ⟨2, 1, .w1c, 0⟩]⟩  -- SCH_EVENT
  , ⟨0xA00008, 0x8, 1, 0x0, 1, [⟨0, 1, .rw, 0⟩, ⟨1, 1, .rw, 0⟩, ⟨2, 1, .rw, 0⟩]⟩  -- SCH_EVENT_MASK
  , ⟨0xA00010, 0x8, 1, 0x0, 1, [⟨0, 17, .rw, 0⟩, ⟨32, 1, .ws, 0⟩]⟩  -- SCH_FLUSH
  , ⟨0xA00018, 0x8, 1, 0x0, 1, [⟨0, 17, .rw, 0⟩, ⟨18, 3, .rw, 0⟩]⟩  -- SCH_LEVEL_SEL
  , ⟨0xA00028, 0x8, 1, 0x0, 1, [⟨0, 9, .ro, 256⟩]⟩  -- SCH_ESCALE
  , ⟨0xA00020, 0x8, 1, 0x0, 1, [⟨0, 48, .ro, 0⟩, ⟨48, 1, .ro, 0⟩, ⟨49, 1, .ro, 0⟩, ⟨50, 1, .ro, 0⟩]⟩  -- SCH_LEVEL_DATA
  , ⟨0xA00100, 0x8, 7, 0x0, 1, [⟨0, 48, .ro, 0⟩]⟩  -- SCH_COUNT
  , ⟨0xA01000, 0x8, 132, 0x0, 1, [⟨0, 16, .rw, 0⟩, ⟨16, 20, .rw, 0⟩, ⟨36, 1, .rw, 0⟩, ⟨37, 1, .rw, 0⟩, ⟨38, 8, .rw, 20⟩]⟩  -- SCH_PORT
  , ⟨0xA02000, 0x8, 2048, 0x0, 1, [⟨0, 16, .rw, 0⟩, ⟨16, 20, .rw, 0⟩, ⟨36, 1, .rw, 0⟩, ⟨37, 1, .rw, 0⟩, ⟨38, 8, .rw, 1⟩, ⟨48, 11, .ro, 0⟩, ⟨63, 1, .ro, 0⟩]⟩  -- SCH_GROUP
  , ⟨0xA10000, 0x8, 16384, 0x0, 1, [⟨0, 16, .rw, 0⟩, ⟨16, 20, .rw, 0⟩, ⟨36, 1, .rw, 0⟩, ⟨37, 1, .rw, 0⟩, ⟨38, 8, .rw, 1⟩, ⟨48, 11, .ro, 0⟩, ⟨63, 1, .ro, 0⟩]⟩  -- SCH_SUB
  , ⟨0xA40000, 0x8, 131072, 0x0, 1, [⟨0, 16, .rw, 0⟩, ⟨16, 20, .rw, 0⟩, ⟨36, 1, .rw, 0⟩, ⟨37, 1, .rw, 0⟩, ⟨38, 8, .rw, 1⟩, ⟨46, 1, .rw, 0⟩, ⟨47, 1, .rw, 0⟩, ⟨48, 6, .rw, 0⟩, ⟨54, 2, .rw, 0⟩]⟩  -- SCH_QCFG
  , ⟨0xB80000, 0x8, 65536, 0x0, 1, [⟨0, 16, .rw, 0⟩, ⟨16, 20, .rw, 0⟩, ⟨36, 1, .rw, 0⟩, ⟨37, 1, .rw, 0⟩]⟩  -- SCH_POL
  , ⟨0xC00000, 0x8, 65536, 0x0, 1, [⟨0, 48, .ro, 0⟩]⟩  -- SCH_POL_DROP
  ]

/-- The registers of block SCH. -/
def famsSCH : List RegFam := famsSCH0

def famsDMC0 : List RegFam :=
  [ ⟨0x1000000, 0x8, 1, 0x0, 1, [⟨0, 16, .rw, 200⟩, ⟨16, 8, .rw, 192⟩, ⟨24, 8, .rw, 64⟩]⟩  -- DMC_CTRL
  , ⟨0x1000040, 0x8, 4, 0x0, 1, [⟨0, 16, .rw, 0⟩, ⟨16, 16, .rw, 0⟩]⟩  -- DMC_RANGE
  , ⟨0x1000060, 0x8, 1, 0x0, 1, [⟨0, 12, .rw, 512⟩, ⟨16, 12, .rw, 768⟩, ⟨32, 12, .rw, 128⟩, ⟨48, 12, .rw, 256⟩]⟩  -- DMC_RESERVE
  , ⟨0x1000068, 0x8, 1, 0x0, 1, [⟨0, 1, .rw, 1⟩, ⟨1, 1, .rw, 1⟩, ⟨2, 1, .rw, 1⟩, ⟨8, 8, .rw, 4⟩]⟩  -- DMC_REFRESH
  , ⟨0x1000080, 0x8, 4, 0x0, 1, [⟨0, 3, .rw, 0⟩, ⟨8, 4, .ro, 0⟩]⟩  -- DMC_SP
  , ⟨0x10000A0, 0x8, 1, 0x0, 1, [⟨0, 2, .rw, 0⟩, ⟨8, 2, .ro, 0⟩]⟩  -- DMC_SP_CTRL
  , ⟨0x10000A8, 0x8, 1, 0x0, 1, [⟨0, 4, .rw, 0⟩, ⟨4, 2, .rw, 0⟩, ⟨8, 1, .ws, 0⟩, ⟨16, 4, .ro, 0⟩]⟩  -- DMC_TRAIN
  , ⟨0x10000B0, 0x8, 1, 0x0, 1, [⟨0, 16, .rw, 250⟩, ⟨16, 8, .rw, 10⟩]⟩  -- DMC_RETRAIN
  , ⟨0x10000B8, 0x8, 1, 0x0, 1, [⟨0, 28, .rc, 0⟩, ⟨28, 2, .rc, 0⟩, ⟨30, 2, .rc, 0⟩, ⟨32, 1, .rc, 0⟩, ⟨33, 1, .rc, 0⟩]⟩  -- DMC_ECC_LAST
  , ⟨0x10000C0, 0x8, 1, 0x0, 1, [⟨0, 1, .w1c, 0⟩, ⟨1, 1, .w1c, 0⟩, ⟨2, 1, .w1c, 0⟩, ⟨3, 1, .w1c, 0⟩, ⟨4, 1, .w1c, 0⟩, ⟨5, 1, .w1c, 0⟩, ⟨6, 1, .w1c, 0⟩, ⟨7, 1, .w1c, 0⟩]⟩  -- DMC_EVENT
  , ⟨0x10000C8, 0x8, 1, 0x0, 1, [⟨0, 1, .rw, 0⟩, ⟨1, 1, .rw, 0⟩, ⟨2, 1, .rw, 0⟩, ⟨3, 1, .rw, 0⟩, ⟨4, 1, .rw, 0⟩, ⟨5, 1, .rw, 0⟩, ⟨6, 1, .rw, 0⟩, ⟨7, 1, .rw, 0⟩]⟩  -- DMC_EVENT_MASK
  , ⟨0x1000100, 0x8, 4, 0x0, 1, [⟨0, 1, .rw, 0⟩, ⟨1, 1, .rw, 0⟩, ⟨4, 3, .rw, 0⟩]⟩  -- DMC_CHAN_CFG
  , ⟨0x1000120, 0x8, 4, 0x0, 1, [⟨0, 3, .ro, 0⟩, ⟨4, 2, .ro, 0⟩, ⟨6, 1, .ro, 0⟩, ⟨8, 5, .ro, 0⟩, ⟨16, 5, .ro, 0⟩, ⟨32, 14, .ro, 0⟩]⟩  -- DMC_CHAN_STATUS
  , ⟨0x1001000, 0x8, 14, 0x100, 4, [⟨0, 48, .ro, 0⟩]⟩  -- DMC_COUNT
  ]

/-- The registers of block DMC. -/
def famsDMC : List RegFam := famsDMC0

def famsHIF0 : List RegFam :=
  [ ⟨0x2000000, 0x8, 1, 0x0, 1, [⟨0, 4, .ro, 0⟩, ⟨4, 6, .ro, 0⟩]⟩  -- HIF_LINK
  , ⟨0x2000008, 0x8, 1, 0x0, 1, [⟨0, 1, .w1c, 0⟩, ⟨1, 1, .w1c, 0⟩, ⟨2, 1, .w1c, 0⟩, ⟨3, 1, .w1c, 0⟩, ⟨4, 1, .w1c, 0⟩, ⟨5, 1, .w1c, 0⟩, ⟨6, 1, .w1c, 0⟩]⟩  -- HIF_EVENT
  , ⟨0x2000010, 0x8, 1, 0x0, 1, [⟨0, 1, .rw, 0⟩, ⟨1, 1, .rw, 0⟩, ⟨2, 1, .rw, 0⟩, ⟨3, 1, .rw, 0⟩, ⟨4, 1, .rw, 0⟩, ⟨5, 1, .rw, 0⟩, ⟨6, 1, .rw, 0⟩]⟩  -- HIF_EVENT_MASK
  , ⟨0x2000018, 0x8, 1, 0x0, 1, [⟨0, 28, .rc, 0⟩, ⟨28, 4, .rc, 0⟩, ⟨32, 2, .rc, 0⟩, ⟨34, 1, .rc, 0⟩, ⟨35, 1, .rc, 0⟩]⟩  -- HIF_ACCESS_LOG
  , ⟨0x2000020, 0x8, 1, 0x0, 1, [⟨0, 10, .ro, 0⟩]⟩  -- HIF_HOST_STATUS
  , ⟨0x2000080, 0x8, 16, 0x0, 1, [⟨0, 15, .rw, 0⟩, ⟨15, 1, .rw, 0⟩, ⟨16, 1, .rw, 0⟩]⟩  -- HIF_FUNC
  , ⟨0x2000100, 0x8, 14, 0x0, 1, [⟨0, 48, .ro, 0⟩]⟩  -- HIF_COUNT
  , ⟨0x2001000, 0x8, 512, 0x0, 1, [⟨0, 4, .rw, 0⟩]⟩  -- HIF_GROUP
  , ⟨0x2002000, 0x8, 768, 0x0, 1, [⟨0, 7, .rw, 0⟩, ⟨8, 4, .rw, 0⟩, ⟨16, 1, .rw, 0⟩]⟩  -- HIF_EVT_MAP
  , ⟨0x2004000, 0x8, 1024, 0x0, 1, [⟨0, 64, .ro, 0⟩]⟩  -- HIF_ERR_MAP
  , ⟨0x2006000, 0x8, 512, 0x0, 1, [⟨0, 64, .ro, 0⟩]⟩  -- HIF_FAULT_MAP
  , ⟨0x2020000, 0x8, 16384, 0x0, 1, [⟨0, 15, .rw, 0⟩, ⟨15, 3, .rw, 0⟩, ⟨18, 1, .rw, 0⟩]⟩  -- HIF_RXMAP
  ]

/-- The registers of block HIF. -/
def famsHIF : List RegFam := famsHIF0

def famsRNG0 : List RegFam :=
  [ ⟨0x4000000, 0x40, 65536, 0x0, 1, [⟨12, 36, .rw, 0⟩, ⟨48, 5, .rw, 0⟩, ⟨53, 10, .rw, 0⟩]⟩  -- RNG_BASE
  , ⟨0x4000008, 0x40, 32768, 0x0, 1, [⟨0, 15, .rw, 0⟩, ⟨16, 2, .rw, 0⟩]⟩  -- RNG_CFG_S
  , ⟨0x4200008, 0x40, 32768, 0x0, 1, [⟨0, 7, .rw, 0⟩, ⟨8, 1, .rw, 0⟩]⟩  -- RNG_CFG_C
  , ⟨0x4000010, 0x40, 32768, 0x0, 1, [⟨0, 17, .rw, 0⟩]⟩  -- RNG_PI_S
  , ⟨0x4200010, 0x40, 32768, 0x0, 1, [⟨0, 17, .ro, 0⟩]⟩  -- RNG_PI_C
  , ⟨0x4000018, 0x40, 32768, 0x0, 1, [⟨0, 17, .ro, 0⟩, ⟨32, 17, .ro, 0⟩]⟩  -- RNG_FETCH
  , ⟨0x4200018, 0x40, 32768, 0x0, 1, [⟨0, 17, .rw, 0⟩, ⟨63, 1, .ws, 0⟩]⟩  -- RNG_CI
  , ⟨0x4000020, 0x40, 65536, 0x0, 1, [⟨0, 3, .ro, 0⟩, ⟨8, 8, .ro, 0⟩, ⟨16, 1, .ro, 0⟩, ⟨17, 3, .ro, 0⟩, ⟨20, 3, .ro, 0⟩]⟩  -- RNG_STATE
  , ⟨0x4000028, 0x40, 65536, 0x0, 1, [⟨0, 17, .ro, 0⟩]⟩  -- RNG_ERR_INDEX
  , ⟨0x4000030, 0x40, 32768, 0x0, 1, [⟨0, 32, .ro, 0⟩]⟩  -- RNG_PROG
  , ⟨0x4200030, 0x40, 32768, 0x0, 1, [⟨3, 45, .rw, 0⟩]⟩  -- RNG_WB
  , ⟨0x4000038, 0x40, 65536, 0x0, 1, [⟨0, 1, .ws, 0⟩, ⟨1, 1, .ws, 0⟩, ⟨2, 1, .ws, 0⟩, ⟨3, 1, .ws, 0⟩]⟩  -- RNG_CTRL
  ]

/-- The registers of block RNG. -/
def famsRNG : List RegFam := famsRNG0

def famsXLT0 : List RegFam :=
  [ ⟨0xC000000, 0x8, 1024, 0x0, 1, [⟨0, 1, .rw, 0⟩, ⟨4, 4, .rw, 0⟩, ⟨12, 40, .rw, 0⟩]⟩  -- XLT_SPACE
  ]

/-- The registers of block XLT. -/
def famsXLT : List RegFam := famsXLT0

end Sys2Proof.Machine
end

