-- ==== Sys2Proof/Machine/State.lean ====
section
/-! DEFINITION. The state of the Preuz (WLP-9600 A0) as plain data. Every register of BAR0 lives in `State.regs`
(one home, keyed by its BAR0 offset, canonical sparse form over the reset values of the register map);
the fields beside it hold what the manual gives the device but no register shows in full: packets in flight,
the buffer, tables, engines, rings, timers and the pins. -/

namespace Sys2Proof.Machine

/-- Reasons for which a step stops the machine. No command of the table stops the machine: every behaviour the manual
leaves open is a free value (Config), and an event whose condition does not hold leaves the state unchanged.
`unpowered` is the one name kept for the manual's "behaviour is not defined until the next cold start" (R589, R601);
nothing raises it, because no row of the table breaks SYS_REFCLK. Safe. -/
inductive Fault where
  | unpowered
  deriving DecidableEq, Repr

/-- Reasons for which a command has no meaning in the model. `notModelled` names a row not modelled. Safe. -/
inductive Refusal where
  | notModelled (mnemonic : String)
  deriving DecidableEq, Repr

/-- Where a packet in flight stands on the path of a packet (R37, "The path of a packet"). -/
inductive Stage where
  | crossed                      -- has its context, waits for its parser (step 3)
  | lookups                      -- between lookup records (step 4)
  | dramWait                     -- waits for DRAM extension reads (R188)
  | merge                        -- at the action unit (step 5)
  | police                       -- at step 6
  | admission                    -- at admission (step 7)
  | replicate                    -- multicast data admitted, copies being made (R328)
  | engineQueue (e : Nat)        -- in an engine's inbound queue (R277)
  | engine (e t : Nat)           -- with a packet thread (R278)
  | egress (port : Nat)          -- dequeued, before the egress rewrite (step 9)
  | txRim (port : Nat)           -- whole in the transmit rim (R32)
  | preempted (port : Nat)       -- remainder of a preempted frame (R403)
  | recirc                       -- at port 131, before its return (R161)
  | hostWait                     -- dequeued for port 130, before the delivery stage (R503)
  | delivery (ring : Nat)        -- waits for an RX_BUF entry of the ring (R503)
  | assigned (ring index : Nat)  -- has an RX_BUF entry, its bytes not yet written (R504)
  | delivered (ring index : Nat) -- written, its completion not yet in the ring (R504)
  deriving DecidableEq, Repr

/-- A lookup that waits for DRAM reads (R188): its slot, table and key, the reads not yet returned and their serial number. -/
structure DramWait where
  slot : Nat
  table : Nat
  key : Nat
  reads : Nat
  tag : Nat
  deriving DecidableEq, Repr

/-- The DRAM reads of a dequeued spilled packet (R323): their serial number, its stored length and its spill cells. -/
structure SpillRead where
  tag : Nat
  len : Nat
  addrs : List Nat
  deriving DecidableEq, Repr

/-- A packet that holds a context (R37, R44). `words` are the 32 context words; `bytes` the packet without its FCS. -/
structure Pkt where
  pid : Nat                      -- the model's serial number of the packet (names it to fences)
  fromHost : Bool                -- host injection (R143)
  fromEngine : Bool              -- created by an engine (R143)
  egressPool : Bool              -- context of the egress reserve (R41)
  epipe : Nat                    -- egress pipe of that reserve
  words : List Word
  bytes : List Byte
  stage : Stage
  next : Nat                     -- next lookup record (R178)
  counts : List (Nat × Nat)      -- COUNTER updates due at the action unit: (table, place) (R181)
  seq : Nat                      -- order of entry into its ingress pipe, and from its dequeue on the order of dequeues (R40, R184)
  reads : List Nat               -- tables read in this pass (R203)
  flight : List Nat              -- tables read since its allocation, egress reads included (R203)
  dram : Option DramWait
  ecc : Bool                     -- counted in ECC_DROP (R207, R211)
  group : Option Nat             -- spread group of the merge (R254)
  pin : Option Nat               -- member pin (R254)
  sub : Option Nat               -- subscriber set by the merge (R243)
  tsFixed : Bool                 -- TS of a TX entry (R508)
  recCell : Nat                  -- cells its queue record counts in q until it is freed (R315, R317)
  recOwn : Nat                   -- record cells of its own that it holds until it is freed
  recSpill : Nat                 -- spill cells its record counts in QOCC until it is freed (R341)
  spill : Option SpillRead       -- reads of its spilled cells whose answers it has not taken (R323)
  data : Nat                     -- its buffer data, 0 for none (R314)
  queue : Nat                    -- queue it was dequeued from
  sent : Nat                     -- bytes already sent as fragments (R123)
  txStart : Nat                  -- transmit time of its first fragment, in 1/256 ns (R382)
  deriving DecidableEq, Repr

/-- Packet data in the buffer, shared by the records that refer to it (R314, R315). -/
structure Data where
  bytes : List Byte
  refs : Nat
  cells : Nat                    -- on-chip data cells, the record cell of a unicast packet among them
  mc : Bool                      -- counted in mc_used (R317)
  spillAt : List Nat             -- DRAM addresses of its spill cells (R320, R321)
  poison : Bool                  -- an uncorrectable cell word was met (R316)
  deriving DecidableEq, Repr

/-- A queue record (R46, R313, R314). -/
structure Rec where
  pid : Nat
  words : List Word
  len : Nat                      -- stored length L
  data : Nat
  cells : Nat                    -- on-chip cells counted in q
  own : Nat                      -- 1 when it has a record cell of its own (R313)
  spill : Nat                    -- spill cells counted in QOCC
  port : Nat
  queue : Nat
  since : Nat                    -- TIM_FREE when it joined a residue list (R325)
  headAt : Option Nat            -- TIM_FREE when it became head of its queue (R405)
  adm : Nat                      -- order of admission (R326)
  flight : List Nat
  deriving DecidableEq, Repr

/-- Replication of one multicast packet in progress (R328): its context, list position and copies so far. -/
structure Repl where
  ctx : Nat
  data : Nat
  next : Nat                     -- next list entry
  last : Nat                     -- end of the list
  made : Nat                     -- copies made
  notReady : List Rec            -- copies made for ports that were not ready (R328 step 3)
  deriving DecidableEq, Repr

/-- A header-capture record staged in DRAM (R336): its completion ring, its length in words, the addresses of its atoms, the serial number of the
reads that empty it out of staging, and whether those have been made. -/
structure CapRec where
  ring : Nat
  len : Nat
  atoms : List Nat
  tag : Nat
  asked : Bool
  deriving DecidableEq, Repr

/-- A token bucket (R349): its level in fine units and the free-running time of its last refill. -/
structure Bucket where
  level : Int
  last : Nat
  deriving DecidableEq, Repr

/-- DWRR state of a node: the child its pointer names, none for child 0, its first child, and its own deficit (R356). -/
structure Drr where
  ptr : Option Nat
  dc : Int
  deriving DecidableEq, Repr

/-- An LPM entry (R186): the prefix's bits lead the 192 bits of `key`, its length and result word; `dram` when DRAM holds it (R187). -/
structure LpmEntry where
  key : Nat
  plen : Nat
  result : Word
  dram : Bool
  handle : Nat
  poison : Bool
  deriving DecidableEq, Repr

/-- The contents of one table: entries by place (words 0 to W−1), LPM entries, poisoned places and words (R171, R207). -/
structure TableMem where
  places : List (Nat × List Word)
  lpm : List LpmEntry
  poison : List (Nat × Nat)      -- (place, word)
  deriving DecidableEq, Repr

/-- A write operation on its way to the tile arbiter (R168): a hit-bit set carries the key read (R193). -/
structure HitSet where
  table : Nat
  place : Nat
  key : List Word
  deriving DecidableEq, Repr

/-- A Fawn entry (R190). `portB` is set in CONFLICT; `ns` is the time it reports, `since` TIM_FREE at the same moment. -/
structure Fawn where
  table : Nat
  key : Word
  portA : Nat
  portB : Option Nat
  g : Bool
  ns : Nat
  since : Nat
  deriving DecidableEq, Repr

/-- A learn candidate on its way to the Fawn cache (R189). -/
structure Candidate where
  table : Nat
  key : Word
  port : Nat
  g : Bool
  move : Option Nat
  deriving DecidableEq, Repr

/-- A table FENCE that waits (R203): the passes it waits for, by `seq` of their packets and what it awaits of them (`Pkt.fenceCode`), the
packets it waits for until they leave flight, by `pid`, the engine lookups it waits for, and its deadline. -/
structure FenceWait where
  ring : Nat
  index : Nat
  stage : Nat
  waits : List (Nat × Nat)
  flights : List Nat
  ops : List Nat
  deadline : Option Nat
  deriving DecidableEq, Repr

/-- A Chamois entry of one segment row (R212, R215). -/
structure ChEntry where
  valid : Bool
  key : BitVec 80
  mask : BitVec 80
  deriving DecidableEq, Repr

/-- An update in a group queue (R224): a command's write, or a repair of the comparer (R233). -/
structure ChUpdate where
  table : Nat
  index : Nat
  valid : Bool
  key : Nat
  mask : Nat
  cmd : Option (Nat × Nat)       -- ring and entry index of the command it completes
  byCmd : Bool                   -- a command's, though its ring may have been reset since
  deriving DecidableEq, Repr

/-- The shadow record that the comparer is fetching (R232): AAR_SHADOW of the table as the index began, whether it is the refetch, its serial
number, and whether a command update of the index has been accepted since the fetch began. -/
structure CmpFetch where
  shadow : Word
  again : Bool
  tag : Nat
  raced : Bool
  deriving DecidableEq, Repr

/-- The comparer's position (R232, R235). -/
structure Comparer where
  running : Bool
  tables : List Nat              -- tables of this sweep still to be compared, the current one first
  index : Nat
  started : Nat                  -- TIM_FREE at the start of the sweep
  fetch : Option CmpFetch        -- none between two indexes
  deriving DecidableEq, Repr

/-- An asynchronous engine operation (R286, R289) with its operands; `g` is the generation whose table it names. -/
inductive AsyncKind where
  | tlk (g table addr index : Nat)
  | cnt (g table index bytes pj : Nat)
  | frag (op addr operand : Nat)
  | crc (poly addr len init : Nat)
  | msg (addr len : Nat) (time : BitVec 32)
  | newp (addr len : Nat)
  deriving DecidableEq, Repr

/-- An outstanding operation: the register it will write, the packet of its thread, and its operand bytes as they stood when it was issued
(R288). -/
structure AsyncOp where
  dst : Option Nat
  kind : AsyncKind
  pid : Option Nat               -- serial number of the packet that the thread held (R290)
  seen : List Byte
  tag : Nat                      -- serial number of the operation and of its DRAM reads
  reads : Option Nat             -- DRAM reads that its lookup still waits for (R188)
  bad : Bool                     -- one of them was uncorrectable
  deriving DecidableEq, Repr

/-- Thread states of R279. -/
inductive TState where
  | free | run | stall | sleep
  deriving DecidableEq, Repr

/-- A hardware thread (R272, R279, R283). -/
structure Thread where
  regs : List Word               -- v0 to v31
  pc : Nat
  st : TState
  steps : Nat
  ops : List AsyncOp
  ctx : Option Nat               -- context of its packet
  win : List Byte                -- the packet window (R283)
  rest : List Byte               -- the bytes behind the window
  prepended : Int                -- R285
  target : BitVec 32             -- SLEEP target (R301)
  deriving DecidableEq, Repr

/-- A message not yet written to the message ring (R291). -/
structure EngMsg where
  thread : Nat
  time : BitVec 32
  payload : List Byte
  deriving DecidableEq, Repr

/-- A loaded engine (R272, R304): its threads, inbound queue and messages. Its program stands in the sections of the generations that hold
it. -/
structure Engine where
  gen : Nat                      -- generation that loaded its program (R304)
  threads : List Thread
  inq : List Nat                 -- contexts, head first
  msgs : List EngMsg
  last : Option Nat              -- thread that issued last (R273)
  deriving DecidableEq, Repr

/-- A fragment table entry (R293). -/
structure FragEntry where
  key : List Byte
  value : BitVec 32
  acc : BitVec 24
  time : Nat
  deriving DecidableEq, Repr

/-- A section of a generation: TYPE, INSTANCE and its body as loaded (R65, R67). -/
structure Section where
  type : Nat
  inst : Nat
  body : List Byte
  deriving DecidableEq, Repr

/-- States of a generation (R86). -/
inductive GState where
  | empty | loading | ready | active | draining
  deriving DecidableEq, Repr

/-- A generation: its class G sections, and the class D sections that its overlay carries to the flip (R66, R88). -/
structure Gen where
  st : GState
  id : Word                      -- STREAM_ID
  secs : List Section
  flipSecs : List Section
  deriving DecidableEq, Repr

/-- Which load the loader runs (R78, R81). -/
inductive LoadSrc where
  | none | host | flash | bootHost | bootFlash
  deriving DecidableEq, Repr

/-- The stream loader and the key slots (R74, R81, R99). `slots` holds per slot its state and digest. -/
structure Loader where
  src : LoadSrc
  bytes : List Byte              -- received so far, oldest first
  flashAt : Nat                  -- next flash offset
  copyErr : List (BitVec 8)      -- errors of the boot copies tried (R79)
  slots : List (BitVec 2 × List Byte)
  fuse : Option (BitVec 2 × BitVec 3)   -- (OP, SLOT) of the fuse operation in progress
  fuseSupply : Bool              -- VPP_FUSE present at the GO of the last fuse operation (R580)
  deriving DecidableEq, Repr

/-- A port rim (R111, R124, R128) beside its registers. -/
structure Port where
  holdEnd : Option Nat           -- TIM_FREE at which the hold timer reaches 0
  discard : Bool                 -- the state of R129: packets are discarded at admission until it comes up
  pcs : Bool                     -- the PCS is started, or Clause 73 or 37 has led to it (R118)
  verifyTries : Nat              -- verify frames sent in this attempt (R124)
  verifyAt : Nat                 -- TIM_FREE at which the verify timer next runs out (R124)
  since : Nat                    -- TIM_FREE at the last entry to a state of R111
  mode : Word                    -- PRT_MODE as taken at the last entry to AN or ALIGN (R136)
  adv : Word                     -- PRT_AN_ADV as taken (R136)
  mm : Word                      -- PRT_MM_CTRL as taken (R136)
  forcedDown : Bool              -- a PORT_DOWN rung holds the port down (R433)
  deriving DecidableEq, Repr

/-- A frame waiting in a quad's receive rim (R30, R31, R380). -/
structure RxFrame where
  port : Nat
  bytes : List Byte              -- without FCS
  ts : BitVec 40                 -- receive timestamp, ns and 1/256 ns
  deriving DecidableEq, Repr

/-- A frame that a port's lanes carried, without its FCS, padding included. -/
structure TxFrame where
  port : Nat
  bytes : List Byte
  fcs : Bool                     -- ends with a valid FCS; a frame that is cut off does not (R125)
  deriving DecidableEq, Repr

/-- A one-slot or longer record on its way to a completion ring. -/
structure HostRec where
  words : List Word
  deriving DecidableEq, Repr

/-- An armed trigger (R387): what it took at ARM. -/
structure Trigger where
  target : BitVec 40             -- ns and 1/256 ns
  late : Bool                    -- behind at arming: fires at once
  mode : BitVec 2
  invert : Bool
  width : Nat
  period : Nat
  deriving DecidableEq, Repr

/-- A trigger output: armed firing, level, and end of the pulse in TIM_FREE ns. -/
structure TrigOut where
  armed : Option Trigger
  level : Bool
  pulseEnd : Option Nat
  deriving DecidableEq, Repr

/-- A capture input (R393, R394). -/
structure CapIn where
  level : Bool
  lastEdge : Option Nat          -- TIM_FREE of the last accepted edge
  ovr : Nat                      -- rejected since its previous record
  seq : BitVec 32
  deriving DecidableEq, Repr

/-- Gate lists of a port (R396 to R407). -/
structure Gates where
  admin : List (Nat × Word)      -- administrative entries that differ from 0
  oper : List (Nat × Word)
  ran : Bool                     -- a change has taken effect since EN was set
  cycleStart : BitVec 32
  entryEnd : BitVec 32           -- counter time at which the entry in force ends
  lastChange : Nat               -- TIM_FREE at the last change
  deriving DecidableEq, Repr

/-- The time base rim (R370 to R394). -/
structure Tim where
  cnt : BitVec 72                -- ns in bits 71:40, fraction in 2^-40 ns below
  free : BitVec 64               -- TIM_FREE
  locked : Bool                  -- the rim's PLL has locked and the counter runs (R370)
  ppsDone : Bool                 -- the slot has an accepted edge (R379)
  ppsIn : CapIn
  ppsOut : TrigOut
  trigs : List TrigOut
  caps : List CapIn
  tsq : List HostRec
  capq : List HostRec
  deriving DecidableEq, Repr

/-- A voltage command to the regulator of a rail (R437): its bus (0 AVSBus, 1 PMBus), address or RailSel, PAGE, clock in kHz, the voltage in mV,
and the data word, none while the regulator's VOUT_MODE is not known. -/
structure RailCmd where
  rail : Nat
  bus : Nat
  addr : Nat
  page : Nat
  khz : Nat
  mv : Nat
  data : Option Nat
  deriving DecidableEq, Repr

/-- The power manager beside its registers (R415 to R441). Sparse maps are keyed by region, rail or input. -/
structure Pwr where
  alertLow : Bool                -- the fast trigger: FEED_ALERT_N is low, or has not yet stayed high for 1 µs (R430)
  warn : Bool                    -- thermal trigger active (R428)
  lastStep : Option Nat          -- TIM_FREE at the last step (R431)
  relaxFrom : Nat                -- TIM_FREE at which the relax timer began
  request : Bool                 -- a step waits for STEP_US (R431)
  badFrames : Nat                -- consecutive invalid ADC frames (R424)
  accHist : List Nat             -- PWR_ACC8 at the last forecasts, latest first (R427)
  railCmd : List Nat             -- mV last commanded per rail (R422)
  railAt : List Nat              -- TIM_FREE of that command
  railTo : List (Nat × Nat)      -- setting to which a rail is on its way (R422)
  railUp : List (Nat × Nat)      -- mV that R421 has added to a rail
  railStop : List (Nat × Nat)    -- mV at which R434 stops the lowering of a rail
  railFails : List (Nat × Nat)   -- consecutive failures (R438)
  lowReads : List (Nat × Nat)    -- consecutive PACE readings below LR_PACE (R420)
  trimUp : List (Nat × Nat)      -- trim steps that R420 and R421 have added
  trimStop : List (Nat × Int)    -- trim at which R434 stops the lowering of a region
  skewed : List (Nat × Nat)      -- pairs reported under R423
  alarmAt : List (Nat × Nat)     -- TIM_FREE of the last accepted edge (R429)
  calEnergy : List Nat           -- pJ per rail in this period (R441)
  calBase : List Nat             -- ACT_CLASS_PJ at the start of the period
  calSkip : Bool                 -- a rail moved in this period
  railAsk : List (Nat × Int)     -- setting last asked of a rail, before the clamp of R422
  railSeen : List Nat            -- rails whose regulator has reported a VOUT within 10 mV of the last command (R422)
  voutMode : List (Nat × Nat)    -- VOUT_MODE that a rail's regulator last reported (R437)
  busOut : List RailCmd          -- voltage commands sent, latest first (R437)
  deriving DecidableEq, Repr

/-- A DRAM request (R451, R455): one 64-byte atom. -/
structure DReq where
  cls : Nat
  atom : Nat
  write : Bool
  data : List Byte
  passed : Nat                   -- requests that have passed it
  owner : Nat                    -- serial number that its client gave it, 0 for a client the model does not name
  deriving DecidableEq, Repr

/-- The answer to a client's request (R452, R454): its atom and data; `bad` is 1 for poisoned data, 2 for a refusal. -/
structure DAns where
  owner : Nat
  chan : Nat
  atom : Nat
  bytes : List Byte
  bad : Nat
  deriving DecidableEq, Repr

/-- A bank: its open row and prediction counter (R459). -/
structure Bank where
  row : Option Nat
  pred : Nat
  lastUse : Nat
  deriving DecidableEq, Repr

/-- Phases of a set point change (R465). -/
inductive SpPhase where
  | none | program | quiesce | switch
  deriving DecidableEq, Repr

/-- A DRAM channel (R447 to R467). -/
structure Chan where
  reqs : List DReq               -- bank queues, oldest first
  wbuf : List DReq               -- write buffer, oldest first (R456)
  port : List DReq               -- requests that wait at their clients' ports for a place, oldest first (R453)
  banks : List (Nat × Bank)      -- by 16 × subchannel + bank
  nextBank : List Nat            -- pick pointer per subchannel
  debt : List Int                -- refresh debt per rank
  refPb : Bool                   -- the last refresh issued was per bank (R460)
  mr4At : Option Nat             -- TIM_FREE at the last MR4 read (R460)
  phase : SpPhase
  target : Nat                   -- set point of the change in progress
  train : Option (Nat × Nat)     -- (set point, step) of training in progress
  trainCmd : Option (Nat × Nat)  -- set point that DMC_TRAIN trains or is still to train on the channel, and the next step
  oscAt : Option Nat             -- TIM_FREE at the last DQS oscillator read (R466)
  poison : List Nat              -- uncorrectable atoms
  mem : List Host.Cell           -- data space by byte offset
  deriving DecidableEq, Repr

/-- A write to host memory as the device issued it: physical address, bytes, and the PCIe Relaxed Ordering attribute (R56). -/
structure HostWrite where
  pa : Nat
  bytes : List Byte
  ro : Bool
  deriving DecidableEq, Repr

/-- A submission entry taken from a ring (R489). -/
structure Entry where
  index : Nat                    -- 17-bit ring index (R480)
  words : List Word
  started : Bool                 -- begun: a job, a table command that has taken effect, an assigned RX_BUF entry
  doneBytes : Nat                -- bytes of whole chunks written (R494)
  job : Bool                     -- holds a job place (R495)
  finished : Bool                -- its completion waits in `held`
  status : Nat                   -- STATUS and VALUE that it will complete with
  value : Word
  records : List Byte            -- records of a table command still to be written (R514)
  progress : Nat                 -- places of a range already taken (AGE_SCAN, FLUSH_PORT)
  dram : Option (Nat × Nat)      -- DRAM requests of its chunk: 0 reads or 1 writes, and their serial number (R451)
  deriving DecidableEq, Repr

/-- A suspended access (R514): its kind (0 entry fetch, 1 job, 2 packet read, 3 packet write, 4 RESULT_ADDR write), the entry's index,
the address, and the fault met. -/
structure Susp where
  kind : Nat
  index : Nat
  iova : Nat
  write : Bool
  code : Nat
  deriving DecidableEq, Repr

/-- A submission ring beside its context registers (R484, R489, R499). -/
structure Sub where
  prog : List Entry              -- entries in progress, PAD and unposted RX_BUF entries, oldest first
  rx : List Entry                -- posted RX_BUF entries without a packet, oldest first
  susps : List Susp              -- the suspended access of FAULT_WAIT, and those behind it
  scan : Bool                    -- taken by a doorbell scan for fetching (R488)
  deriving DecidableEq, Repr

/-- A completion that is not yet written (R499): its completion ring, its submission ring, the entry's index, its words, and whether it is written
with Relaxed Ordering (R56, R497). -/
structure Held where
  cq : Nat
  ring : Nat
  index : Nat
  words : List Word
  ro : Bool
  deriving DecidableEq, Repr

/-- A packet read for a TX entry, waiting for its context (R508). -/
structure Inject where
  ring : Nat
  index : Nat
  words : List Word
  bytes : List Byte
  deriving DecidableEq, Repr

/-- A cached translation (R511): space, IOVA page, physical page and permissions. -/
structure Xlat where
  space : Nat
  page : Nat
  pa : Nat
  rd : Bool
  wr : Bool
  deriving DecidableEq, Repr

/-- A waiting fault record (R517). -/
structure FaultRec where
  func : Nat
  words : List Word
  deriving DecidableEq, Repr

/-- The host interface beside its registers (R472 to R521). -/
structure Hif where
  linkUp : Bool
  noRo : List Nat                -- functions whose Enable Relaxed Ordering bit is 0 (R475)
  subs : List (Nat × Sub)
  scans : List Nat               -- groups with a scan requested (R488)
  rescans : List Nat             -- groups with one further scan to follow
  served : List (Nat × Nat)      -- per PRIO the submission ring fetched last (R489)
  held : List Held               -- completions of finished entries, in the order they finished (R499)
  stalled : List Nat             -- completion rings in an episode of R499
  wbOwed : List Nat              -- completion rings whose PI writeback waits for a translation (R498, R516)
  injects : List Inject
  tlb : List Xlat
  faults : List FaultRec
  vfMsix : List (Nat × Word)     -- MSI-X tables of the VFs by 2 × (128 × vf + vector), data and control one above
  vfPba : List (Nat × Word)      -- pending bit arrays of the VFs by 2 × vf + half
  halves : List (Nat × Nat)      -- upper halves latched by 32-bit reads, by 2^28 × function + register (R573)
  msgs : List (Nat × Nat)        -- MSI-X messages sent, latest first: (function, vector)
  pend : List Nat                -- event sources whose message waits for the end of an Eland restart (R537)
  deriving DecidableEq, Repr

/-- A fault on its way to the collector (R526, R527). -/
structure FaultRep where
  line : Nat
  cls : Nat                      -- 1 C, 2 U, 3 F
  logic : Bool
  injected : Bool
  at_ : Nat                      -- TIM_FREE when it was reported
  deriving DecidableEq, Repr

/-- Restarts in progress (R531, R535, R537): line and start time in TIM_FREE. -/
structure Restarts where
  queue : List FaultRep          -- faults not yet taken
  blocks : List (Nat × Nat)      -- block restarts: line, start
  warm : Option Nat
  eland : Option Nat
  seq : BitVec 14
  scrubAt : Option Nat           -- TIM_FREE at the end of the last scrub pass; none: a restart has asked for a pass (R542)
  held : List (Nat × Option Word) -- register accesses that a restart holds, oldest first: address, value written or none for a read (R536)
  deriving DecidableEq, Repr

/-- A running recovered clock output (R126, R127): its source lane, its divisor, its level, and how long that has lasted, in 0.1 ns. -/
structure RclkOut where
  lane : Nat
  div : Nat
  level : Bool
  phase : Nat
  deriving DecidableEq, Repr

/-- Pins and fuses (R557, R559, R568). -/
structure Pins where
  coldRst : Bool                 -- level of COLD_RST_N
  perst : Bool                   -- level of PERST_N
  straps : BitVec 4              -- SB_ADDR in 3:2, BOOT_SRC in 1:0, as on the balls
  alarmIn : Nat                  -- filtered levels of ALARM_IN (R429)
  alertN : Bool                  -- level of FEED_ALERT_N (R430)
  shedOut : Nat                  -- levels of SHED_OUT (R433, R444)
  mgmtLock : List Bool           -- signal and lock of the lanes MGMT0 and MGMT1 (R126)
  rclk : List (Option RclkOut)   -- RCLK_OUT, none while an output is held low (R127)
  deriving DecidableEq, Repr

/-- The device. `freeCtr`, `pidCtr`, `wire` and `bus` are the model's own: the counter of free values, the serial numbers given to
packets and buffer data, the frames that left the ports, and what the last register read and the last sideband read returned. -/
structure Dev where
  regs : List (Nat × Word)
  pins : Pins
  ports : List (Nat × Port)
  rxq : List (Nat × List RxFrame)     -- receive rims by quad (24, 25 are ports 128, 129)
  pkts : List (Nat × Pkt)             -- packets with contexts, by context index
  turns : List (Nat × Nat)            -- per ingress pipe the source it granted last (R35)
  discards : List (Nat × Nat)         -- discarded packets and records, latest first: serial number and REASON, 0 for none (R45)
  credit : Nat                        -- punt limiter credit (R159)
  creditAt : Nat
  data : List (Nat × Data)
  queues : List (Nat × List Rec)
  intakes : List (Nat × List Rec)
  residue : List (Nat × List Rec)
  repls : List Repl
  spillQ : List (Nat × List Byte)     -- cells that the spill writer holds, with their DRAM addresses (R320)
  recircAt : Nat                      -- TIM_FREE × 150 at which port 131 is under its limit again (R36)
  countdown : List (Nat × Nat)        -- per session (R335)
  seqs : List (Nat × BitVec 32)       -- SEQ per session (R337)
  captures : List CapRec
  buckets : List (Nat × Bucket)
  drr : List (Nat × Drr)
  tables : List (Nat × TableMem)
  hitSets : List HitSet
  writeBacks : List (Nat × Nat × Nat) -- correction write-backs: table, place, word (R206)
  fawn : List Fawn
  cands : List Candidate
  notes : List HostRec
  fences : List FenceWait
  cham : List (Nat × ChEntry)         -- by 4,096 × segment + row
  chQueues : List (Nat × List ChUpdate)
  cmp : Comparer
  engines : List (Nat × Engine)
  dmem : List (Nat × List Host.Cell)  -- data memory per engine, by byte address (R272)
  dmemBad : List (Nat × Nat)          -- uncorrectable words: engine, address (R302)
  frags : List FragEntry
  gens : List Gen                     -- generation 0 and 1
  flipping : Bool                     -- between an accepted FLIP and FLIP_DONE
  flipped : List Nat                  -- sources that have taken the new G meanwhile (R90): ports, 130 host, 132 engines
  drainFrom : Option Nat              -- TIM_FREE at the end of the last accepted flip
  drainSlow : Bool                    -- DRAIN_SLOW has been raised for this drain
  loader : Loader
  tim : Tim
  gates : List (Nat × Gates)
  pwr : Pwr
  chans : List Chan
  answers : List DAns                 -- answered DRAM requests that their clients have not taken yet
  hif : Hif
  flt : Restarts
  elapsed : Nat                       -- ns since the last cold start (SYS_ELAPSED)
  wire : List TxFrame                 -- frames sent, latest first
  bus : Word                          -- value the last register read returned
  sbOut : List Byte                   -- bytes the last sideband read returned
  ctxDiscards : Nat                   -- packets discarded for an uncorrectable context word (R43); the manual gives it no register
  freeCtr : Nat
  pidCtr : Nat
  deriving DecidableEq, Repr

/-- The machine: the device; the bytes of host memory it has written, by physical address, in canonical form (an unlisted address
holds nothing the device wrote and reads as 0, log entry 7); the host writes of the last command that made any; and the commands that wait,
first in, first out. -/
structure State where
  dev : Dev
  host : List Host.Cell
  posted : List HostWrite
  pending : List Sys2Proof.Instr
  deriving DecidableEq, Repr

/-! ### Reset -/

/-- The time base at reset (R370). -/
def Tim.reset : Tim :=
  { cnt := 0, free := 0, locked := false, ppsDone := false, ppsIn := ⟨false, none, 0, 0⟩, ppsOut := ⟨none, false, none⟩
    trigs := List.replicate 16 ⟨none, false, none⟩, caps := List.replicate 16 ⟨false, none, 0, 0⟩, tsq := [], capq := [] }

/-- The power manager at reset. -/
def Pwr.reset : Pwr :=
  { alertLow := false, warn := false, lastStep := none, relaxFrom := 0, request := false, badFrames := 0, accHist := []
    railCmd := List.replicate 6 0, railAt := List.replicate 6 0, railTo := [], railUp := [], railStop := [], railFails := []
    lowReads := [], trimUp := [], trimStop := [], skewed := [], alarmAt := [], calEnergy := List.replicate 6 0
    calBase := List.replicate 21 0, calSkip := false, railAsk := [], railSeen := [], voutMode := [], busOut := [] }

/-- A DRAM channel at reset. -/
def Chan.reset : Chan :=
  { reqs := [], wbuf := [], port := [], banks := [], nextBank := [0, 0], debt := [0, 0], refPb := true, mr4At := none, phase := .none
    target := 0, train := none, trainCmd := none, oscAt := none, poison := [], mem := [] }

/-- The host interface at reset: the link is down (R557). -/
def Hif.reset : Hif :=
  { linkUp := false, noRo := [], subs := [], scans := [], rescans := [], served := [], held := [], stalled := [], wbOwed := [], injects := [], tlb := []
    faults := [], vfMsix := [], vfPba := [], halves := [], msgs := [], pend := [] }

/-- The loader at reset: idle; the key slots unprogrammed and the fuse supply present (log entry 4). -/
def Loader.reset : Loader :=
  { src := .none, bytes := [], flashAt := 0, copyErr := [], slots := List.replicate 4 (0, []), fuse := none, fuseSupply := true }

/-- The device at the start of a cold start, in stage FUSE (R557, R560): every register at its reset value (R15), nothing in flight, no
stream loaded, every port down. The levels of PERST_N and the straps are the model's choice (log entry 4). -/
def Dev.reset : Dev :=
  { regs := [], pins := { coldRst := true, perst := false, straps := 0, alarmIn := 0, alertN := true, shedOut := 0, mgmtLock := [false, false], rclk := [none, none, none, none] }, ports := [], rxq := []
    pkts := [], turns := [], discards := [], credit := 64000000000, creditAt := 0, data := [], queues := [], intakes := [], residue := [], repls := []
    spillQ := [], recircAt := 0, countdown := [], seqs := [], captures := [], buckets := [], drr := [], tables := []
    hitSets := [], writeBacks := [], fawn := [], cands := [], notes := [], fences := [], cham := [], chQueues := []
    cmp := { running := false, tables := [], index := 0, started := 0, fetch := none }, engines := [], dmem := [], dmemBad := [], frags := []
    gens := [⟨.empty, 0, [], []⟩, ⟨.empty, 0, [], []⟩], flipping := false, flipped := [], drainFrom := none, drainSlow := false
    loader := Loader.reset, tim := Tim.reset, gates := [], pwr := Pwr.reset, chans := List.replicate 4 Chan.reset, answers := [], hif := Hif.reset
    flt := { queue := [], blocks := [], warm := none, eland := none, seq := 0, scrubAt := some 0, held := [] }
    elapsed := 0, wire := [], bus := 0, sbOut := [], ctxDiscards := 0, freeCtr := 0, pidCtr := 0 }

/-- The machine right after reset: COLD_RST_N has risen, and stage FUSE begins. No command waits. -/
def State.reset : State := { dev := Dev.reset, host := [], posted := [], pending := [] }

end Sys2Proof.Machine
end

