-- ==== Sys2Proof/Machine/Ops.lean ====
section
/-! DEFINITION. The named operations over the state: sparse maps and byte memories in canonical form, fields of words, registers and
counters, events and MSI-X messages, fault reports, free values, packets and their contexts.
Readings of the manual that it takes are DEDUCED, in log entries 27, 29. -/

namespace Sys2Proof.Machine

/-! ### Sparse maps: lists of keys and values with strictly rising keys -/

/-- The value at key `k`. -/
def Map.find {α : Type} : List (Nat × α) → Nat → Option α
  | [], _ => none
  | (j, v) :: r, k => if j = k then some v else Map.find r k

/-- The value at key `k`, or `d` when none is listed. -/
def Map.getD {α : Type} (m : List (Nat × α)) (k : Nat) (d : α) : α := (Map.find m k).getD d

/-- `m` with `v` at key `k`; keeps the keys rising. -/
def Map.put {α : Type} : List (Nat × α) → Nat → α → List (Nat × α)
  | [], k, v => [(k, v)]
  | (j, w) :: r, k, v =>
    if k < j then (k, v) :: (j, w) :: r
    else if k = j then (k, v) :: r
    else (j, w) :: Map.put r k v

/-- `m` without key `k`. -/
def Map.del {α : Type} : List (Nat × α) → Nat → List (Nat × α)
  | [], _ => []
  | (j, w) :: r, k => if j = k then Map.del r k else (j, w) :: Map.del r k

/-- The keys rise strictly. -/
def Map.rising {α : Type} : List (Nat × α) → Bool
  | [] => true
  | [_] => true
  | (j, _) :: (k, w) :: r => j < k && Map.rising ((k, w) :: r)

/-- The lowest natural number below `n` that is no key of `m`. -/
def Map.freeKey {α : Type} (m : List (Nat × α)) (n : Nat) : Option Nat :=
  (List.range n).find? fun k => (Map.find m k).isNone

/-! ### Byte memories: an unlisted address reads as 0 -/

/-- The byte at address `a`. -/
def Mem.read (m : List Host.Cell) (a : Nat) : Byte := Map.getD m a 0

/-- Writes one byte; writing 0 removes the entry. -/
def Mem.write (m : List Host.Cell) (a : Nat) (b : Byte) : List Host.Cell :=
  if b = 0 then Map.del m a else Map.put m a b

/-- The canonical form: addresses strictly rising, no entry equal to what an unlisted address reads as. -/
def Mem.wf (m : List Host.Cell) : Bool := Map.rising m && m.all fun c => c.2 != 0

/-- Writes consecutive bytes from address `a`. -/
def Mem.writeAll (m : List Host.Cell) (a : Nat) : List Byte → List Host.Cell
  | [] => m
  | b :: r => Mem.writeAll (Mem.write m a b) (a + 1) r

/-- `n` consecutive bytes from address `a`. -/
def Mem.readAll (m : List Host.Cell) (a : Nat) (n : Nat) : List Byte :=
  (List.range n).map fun i => Mem.read m (a + i)

/-! ### Bytes, words and fields -/

/-- Bits `lo` to `lo + w − 1` of `x`. -/
def bitsOf (x lo w : Nat) : Nat := (x >>> lo) % 2 ^ w

/-- Bit `i` of `x`. -/
def bitOf (x i : Nat) : Bool := x.testBit i

/-- The number that bytes spell, least significant byte first (R9). -/
def leNat : List Byte → Nat
  | [] => 0
  | b :: r => b.toNat + 256 * leNat r

/-- The number that bytes spell in network order (R10). -/
def beNat (bs : List Byte) : Nat := bs.foldl (fun n b => 256 * n + b.toNat) 0

/-- `n` bytes of `x`, least significant first. -/
def leBytes : Nat → Nat → List Byte
  | 0, _ => []
  | n + 1, x => BitVec.ofNat 8 x :: leBytes n (x / 256)

/-- `n` bytes of `x` in network order. -/
def beBytes (n x : Nat) : List Byte := (leBytes n x).reverse

/-- The byte at index `i`, 0 beyond the end. -/
def byteAt (bs : List Byte) (i : Nat) : Nat := ((bs[i]?).getD 0).toNat

/-- `n` bytes from index `i`, zero beyond the end. -/
def slice (bs : List Byte) (i n : Nat) : List Byte :=
  let t := (bs.drop i).take n
  t ++ List.replicate (n - t.length) 0

/-- The little-endian 64-bit word at byte offset `i` (R9). -/
def word64 (bs : List Byte) (i : Nat) : Nat := leNat (slice bs i 8)

/-- The 8 bytes of a word in ascending order (R9). -/
def wordBytes (w : Word) : List Byte := leBytes 8 w.toNat

/-- The bytes of words in ascending order. -/
def wordsBytes (ws : List Word) : List Byte := ws.flatMap wordBytes

/-- `bs` with the bytes `xs` written from index `i`; bytes beyond the end are dropped. -/
def overlay (bs : List Byte) (i : Nat) (xs : List Byte) : List Byte :=
  (bs.take i ++ xs.take (bs.length - i) ++ bs.drop (i + xs.length)).take bs.length

/-- A field of a word. -/
def Fld.of (f : Fld) (x : Word) : Nat := (x.toNat >>> f.lo) % 2 ^ f.w

/-- The bits of a field. -/
def Fld.mask (f : Fld) : Word := BitVec.ofNat 64 ((2 ^ f.w - 1) <<< f.lo)

/-- A word with a field written (the value modulo the field's width). -/
def Fld.put (f : Fld) (x : Word) (v : Nat) : Word :=
  (x &&& ~~~ f.mask) ||| BitVec.ofNat 64 ((v % 2 ^ f.w) <<< f.lo)

/-- The word at index `i` of a list, 0 beyond its end. -/
def wordAt (ws : List Word) (i : Nat) : Word := (ws[i]?).getD 0

/-- A list with position `i` replaced. -/
def setAt {α : Type} (l : List α) (i : Nat) (v : α) : List α := l.set i v

/-- `x` between the limits `lo` and `hi`. -/
def clampInt (x lo hi : Int) : Int := max lo (min hi x)

/-- Ascending insertion. -/
def insertUp (x : Nat) : List Nat → List Nat
  | [] => [x]
  | y :: r => if x ≤ y then x :: y :: r else y :: insertUp x r

/-- `a − b` modulo 2^32 is a time at or after `b` (R20): how far `b` lies ahead of `a`, when it is not behind. -/
def ahead32 (a b : Nat) : Nat := (b + 4294967296 - a % 4294967296) % 4294967296

/-- `b` is at or after `a` modulo 2^32 (R20). -/
def atOrAfter32 (a b : Nat) : Bool := ahead32 a (b % 4294967296) < 2147483648

/-- A number capped at `m`. -/
def satAdd (x n m : Nat) : Nat := min (x + n) m

/-- The number that the low `n` bits `v` spell in two's complement. -/
def signed (v n : Nat) : Int := if v ≥ 2 ^ (n - 1) then (v : Int) - (2 ^ n : Nat) else v

/-- A signed value of `w` bits as a 64-bit word. -/
def sext64 (v w : Nat) : BitVec 64 :=
  if v ≥ 2 ^ (w - 1) then BitVec.ofNat 64 (v + 2 ^ 64 - 2 ^ w) else BitVec.ofNat 64 v

/-! ### Registers (R11, R15, R16) -/

/-- Whether the family holds the register at BAR0 offset `a`. -/
def RegFam.holds (f : RegFam) (a : Nat) : Bool :=
  if a < f.base then false
  else
    let o := a - f.base
    let i := if f.ostride = 0 then o else o % f.ostride
    let j := if f.ostride = 0 then 0 else o / f.ostride
    i % f.stride = 0 && i / f.stride < f.count && j < f.ocount

/-- The register families of the window that holds offset `a` (R62). -/
def windowFams (a : Nat) : List RegFam :=
  if a < 0x1000 then famsSYS
  else if a < 0x10000 then famsSTR
  else if a < 0x20000 then famsFLT
  else if a < 0x40000 then famsPMC
  else if a < 0x80000 then famsPWR
  else if a < 0xC0000 then famsTIM
  else if a < 0x100000 then famsGAT
  else if a < 0x200000 then famsPRT
  else if a < 0x280000 then famsPRS
  else if a < 0x300000 then famsTBL
  else if a < 0x380000 then famsAAR
  else if a < 0x400000 then famsACT
  else if a < 0x800000 then famsENG
  else if a < 0xA00000 then famsBUF
  else if a < 0x1000000 then famsSCH
  else if a < 0x2000000 then famsDMC
  else if a < 0x4000000 then famsHIF
  else if a < 0x8000000 then famsRNG
  else if a < 0xC000000 then []
  else famsXLT

/-- The family of the register at offset `a`; none at an unassigned address. -/
def regFam (a : Nat) : Option RegFam := (windowFams a).find? (·.holds a)

/-- The reset value of the register at offset `a` (R15). Two registers reset to a value that depends on the instance:
DMC_SPk.RATE to 2k (R462) and HIF_FUNC0.TABLE_EN to 1 (R523). -/
def regReset (a : Nat) : Word :=
  if a = Reg.HIF_FUNC 0 then BitVec.ofNat 64 0x10000
  else if Reg.DMC_SP 0 ≤ a ∧ a ≤ Reg.DMC_SP 3 then BitVec.ofNat 64 (2 * ((a - Reg.DMC_SP 0) / 8))
  else
    match regFam a with
    | none => 0
    | some f => BitVec.ofNat 64 (f.fields.foldl (fun n s => n + s.reset <<< s.lo) 0)

/-- What the register at offset `a` holds. -/
def Dev.reg (d : Dev) (a : Nat) : Word := (Map.find d.regs a).getD (regReset a)

/-- Stores a register; a register at its reset value is not listed. -/
def Dev.setReg (d : Dev) (a : Nat) (v : Word) : Dev :=
  { d with regs := if v = regReset a then Map.del d.regs a else Map.put d.regs a v }

/-- A field of a register. -/
def Dev.fld (d : Dev) (a : Nat) (f : Fld) : Nat := f.of (d.reg a)

/-- A one-bit field as a Boolean. -/
def Dev.bit (d : Dev) (a : Nat) (f : Fld) : Bool := d.fld a f != 0

/-- Writes a field of a register. -/
def Dev.setFld (d : Dev) (a : Nat) (f : Fld) (v : Nat) : Dev := d.setReg a (f.put (d.reg a) v)

/-- Adds to a 48-bit counter, modulo 2^48 (R550). -/
def Dev.count (d : Dev) (a n : Nat) : Dev :=
  d.setReg a (BitVec.ofNat 64 (((d.reg a).toNat + n) % 281474976710656))

/-- Adds to a field that saturates at its largest value. -/
def Dev.satCount (d : Dev) (a : Nat) (f : Fld) (n : Nat) : Dev :=
  d.setFld a f (min (d.fld a f + n) (2 ^ f.w - 1))

/-- A read that clears: the value goes to the reader and the register returns to 0 (R16). -/
def Dev.readClear (d : Dev) (a : Nat) : Dev := { d.setReg a 0 with bus := d.reg a }

/-- The canonical form of the register store. -/
def Dev.regsOk (d : Dev) : Bool := Map.rising d.regs && d.regs.all fun e => e.2 != regReset e.1

/-! ### Time -/

/-- The time counter's NS (R371). -/
def Dev.ns (d : Dev) : Nat := (d.tim.cnt >>> 40).toNat

/-- The time counter in 1/256 ns, 40 bits. -/
def Dev.ns256 (d : Dev) : Nat := (d.tim.cnt >>> 32).toNat
def Dev.now40 (d : Dev) : BitVec 40 := BitVec.ofNat 40 d.ns256

/-- TIM_FREE (R371). -/
def Dev.free (d : Dev) : Nat := d.tim.free.toNat

/-- At least `n` nanoseconds of TIM_FREE have passed since `t`. -/
def Dev.passed (d : Dev) (t n : Nat) : Bool := t + n ≤ d.free

/-! ### Stages (R557) -/

def Dev.stage (d : Dev) : Nat := d.fld Reg.SYS_STAGE F.SYS_STAGE_STAGE

/-- The device is in stage RUN. -/
def Dev.running (d : Dev) : Bool := d.stage = 15

/-- The blocks that no warm restart touches work: stage RUN, or a warm restart from RUN (R409, R536, R563). -/
def Dev.up (d : Dev) : Bool := d.running || d.flt.warm.isSome

/-! ### Restarts and the traffic and accesses they hold (R532, R536, R537) -/

/-- The block of a fault line is not restarting. -/
def Dev.lineUp (d : Dev) (n : Nat) : Bool := (Map.find d.flt.blocks n).isNone

/-- The window of offset `a` belongs to a core block, which a warm restart restarts: STR, PRS to ACT, ENG, BUF, SCH, and HIF to XLT. -/
def coreWindow (a : Nat) : Bool :=
  (0x1000 ≤ a && a < 0x10000) || (0x200000 ≤ a && a < 0x1000000) || 0x2000000 ≤ a

/-- A block restart holds accesses at offset `a`: those of its block's window, and of its own engines for a cluster (R536). -/
def Dev.windowHeld (d : Dev) (a : Nat) : Bool :=
  d.flt.blocks.any fun b =>
    let n := b.1
    if a < 0x200000 then false
    else if a < 0x280000 then n < 8
    else if a < 0x300000 then 16 ≤ n && n < 64
    else if a < 0x380000 then 64 ≤ n && n < 80
    else if a < 0x400000 then n = 99
    else if a < 0x800000 then (a - 0x400000) % 0x4000 < 0x2000 && n = 82 + (a - 0x400000) / 0x40000
    else if a < 0xA00000 then n = 80
    else if a < 0x1000000 then n = 81
    else if a < 0x2000000 then false
    else n = 100

/-- Offsets of SYS and FLT, which answer at once throughout every restart. -/
def alwaysOpen (a : Nat) : Bool := a < 0x1000 || (0x10000 ≤ a && a < 0x20000)

/-- No restart holds an access at offset `a` (R536, R537). -/
def Dev.accessOpen (d : Dev) (a : Nat) : Bool :=
  alwaysOpen a || (d.flt.eland.isNone && (d.running || !coreWindow a) && !d.windowHeld a)

/-- A register access outside SYS: before RUN a write is discarded and a read returns all ones (R564); an access that a restart holds waits, and takes effect when the
restart releases it. -/
def Dev.access (d : Dev) (a : Nat) (v : Option Word) (f : Dev → Dev) : Dev :=
  if !d.up then (if v.isNone && d.stage ≠ 0 then { d with bus := BitVec.allOnes 64 } else d)
  else if d.accessOpen a then f d
  else { d with flt := { d.flt with held := d.flt.held ++ [(a, v)] } }

/-! ### Free values -/

/-- The next free value, below `n`, and the state that has used it (log entry 6). -/
def Dev.fresh (d : Dev) (n : Nat) : Nat × Dev :=
  (Config.free d.freeCtr % n, { d with freeCtr := d.freeCtr + 1 })

/-! ### Events and MSI-X messages (R521, R548) -/

/-- The EVENT register of an event source. Its EVENT_MASK register is 8 bytes above it. -/
def evtReg (s : Nat) : Option Nat :=
  if s = 0 then some Reg.STR_EVENT
  else if s = 1 then some Reg.PRS_EVENT
  else if s = 2 then some Reg.TBL_EVENT
  else if s = 3 then some Reg.AAR_EVENT
  else if s = 4 then some Reg.ACT_EVENT
  else if s = 5 then some Reg.ENG_GEVENT
  else if s = 6 then some Reg.BUF_EVENT
  else if s = 7 then some Reg.SCH_EVENT
  else if s = 8 then some Reg.TIM_EVENT
  else if s = 9 then some Reg.TIM_TRIG_EVENT
  else if s = 10 then some Reg.TIM_CAP_EVENT
  else if s = 11 then some Reg.PWR_EVENT
  else if s = 12 then some Reg.DMC_EVENT
  else if s = 13 then some Reg.PRT_RCLK_EVENT
  else if s = 14 then some Reg.HIF_EVENT
  else if s = 15 then some Reg.FLT_EVENT
  else if s = 16 then some Reg.PMC_EVENT
  else if 64 ≤ s ∧ s < 194 then some (Reg.PRT_EVENT (s - 64))
  else if 256 ≤ s ∧ s < 512 then some (Reg.ENG_EVENT (s - 256))
  else if 512 ≤ s ∧ s < 640 then some (Reg.GAT_EVENT (s - 512))
  else none

/-- Event source `s` is pending: EVENT and EVENT_MASK have a common bit set (R521). -/
def Dev.pendingEvt (d : Dev) (s : Nat) : Bool :=
  match evtReg s with
  | none => false
  | some a => (d.reg a &&& d.reg (a + 8)) != 0

/-- The control word of vector `v` of a function: message data in bits 31:0, MASKED in bit 32, 1 at reset. -/
def Dev.vecCtrl (d : Dev) (f v : Nat) : Word :=
  if f = 0 then d.reg (Reg.SYS_MSIX_CTRL v) else Map.getD d.hif.vfMsix (2 * (128 * f + v) + 1) (BitVec.ofNat 64 4294967296)

/-- Sends the message of vector `v` of function `f`; while the vector is masked its pending bit is set instead (R475). -/
def Dev.sendVec (d : Dev) (f v : Nat) : Dev :=
  if (d.vecCtrl f v).getLsbD 32 then
    if f = 0 then
      let a := Reg.SYS_MSIX_PBA (v / 64)
      d.setReg a (d.reg a ||| BitVec.ofNat 64 (2 ^ (v % 64)))
    else
      let k := 2 * f + v / 64
      { d with hif := { d.hif with vfPba := Map.put d.hif.vfPba k (Map.getD d.hif.vfPba k 0 ||| BitVec.ofNat 64 (2 ^ (v % 64))) } }
  else
    let d := d.count (Reg.HIF_COUNT 13) 1
    { d with hif := { d.hif with msgs := (f, v) :: d.hif.msgs } }

/-- Sends the message of source `s` under its HIF_EVT_MAP, none before the first RUN (R564); during an Eland restart the message waits (R537). -/
def Dev.sendEvt (d : Dev) (s : Nat) : Dev :=
  let a := Reg.HIF_EVT_MAP s
  if d.bit a F.HIF_EVT_MAP_EN && d.up then
    if d.flt.eland.isSome then { d with hif := { d.hif with pend := if s ∈ d.hif.pend then d.hif.pend else d.hif.pend ++ [s] } }
    else d.sendVec (d.fld a F.HIF_EVT_MAP_FUNC) (d.fld a F.HIF_EVT_MAP_VECTOR)
  else d

/-- Sets bits of the EVENT register of source `s`; when the source becomes pending its message is sent (R521). -/
def Dev.raiseMask (d : Dev) (s bits : Nat) : Dev :=
  match evtReg s with
  | none => d
  | some a =>
    let was := d.pendingEvt s
    let d := d.setReg a (d.reg a ||| BitVec.ofNat 64 bits)
    if d.pendingEvt s && !was then d.sendEvt s else d

/-- Raises one event: bit `b` of source `s`. -/
def Dev.raise (d : Dev) (s b : Nat) : Dev := d.raiseMask s (2 ^ b)

/-! ### Fault reports (R526, R527) -/

/-- A fault of class `k` (1 C, 2 U, 3 F) on its way to the collector. -/
def Dev.report (d : Dev) (line k : Nat) (logic : Bool) : Dev :=
  { d with flt := { d.flt with queue := d.flt.queue ++ [⟨line, k, logic, false, d.free⟩] } }

end Sys2Proof.Machine
end

