-- ==== Sys2Proof/Machine/Ctx.lean ====
section
/-! DEFINITION. The packet context (R44): its fields, reading and writing them, the energy charge (R49, R266), and the sections of the
packet's generation (R38).
Readings of the manual that it takes are DEDUCED, in log entry 15. -/

namespace Sys2Proof.Machine

/-- A field of the context: its word, lowest bit and width. -/
structure CtxFld where
  word : Nat
  lo : Nat
  w : Nat
  deriving DecidableEq, Repr

namespace C

def IN_PORT : CtxFld := ⟨0, 0, 8⟩
def IN_PIPE : CtxFld := ⟨0, 8, 3⟩
def G : CtxFld := ⟨0, 11, 1⟩
def PASS : CtxFld := ⟨0, 12, 3⟩
def FRAME_LEN : CtxFld := ⟨0, 16, 14⟩
def HASH : CtxFld := ⟨0, 32, 32⟩
def RX_TS_NS : CtxFld := ⟨1, 0, 32⟩
def RX_TS_FRAC : CtxFld := ⟨1, 32, 8⟩
def ENERGY : CtxFld := ⟨1, 40, 24⟩
def HEAD_CELL : CtxFld := ⟨2, 0, 19⟩
def SPILLED : CtxFld := ⟨2, 19, 1⟩
def QUEUE : CtxFld := ⟨2, 24, 17⟩
def TC : CtxFld := ⟨2, 41, 3⟩
def COLOR : CtxFld := ⟨2, 44, 2⟩
def DISP : CtxFld := ⟨2, 48, 4⟩
def REASON : CtxFld := ⟨2, 52, 8⟩
def LAYERS : CtxFld := ⟨3, 0, 5⟩
def END_STATE : CtxFld := ⟨3, 5, 9⟩
def PAYLOAD_OFS : CtxFld := ⟨3, 14, 9⟩
def MAL_REASON : CtxFld := ⟨3, 24, 8⟩
def IS_FRAG : CtxFld := ⟨3, 32, 1⟩
def FIRST_FRAG : CtxFld := ⟨3, 33, 1⟩
def DEST : CtxFld := ⟨22, 0, 16⟩
def MCAST : CtxFld := ⟨22, 16, 1⟩
def REWRITE_PTR : CtxFld := ⟨22, 20, 20⟩
def POLICER : CtxFld := ⟨22, 40, 16⟩
def POLICE_EN : CtxFld := ⟨22, 56, 1⟩
def MIRROR : CtxFld := ⟨22, 57, 7⟩
def EDIT_OFS : CtxFld := ⟨23, 0, 8⟩
def STRIP_START : CtxFld := ⟨23, 8, 8⟩
def STRIP_END : CtxFld := ⟨23, 16, 8⟩
def NEW_ETYPE : CtxFld := ⟨23, 24, 16⟩
def DEC_TTL : CtxFld := ⟨23, 40, 1⟩
def SET_DSCP : CtxFld := ⟨23, 41, 1⟩
def DSCP : CtxFld := ⟨23, 42, 6⟩
def VLAN_POP : CtxFld := ⟨23, 48, 2⟩
def MPLS_OP : CtxFld := ⟨23, 50, 3⟩
def TTL_255 : CtxFld := ⟨23, 53, 1⟩
def STRIP_MODE : CtxFld := ⟨23, 54, 2⟩
def TS : CtxFld := ⟨23, 56, 2⟩
def LABEL_A : CtxFld := ⟨24, 0, 20⟩
def LABEL_B : CtxFld := ⟨24, 20, 20⟩
def EXP : CtxFld := ⟨24, 40, 3⟩
def MEMBER : CtxFld := ⟨25, 0, 14⟩
def GROUP : CtxFld := ⟨25, 16, 12⟩
def SPREAD : CtxFld := ⟨25, 28, 1⟩
def STAGE_MASK : CtxFld := ⟨26, 0, 32⟩
def FORECAST : CtxFld := ⟨26, 32, 24⟩
def SATURATED : CtxFld := ⟨26, 56, 1⟩
def ORIG_CTX : CtxFld := ⟨27, 0, 16⟩
def COPY : CtxFld := ⟨27, 16, 1⟩

end C

/-! The values of DISP (R45). -/

namespace Disp

def forward : Nat := 0
def drop : Nat := 1
def engine : Nat := 2
def host : Nat := 3
def punt : Nat := 4
def recirc : Nat := 5
def malformed : Nat := 6

end Disp

/-- A field of context words. -/
def ctxGet (ws : List Word) (f : CtxFld) : Nat := Fld.of ⟨f.lo, f.w⟩ (wordAt ws f.word)

/-- Context words with a field written. -/
def ctxPut (ws : List Word) (f : CtxFld) (v : Nat) : List Word :=
  ws.set f.word (Fld.put ⟨f.lo, f.w⟩ (wordAt ws f.word) v)

/-- A context of 32 zero words. -/
def ctxZero : List Word := List.replicate 32 0

def Pkt.get (p : Pkt) (f : CtxFld) : Nat := ctxGet p.words f
def Pkt.flag (p : Pkt) (f : CtxFld) : Bool := p.get f != 0
def Pkt.put (p : Pkt) (f : CtxFld) (v : Nat) : Pkt := { p with words := ctxPut p.words f v }
def Pkt.putWord (p : Pkt) (i : Nat) (v : Word) : Pkt := { p with words := p.words.set i v }
def Pkt.word (p : Pkt) (i : Nat) : Word := wordAt p.words i

/-- Context bytes `i` to `i + n − 1` (R44). -/
def Pkt.ctxBytes (p : Pkt) (i n : Nat) : List Byte := slice (wordsBytes p.words) i n

/-- Words that 8-byte groups of `bs` spell; `n` of them. -/
def bytesWords (bs : List Byte) (n : Nat) : List Word :=
  (List.range n).map fun i => BitVec.ofNat 64 (word64 bs (8 * i))

/-- Writes context bytes from offset `i`. -/
def Pkt.putBytes (p : Pkt) (i : Nat) (bs : List Byte) : Pkt :=
  { p with words := bytesWords (overlay (wordsBytes p.words) i bs) 32 }

/-- Sets the disposition and its reason. -/
def Pkt.dispose (p : Pkt) (disp reason : Nat) : Pkt := (p.put C.DISP disp).put C.REASON reason

/-- The packet is still to be forwarded, delivered or recirculated (R263). -/
def Pkt.isDisp (p : Pkt) (l : List Nat) : Bool := decide (p.get C.DISP ∈ l)

/-! ### Energy (R49, R51, R266) -/

/-- The charge of stage class `s` for a length, with the costs in force (R49). -/
def Dev.cost (d : Dev) (s len : Nat) : Nat :=
  let a := Reg.ACT_COST s
  d.fld a F.ACT_COST_A + (d.fld a F.ACT_COST_B * len) >>> 8

/-- The largest charge (R17). -/
def energyMax : Nat := 16777215

/-- Context words after ENERGY has taken `add`, with what was actually added (R49). -/
def addEnergy (ws : List Word) (add : Nat) : List Word × Nat :=
  let e := ctxGet ws C.ENERGY
  if e + add > energyMax then (ctxPut (ctxPut ws C.ENERGY energyMax) C.SATURATED 1, energyMax - e)
  else (ctxPut ws C.ENERGY (e + add), add)

/-- The class accumulators after one charge (R266). -/
def Dev.classCount (d : Dev) (s got len : Nat) : Dev :=
  ((d.count (Reg.ACT_CLASS_PJ s) got).count (Reg.ACT_CLASS_CNT s) 1).count (Reg.ACT_CLASS_BYTES s) len

/-- The packet passes a stage of class `s` and is charged (R49). -/
def Dev.charge (d : Dev) (p : Pkt) (s : Nat) : Dev × Pkt :=
  let len := p.get C.FRAME_LEN
  let r := addEnergy p.words (d.cost s len)
  let ws := ctxPut r.1 C.STAGE_MASK (ctxGet r.1 C.STAGE_MASK ||| 2 ^ s)
  (d.classCount s r.2 len, { p with words := ws })

/-- The packet passes a stage of a class that was forecast: its bit is set, nothing is charged (R49, R52). -/
def Pkt.pass (p : Pkt) (s : Nat) : Pkt := p.put C.STAGE_MASK (p.get C.STAGE_MASK ||| 2 ^ s)

/-- One class of the forecast: added to ENERGY and to FORECAST (R51, R263). -/
def Dev.forecast1 (dp : Dev × Pkt) (s : Nat) : Dev × Pkt :=
  let len := dp.2.get C.FRAME_LEN
  let r := addEnergy dp.2.words (dp.1.cost s len)
  let ws := ctxPut r.1 C.FORECAST (min (ctxGet r.1 C.FORECAST + r.2) energyMax)
  (dp.1.classCount s r.2 len, { dp.2 with words := ws })

/-- The accumulator of the power manager that a packet of ingress pipe `p` feeds (R53, R426): the pipe's own and the total. -/
def Dev.account (d : Dev) (pipe pj : Nat) : Dev := (d.count (Reg.PWR_ACC pipe) pj).count (Reg.PWR_ACC 8) pj

/-! ### Generations and their sections (R38, R67) -/

/-! The section types of R67. -/

namespace T

def PARSE_GRAPH : Nat := 0x01
def PARSE_EXTRACT : Nat := 0x02
def MALFORMED_POLICY : Nat := 0x03
def TILE_MAP : Nat := 0x10
def LOOKUP_PROGRAM : Nat := 0x11
def DRAM_LPM : Nat := 0x12
def CHAMOIS_CHAIN : Nat := 0x18
def ACTION_MERGE : Nat := 0x20
def REWRITE_LAYOUT : Nat := 0x21
def SPREAD : Nat := 0x22
def ENGINE_PROGRAM : Nat := 0x28
def ENGINE_DATA : Nat := 0x29
def LANE_MAP : Nat := 0x30
def QUEUE_SHAPE : Nat := 0x38
def ENERGY_COSTS : Nat := 0x40
def REG_INIT : Nat := 0x48
def NOTE : Nat := 0x7F

end T

/-- An empty generation. -/
def Gen.none : Gen := ⟨.empty, 0, [], []⟩

def Dev.gen (d : Dev) (g : Nat) : Gen := (d.gens[g]?).getD Gen.none

def Dev.setGen (d : Dev) (g : Nat) (x : Gen) : Dev := { d with gens := d.gens.set g x }

/-- The body of section (type, instance) among sections. -/
def findSec (secs : List Section) (t i : Nat) : Option (List Byte) :=
  (secs.find? fun x => x.type = t && x.inst = i).map Section.body

/-- The body of a class G section of generation `g`. -/
def Dev.sec (d : Dev) (g t i : Nat) : Option (List Byte) := findSec (d.gen g).secs t i

/-- A body, or the empty body, whose every field reads 0. -/
def Dev.secOr0 (d : Dev) (g t i : Nat) : List Byte := (d.sec g t i).getD []

/-- A field of the 64-bit word at byte offset `o` of a body (R64). -/
def bodyFld (b : List Byte) (o lo w : Nat) : Nat := bitsOf (word64 b o) lo w

/-- The active generation's number (STR_GEN.ACTIVE). -/
def Dev.activeG (d : Dev) : Nat := d.fld Reg.STR_GEN F.STR_GEN_ACTIVE

/-- A packet or a record is discarded with its REASON, 0 where it has none (R45, R48). -/
def Dev.noteDiscard (d : Dev) (pid why : Nat) : Dev := { d with discards := (pid, why) :: d.discards }

/-- A serial number. -/
def Dev.newTag (d : Dev) : Nat × Dev := (d.pidCtr + 1, { d with pidCtr := d.pidCtr + 1 })

/-! ### Packets -/

def Dev.pkt (d : Dev) (c : Nat) : Option Pkt := Map.find d.pkts c
def Dev.setPkt (d : Dev) (c : Nat) (p : Pkt) : Dev := { d with pkts := Map.put d.pkts c p }
def Dev.dropPkt (d : Dev) (c : Nat) : Dev := { d with pkts := Map.del d.pkts c }

/-- The device in RUN with a packet of context `c` at a stage for which `ok` holds: `f` acts on them; otherwise nothing happens
(log entry 8). -/
def Dev.withPkt (d : Dev) (c : Nat) (ok : Pkt → Bool) (f : Pkt → Dev) : Dev :=
  if d.running then
    match d.pkt c with
    | some p => if ok p then f p else d
    | none => d
  else d

/-- The first context index at or after `k`, wrapping, that no packet holds; `fuel` indexes are tried. -/
def freeCtxFrom (pkts : List (Nat × Pkt)) : Nat → Nat → Nat
  | k, 0 => k
  | k, fuel + 1 => if (Map.find pkts k).isNone then k else freeCtxFrom pkts ((k + 1) % 65536) fuel

/-- A free context index of the device's choice (R41, log entry 6). -/
def Dev.newCtx (d : Dev) : Nat × Dev :=
  let (k, d) := d.fresh 65536
  (freeCtxFrom d.pkts k d.pkts.length, d)

/-- Multicast copies made and not yet in the buffer, each with a context of the general pool (R330). -/
def Dev.made (d : Dev) : List Rec := d.repls.flatMap Repl.notReady

/-- A general-pool context is free (R41, R330). -/
def Dev.poolFree (d : Dev) : Bool := (d.pkts.filter fun e => !e.2.egressPool).length + d.made.length < 57344

/-- The G that a new packet of source `src` takes: the active generation; while a flip switches the sources, either, and the new one
once the source has taken it (R88, R90, log entry 6). -/
def Dev.newG (d : Dev) (src : Nat) : Nat × Dev :=
  if !d.flipping then (d.activeG, d)
  else if src ∈ d.flipped then (1 - d.activeG, d)
  else
    let (k, d) := d.fresh 2
    if k = 0 then (d.activeG, d) else (1 - d.activeG, { d with flipped := d.flipped ++ [src] })

/-- Words 0, 1 and 27 of a new context; every other word is zero (R44). `ts` is the receive time in ns and 1/256 ns. -/
def newWords (port pipe g len ts c : Nat) : List Word :=
  let ws := ctxPut (ctxPut (ctxPut (ctxPut ctxZero C.IN_PORT port) C.IN_PIPE pipe) C.G g) C.FRAME_LEN len
  ctxPut (ctxPut (ctxPut ws C.RX_TS_NS (ts / 256)) C.RX_TS_FRAC (ts % 256)) C.ORIG_CTX c

/-- A new packet in a general-pool context, with its context's index (R44). `src` is its source under R90. -/
def Dev.newPkt (d : Dev) (src port pipe ts : Nat) (bytes : List Byte) : Nat × Pkt × Dev :=
  let (g, d) := d.newG src
  let (c, d) := d.newCtx
  let n := d.pidCtr + 1
  (c,
   { pid := n, fromHost := src == 130, fromEngine := src == 132, egressPool := false, epipe := 0
     words := newWords port pipe g (bytes.length + 4) ts c, bytes := bytes, stage := .crossed, next := 0, counts := [], seq := n
     reads := [], flight := [], dram := none, ecc := false, group := none, pin := none, sub := none, tsFixed := false
     recCell := 0, recOwn := 0, recSpill := 0, spill := none, data := 0, queue := 0, sent := 0, txStart := 0 },
   { d with pidCtr := n })

end Sys2Proof.Machine
end

