-- ==== Sys2Proof/Machine/Buckets.lean ====
section
/-! DEFINITION. Token buckets of shapers and policers (R348 to R351), the tree of queues (R343, R344) and the state of ports. -/

namespace Sys2Proof.Machine

/-- The bucket fields, bits 37:0 of every node and policer register (R368). -/
def bkRATE : Fld := ⟨0, 16⟩
def bkBURST : Fld := ⟨16, 20⟩
def bkUNIT : Fld := ⟨36, 1⟩
def bkEN : Fld := ⟨37, 1⟩

/-- The register of a bucket: kind 0 queue, 1 subscriber, 2 group, 3 port, 4 policer (SCH_LEVEL_SEL). -/
def bucketReg (kind i : Nat) : Nat :=
  if kind = 0 then Reg.SCH_QCFG i
  else if kind = 1 then Reg.SCH_SUB i
  else if kind = 2 then Reg.SCH_GROUP i
  else if kind = 3 then Reg.SCH_PORT i
  else Reg.SCH_POL i

/-- How many buckets a kind has; 0 for a reserved kind. -/
def bucketCount (kind : Nat) : Nat :=
  if kind = 0 then 131072 else if kind = 1 then 16384 else if kind = 2 then 2048 else if kind = 3 then 132
  else if kind = 4 then 65536 else 0

/-- The key of a bucket in `Dev.buckets`. -/
def bucketKey (kind i : Nat) : Nat := 262144 * kind + i

/-- V of R348, from a RATE field. -/
def rateOf (r : Nat) : Nat := (r % 2048) * 2 ^ (r / 2048)

/-- DEPTH of a bucket register (R349). -/
def depthOf (w : Word) : Int :=
  if bkUNIT.of w = 0 then ((bkBURST.of w * 8000000 : Nat) : Int) else ((bkBURST.of w * 1000 : Nat) : Int)

/-- The bucket as stored; one that is not stored has stood at its DEPTH since RUN (R351). -/
def Dev.bucket (d : Dev) (kind i : Nat) : Bucket :=
  Map.getD d.buckets (bucketKey kind i) ⟨depthOf (d.reg (bucketReg kind i)), d.free⟩

/-- What one refill after `dt` ns adds, before the limit of DEPTH (R350). -/
def Dev.refillAdd (d : Dev) (kind : Nat) (w : Word) (dt : Nat) : Nat :=
  let add := rateOf (bkRATE.of w) * dt
  if kind ≠ 4 ∧ bkUNIT.of w = 1 then (add * d.fld Reg.SCH_ESCALE F.SCH_ESCALE_SCALE) >>> 8 else add

/-- The level after a refill at TIM_FREE; since its last use the bucket was refilled every 1,000,000 ns (R350, log entry 21). -/
def Dev.levelNow (d : Dev) (kind i : Nat) : Int :=
  let w := d.reg (bucketReg kind i)
  let b := d.bucket kind i
  let dt := d.free - b.last
  let add := dt / 1000000 * d.refillAdd kind w 1000000 + d.refillAdd kind w (dt % 1000000)
  min (b.level + (add : Int)) (depthOf w)

/-- Stores a bucket's level as of now. -/
def Dev.setLevel (d : Dev) (kind i : Nat) (l : Int) : Dev :=
  { d with buckets := Map.put d.buckets (bucketKey kind i) ⟨l, d.free⟩ }

/-- A shaper is conforming (R352); a policer when its level is 0 or more. -/
def Dev.conforming (d : Dev) (kind i : Nat) : Bool :=
  if kind = 4 then 0 ≤ d.levelNow kind i
  else bkEN.of (d.reg (bucketReg kind i)) = 0 || 0 ≤ d.levelNow kind i

/-- Charges a shaper with a byte cost and an energy cost (R353). -/
def Dev.chargeShaper (d : Dev) (kind i bytes pj : Nat) : Dev :=
  let w := d.reg (bucketReg kind i)
  if bkEN.of w = 0 then d
  else d.setLevel kind i (d.levelNow kind i - (if bkUNIT.of w = 0 then ((bytes * 8000000 : Nat) : Int) else (pj : Int)))

/-! ### The tree (R343, R344) -/

/-- The port of a group, when its record is VALID. -/
def Dev.groupPort (d : Dev) (g : Nat) : Option Nat :=
  if d.bit (Reg.SCH_GROUP g) F.SCH_GROUP_VALID then some (d.fld (Reg.SCH_GROUP g) F.SCH_GROUP_PARENT % 256) else none

/-- The port that subscriber `s` belongs to (R344). -/
def Dev.subPort (d : Dev) (s : Nat) : Option Nat :=
  if d.bit (Reg.SCH_SUB s) F.SCH_SUB_VALID then d.groupPort (d.fld (Reg.SCH_SUB s) F.SCH_SUB_PARENT) else none

/-! ### Ports (R102, R106, R112) -/

/-- State of a port beside its registers, as after reset. -/
def Port.init : Port :=
  { holdEnd := none, discard := true, pcs := false, verifyTries := 0, verifyAt := 0, since := 0, mode := 0, adv := 0, mm := 0, forcedDown := false }

def Dev.port (d : Dev) (n : Nat) : Port := Map.getD d.ports n Port.init
def Dev.setPort (d : Dev) (n : Nat) (p : Port) : Dev := { d with ports := Map.put d.ports n p }

/-- PRT_STATUS.STATE values (R111). -/
def stAdminDown : Nat := 0
def stAn : Nat := 1
def stTrain : Nat := 2
def stAlign : Nat := 3
def stUp : Nat := 4

def Dev.portState (d : Dev) (n : Nat) : Nat := d.fld (Reg.PRT_STATUS n) F.PRT_STATUS_STATE

/-- The port is up under R112; ports 130 and 131 have no link and are never down. -/
def Dev.portUp (d : Dev) (n : Nat) : Bool :=
  if n < 130 then d.bit (Reg.PRT_STATUS n) F.PRT_STATUS_LINK else true

/-- The PRT_MODE in force: as taken at the last entry to AN or ALIGN, and as it stands while the port is in ADMIN_DOWN (R136). -/
def Dev.modeOf (d : Dev) (n : Nat) : Word :=
  if d.portState n = stAdminDown then d.reg (Reg.PRT_MODE n) else (d.port n).mode

/-- The port has lanes (R102, R106): a front-panel port by its WIDTH, a management port unless it is marked unused. -/
def Dev.bound (d : Dev) (n : Nat) : Bool :=
  let m := d.modeOf n
  if n < 128 then F.PRT_MODE_WIDTH.of m != 0
  else if n < 130 then !(F.PRT_MODE_MODE.of m == 0 && F.PRT_MODE_AN_EN.of m == 0)
  else true

/-- Packets for the port are discarded at admission: down past its hold, administratively down, or unbound (R129, R130). -/
def Dev.downDiscard (d : Dev) (n : Nat) : Bool :=
  n < 130 && !d.portUp n && (!d.bound n || d.portState n == stAdminDown || (d.port n).discard)

/-- The ingress or egress pipe of a port with lanes (R34, R101). -/
def pipeOfPort (n : Nat) : Nat := if n < 128 then n / 16 else if n = 128 then 0 else 7

/-- The receive rim that serves a port: the quad of its first lane, or 24 and 25 for the management rims (R31). -/
def Dev.quadOf (d : Dev) (n : Nat) : Nat :=
  if n < 128 then F.PRT_MODE_FIRST_LANE.of (d.modeOf n) / 4 else n - 104

/-! ### Turns at an ingress pipe (R35) -/

/-- The next element of `l` after `c`, ascending and wrapping. -/
def nextIn (l : List Nat) (c : Nat) : Nat :=
  match (l.filter (· > c)).min? with
  | some x => x
  | none => (l.min?).getD c

/-- A packet of the same port and queue that was dequeued before `p` and for which `f` holds (R40). -/
def Dev.older (d : Dev) (p : Pkt) (f : Stage → Bool) : Bool :=
  d.pkts.any fun e => e.2.egressPool && e.2.queue == p.queue && e.2.seq < p.seq && f e.2.stage

/-- A packet of port 131 can return to its ingress pipe now (R40, R161). -/
def Dev.mayReturn (d : Dev) (p : Pkt) : Bool :=
  p.stage == .recirc && d.lineUp (8 + p.epipe) && d.lineUp (p.get C.IN_PIPE) && !d.older p (fun s => s == .egress 131 || s == .recirc)

/-- The sources that offer work to ingress pipe `pipe` now: each port with a frame in a receive rim, 130 for a host injection that is not
DIRECT (R508) and 131 for the
recirculation return (R34, R35). -/
def Dev.sources (d : Dev) (pipe : Nat) : List Nat :=
  (d.rxq.flatMap fun e => (e.2.map (·.port)).filter fun n => pipeOfPort n == pipe) ++
  ((d.hif.injects.head?.filter fun j => d.lineUp 100 && !bitOf (wordAt j.words 2).toNat 20 && bitsOf (wordAt j.words 2).toNat 16 3 == pipe).map fun _ => 130).toList ++
  (if d.pkts.any fun e => d.mayReturn e.2 && e.2.get C.IN_PIPE == pipe then [131] else [])

/-- The pipe grants its next beat to source `n`: the next active source after the one it granted last. -/
def Dev.inTurn (d : Dev) (pipe n : Nat) : Bool := nextIn (d.sources pipe) (Map.getD d.turns pipe 131) == n

/-- Source `n` has had its beat. -/
def Dev.granted (d : Dev) (pipe n : Nat) : Dev := { d with turns := Map.put d.turns pipe n }

/-! ### Rungs of the ladder in force (R431 to R435) -/

def Dev.rungOn (d : Dev) (k : Nat) : Bool := (d.fld Reg.PWR_LADDER F.PWR_LADDER_IN_FORCE).testBit k
def Dev.rungKind (d : Dev) (k : Nat) : Nat := d.fld (Reg.PWR_RUNG k) F.PWR_RUNG_KIND
def Dev.rungArg (d : Dev) (k : Nat) : Nat := d.fld (Reg.PWR_RUNG k) F.PWR_RUNG_ARG

/-- Some rung of a kind is in force with an argument for which `f` holds. -/
def Dev.anyRung (d : Dev) (kind : Nat) (f : Nat → Bool) : Bool :=
  (List.range 16).any fun k => d.rungOn k && d.rungKind k == kind && f (d.rungArg k)

/-- Port `n` is in port set `k` (R435). -/
def Dev.inPortSet (d : Dev) (k n : Nat) : Bool :=
  n < 128 && (d.reg (Reg.PWR_PORTSET (2 * k + n / 64))).getLsbD (n % 64)

end Sys2Proof.Machine
end

