-- ==== Sys2Proof/Machine/Tables.lean ====
section
/-! DEFINITION. The forwarding tables (R167 to R211, R604): what TILE_MAP and LOOKUP_PROGRAM bodies say, the contents of tables, keys,
matching, and what an error in a tile word does.
Readings of the manual that it takes are DEDUCED, in log entries 16, 17. -/

namespace Sys2Proof.Machine

/-! ### TILE_MAP (R171, R174) -/

def tmKind (b : List Byte) : Nat := bodyFld b 0 0 2
/-- W, words of an entry (R174). -/
def tmW (b : List Byte) : Nat := 2 ^ bodyFld b 0 2 2
def tmKeyBits (b : List Byte) : Nat := bodyFld b 0 4 9
def tmPortField (b : List Byte) : Bool := bodyFld b 0 13 1 = 1
def tmNotifyAged (b : List Byte) : Bool := bodyFld b 0 14 1 = 1
def tmEgress (b : List Byte) : Bool := bodyFld b 0 15 1 = 1
def tmDramExt (b : List Byte) : Bool := bodyFld b 0 16 1 = 1
def tmHashSeed (b : List Byte) : Nat := bodyFld b 0 32 16
def tmTileCount (b : List Byte) : Nat := bodyFld b 8 0 8

/-- Tile `t` belongs to the table. -/
def tmHasTile (b : List Byte) (t : Nat) : Bool := (word64 b (16 + 8 * (t / 64))).testBit (t % 64)

/-- The table's tiles in ascending order. -/
def tmTiles (b : List Byte) : List Nat := (List.range 192).filter (tmHasTile b)

/-- Places of a table that is not LPM (R171). -/
def tmPlaces (b : List Byte) : Nat := tmTileCount b * (32768 / tmW b)

/-- Prefixes an LPM table holds on chip whatever they are (R185). -/
def lpmOnChip (b : List Byte) : Nat := tmTileCount b * (if tmKeyBits b ≤ 48 then 32768 else 8192)

/-- DRAM_LPM body fields (R187). -/
def dlSplit (b : List Byte) : Nat := bodyFld b 0 0 8
def dlChannels (b : List Byte) : Nat := bodyFld b 0 8 4
def dlBase (b : List Byte) : Nat := bodyFld b 8 0 16
def dlSize (b : List Byte) : Nat := bodyFld b 8 16 16

/-- The channels a DRAM extension uses, ascending. -/
def dlChans (b : List Byte) : List Nat := (List.range 4).filter fun c => (dlChannels b).testBit c

/-- Prefixes the extension holds (R188). -/
def lpmDram (b : List Byte) : Nat := 16384 * dlSize b * (dlChans b).length

/-! ### CHAMOIS_CHAIN (R213, R216) -/

/-- k, the segments of a chain. -/
def ccK (b : List Byte) : Nat := 2 ^ bodyFld b 0 0 2
def ccKeyBits (b : List Byte) : Nat := bodyFld b 0 4 10
def ccHasSeg (b : List Byte) (s : Nat) : Bool := (word64 b 8).testBit s
def ccSegs (b : List Byte) : List Nat := (List.range 64).filter (ccHasSeg b)
/-- C, the chains of the table. -/
def ccChains (b : List Byte) : Nat := (ccSegs b).length / ccK b
def ccCapacity (b : List Byte) : Nat := 4096 * ccChains b
/-- KW, the key words of an entry image (R225). -/
def ccKW (b : List Byte) : Nat := if ccK b = 1 then 2 else if ccK b = 2 then 3 else if ccK b = 4 then 5 else 10

/-! ### Definitions across generations (R71, R84) -/

/-- How a table number is defined: by a TILE_MAP body, by a CHAMOIS_CHAIN body, only in a LOADING generation, or not at all. -/
inductive TblDef where
  | none
  | loading
  | tile (b : List Byte)
  | cham (b : List Byte)
  deriving DecidableEq, Repr

/-- The definition of table `t` in generation `g`, whatever the generation's state. -/
def Dev.tblIn (d : Dev) (g t : Nat) : TblDef :=
  match d.sec g T.TILE_MAP t with
  | some b => .tile b
  | none =>
    match d.sec g T.CHAMOIS_CHAIN t with
    | some b => .cham b
    | none => .none

/-- The generation's definitions count for commands and lookups: READY, ACTIVE or DRAINING (R84). -/
def Dev.genLive (d : Dev) (g : Nat) : Bool :=
  match (d.gen g).st with
  | .ready | .active | .draining => true
  | _ => false

/-- What table commands find under number `t` (R84, R200). -/
def Dev.tblDef (d : Dev) (t : Nat) : TblDef :=
  let live := fun g => if d.genLive g then d.tblIn g t else .none
  match live d.activeG with
  | .none =>
    match live (1 - d.activeG) with
    | .none =>
      if ((d.gen 0).st = .loading ∧ d.tblIn 0 t ≠ .none) ∨ ((d.gen 1).st = .loading ∧ d.tblIn 1 t ≠ .none) then .loading
      else .none
    | x => x
  | x => x

/-! ### Contents (R175, R176) -/

def TableMem.empty : TableMem := ⟨[], [], []⟩
def Dev.tbl (d : Dev) (t : Nat) : TableMem := Map.getD d.tables t TableMem.empty
def Dev.setTbl (d : Dev) (t : Nat) (m : TableMem) : Dev := { d with tables := Map.put d.tables t m }

/-- Fields of a result word (R176). -/
def rwValid (w : Word) : Bool := w.getLsbD 0
def rwHit (w : Word) : Bool := w.getLsbD 1
def rwStatic (w : Word) : Bool := w.getLsbD 2
def rwPort (w : Word) : Nat := Fld.of ⟨16, 8⟩ w

/-- The image at a place of `w` words; a place nothing has written holds zeros (R604, log entry 4). -/
def TableMem.image (m : TableMem) (p w : Nat) : List Word := Map.getD m.places p (List.replicate w 0)

/-- Stores an image; the place is no longer poisoned (R207). -/
def TableMem.store (m : TableMem) (p : Nat) (ws : List Word) : TableMem :=
  { m with
    places := if ws.all (· == 0) then Map.del m.places p else Map.put m.places p ws
    poison := m.poison.filter fun x => x.1 != p }

/-- Replaces one word of a place and keeps its poison. -/
def TableMem.setWord (m : TableMem) (p w i : Nat) (v : Word) : TableMem :=
  let ws := (m.image p w).set i v
  { m with places := if ws.all (· == 0) then Map.del m.places p else Map.put m.places p ws }

def TableMem.poisoned (m : TableMem) (p : Nat) : Bool := m.poison.any fun x => x.1 = p

/-- The place holds an entry: VALID of the result word, or bit 36 of word 3 of a COUNTER entry (R604). -/
def imageValid (kind : Nat) (ws : List Word) : Bool :=
  if kind = 3 then (wordAt ws 3).getLsbD 36 else rwValid (wordAt ws (ws.length - 1))

/-- The place of an EXACT table that holds the key (R172). -/
def TableMem.exactFind (m : TableMem) (key : List Word) : Option Nat :=
  (m.places.find? fun e => e.2.take (e.2.length - 1) == key && rwValid (wordAt e.2 (e.2.length - 1))).map (·.1)

/-- Prefix `e` matches the 192-bit key (R186). -/
def LpmEntry.matches (e : LpmEntry) (key : Nat) : Bool := key >>> (192 - e.plen) == e.key >>> (192 - e.plen)

/-- The longest matching prefix (R186). -/
def lpmBest (l : List LpmEntry) (key : Nat) : Option LpmEntry :=
  l.foldl (fun b e =>
    if e.matches key then
      match b with
      | some x => if x.plen < e.plen then some e else b
      | none => some e
    else b) none

/-- A marker covers the key: some prefix held in DRAM shares its leading SPLIT_LEN bits (R188). -/
def lpmMarker (l : List LpmEntry) (split key : Nat) : Bool :=
  l.any fun e => e.dram && e.key >>> (192 - split) == key >>> (192 - split)

/-- The distinct markers of the prefixes held in DRAM. -/
def lpmMarkers (l : List LpmEntry) (split : Nat) : Nat :=
  ((l.filter (·.dram)).map fun e => e.key >>> (192 - split)).eraseDups.length

/-- The candidate places of a key: a bucket of four in each half of the table. The hash is the device's own, a function of HASH_SEED, the half
and the key (R172, log entry 16). -/
def exactPlaces (b : List Byte) (key : List Word) : List Nat :=
  let n := tmPlaces b
  (List.range 2).flatMap fun h =>
    let k := Config.freeOf 6 (tmHashSeed b :: h :: key.map BitVec.toNat) % max 1 (n / 8)
    (List.range 4).map fun j => h * (n / 2) + 4 * k + j

/-- Valid entries of a table (TBL_TABLEn.OCCUPIED). -/
def TableMem.occupied (m : TableMem) (kind : Nat) : Nat :=
  if kind = 1 then m.lpm.length else (m.places.filter fun e => imageValid kind e.2).length

/-! ### Keys (R175, R178, R179) -/

/-- The bits of an `n`-byte key at `kb` and beyond, as a number. -/
def keyTail (key : List Byte) (kb : Nat) : Nat := beNat key % 2 ^ (8 * key.length - kb)

/-- A key padded to `n` bytes with its bits at `kb` and beyond forced to zero (R179). -/
def fitKey (key : List Byte) (n kb : Nat) : List Byte :=
  let k := slice key 0 n
  beBytes n (beNat k - keyTail k kb)

/-- The SPECIAL vector (R178). -/
def specialVec (p : Pkt) : List Byte :=
  [BitVec.ofNat 8 (p.get C.IN_PORT), BitVec.ofNat 8 (p.get C.PASS + 8 * p.get C.G), BitVec.ofNat 8 (p.get C.MAL_REASON)]
    ++ beBytes 2 (p.get C.END_STATE) ++ [BitVec.ofNat 8 (p.get C.IN_PIPE), 0, 0]

/-- A field of word 0 of lookup record `i` (R178). -/
def lrFld (b : List Byte) (i lo w : Nat) : Nat := bodyFld b (32 * i) lo w
def lrTable (b : List Byte) (i : Nat) : Nat := lrFld b i 0 8
def lrEn (b : List Byte) (i : Nat) : Bool := lrFld b i 8 1 = 1
def lrSlot (b : List Byte) (i : Nat) : Nat := lrFld b i 9 3
def lrLearn (b : List Byte) (i : Nat) : Bool := lrFld b i 12 1 = 1
def lrCond (b : List Byte) (i : Nat) : Nat := lrFld b i 13 2
def lrCslot (b : List Byte) (i : Nat) : Nat := lrFld b i 15 3
def lrIndexSlot (b : List Byte) (i : Nat) : Nat := lrFld b i 18 3
def lrIndexLsb (b : List Byte) (i : Nat) : Nat := lrFld b i 21 6

/-- Key segment `k` of record `i`: SRC, OFS, LEN. -/
def lrSeg (b : List Byte) (i k : Nat) : Nat × Nat × Nat :=
  let f := bodyFld b (32 * i + 8 * (1 + k / 4)) (16 * (k % 4))
  (f 2, bodyFld b (32 * i + 8 * (1 + k / 4)) (16 * (k % 4) + 2) 6, bodyFld b (32 * i + 8 * (1 + k / 4)) (16 * (k % 4) + 8) 6)

/-- The concatenated segments of record `i` (R179). -/
def lrKey (b : List Byte) (i : Nat) (p : Pkt) : List Byte :=
  (List.range 8).flatMap fun k =>
    let s := lrSeg b i k
    if s.1 = 1 then slice (p.ctxBytes 0x30 64) s.2.1 s.2.2
    else if s.1 = 2 then slice (specialVec p) s.2.1 s.2.2
    else if s.1 = 3 then slice (p.ctxBytes 0xE0 32) s.2.1 s.2.2
    else []

/-! ### Result slots (R44, R181) -/

def slotWord (p : Pkt) (k : Nat) : Word := p.word (14 + k)
def slotValid (p : Pkt) (k : Nat) : Bool := (slotWord p k).getLsbD 0
def slotHit (p : Pkt) (k : Nat) : Bool := (slotWord p k).getLsbD 1
def slotTable (p : Pkt) (k : Nat) : Nat := Fld.of ⟨8, 8⟩ (slotWord p k)
def slotResult (p : Pkt) (k : Nat) : Nat := Fld.of ⟨16, 48⟩ (slotWord p k)

/-- A result slot (R44): `result` is the word whose bits 63:16 it copies. -/
def slotOf (table : Nat) (hit multi corr : Bool) (result : Word) : Word :=
  BitVec.ofNat 64 (1 + 2 * hit.toNat + 4 * multi.toNat + 8 * corr.toNat + 256 * (table % 256)
    + (if hit then (result.toNat >>> 16) <<< 16 else 0))

/-! ### The lookup program's next lookup (R178, R180, R217) -/

/-- Record `i` makes a lookup on this packet: enabled, COND true, and INDEX_SLOT hit for an INDEX or COUNTER table (R180). -/
def Dev.recActs (d : Dev) (p : Pkt) (b : List Byte) (i : Nat) : Bool :=
  let c := lrCond b i
  let cond := if c = 0 then true else if c = 1 then slotHit p (lrCslot b i) else !slotHit p (lrCslot b i)
  lrEn b i && cond &&
    match d.tblIn (p.get C.G) (lrTable b i) with
    | .tile t => if tmKind t ≥ 2 then slotHit p (lrIndexSlot b i) else true
    | .cham _ => true
    | _ => false

/-- The program of the packet's pipe and generation. -/
def Dev.program (d : Dev) (p : Pkt) : List Byte := d.secOr0 (p.get C.G) T.LOOKUP_PROGRAM (p.get C.IN_PIPE)

/-- The next record that makes a lookup, from the packet's cursor on. -/
def Dev.nextRec (d : Dev) (p : Pkt) : Option Nat :=
  let b := d.program p
  (List.range 16).find? fun i => p.next ≤ i && d.recActs p b i

/-- A packet with no lookup left goes on to the action unit (R178). -/
def Dev.settle (d : Dev) (p : Pkt) : Pkt :=
  if p.stage == .lookups && (d.nextRec p).isNone then { p with stage := .merge } else p

/-! ### Order within a pipe (R40, R184, R220) -/

/-- How far along its ingress pipe a stage is; 9 for stages outside the pipe. -/
def Stage.rank : Stage → Nat
  | .crossed => 0
  | .lookups => 1
  | .dramWait => 1
  | .merge => 2
  | .police => 3
  | .admission => 4
  | _ => 9

/-- No packet that entered the pipe earlier is at the packet's stage or before it. A packet with `seq` 0, handed on by an engine or injected
directly, stands outside this order. -/
def Dev.inOrder (d : Dev) (c : Nat) (p : Pkt) : Bool :=
  d.pkts.all fun e =>
    e.1 == c || e.2.get C.IN_PIPE != p.get C.IN_PIPE || e.2.stage.rank > p.stage.rank || p.seq ≤ e.2.seq || e.2.seq == 0

/-! ### Tile errors (R206, R207) -/

/-- The tile and the word in it of word `i` of place `p`. -/
def tmWhere (b : List Byte) (p i : Nat) : Nat × Nat :=
  let per := 32768 / tmW b
  (((tmTiles b)[p / per]?).getD 0, (p % per) * tmW b + i)

/-- The fault line of tile `t` (R525). -/
def tileLine (t : Nat) : Nat := 16 + t / 4

/-- No region of the table's tiles restarts: lookups and commands to them go on (R533). -/
def Dev.tilesUp (d : Dev) (b : List Byte) : Bool := d.flt.blocks.isEmpty || (tmTiles b).all fun t => d.lineUp (tileLine t)

/-- No region of the Chamois table's segments restarts. -/
def Dev.segsUp (d : Dev) (b : List Byte) : Bool := d.flt.blocks.isEmpty || (ccSegs b).all fun s => d.lineUp (64 + s / 4)

/-- Commands and write operations to table `t` go on. -/
def Dev.tableUp (d : Dev) (t : Nat) : Bool :=
  match d.tblDef t with
  | .tile b => d.tilesUp b
  | .cham b => d.segsUp b
  | _ => true

/-- Where the word in error lies: its tile and the word in it. Where an LPM table keeps a prefix is the device's own (R185). -/
def errWhere (t : Nat) (b : List Byte) (p i : Nat) : Nat × Nat :=
  if tmKind b = 1 then
    (((tmTiles b)[Config.freeOf 4 [t, p] % max 1 (tmTileCount b)]?).getD 0, Config.freeOf 5 [t, p] % 32768)
  else tmWhere b p i

/-- A correctable error in word `i` of place `p` of table `t` (R206). -/
def Dev.tileCorr (d : Dev) (t : Nat) (b : List Byte) (p i : Nat) : Dev :=
  let w := errWhere t b p i
  let d := { d with writeBacks := d.writeBacks ++ [(t, p, i)] }
  (d.count (Reg.TBL_COUNT 9) 1).report (tileLine w.1) 1 false

/-- An uncorrectable error in word `i` of place `p` of table `t` (R207): the place is poisoned, recorded and reported. -/
def Dev.tileUncorr (d : Dev) (t : Nat) (b : List Byte) (p i : Nat) : Dev :=
  let w := errWhere t b p i
  let m := d.tbl t
  let m := if tmKind b = 1 then { m with lpm := m.lpm.map fun e => if e.handle = p then { e with poison := true } else e }
           else if (p, i) ∈ m.poison then m else { m with poison := m.poison ++ [(p, i)] }
  let d := d.setTbl t m
  let last := F.TBL_ECC_LAST_TILE.put 0 w.1
  let last := F.TBL_ECC_LAST_WORD.put last w.2
  let last := F.TBL_ECC_LAST_TABLE.put last t
  let last := F.TBL_ECC_LAST_VALID.put last 1
  ((d.setReg Reg.TBL_ECC_LAST last).raise 2 2).report (tileLine w.1) 2 false

/-- The word of place `pl` that poisoned it. -/
def Dev.poisonWord (d : Dev) (t pl : Nat) : Nat := (((d.tbl t).poison.find? fun x => x.1 = pl).map (·.2)).getD 0

/-- A later read of a poisoned place, whose word `w` is bad: whether it records and reports the error again is a free value (log entry 16). -/
def Dev.poisonSeen (d : Dev) (t : Nat) (b : List Byte) (pl w : Nat) : Dev :=
  let (k, d) := d.fresh 2
  if k = 0 then d else d.tileUncorr t b pl w

/-- A read of place `pl` that meets an uncorrectable word, or that finds the place poisoned (R207). -/
def Dev.badRead (d : Dev) (t : Nat) (b : List Byte) (pl : Nat) (err : ReadErr) : Dev :=
  match err with
  | .uncorr w => d.tileUncorr t b pl w
  | _ => d.poisonSeen t b pl (d.poisonWord t pl)

/-- The packet is dropped for an uncorrectable tile word (R207); ECC_DROP counts it once. -/
def Dev.eccDrop (d : Dev) (p : Pkt) : Dev × Pkt :=
  (if p.ecc then d else d.count (Reg.TBL_COUNT 10) 1, { p.dispose Disp.drop 0x18 with ecc := true })

/-- Adds to a 48-bit field of a COUNTER entry; the flag says that it wrapped (R177). -/
def add48 (w : Word) (n : Nat) : Word × Bool :=
  let x := Fld.of ⟨0, 48⟩ w + n
  (BitVec.ofNat 64 (x % 281474976710656), x ≥ 281474976710656)

/-- The COUNTER entry after one update (R177, R181). -/
def countImage (ws : List Word) (bytes pj ns : Nat) : List Word :=
  let a := add48 (wordAt ws 0) 1
  let b := add48 (wordAt ws 1) bytes
  let c := add48 (wordAt ws 2) pj
  let w := Fld.put ⟨0, 32⟩ (wordAt ws 3) ns
  let w := w ||| BitVec.ofNat 64 (a.2.toNat * 2 ^ 32 + b.2.toNat * 2 ^ 33 + c.2.toNat * 2 ^ 34)
  [a.1, b.1, c.1, w]

/-- One update of place `pl` of COUNTER table `t`: one packet, `bytes` and `pj` (R181, R289). An uncorrectable word sets POISON and
leaves the entry's other fields (R207). -/
def Dev.counterAdd (d : Dev) (t : Nat) (b : List Byte) (pl bytes pj : Nat) (err : ReadErr) : Dev :=
  let m := d.tbl t
  let bad := match err with | .uncorr _ => true | _ => false
  if bad || m.poisoned pl then
    let ws := m.image pl 4
    let d := d.setTbl t (m.setWord pl 4 3 (wordAt ws 3 ||| BitVec.ofNat 64 (2 ^ 35)))
    d.badRead t b pl err
  else
    let d := match err with | .corr w => d.tileCorr t b pl w | _ => d
    let m := d.tbl t
    d.setTbl t { m with places := Map.put m.places pl (countImage (m.image pl 4) bytes pj d.ns) }

/-! ### Chamois arrays (R212 to R218) -/

def ChEntry.empty : ChEntry := ⟨false, 0, 0⟩

/-- The entry of row `e` of segment `s`. -/
def Dev.chAt (d : Dev) (s e : Nat) : ChEntry := Map.getD d.cham (4096 * s + e) ChEntry.empty

/-- The segments of chain `c` of a table (R214). -/
def chainSegs (b : List Byte) (c : Nat) : List Nat := ((ccSegs b).drop (c * ccK b)).take (ccK b)

/-- The rows that together hold index `i` (R214, R215). -/
def Dev.chRow (d : Dev) (b : List Byte) (i : Nat) : List ChEntry :=
  (chainSegs b (i / 4096)).map fun s => d.chAt s (i % 4096)

/-- The entry at index `i` is valid. -/
def Dev.chValid (d : Dev) (b : List Byte) (i : Nat) : Bool :=
  match d.chRow b i with
  | [] => false
  | r => r.all (·.valid)

/-- The valid indexes of a table, ascending. -/
def Dev.chIndices (d : Dev) (b : List Byte) : List Nat :=
  (List.range (ccChains b)).flatMap fun c =>
    match chainSegs b c with
    | [] => []
    | s :: _ => (d.cham.filter fun e => e.1 / 4096 = s && e.2.valid).map fun e => 4096 * c + e.1 % 4096

/-- The key of a search cut into 80-bit parts, one per segment (R215). -/
def chParts (key : List Byte) (k : Nat) : List (BitVec 80) :=
  (List.range k).map fun j => BitVec.ofNat 80 (beNat (slice key (10 * j) 10))

/-- A valid row matches the key in every segment (R217). -/
def rowMatches (r : List ChEntry) (parts : List (BitVec 80)) : Bool :=
  (r.zip parts).all fun x => x.1.valid && ((x.1.key ^^^ x.2) &&& x.1.mask) == 0

/-- The matching indexes, ascending (R217). -/
def Dev.chMatches (d : Dev) (b : List Byte) (key : List Byte) : List Nat :=
  (d.chIndices b).filter fun i => rowMatches (d.chRow b i) (chParts key (ccK b))

/-- Writes valid bit, key and mask parts at index `i` in every segment of its chain at once (R223). -/
def Dev.chWrite (d : Dev) (b : List Byte) (i : Nat) (valid : Bool) (key mask : List (BitVec 80)) : Dev :=
  let segs := chainSegs b (i / 4096)
  let put := fun (m : List (Nat × ChEntry)) (x : Nat × BitVec 80 × BitVec 80) =>
    let e : ChEntry := ⟨valid, x.2.1, x.2.2⟩
    let k := 4096 * x.1 + i % 4096
    if e = ChEntry.empty then Map.del m k else Map.put m k e
  { d with cham := (segs.zip (key.zip mask)).foldl put d.cham }

end Sys2Proof.Machine
end

