-- ==== Sys2Proof/Machine/Parser.lean ====
section
/-! DEFINITION. The parser (R138 to R163): a walk through the parse graph of the packet's generation, extraction, length checks, fragments,
and the disposition that parsing ends with. -/

namespace Sys2Proof.Machine

/-! ### The bodies (R142, R149, R155) -/

/-- The reason for which the byte at packet offset `x` cannot be used, none when it can (R138). -/
def needByte (len x : Nat) : Option Nat :=
  if x ≥ len then some 3 else if x ≥ 256 then some 2 else none

/-- The first failing byte of a run of `n` bytes from `x` (R138). -/
def needRun (len x : Nat) : Nat → Option Nat
  | 0 => none
  | n + 1 =>
    match needByte len x with
    | some r => some r
    | none => needRun len (x + 1) n

/-- The 16-bit number in network order at packet offset `x`. -/
def be16 (bs : List Byte) (x : Nat) : Nat := beNat (slice bs x 2)

/-- A field of word `w` of state record `s` of a graph (R142). -/
def stFld (g : List Byte) (s w lo n : Nat) : Nat := bodyFld g (0x40 + 32 * s + 8 * w) lo n

/-- A field of word `w` of transition record `t` (R142). -/
def trFld (g : List Byte) (t w lo n : Nat) : Nat :=
  bodyFld g (0x40 + 32 * bodyFld g 0 0 10 + 16 * t + 8 * w) lo n

/-- A field of extraction record `i` (R149). -/
def exFld (e : List Byte) (i lo n : Nat) : Nat := bodyFld e (8 * i) lo n

/-- The layer length of state `s` at layer start `o`, or the reason of the failure (R144). -/
def layerLen (g bs : List Byte) (s o : Nat) : Except Nat Nat :=
  let mode := stFld g s 0 0 2
  let fixed := stFld g s 0 2 8
  if mode = 0 then .ok fixed
  else
    let x := o + stFld g s 0 10 8
    match needByte bs.length x with
    | some r => .error r
    | none =>
      let b := byteAt bs x &&& stFld g s 0 21 8
      let mul := stFld g s 0 29 2
      if mode = 1 then .ok (((b >>> stFld g s 0 18 3) <<< mul) + stFld g s 0 32 8)
      else .ok (fixed + (((List.range 8).filter fun i => b.testBit i).length <<< mul))

/-- The length cross-check of R148: the reason of its failure, if any. -/
def lenCheck (g bs : List Byte) (s o len pad : Nat) : Option Nat :=
  if stFld g s 1 0 1 = 0 then none
  else
    let x := o + stFld g s 1 2 8
    match needRun bs.length x 2 with
    | some r => some r
    | none =>
      let dl := be16 bs x + stFld g s 1 10 8
      let r := bs.length - o
      if dl > r then some 5
      else if dl < len then some 6
      else if dl < r ∧ stFld g s 1 1 1 = 1 ∧ bs.length + 4 > pad then some 7
      else none

/-- What a layer shows of a fragment: not one, or one with its offset (R151); or the reason of a failed read. -/
def fragOf (g bs : List Byte) (s o : Nat) : Except Nat (Option Nat) :=
  let mode := stFld g s 1 18 2
  if mode = 1 ∨ mode = 2 then
    let x := o + (if mode = 1 then 6 else 2)
    match needRun bs.length x 2 with
    | some r => .error r
    | none =>
      let w := be16 bs x
      let off := if mode = 1 then bitsOf w 0 13 else bitsOf w 3 13
      let more := if mode = 1 then w.testBit 13 else w.testBit 0
      .ok (if more ∨ off ≠ 0 then some off else none)
  else .ok none

/-- The extraction records of a state. -/
def stRecs (g : List Byte) (s : Nat) : List Nat :=
  (List.range (stFld g s 3 12 5)).map (stFld g s 3 0 12 + ·)

/-- The first source byte of the COPY records that cannot be used (R146). -/
def needCopies (e bs : List Byte) (o : Nat) : List Nat → Option Nat
  | [] => none
  | i :: r =>
    if exFld e i 0 2 = 0 then
      match needRun bs.length (o + exFld e i 2 8) (exFld e i 16 6) with
      | some x => some x
      | none => needCopies e bs o r
    else needCopies e bs o r

/-- The extraction area after the records of a state at layer start `o` (R149, R150). -/
def extract (e bs : List Byte) (o : Nat) (area : List Byte) (recs : List Nat) : List Byte :=
  recs.foldl (fun a i =>
    let mode := exFld e i 0 2
    let dst := exFld e i 10 6
    if mode = 0 then overlay a dst (slice bs (o + exFld e i 2 8) (exFld e i 16 6))
    else if mode = 1 then overlay a dst [BitVec.ofNat 8 (exFld e i 24 8)]
    else if mode = 2 then overlay a dst [BitVec.ofNat 8 o]
    else a) area

/-- A transition: KIND, NEXT and REASON. -/
structure Trans where
  kind : Nat
  next : Nat
  reason : Nat
  deriving DecidableEq, Repr

/-- The default transition of a state. -/
def defTrans (g : List Byte) (s : Nat) : Trans := ⟨stFld g s 3 20 2, stFld g s 3 22 9, stFld g s 3 32 8⟩

/-- The transition that state `s` takes at layer start `o` (R145). -/
def takeTrans (g bs : List Byte) (s o : Nat) : Trans :=
  let n := stFld g s 2 8 3
  if n = 0 then defTrans g s
  else
    let key := beNat (slice bs (o + stFld g s 2 0 8) n)
    let recs := (List.range (stFld g s 2 24 8)).map (stFld g s 2 12 12 + ·)
    match recs.find? fun t => (key &&& trFld g t 0 32 32) = trFld g t 0 0 32 with
    | some t => ⟨trFld g t 1 0 2, trFld g t 1 2 9, trFld g t 1 16 8⟩
    | none => defTrans g s

/-- What the walk has committed so far: layer offsets in order, extraction area, fragment bits. -/
structure Walk where
  offs : List Nat
  area : List Byte
  frag : Bool
  first : Bool
  deriving DecidableEq, Repr

/-- How parsing ended (R147): `odd` and `reason` are 0 for ACCEPT. -/
structure ParseEnd where
  walk : Walk
  state : Nat
  payload : Nat
  mal : Nat
  odd : Option Nat
  deriving DecidableEq, Repr

/-- Everything a visit of state `s` reads before it commits (R146): the layer length and the fragment found, or the failure. -/
def visitChecks (g e bs : List Byte) (pad s o : Nat) (n : Nat) : Except Nat (Nat × Option Nat) :=
  if n ≥ 16 then .error 1
  else
    match layerLen g bs s o with
    | .error r => .error r
    | .ok len =>
      if len = 0 ∨ len < stFld g s 0 40 8 then .error 4
      else
        match needByte bs.length (o + len - 1) with
        | some r => .error r
        | none =>
          match lenCheck g bs s o len pad with
          | some r => .error r
          | none =>
            match fragOf g bs s o with
            | .error r => .error r
            | .ok fr =>
              match needCopies e bs o (stRecs g s) with
              | some r => .error r
              | none =>
                let later : Bool := match fr with | some off => off != 0 | none => false
                if later then .ok (len, fr)
                else
                  match needRun bs.length (o + stFld g s 2 0 8) (stFld g s 2 8 3) with
                  | some r => .error r
                  | none => .ok (len, fr)

/-- The walk after state `s` commits (R146). -/
def commitVisit (g e bs : List Byte) (s o : Nat) (fr : Option Nat) (w : Walk) : Walk :=
  let w := { w with area := extract e bs o w.area (stRecs g s), offs := w.offs ++ [o] }
  match fr with
  | none => w
  | some off => if w.frag then w else { w with frag := true, first := off = 0 }

/-- The walk from state `s` at layer start `o` (R146, R147, R152). `fuel` bounds the layers; 17 visits suffice (R139). -/
def walkGraph (g e bs : List Byte) (pad : Nat) : Nat → Nat → Nat → Walk → ParseEnd
  | 0, s, o, w => ⟨w, s, o, 1, none⟩
  | fuel + 1, s, o, w =>
    match visitChecks g e bs pad s o w.offs.length with
    | .error r => ⟨w, s, o, r, none⟩
    | .ok (len, fr) =>
      let w := commitVisit g e bs s o fr w
      let later : Bool := match fr with | some off => off != 0 | none => false
      if later then ⟨w, s, o + len, 0, none⟩
      else
        let t := takeTrans g bs s o
        if t.kind = 0 then walkGraph g e bs pad fuel t.next (o + len) w
        else if t.kind = 1 then ⟨w, s, o + len, 0, none⟩
        else if t.kind = 2 then ⟨w, s, o + len, 0, some t.reason⟩
        else ⟨w, s, o + len, t.reason, none⟩

/-- The start state of a packet (R143). -/
def startState (g : List Byte) (p : Pkt) : Nat :=
  let pass := p.get C.PASS
  if pass = 1 then bodyFld g 16 0 9
  else if pass = 2 then bodyFld g 16 16 9
  else if pass = 3 then bodyFld g 16 32 9
  else if pass = 4 then bodyFld g 16 48 9
  else if p.fromEngine then bodyFld g 8 48 9
  else if p.fromHost then bodyFld g 8 32 9
  else if p.get C.IN_PORT ≥ 128 then bodyFld g 8 16 9
  else bodyFld g 8 0 9

/-- MALFORMED_POLICY as a stream without it behaves (R155): every field 0 but PAD_LIMIT 64. -/
def policyBody (b : Option (List Byte)) : List Byte := b.getD ([0, 0, 0x40, 0] ++ List.replicate 76 0)

def punEn (b : List Byte) : Bool := bodyFld b 0 0 1 = 1
def punOdd (b : List Byte) : Bool := bodyFld b 0 1 1 = 1
def punFrag (b : List Byte) : Bool := bodyFld b 0 2 1 = 1
def fragSteer (b : List Byte) : Bool := bodyFld b 0 3 1 = 1
def padLimit (b : List Byte) : Nat := bodyFld b 0 16 14

/-- ACTIONr of MALFORMED_POLICY: 0 DROP, 1 HOST, 2 ENGINE, 3 CONTINUE (R155). -/
def malAction (b : List Byte) (r : Nat) : Nat := bodyFld b (8 * (1 + r / 32)) (2 * (r % 32)) 2

/-- The disposition that parsing ends with, and whether the lookups run (R156). -/
def parseDisp (pol : List Byte) (x : ParseEnd) : Nat × Nat × Bool :=
  if x.mal ≠ 0 ∧ malAction pol x.mal ≠ 3 then (Disp.malformed, 0, false)
  else
    match x.odd with
    | some r => (if punEn pol && punOdd pol then Disp.punt else Disp.engine, r, false)
    | none =>
      if x.walk.frag && fragSteer pol then
        (if punEn pol && punFrag pol then Disp.punt else Disp.engine, 0x10, false)
      else (Disp.forward, 0, true)

/-- How the packet's pass ends parsing. -/
def Dev.parseOf (d : Dev) (p : Pkt) : ParseEnd :=
  let g := p.get C.G
  let graph := d.secOr0 g T.PARSE_GRAPH 0
  walkGraph graph (d.secOr0 g T.PARSE_EXTRACT 0) p.bytes (padLimit (policyBody (d.sec g T.MALFORMED_POLICY 0)))
    17 (startState graph p) 0 ⟨[], slice (p.ctxBytes 0x30 64) 0 64, false, false⟩

/-- The packet with the outcome of its parse written: word 3, layer offsets, extraction area, DISP and REASON (R147, R156). -/
def writeParse (p : Pkt) (x : ParseEnd) (dr : Nat × Nat × Bool) : Pkt :=
  let p := (p.putBytes 0x20 (x.walk.offs.map (BitVec.ofNat 8 ·))).putBytes 0x30 x.walk.area
  let p := (((p.put C.LAYERS x.walk.offs.length).put C.END_STATE x.state).put C.PAYLOAD_OFS x.payload).put C.MAL_REASON x.mal
  let p := (p.put C.IS_FRAG x.walk.frag.toNat).put C.FIRST_FRAG x.walk.first.toNat
  { p.dispose dr.1 dr.2.1 with stage := if dr.2.2 then .lookups else .merge, next := 0 }

/-- The counts of a parse (R154, R166). -/
def Dev.parseCounts (d : Dev) (p : Pkt) (x : ParseEnd) (dr : Nat × Nat × Bool) : Dev :=
  let c := fun (d : Dev) (b : Bool) (i : Nat) => if b then d.count (Reg.PRS_COUNT i) 1 else d
  let d := d.count (Reg.PRS_COUNT 0) 1
  let d := c d (p.get C.PASS != 0) 7
  let d := c d (x.odd.isNone && x.mal == 0) 1
  let d := c d x.odd.isSome 2
  let d := c d x.walk.frag 3
  let d := c d (dr.2.1 == 0x10 && !dr.2.2 && x.odd.isNone && dr.1 != Disp.malformed) 4
  if x.mal = 0 then d
  else (d.count (Reg.PRS_MAL_COUNT x.mal) 1).count (Reg.PRS_COUNT 9) 1

/-- PRS_MAL_LAST for a packet that ended parsing malformed (R154, R165). -/
def malLast (p : Pkt) : Word :=
  let w := F.PRS_MAL_LAST_IN_PORT.put 0 (p.get C.IN_PORT)
  let w := F.PRS_MAL_LAST_IN_PIPE.put w (p.get C.IN_PIPE)
  let w := F.PRS_MAL_LAST_G.put w (p.get C.G)
  let w := F.PRS_MAL_LAST_PASS.put w (p.get C.PASS)
  let w := F.PRS_MAL_LAST_MAL_REASON.put w (p.get C.MAL_REASON)
  let w := F.PRS_MAL_LAST_END_STATE.put w (p.get C.END_STATE)
  let w := F.PRS_MAL_LAST_PAYLOAD_OFS.put w (p.get C.PAYLOAD_OFS)
  let w := F.PRS_MAL_LAST_LAYERS.put w (p.get C.LAYERS)
  F.PRS_MAL_LAST_VALID.put w 1

/-- One parser pass (R141, R146 to R156). -/
def Dev.parsePkt (d : Dev) (c : Nat) (p : Pkt) : Dev :=
  let x := d.parseOf p
  let dr := parseDisp (policyBody (d.sec (p.get C.G) T.MALFORMED_POLICY 0)) x
  let d := d.parseCounts p x dr
  let p := writeParse p x dr
  let (d, p) := d.charge p 0
  let d := if x.mal = 0 then d else (d.setReg Reg.PRS_MAL_LAST (malLast p)).raise 1 0
  d.setPkt c (d.settle p)

/-- PARSE (R146): the packet of context `ctx` makes its parser pass. -/
def execParse (ctx : Nat) (s : State) : Host.Outcome State Fault Refusal :=
  .next { s with dev := s.dev.withPkt ctx (fun p => p.stage == .crossed && s.dev.lineUp (p.get C.IN_PIPE)) (s.dev.parsePkt ctx) }

end Sys2Proof.Machine
end

