-- ==== Sys2Proof/Machine/Action.lean ====
section
/-! DEFINITION. The action unit and step 6 (R241 to R256, R263, R276, R277, R159, R160, R362): merge, edits, hash, forecast, counter
updates, dispatch to engines, policing, the punt limiter, spreading and the queue.
Readings of the manual that it takes are DEDUCED, in log entry 15. -/

namespace Sys2Proof.Machine

/-! ### Action words (R242) -/

def awType (w : Nat) : Nat := bitsOf w 16 3
def awDop (w : Nat) : Nat := bitsOf w 19 3
def awDest (w : Nat) : Nat := bitsOf w 24 16
def awRewrite (w : Nat) : Nat := bitsOf w 40 20

/-- The word carries TYPE 7 or a reserved value in a field of its TYPE (R245). -/
def awBad (w : Nat) : Bool :=
  awType w = 7 || (awType w = 1 && awDop w = 7) ||
    (awType w = 3 && (bitsOf w 59 3 ≥ 6 || bitsOf w 31 2 = 3))

/-- A word of the merge list with its sort key: precedence descending, then table, slot, and own words first (R244). -/
structure MWord where
  key : Nat
  word : Nat
  deriving DecidableEq, Repr

/-- The sort key; `prec` is the precedence plus one, 0 for DEFAULT. -/
def mKey (prec table slot : Nat) (own : Bool) : Nat :=
  (16 - prec) * 16384 + table * 32 + slot * 2 + (if own then 0 else 1)

/-- Inserts a word into a list in ascending key order. -/
def insWord (x : MWord) : List MWord → List MWord
  | [] => [x]
  | y :: r => if x.key < y.key then x :: y :: r else y :: insWord x r

/-- What slot `k` brings under its rule, and whether it met a bad word (R244, R245). -/
def slotWords (b : List Byte) (p : Pkt) (k : Nat) : List MWord × Bool :=
  let r := word64 b (0x40 + 32 * k)
  let fmt := bitsOf r 0 2
  let prec := bitsOf r 2 4 + 1
  let t := slotTable p k
  let extra := word64 b (0x48 + 32 * k)
  let miss := word64 b (0x50 + 32 * k)
  if !slotValid p k || fmt = 0 then ([], false)
  else if slotHit p k then
    let own := if fmt = 2 then 0x10000 + (slotResult p k % 256) * 2 ^ 24 else slotResult p k * 65536
    let ws := ⟨mKey prec t k true, own⟩ :: (if bitOf r 6 then [(⟨mKey prec t k false, extra⟩ : MWord)] else [])
    if ws.any fun x => awBad x.word then ([], true) else (ws, false)
  else if bitOf r 7 then
    if awBad miss then ([], true) else ([⟨mKey prec t k false, miss⟩], false)
  else ([], false)

/-- The ordered merge list, and whether a bad word was met. -/
def mergeList (b : List Byte) (p : Pkt) : List Nat × Bool :=
  let slots := (List.range 8).map (slotWords b p)
  let ws := (⟨mKey 0 256 8 true, word64 b 0⟩ : MWord) :: slots.flatMap (·.1)
  ((ws.foldr insWord []).map (·.word), slots.any (·.2))

/-- The first word of a type for which a flag bit holds; `flag` 0 names no flag. -/
def firstOf (ws : List Nat) (type flag : Nat) : Option Nat :=
  ws.find? fun w => awType w = type && (flag == 0 || bitOf w flag)

/-- What META word `w` writes into metadata byte `o` (R242). -/
def metaOf (w o : Nat) : Option Nat :=
  if awType w = 6 ∧ bitsOf w 19 5 ≤ o ∧ o < bitsOf w 19 5 + 4 ∧ bitOf w (56 + (3 - (o - bitsOf w 19 5))) then
    some (bitsOf w (48 - 8 * (o - bitsOf w 19 5)) 8)
  else none

/-- The 32 metadata bytes after the merge (R243, R244). -/
def mergeMeta (ws : List Nat) (old : List Byte) : List Byte :=
  (List.range 32).map fun o =>
    match ws.findSome? (metaOf · o) with
    | some v => BitVec.ofNat 8 v
    | none => (old[o]?).getD 0

/-! ### The steps of the action unit -/

/-- MALFORMED is replaced as MALFORMED_POLICY says (R157). -/
def malReplace (pol : List Byte) (p : Pkt) : Pkt :=
  if p.get C.DISP = Disp.malformed then
    if punEn pol then p.dispose Disp.punt 0x04
    else
      let a := malAction pol (p.get C.MAL_REASON)
      if a = 1 then p.dispose Disp.host 0x02
      else if a = 2 then p.dispose Disp.engine 0x03
      else p.dispose Disp.drop 0x01
  else if p.get C.DISP > 6 then p.dispose Disp.drop 0xFF
  else p

/-- The groups that hold for every packet: TC, COLOR, POLICER, MIRROR, REWRITE_PTR and the metadata (R243, R244, R246). -/
def mergeFields (ws : List Nat) (p : Pkt) : Pkt :=
  let g := fun (type flag lo w : Nat) =>
    match firstOf ws type flag with
    | some x => bitsOf x lo w
    | none => 0
  let p := (p.put C.TC (g 2 19 20 3)).put C.COLOR (g 2 23 24 2)
  let p := (p.put C.POLICE_EN (g 2 26 27 1)).put C.POLICER (g 2 26 28 16)
  let p := (p.put C.MIRROR (g 2 44 45 7)).put C.REWRITE_PTR (g 1 0 40 20)
  let p := p.putBytes 0xE0 (mergeMeta ws (p.ctxBytes 0xE0 32))
  { p with
    sub := (firstOf ws 5 19).map fun x => bitsOf x 20 14
    pin := (firstOf ws 5 37).map fun x => bitsOf x 38 8
    group := none }

/-- What became of the packet in the merge: counters and events to note. -/
inductive MergeNote where
  | none | bad | noDest | recirc
  deriving DecidableEq, Repr

/-- The winning DEST word sets DISP and word 22 (R246). -/
def mergeDest (w : Nat) (p : Pkt) : Pkt :=
  let dop := awDop w
  let dest := awDest w
  if dop = 0 then
    if dest > 129 then p.dispose Disp.drop 0x28
    else ((p.dispose Disp.forward 0).put C.DEST dest).put C.MCAST 0
  else if dop = 1 then
    if dest > 4095 then p.dispose Disp.drop 0x28
    else { p.dispose Disp.forward 0 with group := some dest }
  else if dop = 2 then ((p.dispose Disp.forward 0).put C.DEST dest).put C.MCAST 1
  else if dop = 3 then p.dispose Disp.drop (dest % 256)
  else if dop = 4 then ((p.dispose Disp.host (dest % 256)).put C.DEST 130).put C.MCAST 0
  else if dop = 5 then p.dispose Disp.engine (dest % 256)
  else ((p.dispose Disp.recirc 0).put C.DEST 131).put C.MCAST 0

/-- The group of a winning DEST word with DOP SPREAD, also where the merge leaves DISP as it is (R246, R253). -/
def spreadGroup (ws : List Nat) : Option Nat :=
  match firstOf ws 1 0 with
  | some w => if awDop w = 1 ∧ awDest w ≤ 4095 then some (awDest w) else none
  | none => none

/-- The disposition after the merge, R245, R246 and R160. -/
def mergeDisp (ws : List Nat) (bad : Bool) (p : Pkt) : Pkt × MergeNote :=
  if p.get C.DISP = Disp.forward then
    if bad then (p.dispose Disp.drop 0x20, .bad)
    else
      match firstOf ws 1 0 with
      | none => (p.dispose Disp.drop 0x29, .noDest)
      | some w =>
        let p := mergeDest w p
        if p.get C.DISP = Disp.recirc ∧ p.get C.PASS = 4 then (p.dispose Disp.drop 0x09, .recirc) else (p, .none)
  else (p, if bad then .bad else .none)

/-- Layer `n`'s offset. -/
def Pkt.layer (p : Pkt) (n : Nat) : Nat := byteAt (p.ctxBytes 0x20 16) n

/-- The resolved edits: words 23 and 24, and whether a used layer is missing (R247, R248). -/
def resolveEdits (ws : List Nat) (p : Pkt) : Pkt × Bool :=
  let ts := if p.tsFixed then p.get C.TS else
    match firstOf ws 5 34 with
    | some x => bitsOf x 35 2
    | none => 0
  let p := match firstOf ws 4 0 with
    | some x => (((p.putWord 24 0).put C.LABEL_A (bitsOf x 19 20)).put C.LABEL_B (bitsOf x 39 20)).put C.EXP (bitsOf x 59 3)
    | none => p.putWord 24 0
  let p := (p.putWord 23 0).put C.TS ts
  match firstOf ws 3 0 with
  | none => (p, false)
  | some e =>
    let n := p.get C.LAYERS
    let layer := bitsOf e 20 4
    let mode := bitsOf e 31 2
    let src := bitsOf e 33 4
    let dst := bitsOf e 37 4
    let useL := bitOf e 19 || bitOf e 24 || bitsOf e 59 3 != 0
    let useTo := mode != 0
    let useFrom := mode = 2
    let at_ := fun (u : Bool) (k : Nat) => if u && k < n then p.layer k else 0
    let bad := (useL && layer ≥ n) || (useTo && dst ≥ n) || (useFrom && (src ≥ n || src ≥ dst))
    let p := ((p.put C.EDIT_OFS (at_ useL layer)).put C.STRIP_END (at_ useTo dst)).put C.STRIP_START (at_ useFrom src)
    let p := ((p.put C.NEW_ETYPE (bitsOf e 41 16)).put C.DEC_TTL (bitsOf e 19 1)).put C.SET_DSCP (bitsOf e 24 1)
    let p := ((p.put C.DSCP (bitsOf e 25 6)).put C.VLAN_POP (bitsOf e 57 2)).put C.MPLS_OP (bitsOf e 59 3)
    ((p.put C.TTL_255 (bitsOf e 62 1)).put C.STRIP_MODE mode, bad)

/-- The label operations whose TTL is a label's (R249): SWAP, POP, SWAP_PUSH. -/
def labelTtl (op : Nat) : Bool := op = 1 || op = 2 || op = 5

/-- The offset of the TTL that R249 reads, if the packet shows one. -/
def ttlAt (p : Pkt) : Option Nat :=
  let o := p.get C.EDIT_OFS
  let lim := min 256 p.bytes.length
  let x := if labelTtl (p.get C.MPLS_OP) then some (o + 3)
    else if o < lim then
      let v := byteAt p.bytes o / 16
      if v = 4 then some (o + 8) else if v = 6 then some (o + 7) else none
    else none
  match x with
  | some k => if k < lim then some k else none
  | none => none

/-- What R248 and R249 do to the packet: the packet, and which count it takes (2 EDIT_LAYER, 3 TTL_EXPIRED). -/
def checkEdits (bad : Bool) (p : Pkt) : Pkt × Option Nat :=
  if bad ∧ p.get C.DISP ≠ Disp.drop then (p.dispose Disp.drop 0x21, some 2)
  else if p.flag C.DEC_TTL && p.isDisp [Disp.forward, Disp.recirc] then
    match ttlAt p with
    | none => (p.dispose Disp.drop 0x21, some 2)
    | some k =>
      if byteAt p.bytes k ≤ 1 then
        let ts := p.get C.TS
        let p := (((p.putWord 23 0).put C.TS ts).putWord 24 0).put C.REWRITE_PTR 0
        (p.dispose Disp.host 0x22, some 3)
      else (p, none)
  else (p, none)

/-! ### The hash (R251, R252) -/

/-- One step of CRC-32C with one byte, reflected polynomial 0x82F63B78. -/
def crcStep (poly c b : Nat) : Nat :=
  (List.range 8).foldl (fun c _ => if c % 2 = 1 then (c / 2) ^^^ poly else c / 2) (c ^^^ b)

/-- CRC over bytes from an initial register value, without the final inversion. -/
def crcRun (poly init : Nat) (bs : List Byte) : Nat := bs.foldl (fun c b => crcStep poly c b.toNat) init

/-- HASH of a key under a seed (R252). -/
def flowHash (seed : Nat) (key : List Byte) : Nat :=
  crcRun 0x82F63B78 (0xFFFFFFFF ^^^ seed) key ^^^ 0xFFFFFFFF

/-- The first unequal pair decides whether the sides are swapped (R251). -/
def swapSides : List (List Byte × List Byte) → Bool
  | [] => false
  | (a, b) :: r => if beNat a < beNat b then false else if beNat b < beNat a then true else swapSides r

/-- The key of hash profile `n` of a SPREAD body (R250, R251); without the section every profile is empty. -/
def hashKey (b : List Byte) (n : Nat) (p : Pkt) : List Byte :=
  let area := p.ctxBytes 0x30 64
  let w0 := word64 b (0x40 + 32 * n)
  let w1 := word64 b (0x48 + 32 * n)
  let pairs := ((List.range 3).filter fun j => bitsOf w0 (17 * j + 12) 5 != 0).map fun j =>
    (slice area (bitsOf w0 (17 * j) 6) (bitsOf w0 (17 * j + 12) 5), slice area (bitsOf w0 (17 * j + 6) 6) (bitsOf w0 (17 * j + 12) 5))
  let swap := bitOf w0 51 && swapSides pairs
  let singles := (List.range 3).flatMap fun j =>
    let src := if bitOf w1 (12 * j + 11) then specialVec p else area
    slice src (bitsOf w1 (12 * j) 6) (bitsOf w1 (12 * j + 6) 5)
  (pairs.flatMap fun x => if swap then x.2 ++ x.1 else x.1 ++ x.2) ++ singles

/-- The packet's HASH with a profile of its generation. -/
def Dev.hashOf (d : Dev) (p : Pkt) (prof : Nat) : Nat :=
  let b := d.secOr0 (p.get C.G) T.SPREAD 0
  flowHash (bodyFld b 0 0 32) (hashKey b prof p)

/-! ### Forecast (R263) -/

/-- The classes that the packet's chosen path forecasts, ascending. -/
def Dev.forecastClasses (d : Dev) (merge : List Byte) (p : Pkt) : List Nat :=
  let fwd := p.isDisp [Disp.forward]
  let fr := p.isDisp [Disp.forward, Disp.recirc]
  let q := p.isDisp [Disp.forward, Disp.host, Disp.punt, Disp.recirc]
  let mrw := match p.group with
    | some g => d.bit (Reg.ACT_GROUP g) F.ACT_GROUP_MEMBER_REWRITE
    | none => false
  let encap := p.flag C.MPLS_OP || p.flag C.STRIP_MODE || p.flag C.VLAN_POP
  let on := fun (b : Bool) (s : Nat) => if b then [s] else []
  on (fwd && p.group.isSome) 7 ++ on q 8 ++ on q 10 ++ on (fwd && bitOf (word64 merge 8 % 256) (p.get C.TC)) 11
    ++ on (fr && (p.flag C.REWRITE_PTR || mrw)) 12 ++ on (fr && encap) 13 ++ on (fwd && p.flag C.TS) 14 ++ on fwd 15
    ++ on (p.isDisp [Disp.host, Disp.punt]) 20

/-- The forecast of R263. -/
def Dev.forecast (d : Dev) (merge : List Byte) (p : Pkt) : Dev × Pkt :=
  (d.forecastClasses merge p).foldl Dev.forecast1 (d, p)

/-! ### Leaving the action unit -/

/-- A packet discarded before admission: its accumulator takes ENERGY − FORECAST and its context is freed (R53). -/
def Dev.discard (d : Dev) (c : Nat) (p : Pkt) : Dev :=
  ((d.noteDiscard p.pid (p.get C.REASON)).account (p.get C.IN_PIPE) (p.get C.ENERGY - p.get C.FORECAST)).dropPkt c

/-- An uncorrectable context word: the packet is discarded and counted, and line 98 reports class U; the context store is not restarted (R43). -/
def Dev.ctxBad (d : Dev) (c : Nat) (p : Pkt) : Dev :=
  { (d.discard c p).report 98 2 false with ctxDiscards := d.ctxDiscards + 1 }

/-- The COUNTER updates due to the packet, with what each read met (R181). -/
def Dev.counterUpdates (d : Dev) (p : Pkt) : List (Nat × Nat) → List ReadErr → Dev
  | [], _ => d
  | (t, pl) :: r, errs =>
    let d := match d.tblIn (p.get C.G) t with
      | .tile b => d.counterAdd t b pl (p.get C.FRAME_LEN) (p.get C.ENERGY) ((errs[0]?).getD .none)
      | _ => d
    d.counterUpdates p r (errs.drop 1)

/-- Engine `e` may take the packet: the set S of R276, less the clusters that an ENGINE_PARK rung parks (R433). -/
def Dev.engineTakes (d : Dev) (p : Pkt) (e : Nat) : Bool :=
  match d.sec (p.get C.G) T.ENGINE_PROGRAM e with
  | none => false
  | some b =>
    (Map.find d.engines e).isSome && !d.anyRung 4 (fun a => a.testBit (e / 16)) && bodyFld b (8 + 8 * (p.get C.REASON / 64)) (p.get C.REASON % 64) 1 = 1
      && d.bit (Reg.ENG_CTRL e) F.ENG_CTRL_DISPATCH_EN && d.lineUp (82 + e / 16)

/-- The packet enters the inbound queue of the engine that the hash picks, or is dropped (R276, R277). -/
def Dev.toEngine (d : Dev) (c : Nat) (p : Pkt) : Dev :=
  let s := (List.range 256).filter (d.engineTakes p)
  match s with
  | [] => ((d.count (Reg.ENG_GCOUNT 0) 1).raise 5 0).discard c (p.dispose Disp.drop 0x30)
  | _ =>
    let e := (s[(p.get C.HASH * s.length) >>> 32]?).getD 0
    match Map.find d.engines e with
    | none => d
    | some x =>
      if x.inq.length < 32 then
        { d with engines := Map.put d.engines e { x with inq := x.inq ++ [c] } }.setPkt c { p with stage := .engineQueue e }
      else ((d.count (Reg.ENG_GCOUNT 1) 1).raise 5 1).discard c (p.dispose Disp.drop 0x31)

/-- Counts and events of the merge. -/
def Dev.mergeNote (d : Dev) (n : MergeNote) : Dev :=
  match n with
  | .none => d
  | .bad => (d.count (Reg.ACT_COUNT 1) 1).raise 4 0
  | .noDest => d.count (Reg.ACT_COUNT 9) 1
  | .recirc => (d.count (Reg.PRS_COUNT 8) 1).raise 1 2

/-- The action unit works on the packet (R157, R244 to R253, R263, R181). -/
def Dev.actionUnit (d : Dev) (c : Nat) (errs : List ReadErr) (p : Pkt) : Dev :=
  let g := p.get C.G
  let merge := d.secOr0 g T.ACTION_MERGE (p.get C.IN_PIPE)
  let (d, p) := d.charge p 5
  let p := malReplace (policyBody (d.sec g T.MALFORMED_POLICY 0)) p
  let (ws, bad) := mergeList merge p
  let (p, note) := mergeDisp ws bad (mergeFields ws p)
  let d := d.mergeNote note
  let (p, badLayer) := resolveEdits ws p
  let (p, cnt) := checkEdits badLayer p
  let d := match cnt with
    | some k => d.count (Reg.ACT_COUNT k) 1
    | none => d
  let d := d.count (Reg.ACT_COUNT 0) 1
  if p.get C.DISP = Disp.drop then d.discard c p
  else
    let prof := match spreadGroup ws with
      | some k => d.fld (Reg.ACT_GROUP k) F.ACT_GROUP_PROFILE
      | none => 0
    let p := p.put C.HASH (d.hashOf p prof)
    let (d, p) := d.forecast merge p
    let d := d.counterUpdates p p.counts errs
    let p := { p with counts := [] }
    if p.get C.DISP = Disp.engine then d.toEngine c p else d.setPkt c { p with stage := .police }

/-- ACTION_MERGE (R244) for the packet; `bad` is an uncorrectable context word (R43). -/
def Dev.mergePkt (d : Dev) (c : Nat) (bad : Bool) (errs : List ReadErr) (p : Pkt) : Dev :=
  if !d.inOrder c p || !p.counts.all (fun x => d.tableUp x.1) then d
  else if bad then d.ctxBad c p
  else d.actionUnit c errs p

/-- ACTION_MERGE (R244). -/
def execActionMerge (ctx : Nat) (bad : Bool) (errs : List ReadErr) (s : State) : Host.Outcome State Fault Refusal :=
  .next { s with dev := s.dev.withPkt ctx (fun p => p.stage == .merge && s.dev.lineUp 99) (s.dev.mergePkt ctx bad errs) }

/-! ### Step 6: policing, the punt limiter, spreading, the queue -/

/-- The policer evaluates the packet (R362); the flag says that it passes. -/
def Dev.policer (d : Dev) (p : Pkt) : Dev × Bool :=
  let k := p.get C.POLICER
  let w := d.reg (Reg.SCH_POL k)
  if bkEN.of w = 0 then (d, true)
  else
    let cost : Int := if bkUNIT.of w = 0 then ((p.get C.FRAME_LEN * 8000000 : Nat) : Int) else (p.get C.ENERGY : Int)
    let l := d.levelNow 4 k
    if l ≥ cost then ((d.setLevel 4 k (l - cost)).count (Reg.SCH_COUNT 3) 1, true)
    else ((((d.setLevel 4 k l).count (Reg.SCH_COUNT 4) 1).count (Reg.SCH_POL_DROP k) 1).raise 7 0, false)

/-- The POLICE charge and the policer (R51, R362). -/
def Dev.policeStep (d : Dev) (p : Pkt) : Dev × Pkt :=
  if p.flag C.POLICE_EN && p.isDisp [Disp.forward, Disp.host, Disp.punt, Disp.recirc] then
    let (d, p) := d.charge p 6
    let (d, ok) := d.policer p
    (d, if ok then p else p.dispose Disp.drop 0x14)
  else (d, p)

/-- The punt limiter's credit as of now, in 10^-9 packet (R159). -/
def Dev.puntCredit (d : Dev) : Nat :=
  min (d.credit + d.fld Reg.PRS_PUNT_RATE F.PRS_PUNT_RATE_RATE * (d.free - d.creditAt))
    (d.fld Reg.PRS_PUNT_RATE F.PRS_PUNT_RATE_BURST * 1000000000)

/-- The punt decision (R159). -/
def Dev.puntStep (d : Dev) (p : Pkt) : Dev × Pkt :=
  if p.get C.DISP = Disp.punt then
    let k := d.puntCredit
    if k ≥ 1000000000 then
      ({ d with credit := k - 1000000000, creditAt := d.free }.count (Reg.PRS_COUNT 5) 1, p)
    else (({ d with credit := k, creditAt := d.free }.count (Reg.PRS_COUNT 6) 1).raise 1 1, p.dispose Disp.drop 0x08)
  else (d, p)

/-- Member `m` of a group may carry packets (R254). -/
def Dev.eligible (d : Dev) (track : Bool) (m : Nat) : Bool :=
  let a := Reg.ACT_MEMBER m
  m < 16384 && d.bit a F.ACT_MEMBER_UP && d.fld a F.ACT_MEMBER_PORT ≤ 129 && (!track || d.portUp (d.fld a F.ACT_MEMBER_PORT))

/-- The member picked, and whether the fallback picked it (R254). -/
def Dev.pickMember (d : Dev) (g : Nat) (p : Pkt) : Option (Nat × Bool) :=
  let a := Reg.ACT_GROUP g
  let base := d.fld a F.ACT_GROUP_BASE
  let n := d.fld a F.ACT_GROUP_SIZE
  let track := d.bit a F.ACT_GROUP_LINK_TRACK
  let h := p.get C.HASH
  if n = 0 then none
  else
    let i := match p.pin with
      | some x => x % n
      | none => (h * n) >>> 32
    if d.eligible track (base + i) then some (base + i, false)
    else
      let l := ((List.range n).map (base + ·)).filter (d.eligible track)
      let r := (h * 65536) % 4294967296 + h / 65536
      match l[(r * l.length) >>> 32]? with
      | some m => some (m, true)
      | none => none

/-- Spreading (R254). -/
def Dev.spreadStep (d : Dev) (p : Pkt) : Dev × Pkt :=
  match p.group with
  | none => (d, p)
  | some g =>
    if p.get C.DISP ≠ Disp.forward then (d, p)
    else
      match d.pickMember g p with
      | none => ((d.count (Reg.ACT_COUNT 5) 1).raise 4 1, p.dispose Disp.drop 0x24)
      | some (m, fb) =>
        let d := if fb then d.count (Reg.ACT_COUNT 6) 1 else d
        let a := Reg.ACT_MEMBER m
        let rw := d.fld a F.ACT_MEMBER_REWRITE_PTR
        let p := (p.put C.DEST (d.fld a F.ACT_MEMBER_PORT)).put C.MCAST 0
        let p := if rw ≠ 0 then p.put C.REWRITE_PTR rw else p
        (d, ((((p.putWord 25 0).put C.MEMBER m).put C.GROUP g).put C.SPREAD 1).pass 7)

/-- The final port of a packet that is not multicast (R255). -/
def finalPort (p : Pkt) : Nat :=
  if p.isDisp [Disp.host, Disp.punt] then 130 else if p.isDisp [Disp.recirc] then 131 else p.get C.DEST

/-- The queue after spreading, and the check of R255. -/
def Dev.queueStep (d : Dev) (p : Pkt) : Dev × Pkt :=
  if p.flag C.MCAST && p.isDisp [Disp.forward] then (d, p)
  else
    let port := finalPort p
    let p := (p.put C.DEST port).put C.MCAST 0
    let sub := p.sub.getD (d.fld (Reg.ACT_PORT_SUB port) F.ACT_PORT_SUB_SUB)
    let p := p.put C.QUEUE (8 * sub + p.get C.TC)
    if d.subPort sub = some port then (d, p) else (d.count (Reg.ACT_COUNT 4) 1, p.dispose Disp.drop 0x23)

/-- Step 6 for the packet: policing, then the punt limiter, then spreading and the queue; a drop at any of them ends it. -/
def Dev.policePkt (d : Dev) (c : Nat) (p : Pkt) : Dev :=
  if !d.inOrder c p then d
  else
    let (d, p) := d.policeStep p
    if p.get C.DISP = Disp.drop then d.discard c p
    else
      let (d, p) := d.puntStep p
      if p.get C.DISP = Disp.drop then d.discard c p
      else
        let (d, p) := d.spreadStep p
        if p.get C.DISP = Disp.drop then d.discard c p
        else
          let (d, p) := d.queueStep p
          if p.get C.DISP = Disp.drop then d.discard c p else d.setPkt c { p with stage := .admission }

/-- POLICE (R362). -/
def execPolice (ctx : Nat) (s : State) : Host.Outcome State Fault Refusal :=
  .next { s with dev := s.dev.withPkt ctx (fun p => p.stage == .police && s.dev.lineUp 99) (s.dev.policePkt ctx) }

end Sys2Proof.Machine
end

