-- ==== Sys2Proof/Machine/Learn.lean ====
section
/-! DEFINITION. Learning and aging (R189 to R195): the notification queue, the Fawn cache, hit-bit sets and correction write-backs.
Readings of the manual that it takes are DEDUCED, in log entry 18. -/

namespace Sys2Proof.Machine

/-! ### The notification queue (R192) -/

/-- A notification without its header. -/
def noteWords (type table portA portB oldPort : Nat) (g : Bool) (key : Word) (ns place : Nat) : List Word :=
  [0, key,
   BitVec.ofNat 64 (type + table * 2 ^ 8 + portA * 2 ^ 16 + portB * 2 ^ 24 + oldPort * 2 ^ 32 + g.toNat * 2 ^ 40),
   BitVec.ofNat 64 (ns % 2 ^ 32 + place % 2 ^ 32 * 2 ^ 32)]

/-- The queue has room. -/
def Dev.noteRoom (d : Dev) : Bool := d.notes.length < 256

/-- Queues a notification; NOTIFY_BLOCKED is raised when the queue becomes full. -/
def Dev.pushNote (d : Dev) (ws : List Word) : Dev :=
  let d := { d with notes := d.notes ++ [⟨ws⟩] }
  if d.notes.length = 256 then d.raise 2 0 else d

/-! ### The Fawn cache (R190) -/

/-- The Fawn entry of a key. -/
def Dev.fawnOf (d : Dev) (t : Nat) (key : Word) : Option Fawn := d.fawn.find? fun f => f.table = t ∧ f.key = key

/-- A candidate whose key has no Fawn entry. -/
def Dev.fawnNew (d : Dev) (c : Candidate) : Dev :=
  if d.fawn.length ≥ 4096 then (d.count (Reg.TBL_COUNT 4) 1).raise 2 1
  else if !d.noteRoom then d.count (Reg.TBL_COUNT 5) 1
  else
    let move := c.move.isSome
    let d := d.pushNote (noteWords (if move then 1 else 0) c.table c.port 0 (c.move.getD 0) c.g c.key d.ns 0)
    let d := d.count (Reg.TBL_COUNT (if move then 1 else 0)) 1
    { d with fawn := d.fawn ++ [⟨c.table, c.key, c.port, none, c.g, d.ns % 2 ^ 32, d.free⟩] }

/-- The Fawn cache takes a candidate. -/
def Dev.takeCand (d : Dev) (c : Candidate) : Dev :=
  match d.fawnOf c.table c.key with
  | none => d.fawnNew c
  | some f =>
    if f.portB.isSome || f.portA == c.port then d.count (Reg.TBL_COUNT 3) 1
    else if !d.noteRoom then d.count (Reg.TBL_COUNT 5) 1
    else
      let d := d.pushNote (noteWords 2 f.table f.portA c.port 0 f.g f.key f.ns 0)
      let d := d.count (Reg.TBL_COUNT 2) 1
      { d with fawn := d.fawn.map fun x => if x = f then { x with portB := some c.port } else x }

/-- LEARN_CANDIDATE: the oldest candidate reaches the cache. -/
def Dev.learn (d : Dev) : Dev :=
  match d.cands with
  | [] => d
  | c :: t => { d with cands := t }.takeCand c

/-- LEARN_CANDIDATE (R190). -/
def execLearnCandidate (s : State) : Host.Outcome State Fault Refusal :=
  .next { s with dev := if s.dev.running then s.dev.learn else s.dev }

/-- The lifetime of a Fawn entry in ns; 0 is taken as 1 ms (R210). -/
def Dev.fawnLife (d : Dev) : Nat := 1000000 * max 1 (d.fld Reg.TBL_FAWN_TIMEOUT F.TBL_FAWN_TIMEOUT_TIMEOUT)

/-- FAWN_EXPIRED for the entry at position `i`. -/
def Dev.fawnExpire (d : Dev) (i : Nat) : Dev :=
  match d.fawn[i]? with
  | some f =>
    if d.passed f.since d.fawnLife then { d with fawn := d.fawn.eraseIdx i }.count (Reg.TBL_COUNT 6) 1 else d
  | none => d

/-- FAWN_EXPIRED (R190). -/
def execFawnExpired (i : Nat) (s : State) : Host.Outcome State Fault Refusal :=
  .next { s with dev := if s.dev.running then s.dev.fawnExpire i else s.dev }

/-- An INSERT or DELETE of a key frees its Fawn entry. -/
def Dev.fawnFree (d : Dev) (t : Nat) (key : Word) : Dev := { d with fawn := d.fawn.filter fun f => !(f.table == t && f.key == key) }

/-- FLUSH_PORT of a table for a port frees its Fawn entries. -/
def Dev.fawnFlush (d : Dev) (t port : Nat) : Dev :=
  { d with fawn := d.fawn.filter fun f => !(f.table == t && (f.portA == port || f.portB == some port)) }

/-! ### Hit-bit sets, aging tests and write-backs (R193, R194, R206) -/

/-- HIT_BIT_SET: the arbiter takes the oldest set; it is discarded when the place no longer holds a valid entry with its key. -/
def Dev.hitSet (d : Dev) : Dev :=
  match d.hitSets with
  | [] => d
  | h :: t =>
    if !d.tableUp h.table then d
    else
    let d := { d with hitSets := t }
    let m := d.tbl h.table
    match Map.find m.places h.place with
    | some ws =>
      let i := ws.length - 1
      if ws.take i == h.key && rwValid (wordAt ws i) && !m.poisoned h.place then
        d.setTbl h.table (m.setWord h.place ws.length i (wordAt ws i ||| 2))
      else d
    | none => d

/-- HIT_BIT_SET (R193). -/
def execHitBitSet (s : State) : Host.Outcome State Fault Refusal :=
  .next { s with dev := if s.dev.running then s.dev.hitSet else s.dev }

/-- The arbiter rewrites the oldest corrected word with the value it has. -/
def Dev.writeBack (d : Dev) : Dev :=
  match d.writeBacks with
  | [] => d
  | w :: t => if d.tableUp w.1 then { d with writeBacks := t } else d

/-- CORRECTION_WRITE_BACK (R206). -/
def execCorrectionWriteBack (s : State) : Host.Outcome State Fault Refusal :=
  .next { s with dev := if s.dev.running then s.dev.writeBack else s.dev }

end Sys2Proof.Machine
end

