-- ==== Sys2Proof/Machine/Dram.lean ====
section
/-! DEFINITION. The external memory controller (R447 to R471): requests and the write buffer, the pick of a subchannel, errors, refresh, set
points and training.
Readings of the manual that it takes are DEDUCED, in log entries 27, 36. -/

namespace Sys2Proof.Machine

def Dev.chan (d : Dev) (n : Nat) : Chan := (d.chans[n]?).getD Chan.reset
def Dev.setChan (d : Dev) (n : Nat) (c : Chan) : Dev := { d with chans := d.chans.set n c }

def Dev.chanState (d : Dev) (n : Nat) : Nat := d.fld (Reg.DMC_CHAN_STATUS n) F.DMC_CHAN_STATUS_STATE
def Dev.chanSp (d : Dev) (n : Nat) : Nat := d.fld (Reg.DMC_CHAN_STATUS n) F.DMC_CHAN_STATUS_SP
def Dev.setChanState (d : Dev) (n s : Nat) : Dev := d.setFld (Reg.DMC_CHAN_STATUS n) F.DMC_CHAN_STATUS_STATE s

/-- The channel takes requests: UP or CHANGING (R452). -/
def Dev.chanLive (d : Dev) (n : Nat) : Bool := n < 4 && (d.chanState n = 2 || d.chanState n = 3)

/-! ### Addresses and ranges (R449, R450, R452) -/

/-- The channel and the offset of a DRAM address (R449). -/
def dramChan (a : Nat) : Nat := bitsOf a 34 2
def dramOfs (a : Nat) : Nat := bitsOf a 0 34

/-- Subchannel, bank and row of an atom (R450). -/
def atomSub (a : Nat) : Nat := bitsOf a 0 1
def atomBank (a : Nat) : Nat := bitsOf a 1 4 ^^^ bitsOf a 10 4
def atomRow (a : Nat) : Nat := a >>> 10

/-- Class `cls` may reach the address now (R452). -/
def Dev.dramOk (d : Dev) (cls a : Nat) : Bool :=
  let m := dramOfs a / 1048576
  let b := d.fld (Reg.DMC_RANGE cls) F.DMC_RANGE_BASE_MIB
  let z := d.fld (Reg.DMC_RANGE cls) F.DMC_RANGE_SIZE_MIB
  a < 2 ^ 36 && b ≤ m && m < b + z && m < d.fld (Reg.DMC_CHAN_STATUS (dramChan a)) F.DMC_CHAN_STATUS_DATA_MIB
    && d.chanLive (dramChan a)

/-- A refused request (R452). -/
def Dev.dramRefuse (d : Dev) (a : Nat) : Dev := (d.count (Reg.DMC_COUNT (dramChan a) 7) 1).raise 12 2

/-- RESERVE of class `cls` in a DMC_RESERVE value. -/
def reserveOf (w : Word) (cls : Nat) : Nat := Fld.of ⟨16 * cls, 12⟩ w

/-- Requests of a class outstanding on a channel. -/
def Chan.used (c : Chan) (cls : Nat) : Nat := ((c.reqs ++ c.wbuf).filter fun r => r.cls = cls).length

/-- `m` more requests of class `cls` find places (R453). -/
def Dev.dramPlaces (d : Dev) (n cls m : Nat) : Bool :=
  let c := d.chan n
  let w := d.reg Reg.DMC_RESERVE
  let beyond := fun k => (c.used k + (if k = cls then m else 0)) - reserveOf w k
  c.used cls + m ≤ reserveOf w cls
    || beyond 0 + beyond 1 + beyond 2 + beyond 3 + (reserveOf w 0 + reserveOf w 1 + reserveOf w 2 + reserveOf w 3) ≤ 2048

/-! ### Accepting requests (R456, R457) -/

/-- Moves the oldest `k` buffered writes into the bank queues. -/
def Chan.moveW (c : Chan) (k : Nat) : Chan := { c with reqs := c.reqs ++ c.wbuf.take k, wbuf := c.wbuf.drop k }

/-- The moves of R456: all of them while no read is queued, down to WB_LOW once WB_HIGH is reached. -/
def Dev.drainW (d : Dev) (c : Chan) : Chan :=
  if c.reqs.all (·.write) then c.moveW c.wbuf.length
  else if d.fld Reg.DMC_CTRL F.DMC_CTRL_WB_HIGH ≤ c.wbuf.length then
    c.moveW (c.wbuf.length - d.fld Reg.DMC_CTRL F.DMC_CTRL_WB_LOW)
  else c

/-- How many buffered writes a read of an atom moves: up to and including the youngest match (R457). -/
def rawMoves (l : List DReq) (atom : Nat) : Nat :=
  match (l.reverse.findIdx? fun r => r.atom = atom) with
  | some k => l.length - k
  | none => 0

/-- The channel accepts a read of an atom. -/
def Dev.acceptRead (d : Dev) (n : Nat) (r : DReq) : Dev :=
  let c := d.chan n
  let k := rawMoves c.wbuf r.atom
  let c := c.moveW k
  let d := if k = 0 then d else d.count (Reg.DMC_COUNT n 4) 1
  d.setChan n (d.drainW { c with reqs := c.reqs ++ [r] })

/-- The channel accepts a write of an atom: CAPTURE writes go to the bank queues, the others to the write buffer (R456). -/
def Dev.acceptWrite (d : Dev) (n : Nat) (r : DReq) : Dev :=
  let c := d.chan n
  d.setChan n (d.drainW (if r.cls = 2 then { c with reqs := c.reqs ++ [r] } else { c with wbuf := c.wbuf ++ [r] }))

/-- The channel accepts a request. -/
def Dev.accept (d : Dev) (n : Nat) (r : DReq) : Dev := if r.write then d.acceptWrite n r else d.acceptRead n r

/-- The request finds a place, and a buffered write an entry of the write buffer (R453, R456). -/
def Dev.placeFor (d : Dev) (n : Nat) (r : DReq) : Bool :=
  d.dramPlaces n r.cls 1 && (!r.write || r.cls == 2 || (d.chan n).wbuf.length < 256)

/-- Waiting requests are accepted in the order in which they came, as places allow; none passes one of its own class (R453). -/
def Dev.enterPlaces (d : Dev) (n : Nat) : List DReq → List DReq → Dev
  | [], left => d.setChan n { d.chan n with port := left }
  | r :: t, left =>
    if left.any (fun x => x.cls == r.cls) || !d.placeFor n r then d.enterPlaces n t (left ++ [r]) else (d.accept n r).enterPlaces n t left

/-- The channel accepts what it has places for. -/
def Dev.admitPort (d : Dev) (n : Nat) : Dev := d.enterPlaces n (d.chan n).port []

/-- An answer for a client that awaits one. -/
def Dev.answer (d : Dev) (a : DAns) : Dev := if a.owner = 0 then d else { d with answers := d.answers ++ [a] }

/-- A request of class `cls` at address `a`, a write when it carries data: refused, kept waiting at its port, or accepted. A refused one is
answered as uncorrectable (R452). -/
def Dev.dramReq (d : Dev) (cls a : Nat) (data : Option (List Byte)) (owner : Nat) : Dev :=
  let n := dramChan a
  let atom := dramOfs a / 64
  if cls > 3 ∨ (cls = 0 ∧ data.isSome) then d
  else if !d.dramOk cls a then (d.dramRefuse a).answer ⟨owner, n, atom, [], 2⟩
  else
    let r : DReq := ⟨cls, atom, data.isSome, slice (data.getD []) 0 64, 0, owner⟩
    (d.setChan n { d.chan n with port := (d.chan n).port ++ [r] }).admitPort n

/-- DRAM_REQUEST (R452). -/
def execDramRequest (cls addr : Nat) (data : Option (List Byte)) (s : State) : Host.Outcome State Fault Refusal :=
  .next { s with dev := if s.dev.running then s.dev.dramReq cls addr data 0 else s.dev }

/-! ### What a client sees of its requests (R451 to R454) -/

/-- The addresses of the atoms of `k` bytes from address `a`. -/
def atomAddrs (a k : Nat) : List Nat := (List.range (k / 64)).map (a + 64 * ·)

/-- The address of an answer. -/
def DAns.addr (a : DAns) : Nat := a.chan * 2 ^ 34 + 64 * a.atom

/-- A client reads the atoms of `k` bytes from address `a`. -/
def Dev.dramRead (d : Dev) (cls a k owner : Nat) : Dev := (atomAddrs a k).foldl (fun (d : Dev) x => d.dramReq cls x none owner) d

/-- A client reads the atoms at the addresses `as`. -/
def Dev.readAtoms (d : Dev) (cls : Nat) (as : List Nat) (owner : Nat) : Dev := as.foldl (fun (d : Dev) x => d.dramReq cls x none owner) d

/-- A client writes whole atoms from address `a`. -/
def Dev.dramWrite (d : Dev) (cls a : Nat) (bs : List Byte) (owner : Nat) : Dev :=
  (atomAddrs a bs.length).foldl (fun (d : Dev) x => d.dramReq cls x (some (slice bs (x - a) 64)) owner) d

/-- Some request of the client still waits: a read without its answer, or a write that is not accepted. -/
def Dev.dramWaits (d : Dev) (owner : Nat) : Bool :=
  d.chans.any fun c => c.port.any (·.owner == owner) || (c.reqs ++ c.wbuf).any fun r => r.owner == owner && !r.write

/-- The client's answers. -/
def Dev.answersOf (d : Dev) (owner : Nat) : List DAns := d.answers.filter (·.owner == owner)

/-- The client takes its answers. -/
def Dev.takeAnswers (d : Dev) (owner : Nat) : Dev := { d with answers := d.answers.filter (·.owner != owner) }

/-- The bytes that a client has read from `a` on. -/
def answerBytes (l : List DAns) (a k : Nat) : List Byte :=
  (atomAddrs a k).flatMap fun x => ((l.find? fun y => y.addr == x).map (·.bytes)).getD (List.replicate 64 0)

/-! ### DRAM_COMMAND (R454, R455, R459) -/

/-- Requests of a subchannel's bank that no older request to the same atom precedes (R455). -/
def bankCands : List DReq → List DReq → List DReq
  | [], _ => []
  | r :: t, older => if older.any fun x => x.atom == r.atom then bankCands t (older ++ [r]) else r :: bankCands t (older ++ [r])

/-- The chosen request of a bank with open row `row` (R455). -/
def chooseReq (row : Option Nat) (l : List DReq) : Option DReq :=
  let c := bankCands l []
  match c.find? fun r => r.cls = 2 with
  | some r => some r
  | none =>
    match c.find? fun r => r.passed ≥ 16 with
    | some r => some r
    | none =>
      match c.find? fun r => row == some (atomRow r.atom) with
      | some r => some r
      | none => c.head?

/-- The queue of bank `b` of subchannel `s`. -/
def Chan.bankQ (c : Chan) (s b : Nat) : List DReq := c.reqs.filter fun r => atomSub r.atom = s && atomBank r.atom = b

def Bank.init : Bank := ⟨none, 0, 0⟩
def Chan.bank (c : Chan) (k : Nat) : Bank := Map.getD c.banks k Bank.init
def Chan.setBank (c : Chan) (k : Nat) (b : Bank) : Chan := { c with banks := Map.put c.banks k b }

/-- Takes the first occurrence of `r` in `l` out; the requests of its bank before it have been passed once more. -/
def takeReq (r : DReq) : List DReq → List DReq
  | [] => []
  | x :: t =>
    if x = r then t
    else (if atomSub x.atom = atomSub r.atom ∧ atomBank x.atom = atomBank r.atom then { x with passed := x.passed + 1 } else x)
      :: takeReq r t

/-- Bank state after an access to row `row`; `again` says that another queued request of the bank hits it (R459). -/
def Bank.access (b : Bank) (row now : Nat) (again : Bool) : Bank :=
  let pred := match b.row with
    | some x => if x = row then min 3 (b.pred + 1) else b.pred - 1
    | none => b.pred
  { row := if again || pred ≥ 2 then some row else none, pred := pred, lastUse := now }

/-- An uncorrectable read of an atom (R454). -/
def Dev.dramUncorr (d : Dev) (n atom cls : Nat) : Dev :=
  let w := F.DMC_ECC_LAST_ATOM.put 0 atom
  let w := F.DMC_ECC_LAST_CHANNEL.put w n
  let w := F.DMC_ECC_LAST_CLASS.put w cls
  let w := F.DMC_ECC_LAST_VALID.put (F.DMC_ECC_LAST_UNCORR.put w 1) 1
  (((d.count (Reg.DMC_COUNT n 6) 1).setReg Reg.DMC_ECC_LAST w).raise 12 1).report (102 + n) 2 false

/-- The atoms that an error makes uncorrectable: the atom, or for an error of a check atom (`word` not 0) all 8 it covers (R448). -/
def badAtoms (atom word : Nat) : List Nat := if word = 0 then [atom] else (List.range 8).map (8 * (atom / 8) + ·)

/-- The atoms that an error met by the read of `atom` makes uncorrectable. -/
def errAtoms (atom : Nat) (err : ReadErr) : List Nat :=
  match err with
  | .uncorr w => badAtoms atom w
  | _ => []

/-- The read of an atom ends: its client receives the data, poisoned when the atom is uncorrectable (R454). -/
def Dev.readAtom (d : Dev) (n : Nat) (r : DReq) (err : ReadErr) : Dev :=
  let d := d.count (Reg.DMC_COUNT n 0) 1
  let c := d.chan n
  let c := { c with poison := (c.poison ++ errAtoms r.atom err).eraseDups }
  let bad := c.poison.contains r.atom
  let d := (d.setChan n c).answer ⟨r.owner, n, r.atom, Mem.readAll c.mem (64 * r.atom) 64, bad.toNat⟩
  if bad then d.dramUncorr n r.atom r.cls
  else
    match err with
    | .corr _ => ((d.count (Reg.DMC_COUNT n 5) 1).raise 12 0).report (102 + n) 1 false
    | _ => d

/-- The write of an atom takes effect. -/
def Dev.writeAtom (d : Dev) (n : Nat) (r : DReq) : Dev :=
  let c := d.chan n
  (d.setChan n { c with mem := Mem.writeAll c.mem (64 * r.atom) r.data, poison := c.poison.filter (· != r.atom) }).count
    (Reg.DMC_COUNT n 1) 1

/-- Serves request `r` of bank `b` on subchannel `s` of channel `n`. -/
def Dev.serve (d : Dev) (n s b : Nat) (r : DReq) (err : ReadErr) : Dev :=
  let c := d.chan n
  let k := 16 * s + b
  let row := atomRow r.atom
  let reqs := takeReq r c.reqs
  let hit := (c.bank k).row == some row
  let again := reqs.any fun x => atomSub x.atom == s && atomBank x.atom == b && atomRow x.atom == row
  let c := { c with reqs := reqs, nextBank := c.nextBank.set s ((b + 1) % 16) }
  let c := c.setBank k ((c.bank k).access row d.free again)
  let d := (d.setChan n c).count (Reg.DMC_COUNT n (if hit then 2 else 3)) 1
  let d := if r.write then d.writeAtom n r else d.readAtom n r err
  (d.setChan n (d.drainW (d.chan n))).admitPort n

/-- The signed debt of rank 0 as DMC_CHAN_STATUS shows it. -/
def Dev.showDebt (d : Dev) (n : Nat) : Dev :=
  let x := ((d.chan n).debt[0]?).getD 0
  d.setFld (Reg.DMC_CHAN_STATUS n) F.DMC_CHAN_STATUS_DEBT (x % 32).toNat

/-- A CAPTURE burst is in progress on the channel. -/
def Chan.burst (c : Chan) : Bool := c.reqs.any fun r => r.cls = 2

/-- A CAPTURE burst postpones refresh (R461). -/
def Dev.postpones (d : Dev) (n : Nat) : Bool := (d.chan n).burst && d.bit Reg.DMC_REFRESH F.DMC_REFRESH_POSTPONE_EN

/-- `k` intervals' worth of refresh is issued on every rank, per bank or for all banks as PER_BANK says (R460, R461). -/
def Dev.issueRefresh (d : Dev) (n k : Nat) : Dev :=
  let c := d.chan n
  (d.setChan n { c with debt := c.debt.map fun x => x - (k : Int), refPb := d.bit Reg.DMC_REFRESH F.DMC_REFRESH_PER_BANK }).count
    (Reg.DMC_COUNT n 8) k

/-- The refresh debt in whole intervals; every rank has the same. -/
def Chan.owed (c : Chan) : Int := (c.debt[0]?).getD 0

/-- Issues refresh until the debt is 0, or one interval of it when only the limit of 8 forces it (R461). -/
def Dev.refresh (d : Dev) (n : Nat) : Dev :=
  let k := (d.chan n).owed.toNat
  if k = 0 then d
  else if !d.postpones n then d.issueRefresh n k
  else if k ≥ 8 then d.issueRefresh n 1
  else d

/-- A channel without a request pulls refresh in, down to a debt of −8 (R461). -/
def Dev.pullIn (d : Dev) (n : Nat) : Dev :=
  let c := d.chan n
  if c.reqs.isEmpty && c.wbuf.isEmpty && c.port.isEmpty && d.bit Reg.DMC_REFRESH F.DMC_REFRESH_PULLIN_EN then
    let m := (c.owed + 8).toNat
    (d.issueRefresh n m).count (Reg.DMC_COUNT n 10) m
  else d

/-- One command slot of subchannel `s`: refresh that is due goes first, then the pick of R455. While a change or training holds the
channel's traffic, only a CAPTURE burst that a quiesce still finishes goes on (R465). -/
def Dev.dramCommand (d : Dev) (n s : Nat) (err : ReadErr) : Dev :=
  if !d.chanLive n || s > 1 then d
  else
    let d := ((d.refresh n).pullIn n).showDebt n
    let c := d.chan n
    let held := c.train.isSome || c.phase == .switch
    let only2 := c.phase == .quiesce
    if held then d
    else
      let p := (c.nextBank[s]?).getD 0
      let pick := (List.range 16).findSome? fun i =>
        let b := (p + i) % 16
        match chooseReq (c.bank (16 * s + b)).row (c.bankQ s b) with
        | some r => if only2 && r.cls != 2 then none else some (b, r)
        | none => none
      match pick with
      | some (b, r) => d.serve n s b r err
      | none => d

/-- DRAM_COMMAND (R455). -/
def execDramCommand (chan sub : Nat) (err : ReadErr) (s : State) : Host.Outcome State Fault Refusal :=
  .next { s with dev := if s.dev.up then s.dev.dramCommand chan sub err else s.dev }

/-- A row open for OPEN_NS without an access closes (R459). -/
def Dev.rowClose (d : Dev) (n k : Nat) : Dev :=
  let c := d.chan n
  let b := c.bank k
  if n < 4 ∧ b.row.isSome ∧ d.passed b.lastUse (d.fld Reg.DMC_CTRL F.DMC_CTRL_OPEN_NS) then
    d.setChan n (c.setBank k { b with row := none })
  else d

/-- ROW_CLOSE (R459). -/
def execRowClose (chan bank : Nat) (s : State) : Host.Outcome State Fault Refusal :=
  .next { s with dev := s.dev.rowClose chan bank }

/-! ### Refresh (R460, R461) -/

/-- A refresh interval passes on channel `n` (R461): the debt rises; a debt that reaches 8 raises POSTPONE_MAX and forces refresh. -/
def Dev.interval (d : Dev) (n : Nat) : Dev :=
  let c := d.chan n
  let d := d.setChan n { c with debt := c.debt.map (· + 1) }
  let k := (d.chan n).owed
  let d := if d.postpones n ∧ k > 0 then d.count (Reg.DMC_COUNT n 9) 1 else d
  let d := if 8 ≤ k then d.raise 12 6 else d
  (d.refresh n).pullIn n

/-- REFRESH_INTERVAL (R461). -/
def execRefreshInterval (chan : Nat) (s : State) : Host.Outcome State Fault Refusal :=
  .next { s with dev := if s.dev.chanLive chan then (s.dev.interval chan).showDebt chan else s.dev }

/-- MR4_MS ms have passed since the last MR4 read, 0 taken as 1 (R460, R470). -/
def Dev.mr4Due (d : Dev) (n : Nat) : Bool :=
  match (d.chan n).mr4At with
  | none => true
  | some t => d.passed t (1000000 * max 1 (d.fld Reg.DMC_REFRESH F.DMC_REFRESH_MR4_MS))

/-- MR4_READ (R460). -/
def execMr4Read (chan : Nat) (rr : BitVec 5) (hot : Bool) (s : State) : Host.Outcome State Fault Refusal :=
  .next { s with dev :=
    if s.dev.chanLive chan && s.dev.mr4Due chan then
      let d := s.dev.setChan chan { s.dev.chan chan with mr4At := some s.dev.free }
      let d := d.setFld (Reg.DMC_CHAN_STATUS chan) F.DMC_CHAN_STATUS_RR rr.toNat
      if hot then (d.raise 12 5).report (102 + chan) 2 true else d
    else s.dev }

/-! ### Set points (R462 to R465) -/

/-- The target set point (R464). -/
def Dev.spTarget (d : Dev) : Nat :=
  (List.range 16).foldl (fun m k => if d.rungOn k && d.rungKind k == 7 then max m (bitsOf (d.rungArg k) 0 2) else m)
    (d.fld Reg.DMC_SP_CTRL F.DMC_SP_CTRL_REQ)

def Dev.trained (d : Dev) (n sp : Nat) : Bool := (d.fld (Reg.DMC_SP sp) F.DMC_SP_TRAINED).testBit n

/-- Channel `n` starts its change to the target when it runs another set point and nothing keeps it (R464, R465, R469). -/
def Dev.spStart (d : Dev) (n : Nat) : Dev :=
  let t := d.spTarget
  let c := d.chan n
  if d.chanState n = 2 ∧ d.chanSp n ≠ t ∧ c.train.isNone then
    let d := d.setChanState n 3
    if d.trained n t then d.setChan n { c with target := t, phase := .program }
    else d.setChan n { c with target := t, train := some (t, 0) }
  else d

/-- The target is taken anew and channels start to change (R464). -/
def Dev.spRetarget (d : Dev) : Dev :=
  (List.range 4).foldl Dev.spStart (d.setFld Reg.DMC_SP_CTRL F.DMC_SP_CTRL_TARGET d.spTarget)

/-- A write of DMC_SP_CTRL. -/
def Dev.spRequest (d : Dev) (v : Word) : Dev := (d.setFld Reg.DMC_SP_CTRL F.DMC_SP_CTRL_REQ (F.DMC_SP_CTRL_REQ.of v)).spRetarget

/-- SP_REQUEST (R464). -/
def execSpRequest (v : Word) (s : State) : Host.Outcome State Fault Refusal :=
  .next { s with dev := s.dev.access Reg.DMC_SP_CTRL (some v) (·.spRequest v) }

/-- Every channel that works runs the target (R465). -/
def Dev.spAll (d : Dev) : Bool :=
  (List.range 4).all fun n => d.chanState n = 0 || d.chanState n = 4 || (d.chanState n = 2 && d.chanSp n = d.spTarget)

/-- Starts the next training of DMC_TRAIN, one channel at a time and not during a change; without one left, GO reads 0 (R467, R469). -/
def Dev.trainNext (d : Dev) : Dev :=
  if !d.bit Reg.DMC_TRAIN F.DMC_TRAIN_GO then d
  else if (List.range 4).any fun n => (d.chan n).trainCmd.isSome && (d.chan n).train.isSome then d
  else
    match (List.range 4).find? fun n => (d.chan n).trainCmd.isSome with
    | none => d.setFld Reg.DMC_TRAIN F.DMC_TRAIN_GO 0
    | some n =>
      let c := d.chan n
      if d.chanState n = 2 then d.setChan n { c with train := c.trainCmd } else d

/-- The phase of a change ends (R465). -/
def Dev.spPhase (d : Dev) (n : Nat) : Dev :=
  let c := d.chan n
  match c.phase with
  | .none => d
  | .program => d.setChan n { c with phase := .quiesce }
  | .quiesce =>
    if c.burst then d
    else
      let d := (d.refresh n).showDebt n
      let c := d.chan n
      d.setChan n { c with phase := .switch, banks := c.banks.map fun (e : Nat × Bank) => (e.1, { e.2 with row := none }) }
  | .switch =>
    let a := Reg.DMC_CHAN_STATUS n
    let d := (d.setChan n { c with phase := .none }).setChanState n 2
    let d := (d.setFld a F.DMC_CHAN_STATUS_SP c.target).setFld a F.DMC_CHAN_STATUS_FSP (1 - d.fld a F.DMC_CHAN_STATUS_FSP)
    let d := d.count (Reg.DMC_COUNT n 11) 1
    let d := if d.spAll then d.raise 12 4 else d
    (d.spStart n).trainNext

/-- SP_PHASE_DONE (R465). -/
def execSpPhaseDone (chan : Nat) (s : State) : Host.Outcome State Fault Refusal :=
  .next { s with dev := if s.dev.up then s.dev.spPhase chan else s.dev }

/-! ### Training (R463, R466, R467) -/

/-- The data space of a channel in MiB (R448); a reserved DENSITY gives a size that the manual does not state. -/
def dataMib (density : Nat) : Nat := if density ≤ 4 then 896 * 2 ^ density else Config.freeOf 1 [density] % 16384

/-- Bring-up training of the channels with EN set starts (R463). -/
def Dev.dramInit (d : Dev) : Dev :=
  (List.range 4).foldl (fun (d : Dev) n =>
    let g := Reg.DMC_CHAN_CFG n
    if d.bit g F.DMC_CHAN_CFG_EN then
      let d := d.setFld (Reg.DMC_CHAN_STATUS n) F.DMC_CHAN_STATUS_DATA_MIB (dataMib (d.fld g F.DMC_CHAN_CFG_DENSITY))
      let c := d.chan n
      (d.setChanState n 1).setChan n
        { c with train := some (d.fld Reg.DMC_SP_CTRL F.DMC_SP_CTRL_REQ, 0)
                 debt := if d.bit g F.DMC_CHAN_CFG_RANKS then [0, 0] else [0] }
    else d) d

/-- Training of channel `n` on set point `sp` has failed (R463, R467). -/
def Dev.trainFailed (d : Dev) (n sp : Nat) : Dev :=
  let c := d.chan n
  let byCmd := c.trainCmd.isSome && d.chanState n == 2
  let d := d.setChan n { c with train := none, trainCmd := none }
  let d := if c.trainCmd.isSome then
      d.setFld Reg.DMC_TRAIN F.DMC_TRAIN_FAILED (d.fld Reg.DMC_TRAIN F.DMC_TRAIN_FAILED ||| 2 ^ n)
    else d
  let d := d.raise 12 3
  if byCmd ∧ d.chanSp n ≠ sp then
    let w := d.fld (Reg.DMC_SP sp) F.DMC_SP_TRAINED
    (d.setFld (Reg.DMC_SP sp) F.DMC_SP_TRAINED (if w.testBit n then w - 2 ^ n else w)).spStart n
  else (d.setChanState n 4).report (102 + n) 2 true

/-- The last step of a channel's training on `sp` has ended. -/
def Dev.trainDone (d : Dev) (n sp : Nat) : Dev :=
  let c := d.chan n
  let d := d.setFld (Reg.DMC_SP sp) F.DMC_SP_TRAINED (d.fld (Reg.DMC_SP sp) F.DMC_SP_TRAINED ||| 2 ^ n)
  if d.chanState n = 1 then
    (((d.setChan n { c with train := none }).setChanState n 2).setFld (Reg.DMC_CHAN_STATUS n) F.DMC_CHAN_STATUS_SP sp).spStart n
  else if d.chanState n = 3 then d.setChan n { c with train := none, phase := .program }
  else (d.setChan n { c with train := none, trainCmd := none }).spStart n

/-- DMC_TRAIN's training of channel `n` gives way to a change of set point between two steps, and goes on with step `k` after it (R465). -/
def Dev.trainYield (d : Dev) (n sp k : Nat) : Dev :=
  let c := d.chan n
  if d.chanState n = 2 && d.chanSp n ≠ d.spTarget then (d.setChan n { c with train := none, trainCmd := some (sp, k) }).spStart n
  else d.setChan n { c with train := some (sp, k) }

/-- A training step ends. -/
def Dev.trainStep (d : Dev) (n : Nat) (ok : Bool) : Dev :=
  let c := d.chan n
  match c.train with
  | none => d
  | some (sp, k) =>
    if !ok then (d.trainFailed n sp).trainNext
    else if k < 4 then d.trainYield n sp (k + 1)
    else (d.trainDone n sp).trainNext

/-- TRAIN_STEP_DONE (R463). -/
def execTrainStepDone (chan : Nat) (ok : Bool) (s : State) : Host.Outcome State Fault Refusal :=
  .next { s with dev := s.dev.trainStep chan ok }

/-- PERIOD_MS ms have passed since the channel's last oscillator read (R466). -/
def Dev.oscDue (d : Dev) (n : Nat) : Bool :=
  let p := d.fld Reg.DMC_RETRAIN F.DMC_RETRAIN_PERIOD_MS
  p ≠ 0 && match (d.chan n).oscAt with
    | none => true
    | some t => d.passed t (1000000 * p)

/-- Each rank's drift since its baseline is read; one above THRESH_PS is adjusted and counted (R466). -/
def Dev.oscRead (d : Dev) (n : Nat) (drifts : List Nat) : Dev :=
  let c := d.chan n
  let far := ((drifts.take c.debt.length).filter (· > d.fld Reg.DMC_RETRAIN F.DMC_RETRAIN_THRESH_PS)).length
  let d := d.setChan n { c with oscAt := some d.free }
  if far = 0 then d else d.count (Reg.DMC_COUNT n 12) far

/-- DQS_OSC_READ (R466). -/
def execDqsOscRead (chan : Nat) (drifts : List Nat) (s : State) : Host.Outcome State Fault Refusal :=
  .next { s with dev := if s.dev.chanLive chan && s.dev.oscDue chan then s.dev.oscRead chan drifts else s.dev }

/-- A write of DMC_TRAIN (R467): the fields, and with GO the training of every named channel that is up. -/
def Dev.trainGo (d : Dev) (v : Word) : Dev :=
  let a := Reg.DMC_TRAIN
  let chs := F.DMC_TRAIN_CHANNELS.of v
  let sp := F.DMC_TRAIN_SP.of v
  let d := (d.setFld a F.DMC_TRAIN_CHANNELS chs).setFld a F.DMC_TRAIN_SP sp
  if F.DMC_TRAIN_GO.of v = 0 ∨ d.bit a F.DMC_TRAIN_GO then d
  else
    let d := (d.setFld a F.DMC_TRAIN_FAILED 0).setFld a F.DMC_TRAIN_GO 1
    let d := (List.range 4).foldl (fun (d : Dev) n =>
      if chs.testBit n ∧ d.chanLive n then d.setChan n { d.chan n with trainCmd := some (sp, 0) } else d) d
    d.trainNext

/-- DMC_TRAIN_GO (R467). -/
def execDmcTrainGo (v : Word) (s : State) : Host.Outcome State Fault Refusal :=
  .next { s with dev := s.dev.access Reg.DMC_TRAIN (some v) (·.trainGo v) }

/-- A set point is in use: a channel runs it, or it is being trained, on a channel or still to be on one that DMC_TRAIN names (R462). -/
def Dev.spInUse (d : Dev) (k : Nat) : Bool :=
  (List.range 4).any fun n => (d.chanLive n && d.chanSp n == k) || (d.chan n).train.map Prod.fst == some k || (d.chan n).trainCmd.map Prod.fst == some k

/-- A write of DMC_SPk (R462). -/
def Dev.spRate (d : Dev) (k : Nat) (v : Word) : Dev :=
  if k > 3 ∨ d.spInUse k then d
  else (d.setFld (Reg.DMC_SP k) F.DMC_SP_RATE (F.DMC_SP_RATE.of v)).setFld (Reg.DMC_SP k) F.DMC_SP_TRAINED 0

/-- SP_RATE_WRITE (R462). -/
def execSpRateWrite (k : Nat) (v : Word) (s : State) : Host.Outcome State Fault Refusal :=
  .next { s with dev := s.dev.access (Reg.DMC_SP k) (some v) (·.spRate k v) }

/-- A write of DMC_RESERVE (R469). -/
def Dev.reserveWrite (d : Dev) (v : Word) : Dev :=
  if reserveOf v 0 + reserveOf v 1 + reserveOf v 2 + reserveOf v 3 > 2048 then d.raise 12 7
  else (List.range 4).foldl Dev.admitPort (d.setReg Reg.DMC_RESERVE (v &&& 0x0FFF0FFF0FFF0FFF))

/-- RESERVE_WRITE (R469). -/
def execReserveWrite (v : Word) (s : State) : Host.Outcome State Fault Refusal :=
  .next { s with dev := s.dev.access Reg.DMC_RESERVE (some v) (·.reserveWrite v) }

/-- DMC_ECC_LAST_READ (R454). -/
def execDmcEccLastRead (s : State) : Host.Outcome State Fault Refusal :=
  .next { s with dev := s.dev.access Reg.DMC_ECC_LAST none (·.readClear Reg.DMC_ECC_LAST) }

end Sys2Proof.Machine
end

