-- ==== Sys2Proof/Machine/Lookup.lean ====
section
/-! DEFINITION. Ingress lookups (R178 to R189, R193, R206, R207, R217 to R219).
Readings of the manual that it takes are DEDUCED, in log entry 16. -/

namespace Sys2Proof.Machine

/-- The packet has read table `t`, for the fences of R203. -/
def Pkt.didRead (p : Pkt) (t : Nat) : Pkt :=
  { p with
    reads := if t ∈ p.reads then p.reads else p.reads ++ [t]
    flight := if t ∈ p.flight then p.flight else p.flight ++ [t] }

/-- The learn candidate of an EXACT lookup: NEW on a miss, MOVE on a hit of a station elsewhere (R189). -/
def learnCand (p : Pkt) (t : Nat) (key : List Word) (res : Option Word) : Option Candidate :=
  if p.get C.PASS = 0 ∧ p.get C.IN_PORT ≤ 129 then
    match res with
    | none => some ⟨t, wordAt key 0, p.get C.IN_PORT, p.flag C.G, none⟩
    | some w =>
      if !rwStatic w && rwPort w != p.get C.IN_PORT then
        some ⟨t, wordAt key 0, p.get C.IN_PORT, p.flag C.G, some (rwPort w)⟩
      else none
  else none

/-- Effects of a correctable error met at place `pl`. -/
def Dev.corrAt (d : Dev) (t : Nat) (b : List Byte) (pl : Nat) (err : ReadErr) : Dev :=
  match err with
  | .corr w => d.tileCorr t b pl w
  | _ => d

/-- The error met is a corrected result word (R206). -/
def corrResult (b : List Byte) (err : ReadErr) : Bool :=
  match err with
  | .corr w => if tmKind b = 1 then w == 3 else w == tmW b - 1
  | _ => false

/-- The read met an uncorrectable word. -/
def errBad (err : ReadErr) : Bool :=
  match err with
  | .uncorr _ => true
  | _ => false

/-! ### What a lookup reads (R181, R193, R206, R207) -/

/-- What a lookup gives: its slot word, the result word it hit, and whether it met an uncorrectable word. -/
structure Look where
  slot : Word
  res : Option Word
  bad : Bool
  deriving DecidableEq, Repr

/-- A miss. -/
def Look.miss (t : Nat) : Look := ⟨slotOf t false false false 0, none, false⟩

/-- An uncorrectable word at place `pl`: the slot shows a miss (log entry 9). -/
def Dev.lookBad (d : Dev) (t : Nat) (b : List Byte) (pl : Nat) (err : ReadErr) : Dev × Look :=
  (d.badRead t b pl err, ⟨slotOf t false false false 0, none, true⟩)

/-- The entry at place `pl` with result word `w` answers. -/
def Dev.lookHit (d : Dev) (t : Nat) (b : List Byte) (pl : Nat) (w : Word) (hit : Bool) (err : ReadErr) : Dev × Look :=
  (d.corrAt t b pl err, ⟨slotOf t hit false (corrResult b err) w, if hit then some w else none, false⟩)

/-- No entry answers; which of the places read holds a word in error is the device's own. -/
def Dev.lookMiss (d : Dev) (t : Nat) (b : List Byte) (places : Nat → Nat) (n : Nat) (err : ReadErr) : Dev × Look :=
  if err = .none then (d, Look.miss t)
  else
    let (k, d) := d.fresh (max 1 n)
    if errBad err then d.lookBad t b (places k) err else (d.corrAt t b (places k) err, Look.miss t)

/-- A key whose candidate places hold a poisoned one that is not its own: on a hit, whether the lookup needs the poisoned word is the device's
own; a miss needs every word (R207). -/
def Dev.readsPoison (d : Dev) (t : Nat) (b : List Byte) (key : List Word) (hit : Bool) : Option Nat × Dev :=
  match (exactPlaces b key).find? (d.tbl t).poisoned with
  | none => (none, d)
  | some pl =>
    if hit then
      let (k, d) := d.fresh 2
      (if k = 0 then none else some pl, d)
    else (some pl, d)

/-- An EXACT lookup (R172, R193). -/
def Dev.lookExact (d : Dev) (t : Nat) (b : List Byte) (key : List Word) (err : ReadErr) : Dev × Look :=
  let m := d.tbl t
  match m.exactFind key with
  | some pl =>
    if m.poisoned pl || errBad err then d.lookBad t b pl err
    else
      match d.readsPoison t b key true with
      | (some q, d) => d.lookBad t b q .none
      | (none, d) =>
        let w := wordAt (m.image pl (tmW b)) (tmW b - 1)
        let d := if rwHit w then d else { d with hitSets := d.hitSets ++ [⟨t, pl, key⟩] }
        d.lookHit t b pl w true err
  | none =>
    match d.readsPoison t b key false with
    | (some q, d) => d.lookBad t b q .none
    | (none, d) => d.lookMiss t b (fun k => (exactPlaces b key).getD k 0) 8 err

/-- The result of an LPM lookup (R186). -/
def Dev.lookLpm (d : Dev) (t : Nat) (b : List Byte) (key : Nat) (err : ReadErr) : Dev × Look :=
  match lpmBest (d.tbl t).lpm key with
  | some e => if e.poison || errBad err then d.lookBad t b e.handle err else d.lookHit t b e.handle e.result true err
  | none => d.lookMiss t b (· + 4294967296) (lpmOnChip b + 1) err

/-- An INDEX lookup (R181). -/
def Dev.lookIndex (d : Dev) (t : Nat) (b : List Byte) (pl : Nat) (err : ReadErr) : Dev × Look :=
  let m := d.tbl t
  let w := wordAt (m.image pl (tmW b)) (tmW b - 1)
  if m.poisoned pl || errBad err then d.lookBad t b pl err else d.lookHit t b pl w (rwValid w) err

/-- A Chamois search (R217, R218). -/
def Dev.lookCham (d : Dev) (t : Nat) (b : List Byte) (key : List Byte) : Dev × Look :=
  let hits := d.chMatches b (fitKey key (10 * ccK b) (ccKeyBits b))
  let multi := hits.length > 1
  let d := d.count (Reg.AAR_COUNT 0) 1
  let d := if multi then d.count (Reg.AAR_COUNT 1) 1 else d
  let w := BitVec.ofNat 64 (65536 * (hits[0]?).getD 0)
  (d, ⟨slotOf t (!hits.isEmpty) multi false w, none, false⟩)

/-- The key words of an EXACT lookup, and the 192-bit key of an LPM lookup (R179). -/
def exactKey (b key : List Byte) : List Word := bytesWords (fitKey key (8 * (tmW b - 1)) (tmKeyBits b)) (tmW b - 1)
def lpmKey (b key : List Byte) : Nat := beNat (fitKey key 24 (tmKeyBits b))

/-! ### The DRAM extension (R187, R188) -/

/-- The lookup of a key in table `t` of generation `g` lands on a marker. -/
def Dev.onMarker (d : Dev) (g t : Nat) (b : List Byte) (key : Nat) : Option (List Byte) :=
  match d.sec g T.DRAM_LPM t with
  | some x => if tmDramExt b && lpmMarker (d.tbl t).lpm (dlSplit x) key then some x else none
  | none => none

/-- An atom of the extension's region, of the device's choice (log entry 6). -/
def Dev.lpmAtom (d : Dev) (x : List Byte) : Nat × Dev :=
  let (k, d) := d.fresh (max 1 (dlChans x).length)
  let (o, d) := d.fresh (16384 * max 1 (dlSize x))
  ((dlChans x).getD k 0 * 2 ^ 34 + dlBase x * 1048576 + 64 * o, d)

/-- The LPM step asks for `n` atoms (R188, R451). -/
def Dev.lpmReads (d : Dev) (x : List Byte) (tag : Nat) : Nat → Dev
  | 0 => d
  | n + 1 =>
    let (a, d) := d.lpmAtom x
    (d.dramReq 0 a none tag).lpmReads x tag n

/-- DRAM extension reads outstanding in a pipe (R188). -/
def Dev.dramOut (d : Dev) (pipe : Nat) : Nat :=
  d.pkts.foldl (fun n e =>
    if e.2.stage == .dramWait && e.2.get C.IN_PIPE == pipe then n + (match e.2.dram with | some x => x.reads | none => 0)
    else n) 0

/-- The pipe's lookup stage waits for its DRAM reads (R188). -/
def Dev.lookupWaits (d : Dev) (pipe : Nat) : Bool := decide (256 ≤ d.dramOut pipe)

/-- One answer of serial number `tag` is taken. -/
def Dev.popAnswer (d : Dev) (tag : Nat) : Option (DAns × Dev) :=
  match d.answers.find? (·.owner == tag) with
  | some a => some (a, { d with answers := d.answers.eraseP (·.owner == tag) })
  | none => none

/-! ### Lookups of a packet (R178 to R189) -/

/-- The result of a lookup reaches the packet's slot; an uncorrectable word drops the packet (R181, R207). -/
def Dev.useLook (d : Dev) (p : Pkt) (slot : Nat) (l : Look) : Dev × Pkt :=
  let (d, p) := if l.bad then d.eccDrop p else (d, p)
  (d, p.putWord (14 + slot) l.slot)

/-- The index of an INDEX or COUNTER record (R180). -/
def lrIndex (b prog : List Byte) (i : Nat) (p : Pkt) : Nat :=
  (slotResult p (lrIndexSlot prog i) >>> lrIndexLsb prog i) % max 1 (tmPlaces b)

/-- The EXACT lookup of record `i`, with its learn candidate (R189). -/
def Dev.recExact (d : Dev) (p : Pkt) (t : Nat) (b prog : List Byte) (i : Nat) (err : ReadErr) : Dev × Pkt :=
  let key := exactKey b (lrKey prog i p)
  let (d, l) := d.lookExact t b key err
  let d := match (if lrLearn prog i && !l.bad then learnCand p t key l.res else none) with
    | some c => { d with cands := d.cands ++ [c] }
    | none => d
  d.useLook p (lrSlot prog i) l

/-- The LPM lookup of record `i`: on chip, or with one or two DRAM reads behind a marker (R188). -/
def Dev.recLpm (d : Dev) (c : Nat) (p : Pkt) (t : Nat) (b prog : List Byte) (i : Nat) (err : ReadErr) : Dev :=
  let key := lpmKey b (lrKey prog i p)
  let slot := lrSlot prog i
  let (d, p) := d.charge (p.didRead t) 2
  match d.onMarker (p.get C.G) t b key with
  | some x =>
    let (l, d) := if err = .none then (Look.miss t, d) else (d.lookMiss t b (· + 4294967296) (lpmOnChip b + 1) err).swap
    if l.bad then
      let (d, p) := d.useLook p slot l
      d.setPkt c (d.settle p)
    else
      let (k, d) := d.fresh 2
      let n := min (k + 1) (256 - d.dramOut (p.get C.IN_PIPE))
      let (tag, d) := d.newTag
      (d.lpmReads x tag n).setPkt c { p with stage := .dramWait, dram := some ⟨slot, t, key, n, tag⟩ }
  | none =>
    let (d, l) := d.lookLpm t b key err
    let (d, p) := d.useLook p slot l
    d.setPkt c (d.settle p)

/-- The lookup of record `i` on a table of tiles (R181, R183). -/
def Dev.lookTile (d : Dev) (c : Nat) (p : Pkt) (t : Nat) (b prog : List Byte) (i : Nat) (err : ReadErr) : Dev :=
  let kind := tmKind b
  let p := { p with next := i + 1 }
  let done := fun (dp : Dev × Pkt) => dp.1.setPkt c (dp.1.settle dp.2)
  if kind = 0 then
    let (d, p) := d.charge (p.didRead t) 1
    done (d.recExact p t b prog i err)
  else if kind = 1 then d.recLpm c p t b prog i err
  else if kind = 2 then
    let (d, p) := d.charge (p.didRead t) 1
    let (d, l) := d.lookIndex t b (lrIndex b prog i p) err
    done (d.useLook p (lrSlot prog i) l)
  else done (d, { p with counts := p.counts ++ [(t, lrIndex b prog i p)] })

/-- The next lookup of a packet, when it is not a Chamois search (R178). -/
def Dev.lookupPkt (d : Dev) (c : Nat) (err : ReadErr) (p : Pkt) : Dev :=
  let prog := d.program p
  if d.lookupWaits (p.get C.IN_PIPE) then d.raise 2 3
  else
    match d.nextRec p with
    | none => d.setPkt c (d.settle p)
    | some i =>
      let t := lrTable prog i
      match d.tblIn (p.get C.G) t with
      | .tile b => if d.tilesUp b then d.lookTile c p t b prog i err else d
      | _ => d

/-- LOOKUP (R181). -/
def execLookup (ctx : Nat) (err : ReadErr) (s : State) : Host.Outcome State Fault Refusal :=
  .next { s with dev := s.dev.withPkt ctx (fun p => p.stage == .lookups && s.dev.lineUp (p.get C.IN_PIPE)) (s.dev.lookupPkt ctx err) }

/-- One DRAM read of a lookup that waits has been answered (R188): it charges LPM_DRAM; the last one gives the result. A poisoned answer drops the
packet with LPM_DRAM_ECC. -/
def Dev.dramLpmPkt (d : Dev) (c : Nat) (p : Pkt) : Dev :=
  match p.dram with
  | none => d
  | some x =>
    match d.popAnswer x.tag with
    | none => d
    | some (a, d) =>
      let (d, p) := d.charge p 3
      let d := d.count (Reg.TBL_COUNT 11) 1
      let p := if a.bad = 0 then p else p.dispose Disp.drop 0x19
      if x.reads > 1 then d.setPkt c { p with dram := some { x with reads := x.reads - 1 } }
      else
        let p := { p with stage := .lookups, dram := none }
        let (d, l) := match d.tblIn (p.get C.G) x.table with
          | .tile b => if p.get C.DISP = Disp.drop ∧ p.get C.REASON = 0x19 then (d, Look.miss x.table) else d.lookLpm x.table b x.key .none
          | _ => (d, Look.miss x.table)
        let (d, p) := d.useLook p x.slot l
        d.setPkt c (d.settle p)

/-- DRAM_LPM_READ (R188). -/
def execDramLpmRead (ctx : Nat) (s : State) : Host.Outcome State Fault Refusal :=
  .next { s with dev := s.dev.withPkt ctx (fun p => p.stage == .dramWait && s.dev.lineUp (p.get C.IN_PIPE)) (s.dev.dramLpmPkt ctx) }

/-- The search of record `i` on Chamois table `t` (R217, R218, R219). -/
def Dev.chSearch (d : Dev) (c : Nat) (p : Pkt) (t : Nat) (b prog : List Byte) (i : Nat) : Dev :=
  let (d, p) := d.charge ({ p with next := i + 1 } : Pkt) 4
  let (d, l) := d.lookCham t b (lrKey prog i p)
  let (d, p) := d.useLook (p.didRead t) (lrSlot prog i) l
  d.setPkt c (d.settle p)

/-- The next lookup of a packet, when it is a Chamois search. -/
def Dev.searchPkt (d : Dev) (c : Nat) (p : Pkt) : Dev :=
  let prog := d.program p
  if d.lookupWaits (p.get C.IN_PIPE) then d.raise 2 3
  else
    match d.nextRec p with
    | none => d.setPkt c (d.settle p)
    | some i =>
      let t := lrTable prog i
      match d.tblIn (p.get C.G) t with
      | .cham b => if d.segsUp b then d.chSearch c p t b prog i else d
      | _ => d

/-- CHAMOIS_SEARCH (R217). -/
def execChamoisSearch (ctx : Nat) (s : State) : Host.Outcome State Fault Refusal :=
  .next { s with dev := s.dev.withPkt ctx (fun p => p.stage == .lookups && s.dev.lineUp (p.get C.IN_PIPE)) (s.dev.searchPkt ctx) }

end Sys2Proof.Machine
end

