-- ==== Sys2Proof/Machine/Engine.lean ====
section
/-! DEFINITION. Gerenuk engines (R272 to R305): programs, threads, data memory, issuing an instruction, traps, and the start of threads.
Readings of the manual that it takes are DEDUCED, in log entry 35. -/

namespace Sys2Proof.Machine

/-! ### Programs (R304, R306) -/

/-- The program of a loaded engine: of the generation that loaded it, or of the other one that shares it. -/
def Dev.engProg (d : Dev) (e : Nat) (x : Engine) : List Byte :=
  match d.sec x.gen T.ENGINE_PROGRAM e with
  | some b => b
  | none => d.secOr0 (1 - x.gen) T.ENGINE_PROGRAM e

def epCount (b : List Byte) : Nat := bodyFld b 0 0 13
def epEntry (b : List Byte) : Nat := bodyFld b 0 16 12
def epResEntry (b : List Byte) : Nat := bodyFld b 0 32 12
def epResident (b : List Byte) : Nat := bodyFld b 0 44 4
/-- Instruction `i`. -/
def epInsn (b : List Byte) (i : Nat) : Nat := leNat (slice b (64 + 4 * i) 4)

/-- Both generations hold the program (ENG_STATUS.SHARED). -/
def Dev.engShared (d : Dev) (e : Nat) : Bool :=
  d.genLive 0 && d.genLive 1 && (d.sec 0 T.ENGINE_PROGRAM e).isSome && (d.sec 1 T.ENGINE_PROGRAM e).isSome

/-- A generation that holds the program is ACTIVE. -/
def Dev.engActive (d : Dev) (e : Nat) : Bool := (d.gen d.activeG).st == .active && (d.sec d.activeG T.ENGINE_PROGRAM e).isSome

/-- A live generation holds a program for engine `e` (ENG_STATUS.LOADED, R304). -/
def Dev.engHeld (d : Dev) (e : Nat) : Bool := (List.range 2).any fun g => d.genLive g && (d.sec g T.ENGINE_PROGRAM e).isSome

/-- The engine's cluster is not restarting. -/
def Dev.clusterUp (d : Dev) (e : Nat) : Bool := d.lineUp (82 + e / 16)

/-! ### Threads (R272, R275, R279) -/

def Thread.free : Thread :=
  { regs := List.replicate 32 0, pc := 0, st := .free, steps := 0, ops := [], ctx := none, win := [], rest := [], prepended := 0
    target := 0 }

def Engine.thread (x : Engine) (t : Nat) : Thread := (x.threads[t]?).getD Thread.free
def Engine.setThread (x : Engine) (t : Nat) (th : Thread) : Engine := { x with threads := x.threads.set t th }

def Dev.setEngine (d : Dev) (e : Nat) (x : Engine) : Dev := { d with engines := Map.put d.engines e x }
def Dev.setThread (d : Dev) (e t : Nat) (th : Thread) : Dev :=
  match Map.find d.engines e with
  | some x => d.setEngine e (x.setThread t th)
  | none => d

def Thread.v (th : Thread) (i : Nat) : Word := wordAt th.regs i
def Thread.setV (th : Thread) (i : Nat) (w : Word) : Thread := { th with regs := th.regs.set i w }

/-- v5 and v6 at the start of thread `t` of engine `e` (R275). -/
def startRegs (e t : Nat) : List Word :=
  ((List.replicate 32 (0 : Word)).set 5 (BitVec.ofNat 64 (64 * t))).set 6 (BitVec.ofNat 64 e)

/-- A resident thread at RESIDENT_ENTRY; operations still outstanding write no register of the new run. -/
def Thread.resident (th : Thread) (e t entry : Nat) : Thread :=
  { Thread.free with regs := startRegs e t, pc := entry, st := .run, ops := th.ops.map fun o => { o with dst := none } }

/-- A thread that stops; its operations go on without a register to write. -/
def Thread.stopped (th : Thread) : Thread := { Thread.free with ops := th.ops.map fun o => { o with dst := none } }

/-- The thread ends its work: a resident thread starts anew while its program is held by the ACTIVE generation, any other is FREE. -/
def Dev.threadEnd (d : Dev) (e t : Nat) (x : Engine) (th : Thread) : Dev :=
  let b := d.engProg e x
  d.setThread e t (if t < epResident b ∧ d.engActive e then th.resident e t (epResEntry b) else th.stopped)

/-- The packet of a thread, in its engine. -/
def Dev.threadPkt (d : Dev) (th : Thread) : Option (Nat × Pkt) :=
  match th.ctx with
  | some c => (d.pkt c).map fun p => (c, p)
  | none => none

/-- The generation whose tables the thread reads: its packet's, or the ACTIVE one (R289). -/
def Dev.threadG (d : Dev) (th : Thread) : Nat :=
  match d.threadPkt th with
  | some (_, p) => p.get C.G
  | none => d.activeG

/-! ### Traps (R299, R302) -/

def trPC_RANGE : Nat := 0x1
def trDMEM_RANGE : Nat := 0x2
def trALIGN : Nat := 0x3
def trWINDOW : Nat := 0x4
def trCONTEXT : Nat := 0x5
def trSTEP_LIMIT : Nat := 0x6
def trNO_PACKET : Nat := 0x7
def trHEADADJ : Nat := 0x8
def trLENGTH : Nat := 0x9
def trDMEM_ECC : Nat := 0xA
def trSOFT : Nat := 0xF

/-- Two checks fail at once: which of the two codes is recorded is the device's own (log entry 6). -/
def Dev.eitherCode (d : Dev) (x y : Bool) (cx cy : Nat) : Option Nat × Dev :=
  if x && y then
    let (k, d) := d.fresh 2
    (some (if k = 0 then cx else cy), d)
  else if x then (some cx, d)
  else if y then (some cy, d)
  else (none, d)

/-- A trap of thread `t` (R299): the packet is discarded, the trap recorded, and the thread ends. -/
def Dev.engTrap (d : Dev) (e t : Nat) (x : Engine) (th : Thread) (code soft : Nat) : Dev :=
  let d := match d.threadPkt th with
    | some (c, p) => d.discard c (p.dispose Disp.drop 0x32)
    | none => d
  let w := F.ENG_TRAP_LAST_CODE.put 0 code
  let w := F.ENG_TRAP_LAST_THREAD.put w t
  let w := F.ENG_TRAP_LAST_PC.put w th.pc
  let w := F.ENG_TRAP_LAST_SOFT_CODE.put w soft
  let w := F.ENG_TRAP_LAST_VALID.put w 1
  let d := ((d.setReg (Reg.ENG_TRAP_LAST e) w).raise (256 + e) 0).count (Reg.ENG_COUNT e 3) 1
  let d := if code = trDMEM_ECC then (d.raise (256 + e) 1).report (82 + e / 16) 2 false else d
  d.threadEnd e t x th

/-! ### Data memory (R272, R282) -/

def Dev.engMem (d : Dev) (e : Nat) : List Host.Cell := Map.getD d.dmem e []
def Dev.setEngMem (d : Dev) (e : Nat) (m : List Host.Cell) : Dev :=
  { d with dmem := if m.isEmpty then Map.del d.dmem e else Map.put d.dmem e m }

/-- The word of data memory at `a` is known to be uncorrectable. -/
def Dev.engWordBad (d : Dev) (e a : Nat) : Bool := decide ((e, a / 8 * 8) ∈ d.dmemBad)

/-- Some word of `n` bytes from `a` is uncorrectable. -/
def Dev.engRangeBad (d : Dev) (e a n : Nat) : Bool := (List.range n).any fun i => d.engWordBad e (a + i)

/-- Marks a word uncorrectable. -/
def Dev.engMarkBad (d : Dev) (e a : Nat) : Dev :=
  if d.engWordBad e a then d else { d with dmemBad := d.dmemBad ++ [(e, a / 8 * 8)] }

/-- Writes bytes; a word written whole is good again. -/
def Dev.engStore (d : Dev) (e a : Nat) (bs : List Byte) : Dev :=
  let d := d.setEngMem e (Mem.writeAll (d.engMem e) a bs)
  if bs.length = 8 then { d with dmemBad := d.dmemBad.filter fun x => x != (e, a) } else d

/-- The data memory that a generation loads: ENGINE_DATA from address 0, the rest zero (R307). -/
def Dev.engLoadData (d : Dev) (g e : Nat) : Dev :=
  { d.setEngMem e (Mem.writeAll [] 0 (d.secOr0 g T.ENGINE_DATA e)) with dmemBad := d.dmemBad.filter fun x => x.1 != e }

/-- A correctable word of an engine's memory is corrected and reported (R302). -/
def Dev.engCorr (d : Dev) (e : Nat) (m : MemErr) : Dev := if m == .corr then d.report (82 + e / 16) 1 false else d

/-- An uncorrectable instruction word: the packets of every thread are discarded, and the engine waits for its cluster's restart (R302). -/
def Dev.insnLost (d : Dev) (e : Nat) (x : Engine) : Dev :=
  let d := x.threads.foldl (fun (d : Dev) th =>
    match d.threadPkt th with
    | some (c, p) => d.discard c p
    | none => d) d
  (d.setEngine e { x with threads := x.threads.map Thread.stopped }).report (82 + e / 16) 2 true

/-! ### Fields of an instruction (R280) -/

def iOp (w : Nat) : Nat := bitsOf w 24 8
def iD (w : Nat) : Nat := bitsOf w 19 5
def iA (w : Nat) : Nat := bitsOf w 14 5
def iB (w : Nat) : Nat := bitsOf w 9 5
def iX (w : Nat) : Nat := bitsOf w 0 9
def iK (w : Nat) : Nat := bitsOf w 0 14
def iZ (w : Nat) : Bool := bitOf w 13
def iS (w : Nat) : Nat := 2 ^ bitsOf w 11 2
def iOff (w : Nat) : Nat := bitsOf w 0 11
def iQ (w : Nat) : Nat := bitsOf w 16 2
def iImm (w : Nat) : Nat := bitsOf w 0 16

/-- The registers that an instruction reads or writes. -/
def iUses (w : Nat) : List Nat :=
  let op := iOp w
  if op = 0x28 ∨ op = 0x29 ∨ op = 0x3E ∨ op = 0x48 then [iD w]
  else if 0x20 ≤ op ∧ op ≤ 0x26 then [iD w, iA w]
  else if 0x30 ≤ op ∧ op ≤ 0x35 then (if iZ w then [iD w] else [iD w, iA w])
  else if 0x38 ≤ op ∧ op ≤ 0x3B then [iD w, iA w]
  else if op = 0x3C ∨ op = 0x3D then [iD w]
  else if op = 0x3F ∨ (0x49 ≤ op ∧ op ≤ 0x4B) then [iA w]
  else if op = 0x44 ∨ 0x4C ≤ op then []
  else if op = 0x45 then [iA w, iB w]
  else if op = 0x42 ∧ (iX w % 4 = 0 ∨ iX w % 4 = 3) then [iD w, iA w]
  else [iD w, iA w, iB w]

/-! ### Issuing (R279, R286, R300) -/

/-- What an instruction does: it goes on at the next instruction or at a target, traps, or ends the thread. -/
inductive EngRes where
  | next (d : Dev) (th : Thread)
  | jump (d : Dev) (th : Thread) (target : Int)
  | trap (d : Dev) (code soft : Nat)
  | leave (d : Dev) (c : Nat) (p : Pkt)

/-- The thread goes on at `pc`; a program counter that reaches INSN_COUNT or beyond traps with PC_RANGE, at the instruction that led there. An
operation that this instruction has issued completes (R299). -/
def Dev.engGo (d : Dev) (e t n : Nat) (x : Engine) (old th : Thread) (pc : Int) : Dev :=
  if pc < 0 ∨ pc ≥ n then d.engTrap e t x { old with ops := th.ops } trPC_RANGE 0
  else d.setThread e t { th with pc := pc.toNat, st := if th.st == .sleep then .sleep else .run }

/-- The counters of an issued instruction, INSTRUCTIONS and ISSUE_BEATS. -/
def Dev.issued (d : Dev) (e : Nat) : Dev := (d.count (Reg.ENG_COUNT e 4) 1).count (Reg.ENG_COUNT e 5) 1

/-- A packet handed on by SEND: the checks of R160, R246 and R255, the forecast, the policer, then admission (R296). -/
def Dev.sendOn (d : Dev) (c : Nat) (p : Pkt) : Dev :=
  let p := { p with group := none, pin := none, sub := none, seq := 0 }
  if p.isDisp [Disp.drop] then d.discard c p
  else if !p.isDisp [Disp.forward, Disp.host, Disp.recirc] then d.discard c (p.dispose Disp.drop 0x33)
  else if p.isDisp [Disp.recirc] ∧ p.get C.PASS = 4 then
    ((d.count (Reg.PRS_COUNT 8) 1).raise 1 2).discard c (p.dispose Disp.drop 0x09)
  else
    let mc := p.flag C.MCAST && p.isDisp [Disp.forward]
    let port := finalPort p
    let p := if mc then p else (p.put C.DEST port).put C.MCAST 0
    if !mc ∧ p.isDisp [Disp.forward] ∧ port > 129 then d.discard c (p.dispose Disp.drop 0x28)
    else if !mc ∧ d.subPort (p.get C.QUEUE / 8) ≠ some port then (d.count (Reg.ACT_COUNT 4) 1).discard c (p.dispose Disp.drop 0x23)
    else
      let (d, p) := d.forecast (d.secOr0 (p.get C.G) T.ACTION_MERGE (p.get C.IN_PIPE)) p
      let (d, p) := d.policeStep p
      if p.get C.DISP = Disp.drop then d.discard c p else d.setPkt c { p with stage := .admission }

/-- The result of an issued instruction. -/
def engResult (e t n : Nat) (x : Engine) (th : Thread) (r : EngRes) : Dev :=
  match r with
  | .next d th' => (d.issued e).engGo e t n x th th' ((th.pc : Int) + 1)
  | .jump d th' target => (d.issued e).engGo e t n x th th' target
  | .trap d code soft => (d.issued e).engTrap e t x th code soft
  | .leave d c p => ((d.issued e).setThread e t th.stopped).sendOn c p

/-- Messages that the engine holds or is yet to read (R291). -/
def Engine.msgCount (x : Engine) : Nat :=
  x.msgs.length + (x.threads.flatMap Thread.ops |>.filter fun o => match o.kind with | .msg _ _ _ => true | _ => false).length

/-- The instruction is a MSG and the engine's message queue is full. -/
def msgFull (x : Engine) (w : Nat) : Bool := iOp w = 0x45 && decide (4 ≤ x.msgCount)

/-- The instruction must wait in STALL: for a register that an operation will write, for a place among 8 operations, or for a message
(R279, R286, R291). -/
def mustStall (x : Engine) (th : Thread) (w : Nat) : Bool :=
  ((iUses w).any fun r => th.ops.any fun o => o.dst = some r)
    || (((0x40 ≤ iOp w && iOp w ≤ 0x43) || iOp w = 0x45 || iOp w = 0x46) && decide (8 ≤ th.ops.length)) || msgFull x w

/-- A WAIT, SEND or DROP whose thread still has operations outstanding has not returned (R286, R296, R297). A SEND or DROP without a packet
traps at once. -/
def mustWait (th : Thread) (w : Nat) : Bool :=
  !th.ops.isEmpty && (iOp w = 0x44 || ((iOp w = 0x4C || iOp w = 0x4D) && th.ctx.isSome))

/-- Thread `t` of an engine with program `b` has an instruction to issue: it is in RUN, or in STALL with the cause cleared (R279). -/
def Engine.ready (x : Engine) (b : List Byte) (t : Nat) : Bool :=
  let th := x.thread t
  let w := epInsn b th.pc
  (th.st == .run || (th.st == .stall && !mustStall x th w)) && !mustWait th w

/-- It is thread `t`'s turn: the first that is ready after the thread that issued last (R273). Before any has issued, any may be first. -/
def Engine.due (x : Engine) (b : List Byte) (t : Nat) : Bool :=
  match x.last with
  | none => t < 8 && x.ready b t
  | some k => ((List.range 8).map fun i => (k + 1 + i) % 8).find? (x.ready b) == some t

/-- Thread `t` of engine `e` issues the instruction at its program counter, when that is opcode `op` and it is the thread's turn; `f` is what
the fetch met. More than ENG_LIMIT.STEPS instructions trap. -/
def Dev.engIssue (d : Dev) (e t : Nat) (f : MemErr) (op : Nat) (act : Dev → Thread → Nat → EngRes) : Dev :=
  if !(d.running && d.clusterUp e) then d
  else
    match Map.find d.engines e with
    | none => d
    | some x =>
      let th := x.thread t
      let b := d.engProg e x
      let w := epInsn b th.pc
      let limit := d.fld Reg.ENG_LIMIT F.ENG_LIMIT_STEPS
      if iOp w != op || !x.due b t then d
      else if f == .uncorr then d.insnLost e x
      else
        let d := d.engCorr e f
        if limit ≠ 0 ∧ th.steps ≥ limit then d.engTrap e t x th trSTEP_LIMIT 0
        else if mustStall x th w then
          let d := if msgFull x w && th.st == .run then d.raise 5 3 else d
          d.setThread e t { th with st := .stall }
        else
          let x := { x with last := some t }
          engResult e t (epCount b) x th (act (d.setEngine e x) { th with steps := th.steps + 1 } w)

/-- A register instruction: `d` receives a value. -/
def engAlu (val : Thread → Nat → Word) (d : Dev) (th : Thread) (w : Nat) : EngRes := .next d (th.setV (iD w) (val th w))

/-! ### THREAD_TAKE (R278) -/

/-- The FREE packet threads of an engine. -/
def Dev.freeThreads (d : Dev) (e : Nat) (x : Engine) : List Nat :=
  (List.range 8).filter fun t => epResident (d.engProg e x) ≤ t && (x.thread t).st == .free

/-- A packet thread starts with the packet (R275, R283). -/
def startThread (old : Thread) (e t entry c : Nat) (p : Pkt) : Thread :=
  let rs := startRegs e t
  let rs := (((rs.set 1 (p.word 0)).set 2 (p.word 2)).set 3 (p.word 3)).set 4 (BitVec.ofNat 64 p.bytes.length)
  { regs := rs, pc := entry, st := .run, steps := 0, ops := old.ops, ctx := some c, win := p.bytes.take 256, rest := p.bytes.drop 256
    prepended := 0, target := 0 }

/-- A FREE packet thread of the device's choice takes the head of the inbound queue. -/
def Dev.threadTake (d : Dev) (e : Nat) : Dev :=
  match Map.find d.engines e with
  | none => d
  | some x =>
    match x.inq with
    | [] => d
    | c :: q =>
      let l := d.freeThreads e x
      match d.pkt c with
      | none => d
      | some p =>
        if l.isEmpty then d
        else
          let (k, d) := d.fresh l.length
          let t := (l[k]?).getD 0
          let (d, p) := d.charge p 16
          let d := d.setPkt c { p with stage := .engine e t, reads := [] }
          let x := { x with inq := q }
          (d.setEngine e (x.setThread t (startThread (x.thread t) e t (epEntry (d.engProg e x)) c p))).count (Reg.ENG_COUNT e 0) 1

/-- THREAD_TAKE (R278). -/
def execThreadTake (e : Nat) (s : State) : Host.Outcome State Fault Refusal :=
  .next { s with dev := if s.dev.running && s.dev.clusterUp e then s.dev.threadTake e else s.dev }

end Sys2Proof.Machine
end

