-- ==== Sys2Proof/Machine/EngineAlu.lean ====
section
/-! DEFINITION. Engine instructions on registers (R280, R281). -/

namespace Sys2Proof.Machine

/-- The 14-bit constant, sign-extended. -/
def kSigned (w : Nat) : Word := BitVec.ofInt 64 (signed (iK w) 14)
/-- The 14-bit constant, zero-extended. -/
def kWord (w : Nat) : Word := BitVec.ofNat 64 (iK w)
/-- The shift of LSLK, LSRK and FIELD. -/
def kShift (w : Nat) : Nat := bitsOf (iK w) 0 6
/-- The length of FIELD: 0 means 64. -/
def kLen (w : Nat) : Nat := if bitsOf (iK w) 6 6 = 0 then 64 else bitsOf (iK w) 6 6

def Thread.va (th : Thread) (w : Nat) : Word := th.v (iA w)
def Thread.vb (th : Thread) (w : Nat) : Word := th.v (iB w)
def Thread.vd (th : Thread) (w : Nat) : Word := th.v (iD w)

/-- SUM (R281). -/
def execEngSum (e t : Nat) (f : MemErr) (s : State) : Host.Outcome State Fault Refusal :=
  .next { s with dev := s.dev.engIssue e t f 0x10 (engAlu fun th w => th.va w + th.vb w) }

/-- DIF (R281). -/
def execEngDif (e t : Nat) (f : MemErr) (s : State) : Host.Outcome State Fault Refusal :=
  .next { s with dev := s.dev.engIssue e t f 0x11 (engAlu fun th w => th.va w - th.vb w) }

/-- MSK (R281). -/
def execEngMsk (e t : Nat) (f : MemErr) (s : State) : Host.Outcome State Fault Refusal :=
  .next { s with dev := s.dev.engIssue e t f 0x12 (engAlu fun th w => th.va w &&& th.vb w) }

/-- JOIN (R281). -/
def execEngJoin (e t : Nat) (f : MemErr) (s : State) : Host.Outcome State Fault Refusal :=
  .next { s with dev := s.dev.engIssue e t f 0x13 (engAlu fun th w => th.va w ||| th.vb w) }

/-- FLIP (R281). -/
def execEngFlip (e t : Nat) (f : MemErr) (s : State) : Host.Outcome State Fault Refusal :=
  .next { s with dev := s.dev.engIssue e t f 0x14 (engAlu fun th w => th.va w ^^^ th.vb w) }

/-- LSL (R281). -/
def execEngLsl (e t : Nat) (f : MemErr) (s : State) : Host.Outcome State Fault Refusal :=
  .next { s with dev := s.dev.engIssue e t f 0x15 (engAlu fun th w => th.va w <<< ((th.vb w).toNat % 64)) }

/-- LSR (R281). -/
def execEngLsr (e t : Nat) (f : MemErr) (s : State) : Host.Outcome State Fault Refusal :=
  .next { s with dev := s.dev.engIssue e t f 0x16 (engAlu fun th w => th.va w >>> ((th.vb w).toNat % 64)) }

/-- MULL (R281). -/
def execEngMull (e t : Nat) (f : MemErr) (s : State) : Host.Outcome State Fault Refusal :=
  .next { s with dev := s.dev.engIssue e t f 0x17 (engAlu fun th w => th.va w * th.vb w) }

/-- LESS (R281). -/
def execEngLess (e t : Nat) (f : MemErr) (s : State) : Host.Outcome State Fault Refusal :=
  .next { s with dev := s.dev.engIssue e t f 0x18 (engAlu fun th w => if (th.va w).toNat < (th.vb w).toNat then 1 else 0) }

/-- SUMK (R281). -/
def execEngSumk (e t : Nat) (f : MemErr) (s : State) : Host.Outcome State Fault Refusal :=
  .next { s with dev := s.dev.engIssue e t f 0x20 (engAlu fun th w => th.va w + kSigned w) }

/-- MSKK (R281). -/
def execEngMskk (e t : Nat) (f : MemErr) (s : State) : Host.Outcome State Fault Refusal :=
  .next { s with dev := s.dev.engIssue e t f 0x21 (engAlu fun th w => th.va w &&& kWord w) }

/-- JOINK (R281). -/
def execEngJoink (e t : Nat) (f : MemErr) (s : State) : Host.Outcome State Fault Refusal :=
  .next { s with dev := s.dev.engIssue e t f 0x22 (engAlu fun th w => th.va w ||| kWord w) }

/-- FLIPK (R281). -/
def execEngFlipk (e t : Nat) (f : MemErr) (s : State) : Host.Outcome State Fault Refusal :=
  .next { s with dev := s.dev.engIssue e t f 0x23 (engAlu fun th w => th.va w ^^^ kWord w) }

/-- LSLK (R281). -/
def execEngLslk (e t : Nat) (f : MemErr) (s : State) : Host.Outcome State Fault Refusal :=
  .next { s with dev := s.dev.engIssue e t f 0x24 (engAlu fun th w => th.va w <<< kShift w) }

/-- LSRK (R281). -/
def execEngLsrk (e t : Nat) (f : MemErr) (s : State) : Host.Outcome State Fault Refusal :=
  .next { s with dev := s.dev.engIssue e t f 0x25 (engAlu fun th w => th.va w >>> kShift w) }

/-- FIELD (R281). -/
def execEngField (e t : Nat) (f : MemErr) (s : State) : Host.Outcome State Fault Refusal :=
  .next { s with dev := s.dev.engIssue e t f 0x26 (engAlu fun th w => (th.va w >>> kShift w) &&& BitVec.ofNat 64 (2 ^ kLen w - 1)) }

/-- SETH (R281). -/
def execEngSeth (e t : Nat) (f : MemErr) (s : State) : Host.Outcome State Fault Refusal :=
  .next { s with dev := s.dev.engIssue e t f 0x28 (engAlu fun _ w => BitVec.ofNat 64 (iImm w <<< (16 * iQ w))) }

/-- PUTH (R281). -/
def execEngPuth (e t : Nat) (f : MemErr) (s : State) : Host.Outcome State Fault Refusal :=
  .next { s with dev := s.dev.engIssue e t f 0x29 (engAlu fun th w => Fld.put ⟨16 * iQ w, 16⟩ (th.vd w) (iImm w)) }

/-! ### Branches (R280, R281) -/

/-- A compare and branch: the target counts from the next instruction. -/
def engIf (cond : Word → Word → Bool) (d : Dev) (th : Thread) (w : Nat) : EngRes :=
  if cond (th.v (iD w)) (th.v (iA w)) then .jump d th ((th.pc : Int) + 1 + signed (iK w) 14) else .next d th

/-- IFEQ (R281). -/
def execEngIfeq (e t : Nat) (f : MemErr) (s : State) : Host.Outcome State Fault Refusal :=
  .next { s with dev := s.dev.engIssue e t f 0x38 (engIf fun a b => a == b) }

/-- IFNE (R281). -/
def execEngIfne (e t : Nat) (f : MemErr) (s : State) : Host.Outcome State Fault Refusal :=
  .next { s with dev := s.dev.engIssue e t f 0x39 (engIf fun a b => a != b) }

/-- IFLO (R281). -/
def execEngIflo (e t : Nat) (f : MemErr) (s : State) : Host.Outcome State Fault Refusal :=
  .next { s with dev := s.dev.engIssue e t f 0x3A (engIf fun a b => decide (a.toNat < b.toNat)) }

/-- IFHS (R281). -/
def execEngIfhs (e t : Nat) (f : MemErr) (s : State) : Host.Outcome State Fault Refusal :=
  .next { s with dev := s.dev.engIssue e t f 0x3B (engIf fun a b => decide (b.toNat ≤ a.toNat)) }

/-- IFZ (R281). -/
def execEngIfz (e t : Nat) (f : MemErr) (s : State) : Host.Outcome State Fault Refusal :=
  .next { s with dev := s.dev.engIssue e t f 0x3C (engIf fun a _ => a == 0) }

/-- IFNZ (R281). -/
def execEngIfnz (e t : Nat) (f : MemErr) (s : State) : Host.Outcome State Fault Refusal :=
  .next { s with dev := s.dev.engIssue e t f 0x3D (engIf fun a _ => a != 0) }

/-- CALL (R281): `d` takes the address of the next instruction. -/
def engCall (d : Dev) (th : Thread) (w : Nat) : EngRes :=
  .jump d (th.setV (iD w) (BitVec.ofNat 64 (th.pc + 1))) ((th.pc : Int) + 1 + signed (bitsOf w 0 19) 19)

/-- CALL (R281). -/
def execEngCall (e t : Nat) (f : MemErr) (s : State) : Host.Outcome State Fault Refusal :=
  .next { s with dev := s.dev.engIssue e t f 0x3E engCall }

/-- GOTO (R281). -/
def execEngGoto (e t : Nat) (f : MemErr) (s : State) : Host.Outcome State Fault Refusal :=
  .next { s with dev := s.dev.engIssue e t f 0x3F fun d th w => .jump d th ((th.va w).toNat % 4096 : Nat) }

end Sys2Proof.Machine
end

