-- ==== Sys2Proof/Machine/EngineMem.lean ====
section
/-! DEFINITION. Engine memory accesses: data memory, the packet window, the context, and software's access (R280 to R285).
Readings of the manual that it takes are DEDUCED, in log entry 35. -/

namespace Sys2Proof.Machine

/-- The address of a memory instruction: `off`, added to the value of `a` unless z is 1. -/
def Thread.addr (th : Thread) (w : Nat) : Nat := if iZ w then iOff w else ((th.va w).toNat + iOff w) % 2 ^ 64

/-- The low `s` bytes of `d`. -/
def Thread.lowBytes (th : Thread) (w : Nat) : Nat := (th.vd w).toNat % 2 ^ (8 * iS w)

/-- The checks of an access of `s` bytes in a space of `n` bytes: the trap they raise, if any. -/
def Dev.accessTrap (d : Dev) (a s n code : Nat) : Option Nat × Dev := d.eitherCode (decide (a + s > n)) (a % s ≠ 0) code trALIGN

/-! ### Data memory -/

/-- DLD: a load; `m` is what it met in the word now (R302). -/
def engDld (e : Nat) (m : MemErr) (d : Dev) (th : Thread) (w : Nat) : EngRes :=
  let a := th.addr w
  match d.accessTrap a (iS w) 16384 trDMEM_RANGE with
  | (some c, d) => .trap d c 0
  | (none, d) =>
    if m == .uncorr || d.engWordBad e a then .trap (d.engMarkBad e a) trDMEM_ECC 0
    else .next (d.engCorr e m) (th.setV (iD w) (BitVec.ofNat 64 (leNat (Mem.readAll (d.engMem e) a (iS w)))))

/-- DLD (R281). -/
def execEngDld (e t : Nat) (f m : MemErr) (s : State) : Host.Outcome State Fault Refusal :=
  .next { s with dev := s.dev.engIssue e t f 0x30 (engDld e m) }

/-- DST: a store. -/
def engDst (e : Nat) (d : Dev) (th : Thread) (w : Nat) : EngRes :=
  let a := th.addr w
  match d.accessTrap a (iS w) 16384 trDMEM_RANGE with
  | (some c, d) => .trap d c 0
  | (none, d) => .next (d.engStore e a (leBytes (iS w) (th.lowBytes w))) th

/-- DST (R281). -/
def execEngDst (e t : Nat) (f : MemErr) (s : State) : Host.Outcome State Fault Refusal :=
  .next { s with dev := s.dev.engIssue e t f 0x31 (engDst e) }

/-! ### The packet window (R283) -/

/-- An access to the window: a resident thread has no packet. -/
def winAccess (d : Dev) (th : Thread) (w : Nat) (f : Dev → Nat → EngRes) : EngRes :=
  if th.ctx.isNone then .trap d trNO_PACKET 0
  else
    match d.accessTrap (th.addr w) (iS w) th.win.length trWINDOW with
    | (some c, d) => .trap d c 0
    | (none, d) => f d (th.addr w)

/-- PLD: a load, big-endian. -/
def engPld (d : Dev) (th : Thread) (w : Nat) : EngRes :=
  winAccess d th w fun d a => .next d (th.setV (iD w) (BitVec.ofNat 64 (beNat (slice th.win a (iS w)))))

/-- PLD (R281): big-endian. -/
def execEngPld (e t : Nat) (f : MemErr) (s : State) : Host.Outcome State Fault Refusal :=
  .next { s with dev := s.dev.engIssue e t f 0x32 engPld }

/-- PST: a store, big-endian. -/
def engPst (d : Dev) (th : Thread) (w : Nat) : EngRes :=
  winAccess d th w fun d a => .next d { th with win := overlay th.win a (beBytes (iS w) (th.lowBytes w)) }

/-- PST (R281): big-endian. -/
def execEngPst (e t : Nat) (f : MemErr) (s : State) : Host.Outcome State Fault Refusal :=
  .next { s with dev := s.dev.engIssue e t f 0x33 engPst }

/-! ### The context (R282, R284) -/

/-- An access to the context of the thread's packet. -/
def ctxAccess (d : Dev) (th : Thread) (w : Nat) (f : Dev → Nat → Pkt → Nat → EngRes) : EngRes :=
  match d.threadPkt th with
  | none => .trap d trNO_PACKET 0
  | some (c, p) =>
    match d.accessTrap (th.addr w) (iS w) 256 trCONTEXT with
    | (some k, d) => .trap d k 0
    | (none, d) => f d c p (th.addr w)

/-- CLD: a load, little-endian. -/
def engCld (d : Dev) (th : Thread) (w : Nat) : EngRes :=
  ctxAccess d th w fun d _ p a => .next d (th.setV (iD w) (BitVec.ofNat 64 (leNat (p.ctxBytes a (iS w)))))

/-- CLD (R281): little-endian. -/
def execEngCld (e t : Nat) (f : MemErr) (s : State) : Host.Outcome State Fault Refusal :=
  .next { s with dev := s.dev.engIssue e t f 0x34 engCld }

/-- The bits of context word `i` that CST writes (R44, R284). -/
def cstMask (i : Nat) : Nat :=
  if i = 0 then (2 ^ 32 - 1) * 2 ^ 32
  else if i = 2 then (2 ^ 17 - 1) * 2 ^ 24 + 7 * 2 ^ 41 + 3 * 2 ^ 44 + 15 * 2 ^ 48 + 255 * 2 ^ 52
  else if i = 22 then (2 ^ 17 - 1) + (2 ^ 44 - 1) * 2 ^ 20
  else if (4 ≤ i ∧ i ≤ 13) ∨ (23 ≤ i ∧ i ≤ 25) ∨ (28 ≤ i ∧ i ≤ 31) then 2 ^ 64 - 1
  else 0

/-- A store of bytes at context offset `a`: bits that CST does not write keep their value. -/
def Pkt.cst (p : Pkt) (a : Nat) (bs : List Byte) : Pkt :=
  let i := a / 8
  let m := BitVec.ofNat 64 (cstMask i)
  let new := BitVec.ofNat 64 (leNat (overlay (wordBytes (p.word i)) (a % 8) bs))
  p.putWord i ((p.word i &&& ~~~m) ||| (new &&& m))

/-- CST: a store, little-endian. -/
def engCst (d : Dev) (th : Thread) (w : Nat) : EngRes :=
  ctxAccess d th w fun d c p a => .next (d.setPkt c (p.cst a (leBytes (iS w) (th.lowBytes w)))) th

/-- CST (R284). -/
def execEngCst (e t : Nat) (f : MemErr) (s : State) : Host.Outcome State Fault Refusal :=
  .next { s with dev := s.dev.engIssue e t f 0x35 engCst }

/-! ### HEADADJ (R285) -/

/-- HEADADJ: removes or prepends bytes at the head of the packet. -/
def engHeadadj (d : Dev) (th : Thread) (w : Nat) : EngRes :=
  let n := (th.va w).toInt
  if th.ctx.isNone then .trap d trNO_PACKET 0
  else if (th.win.length : Int) - n < 1 ∨ th.prepended - n > 64 then .trap d trHEADADJ 0
  else
    let win := if n ≥ 0 then th.win.drop n.toNat else List.replicate (-n).toNat (0 : Byte) ++ th.win
    .next d { th with win := win, prepended := th.prepended - n }

/-- HEADADJ (R285). -/
def execEngHeadadj (e t : Nat) (f : MemErr) (s : State) : Host.Outcome State Fault Refusal :=
  .next { s with dev := s.dev.engIssue e t f 0x4B engHeadadj }

/-! ### Software's access (R282, R310) -/

/-- ENG_MEM_ACCESS: a write (`data`) or a read of the word that ENG_MEM_ADDR names; `m` is what a read met in it (R302). Instruction memory
is read only; that of an engine with no program holds nothing the manual names, and reads as a free value. -/
def Dev.engAccess (d : Dev) (e : Nat) (data : Option Word) (m : MemErr) : Dev :=
  let a := d.fld (Reg.ENG_MEM_ADDR e) F.ENG_MEM_ADDR_ADDR / 8 * 8
  let insn := d.bit (Reg.ENG_MEM_ADDR e) F.ENG_MEM_ADDR_SPACE
  match data with
  | some v => if insn then d else d.engStore e a (wordBytes v)
  | none =>
    if insn then
      match Map.find d.engines e with
      | some x =>
        if d.engHeld e && m != .uncorr then { d.engCorr e m with bus := BitVec.ofNat 64 (word64 (d.engProg e x) (64 + a)) }
        else
          let (v, d) := (if d.engHeld e then d.insnLost e x else d).fresh (2 ^ 64)
          { d with bus := BitVec.ofNat 64 v }
      | none =>
        let (v, d) := d.fresh (2 ^ 64)
        { d with bus := BitVec.ofNat 64 v }
    else if m == .uncorr || d.engWordBad e a then
      let (v, d) := (d.engMarkBad e a).fresh (2 ^ 64)
      { (d.raise (256 + e) 1).report (82 + e / 16) 2 false with bus := BitVec.ofNat 64 v }
    else { d.engCorr e m with bus := BitVec.ofNat 64 (leNat (Mem.readAll (d.engMem e) a 8)) }

/-- ENG_MEM_ACCESS (R282). -/
def execEngMemAccess (e : Nat) (data : Option Word) (m : MemErr) (s : State) : Host.Outcome State Fault Refusal :=
  .next { s with dev := if e < 256 then s.dev.access (Reg.ENG_MEM_DATA e) data (·.engAccess e data m) else s.dev }

end Sys2Proof.Machine
end

