-- ==== Sys2Proof/Machine/EngineOps.lean ====
section
/-! DEFINITION. Engine instructions on time, energy and the packet's departure, asynchronous operations, and the fragment table
(R286 to R301).
Readings of the manual that it takes are DEDUCED, in log entry 35. -/

namespace Sys2Proof.Machine

/-! ### TIME, SLEEP, CHARGE (R281, R298, R301) -/

/-- TIME: ns in bits 31:0, 1/256 ns in bits 39:32. -/
def engTime (d : Dev) (th : Thread) (w : Nat) : EngRes :=
  .next d (th.setV (iD w) (BitVec.ofNat 64 (d.ns % 2 ^ 32 + (d.ns256 % 256) * 2 ^ 32)))

/-- TIME (R281). -/
def execEngTime (e t : Nat) (f : MemErr) (s : State) : Host.Outcome State Fault Refusal :=
  .next { s with dev := s.dev.engIssue e t f 0x48 engTime }

/-- SLEEP: a target that is not ahead lets the thread go on; a resident thread counts its steps anew (R300). -/
def engSleep (d : Dev) (th : Thread) (w : Nat) : EngRes :=
  let target := (th.va w).toNat % 2 ^ 32
  let u := ahead32 (d.ns % 2 ^ 32) target
  let th := if th.ctx.isNone then { th with steps := 0 } else th
  if u = 0 ∨ u ≥ 2 ^ 31 then .next d th else .next d { th with st := .sleep, target := BitVec.ofNat 32 target }

/-- SLEEP (R301). -/
def execEngSleep (e t : Nat) (f : MemErr) (s : State) : Host.Outcome State Fault Refusal :=
  .next { s with dev := s.dev.engIssue e t f 0x49 engSleep }

/-- SLEEP_WAKE: the counter is at or after the target (R20, R301). -/
def Dev.sleepWake (d : Dev) (e t : Nat) : Dev :=
  match Map.find d.engines e with
  | none => d
  | some x =>
    let th := x.thread t
    if th.st == .sleep && atOrAfter32 th.target.toNat (d.ns % 2 ^ 32) then d.setThread e t { th with st := .run } else d

/-- SLEEP_WAKE (R301). -/
def execSleepWake (e t : Nat) (s : State) : Host.Outcome State Fault Refusal :=
  .next { s with dev := if s.dev.running && s.dev.clusterUp e then s.dev.sleepWake e t else s.dev }

/-- CHARGE: adds to ENERGY and to the energy of class ENGINE; without a packet it has no effect. -/
def engCharge (d : Dev) (th : Thread) (w : Nat) : EngRes :=
  match d.threadPkt th with
  | none => .next d th
  | some (c, p) =>
    let r := addEnergy p.words ((th.va w).toNat % 2 ^ 24)
    let p := ({ p with words := r.1 } : Pkt).pass 16
    .next ((d.count (Reg.ACT_CLASS_PJ 16) r.2).setPkt c p) th

/-- CHARGE (R298). -/
def execEngCharge (e t : Nat) (f : MemErr) (s : State) : Host.Outcome State Fault Refusal :=
  .next { s with dev := s.dev.engIssue e t f 0x4A engCharge }

/-! ### SEND, DROP, TRAP, WAIT (R286, R296, R297, R299) -/

/-- The packet leaves its thread; every operation has completed (`mustWait`). -/
def engLeave (d : Dev) (th : Thread) (f : Dev → Pkt → Dev × Pkt) : EngRes :=
  match d.threadPkt th with
  | none => .trap d trNO_PACKET 0
  | some (c, p) =>
    let (d, p) := f d p
    .leave d c p

/-- SEND: the window goes back in front of the remaining bytes. -/
def engSend (e : Nat) (d : Dev) (th : Thread) (_ : Nat) : EngRes :=
  engLeave d th fun d p => (d.count (Reg.ENG_COUNT e 1) 1, { p with bytes := th.win ++ th.rest })

/-- SEND (R296). -/
def execEngSend (e t : Nat) (f : MemErr) (s : State) : Host.Outcome State Fault Refusal :=
  .next { s with dev := s.dev.engIssue e t f 0x4C (engSend e) }

/-- DROP: the packet is discarded with REASON x[7:0]. -/
def engDrop (e : Nat) (d : Dev) (th : Thread) (w : Nat) : EngRes :=
  engLeave d th fun d p => (d.count (Reg.ENG_COUNT e 2) 1, p.dispose Disp.drop (iX w % 256))

/-- DROP (R297). -/
def execEngDrop (e t : Nat) (f : MemErr) (s : State) : Host.Outcome State Fault Refusal :=
  .next { s with dev := s.dev.engIssue e t f 0x4D (engDrop e) }

/-- TRAP (R299). -/
def execEngTrap (e t : Nat) (f : MemErr) (s : State) : Host.Outcome State Fault Refusal :=
  .next { s with dev := s.dev.engIssue e t f 0x4F fun d _ w => .trap d trSOFT (iX w % 256) }

/-- WAIT (R286): returns when every outstanding operation of the thread has completed (`mustWait`). -/
def execEngWait (e t : Nat) (f : MemErr) (s : State) : Host.Outcome State Fault Refusal :=
  .next { s with dev := s.dev.engIssue e t f 0x44 fun d th _ => .next d th }

/-! ### Issuing asynchronous operations (R286, R289) -/

/-- The operation joins the thread's outstanding ones, with its packet and its operand bytes, which must lie in data memory. -/
def engAsync (e : Nat) (d : Dev) (th : Thread) (a n : Nat) (dst : Option Nat) (kind : AsyncKind) : EngRes :=
  if n ≠ 0 ∧ a + n > 16384 then .trap d trDMEM_RANGE 0
  else
    let (tag, d) := d.newTag
    let o : AsyncOp :=
      { dst := dst, kind := kind, pid := (d.threadPkt th).map (·.2.pid), seen := Mem.readAll (d.engMem e) a n, tag := tag, reads := none
        bad := false }
    .next d { th with ops := th.ops ++ [o] }

/-- Key bytes that a TLK reads. -/
def Dev.tlkBytes (d : Dev) (g t : Nat) : Nat :=
  match d.tblIn g t with
  | .tile b => if tmKind b ≤ 1 then (tmKeyBits b + 7) / 8 else 0
  | .cham b => 10 * ccK b
  | _ => 0

/-- TLK. -/
def engTlk (e : Nat) (d : Dev) (th : Thread) (w : Nat) : EngRes :=
  let g := d.threadG th
  let table := iX w % 256
  let a := (th.va w).toNat
  engAsync e d th a (d.tlkBytes g table) (some (iD w)) (.tlk g table a (th.vb w).toNat)

/-- TLK (R289). -/
def execEngTlk (e t : Nat) (f : MemErr) (s : State) : Host.Outcome State Fault Refusal :=
  .next { s with dev := s.dev.engIssue e t f 0x40 (engTlk e) }

/-- CNT. -/
def engCnt (e : Nat) (d : Dev) (th : Thread) (w : Nat) : EngRes :=
  engAsync e d th 0 0 none (.cnt (d.threadG th) (iX w % 256) (th.va w).toNat (th.vb w).toNat (th.vd w).toNat)

/-- CNT (R289). -/
def execEngCnt (e t : Nat) (f : MemErr) (s : State) : Host.Outcome State Fault Refusal :=
  .next { s with dev := s.dev.engIssue e t f 0x41 (engCnt e) }

/-- FRAG. -/
def engFrag (e : Nat) (d : Dev) (th : Thread) (w : Nat) : EngRes :=
  engAsync e d th (th.va w).toNat 16 (some (iD w)) (.frag (iX w % 4) (th.va w).toNat (th.vb w).toNat)

/-- FRAG (R289). -/
def execEngFrag (e t : Nat) (f : MemErr) (s : State) : Host.Outcome State Fault Refusal :=
  .next { s with dev := s.dev.engIssue e t f 0x42 (engFrag e) }

/-- CRC. -/
def engCrc (e : Nat) (d : Dev) (th : Thread) (w : Nat) : EngRes :=
  let n := (th.vb w).toNat
  if n = 0 ∨ n > 256 then .trap d trLENGTH 0
  else engAsync e d th (th.va w).toNat n (some (iD w)) (.crc (iX w % 2) (th.va w).toNat n ((th.vd w).toNat % 2 ^ 32))

/-- CRC (R289). -/
def execEngCrc (e t : Nat) (f : MemErr) (s : State) : Host.Outcome State Fault Refusal :=
  .next { s with dev := s.dev.engIssue e t f 0x43 (engCrc e) }

/-- MSG. -/
def engMsgI (e : Nat) (d : Dev) (th : Thread) (w : Nat) : EngRes :=
  let n := (th.vb w).toNat
  if n < 8 ∨ n > 240 ∨ n % 8 ≠ 0 then .trap d trLENGTH 0
  else engAsync e d th (th.va w).toNat n none (.msg (th.va w).toNat n (BitVec.ofNat 32 d.ns))

/-- MSG (R291). -/
def execEngMsg (e t : Nat) (f : MemErr) (s : State) : Host.Outcome State Fault Refusal :=
  .next { s with dev := s.dev.engIssue e t f 0x45 (engMsgI e) }

/-- NEWP. -/
def engNewp (e : Nat) (d : Dev) (th : Thread) (w : Nat) : EngRes :=
  let n := (th.vb w).toNat
  if n < 60 ∨ n > 256 then .trap d trLENGTH 0
  else engAsync e (d.count (Reg.ENG_COUNT e 7) 1) th (th.va w).toNat n (some (iD w)) (.newp (th.va w).toNat n)

/-- NEWP (R292). -/
def execEngNewp (e t : Nat) (f : MemErr) (s : State) : Host.Outcome State Fault Refusal :=
  .next { s with dev := s.dev.engIssue e t f 0x46 (engNewp e) }

/-! ### Engine lookups (R289, R290) -/

/-- A lookup in a table as generation `g` defines it, and the stage classes it charges. An EGRESS table is looked up only at step 9 (R182). -/
def Dev.engLook (d : Dev) (g t : Nat) (key : List Byte) (idx : Nat) (err : ReadErr) : (Dev × Look) × List Nat :=
  match d.tblIn g t with
  | .tile b =>
    if tmKind b = 0 then (d.lookExact t b (exactKey b key) err, [1])
    else if tmKind b = 1 then (d.lookLpm t b (lpmKey b key) err, [2])
    else if tmKind b = 2 ∧ !tmEgress b then (d.lookIndex t b (idx % max 1 (tmPlaces b)) err, [1])
    else ((d, ⟨0, none, false⟩), [])
  | .cham b => (d.lookCham t b key, [4])
  | _ => ((d, ⟨0, none, false⟩), [])

/-- `f` acts on the packet of a thread, when it is the one that an operation was issued for (R290). -/
def Dev.withThreadPkt (d : Dev) (th : Thread) (pid : Option Nat) (f : Dev → Pkt → Dev × Pkt) : Dev :=
  match d.threadPkt th with
  | some (c, p) =>
    if pid = some p.pid then
      let r := f d p
      r.1.setPkt c r.2
    else d
  | none => d

/-- The charges of a lookup, and the drop for an uncorrectable word. -/
def Dev.chargeLook (d : Dev) (th : Thread) (pid : Option Nat) (t : Nat) (classes : List Nat) (bad : Bool) : Dev :=
  d.withThreadPkt th pid fun d p =>
    let (d, p) := classes.foldl (fun (x : Dev × Pkt) s => x.1.charge x.2 s) (d, p.didRead t)
    if bad then d.eccDrop p else (d, p)

/-- TLK takes effect: the slot word for `d`. -/
def Dev.runTlk (d : Dev) (th : Thread) (pid : Option Nat) (g t : Nat) (key : List Byte) (idx : Nat) (err : ReadErr) : Dev × Word :=
  let r := d.engLook g t key idx err
  (r.1.1.chargeLook th pid t r.2 r.1.2.bad, r.1.2.slot)

/-- The DRAM extension behind the marker that a TLK's key lands on, with its table's body (R188). -/
def Dev.tlkMarker (d : Dev) (k : AsyncKind) (key : List Byte) : Option (List Byte × List Byte) :=
  match k with
  | .tlk g t _ _ =>
    match d.tblIn g t with
    | .tile b => if tmKind b = 1 then (d.onMarker g t b (lpmKey b key)).map fun x => (b, x) else none
    | _ => none
  | _ => none

/-- The table of a TLK or CNT. -/
def AsyncKind.table : AsyncKind → Nat
  | .tlk _ t _ _ => t
  | .cnt _ t _ _ _ => t
  | _ => 0

/-! ### The fragment table (R293, R294) -/

/-- The status word of a FRAG operation. -/
def fragWord (status value acc : Nat) : Word := BitVec.ofNat 64 (value + acc * 2 ^ 32 + status * 2 ^ 56)

def FragEntry.word (f : FragEntry) (status : Nat) : Word := fragWord status f.value.toNat f.acc.toNat

/-- One FRAG operation on a key. -/
def Dev.runFrag (d : Dev) (op : Nat) (key : List Byte) (b : Nat) : Dev × Word :=
  match d.frags.find? fun f => f.key = key with
  | some f =>
    if op = 0 then (d, f.word 0)
    else if op = 1 then (d, f.word 3)
    else if op = 2 then
      let n : FragEntry := { f with acc := BitVec.ofNat 24 (min (f.acc.toNat + b % 2 ^ 24) 16777215), time := d.free }
      ({ d with frags := d.frags.map fun x => if x.key = key then n else x }, n.word 0)
    else ({ d with frags := d.frags.filter fun x => x.key != key }, f.word 0)
  | none =>
    if op = 1 then
      if d.frags.length < 4096 then
        let n : FragEntry := ⟨key, BitVec.ofNat 32 b, 0, d.free⟩
        ({ d with frags := d.frags ++ [n] }.count (Reg.ENG_GCOUNT 2) 1, n.word 0)
      else ((d.count (Reg.ENG_GCOUNT 3) 1).raise 5 2, fragWord 2 0 0)
    else (d, fragWord 1 0 0)

/-! ### Completion (R286, R287, R288) -/

/-- Where the operand bytes of an operation begin. -/
def AsyncKind.addr : AsyncKind → Nat
  | .tlk _ _ a _ => a
  | .cnt _ _ _ _ _ => 0
  | .frag _ a _ => a
  | .crc _ a _ _ => a
  | .msg a _ _ => a
  | .newp a _ => a

/-- The operand bytes of an operation as data memory holds them now. -/
def Dev.opBytes (d : Dev) (e : Nat) (o : AsyncOp) : List Byte := Mem.readAll (d.engMem e) o.kind.addr o.seen.length

/-- Bytes that may be the old or the new ones; where the two differ, each is of the device's choice (R288, log entry 6). -/
def Dev.mixBytes (d : Dev) : List Byte → List Byte → List Byte × Dev
  | a :: old, b :: new =>
    if a = b then
      let (r, d) := d.mixBytes old new
      (b :: r, d)
    else
      let (k, d) := d.fresh 2
      let (r, d) := d.mixBytes old new
      ((if k = 0 then a else b) :: r, d)
  | _, new => (new, d)

/-- NEWP takes effect (R292). -/
def Dev.runNewp (d : Dev) (e : Nat) (bs : List Byte) : Dev × Word :=
  if d.poolFree then
    let (c, p, d) := d.newPkt 132 130 (e / 16 % 8) (d.ns256 % 2 ^ 40) bs
    ((d.setPkt c p).count (Reg.ENG_GCOUNT 6) 1, 0)
  else (d.count (Reg.ENG_GCOUNT 7) 1, 1)

/-- The effect of an operation of thread `t` on operand bytes `bs`, with the value for its register. `err` is what a read of a tile met. -/
def Dev.opEffect (d : Dev) (e t : Nat) (th : Thread) (o : AsyncOp) (bs : List Byte) (err : ReadErr) : Dev × Word :=
  match o.kind with
  | .tlk g table _ idx => d.runTlk th o.pid g table bs idx err
  | .cnt g table idx bytes pj =>
    match d.tblIn g table with
    | .tile b => (d.counterAdd table b (idx % max 1 (tmPlaces b)) bytes pj err, 0)
    | _ => (d, 0)
  | .frag op _ b => d.runFrag op bs b
  | .crc poly _ _ init => (d, BitVec.ofNat 64 (crcRun (if poly = 0 then 0x82F63B78 else 0xEDB88320) init bs))
  | .msg _ _ time =>
    match Map.find d.engines e with
    | some x => (d.setEngine e { x with msgs := x.msgs ++ [⟨t, time, bs⟩] }, 0)
    | none => (d, 0)
  | .newp _ _ => d.runNewp e bs

/-- The key of a FRAG whose bytes the program has not written since; none for one that may be a mixture (R288), and for other operations. -/
def Dev.fragKey (d : Dev) (e : Nat) (o : AsyncOp) : Option (List Byte) :=
  match o.kind with
  | .frag _ _ _ => if d.opBytes e o = o.seen then some o.seen else none
  | _ => none

/-- The operation is a MSG. -/
def AsyncOp.isMsg (o : AsyncOp) : Bool := match o.kind with | .msg _ _ _ => true | _ => false

/-- Operation `i` must wait for an earlier one of its thread: a FRAG on the same key, or a MSG (R287). -/
def Dev.opWaits (d : Dev) (e : Nat) (th : Thread) (i : Nat) (o : AsyncOp) : Bool :=
  (th.ops.take i).any fun b => (o.isMsg && b.isMsg) || ((d.fragKey e o).isSome && d.fragKey e b == d.fragKey e o)

/-- No restart holds the operation at the boundary of the block it works on. -/
def Dev.opOpen (d : Dev) (e : Nat) (k : AsyncKind) : Bool :=
  match k with
  | .tlk _ t _ _ => d.tableUp t
  | .cnt _ t _ _ _ => d.tableUp t
  | .newp _ _ => d.lineUp (e / 16 % 8)
  | _ => true

/-- The operation leaves its thread; its register is written, and an instruction held in STALL whose cause has cleared is released. -/
def Dev.opLeaves (d : Dev) (e t i : Nat) (dst : Option Nat) (v : Word) : Dev :=
  match Map.find d.engines e with
  | none => d
  | some x =>
    let th := x.thread t
    let th := { th with ops := th.ops.eraseIdx i }
    let th := match dst with
      | some r => th.setV r v
      | none => th
    let x' := x.setThread t th
    let go := th.st == .stall && !mustStall x' th (epInsn (d.engProg e x) th.pc)
    d.setThread e t (if go then { th with st := .run } else th)

/-- Operation `i` of thread `t` as it stands after a step of its own. -/
def Dev.opPut (d : Dev) (e t i : Nat) (o : AsyncOp) : Dev :=
  match Map.find d.engines e with
  | some x => d.setThread e t { x.thread t with ops := (x.thread t).ops.set i o }
  | none => d

/-- A TLK lands on a marker: it asks for one or two DRAM reads, with its key settled; a tile word met in error on the way may end it (R188). -/
def Dev.tlkAsk (d : Dev) (e t i : Nat) (th : Thread) (o : AsyncOp) (bs b x : List Byte) (err : ReadErr) : Dev :=
  let (d, l) := d.lookMiss o.kind.table b (· + 4294967296) (lpmOnChip b + 1) err
  let d := d.chargeLook th o.pid o.kind.table [2] l.bad
  if l.bad then d.opLeaves e t i o.dst l.slot
  else
    let (k, d) := d.fresh 2
    (d.opPut e t i { o with seen := bs, reads := some (k + 1) }).lpmReads x o.tag (k + 1)

/-- A DRAM read of a TLK has been answered; `n` were outstanding. The last one gives the result (R188). -/
def Dev.tlkAnswer (d : Dev) (e t i n : Nat) (th : Thread) (o : AsyncOp) : Dev :=
  match d.popAnswer o.tag with
  | none => d
  | some (a, d) =>
    let d := (d.withThreadPkt th o.pid fun d p => d.charge p 3).count (Reg.TBL_COUNT 11) 1
    let o := { o with bad := o.bad || a.bad != 0, reads := some (n - 1) }
    if n > 1 then d.opPut e t i o
    else if o.bad then
      (d.withThreadPkt th o.pid fun d p => (d, p.dispose Disp.drop 0x19)).opLeaves e t i o.dst (Look.miss o.kind.table).slot
    else
      match o.kind with
      | .tlk g table _ _ =>
        match d.tblIn g table with
        | .tile b =>
          let (d, l) := d.lookLpm table b (lpmKey b o.seen) .none
          (d.chargeLook th o.pid table [] l.bad).opLeaves e t i o.dst l.slot
        | _ => d.opLeaves e t i o.dst 0
      | _ => d.opLeaves e t i o.dst 0

/-- The operand bytes of operation `i` hold an uncorrectable word: it traps its thread (R302). -/
def Dev.opTrap (d : Dev) (e t i : Nat) (x : Engine) (o : AsyncOp) (m : MemErr) : Dev :=
  let th := x.thread t
  let th := { th with ops := th.ops.eraseIdx i }
  let d := if m == .uncorr then d.engMarkBad e o.kind.addr else d
  if th.st == .free then ((d.setThread e t th).raise (256 + e) 1).report (82 + e / 16) 2 false else d.engTrap e t x th trDMEM_ECC 0

/-- Operation `i` of thread `t` goes on, when its kind is one of `ok`; `m` is what it met in its operand bytes. -/
def Dev.opDone (d : Dev) (e t i : Nat) (m : MemErr) (err : ReadErr) (ok : AsyncKind → Bool) : Dev :=
  if !(d.running && d.clusterUp e) then d
  else
    match Map.find d.engines e with
    | none => d
    | some x =>
      let th := x.thread t
      match th.ops[i]? with
      | none => d
      | some o =>
        if !ok o.kind || d.opWaits e th i o || !d.opOpen e o.kind then d
        else
          match o.reads with
          | some n => d.tlkAnswer e t i n th o
          | none =>
            if !o.seen.isEmpty && (m == .uncorr || d.engRangeBad e o.kind.addr o.seen.length) then d.opTrap e t i x o m
            else
              let d := if o.seen.isEmpty then d else d.engCorr e m
              let (bs, d) := d.mixBytes o.seen (d.opBytes e o)
              match d.tlkMarker o.kind bs with
              | some bx => d.tlkAsk e t i th o bs bx.1 bx.2 err
              | none =>
                let (d, v) := d.opEffect e t th o bs err
                d.opLeaves e t i o.dst v

/-- The operation is a FRAG of kind `n`. -/
def isFrag (n : Nat) (k : AsyncKind) : Bool := match k with | .frag op _ _ => op == n | _ => false

/-- The operation is no FRAG. -/
def notFrag (k : AsyncKind) : Bool := match k with | .frag _ _ _ => false | _ => true

/-- ASYNC_OP_COMPLETE (R286). -/
def execAsyncOpComplete (e t i : Nat) (m : MemErr) (err : ReadErr) (s : State) : Host.Outcome State Fault Refusal :=
  .next { s with dev := s.dev.opDone e t i m err notFrag }

/-- LOOKUP of the fragment table (R294). -/
def execFragLookup (e t i : Nat) (m : MemErr) (s : State) : Host.Outcome State Fault Refusal :=
  .next { s with dev := s.dev.opDone e t i m .none (isFrag 0) }

/-- INSERT of the fragment table (R294). -/
def execFragInsert (e t i : Nat) (m : MemErr) (s : State) : Host.Outcome State Fault Refusal :=
  .next { s with dev := s.dev.opDone e t i m .none (isFrag 1) }

/-- ADD of the fragment table (R294). -/
def execFragAdd (e t i : Nat) (m : MemErr) (s : State) : Host.Outcome State Fault Refusal :=
  .next { s with dev := s.dev.opDone e t i m .none (isFrag 2) }

/-- DELETE of the fragment table (R294). -/
def execFragDelete (e t i : Nat) (m : MemErr) (s : State) : Host.Outcome State Fault Refusal :=
  .next { s with dev := s.dev.opDone e t i m .none (isFrag 3) }

/-! ### FRAG_EXPIRED and ENG_FRAG_FLUSH (R295) -/

/-- The lifetime of a fragment entry in ns; a TIMEOUT of 0 is taken as 1. -/
def Dev.fragLife (d : Dev) : Nat := 1000000 * max 1 (d.fld Reg.ENG_FRAG_TIMEOUT F.ENG_FRAG_TIMEOUT_TIMEOUT)

/-- The entry at position `i` is removed when it is old enough. -/
def Dev.fragExpire (d : Dev) (i : Nat) : Dev :=
  match d.frags[i]? with
  | some f => if d.passed f.time d.fragLife then { d with frags := d.frags.eraseIdx i }.count (Reg.ENG_GCOUNT 4) 1 else d
  | none => d

/-- FRAG_EXPIRED (R295). -/
def execFragExpired (i : Nat) (s : State) : Host.Outcome State Fault Refusal :=
  .next { s with dev := if s.dev.running then s.dev.fragExpire i else s.dev }

/-- ENG_FRAG_FLUSH (R295): the table is emptied; FLUSH reads 0 again. -/
def execEngFragFlush (s : State) : Host.Outcome State Fault Refusal :=
  .next { s with dev := s.dev.access Reg.ENG_FRAG_FLUSH (some 1) fun d => { d with frags := [] } }

/-! ### Reading ENG_TRAP_LAST (R14, R299) -/

/-- ENG_TRAP_LAST_READ (R299): the record is returned and cleared. -/
def execEngTrapLastRead (e : Nat) (s : State) : Host.Outcome State Fault Refusal :=
  .next { s with dev := if e < 256 then s.dev.access (Reg.ENG_TRAP_LAST e) none (·.readClear (Reg.ENG_TRAP_LAST e)) else s.dev }

end Sys2Proof.Machine
end

