-- ==== Sys2Proof/Machine/Buffer.lean ====
section
/-! DEFINITION. The shared buffer (R312 to R339): cells, records, admission, spilling, replication, mirror sessions, intakes and residue
lists.
Readings of the manual that it takes are DEDUCED, in log entry 20. -/

namespace Sys2Proof.Machine

/-! ### Occupancy (R312, R315, R317) -/

/-- D(L), the data cells of a packet of `len` bytes (R312). -/
def dataCells (len : Nat) : Nat := 1 + (len - 144 + 255) / 256

/-- Every cell of the buffer. -/
def bufCells : Nat := 393216

/-- The records in queues, intakes and residue lists. -/
def Dev.recs (d : Dev) : List Rec :=
  (d.queues.flatMap (·.2)) ++ (d.intakes.flatMap (·.2)) ++ (d.residue.flatMap (·.2))

/-- The dequeued packets whose records are not yet freed (R315). -/
def Dev.held (d : Dev) : List Pkt := (d.pkts.map (·.2)).filter fun p => p.data != 0

def sumBy {α : Type} (f : α → Nat) (l : List α) : Nat := l.foldl (fun n x => n + f x) 0

/-- q of R317: the on-chip cells that a queue holds, those of copies made and not yet in an intake among them. -/
def Dev.qCells (d : Dev) (q : Nat) : Nat :=
  sumBy (fun r : Rec => if r.queue = q then r.cells else 0) (d.recs ++ d.made)
    + sumBy (fun p : Pkt => if p.queue = q then p.recCell else 0) d.held

/-- MIN of the profile that a queue names. -/
def Dev.profileOf (d : Dev) (q : Nat) : Nat := d.fld (Reg.SCH_QCFG q) F.SCH_QCFG_ADM_PROFILE
def Dev.minOf (d : Dev) (q : Nat) : Nat := d.fld (Reg.BUF_PROFILE (d.profileOf q)) F.BUF_PROFILE_MIN

/-- The queues that hold cells. -/
def Dev.usedQueues (d : Dev) : List Nat := (((d.recs ++ d.made).map Rec.queue) ++ (d.held.map Pkt.queue)).eraseDups

/-- shared_used (R317). -/
def Dev.sharedUsed (d : Dev) : Nat := sumBy (fun q => max (d.qCells q) (d.minOf q) - d.minOf q) d.usedQueues

/-- mc_used (R317). -/
def Dev.mcUsed (d : Dev) : Nat := sumBy (fun e : Nat × Data => if e.2.mc then e.2.cells else 0) d.data

/-- Free cells. -/
def Dev.freeCells (d : Dev) : Nat :=
  bufCells - (sumBy (fun e : Nat × Data => e.2.cells) d.data + sumBy Rec.own d.recs + sumBy Pkt.recOwn d.held
    + sumBy Rec.own d.made)

/-- Spill cells in use and in all (R321). -/
def Dev.spillUsed (d : Dev) : Nat := sumBy (fun e : Nat × Data => e.2.spillAt.length) d.data
def Dev.spillCapacity (d : Dev) : Nat :=
  4096 * d.fld Reg.BUF_SPILL_CTRL F.BUF_SPILL_CTRL_SIZE_MIB
    * ((List.range 4).filter fun c => (d.fld Reg.BUF_SPILL_CTRL F.BUF_SPILL_CTRL_CHANNELS).testBit c).length

/-- A record or copy lets go of its data; the last reference frees the data's cells, spilled ones included (R315). -/
def Dev.dropRef (d : Dev) (id : Nat) : Dev :=
  match Map.find d.data id with
  | none => d
  | some x =>
    if x.refs ≤ 1 then { d with data := Map.del d.data id, spillQ := d.spillQ.filter fun e => !x.spillAt.contains e.1 }
    else { d with data := Map.put d.data id { x with refs := x.refs - 1 } }

/-- A further reference to the data. -/
def Dev.addRef (d : Dev) (id : Nat) : Dev :=
  match Map.find d.data id with
  | none => d
  | some x => { d with data := Map.put d.data id { x with refs := x.refs + 1 } }

/-- New data with no reference yet; its number and the state. -/
def Dev.newData (d : Dev) (x : Data) : Nat × Dev :=
  (d.pidCtr + 1, { d with pidCtr := d.pidCtr + 1, data := Map.put d.data (d.pidCtr + 1) x })

/-! ### Queues, intakes, residue lists (R314, R324, R325) -/

def Dev.queue (d : Dev) (q : Nat) : List Rec := Map.getD d.queues q []
def Dev.intake (d : Dev) (n : Nat) : List Rec := Map.getD d.intakes n []
def Dev.residueOf (d : Dev) (n : Nat) : List Rec := Map.getD d.residue n []

/-- A list stored under a key, unlisted when empty. -/
def putList {α : Type} (m : List (Nat × List α)) (k : Nat) (l : List α) : List (Nat × List α) :=
  if l.isEmpty then Map.del m k else Map.put m k l

/-- The head of a queue carries the time since which it has been the head (R405). -/
def headMark (now : Nat) : List Rec → List Rec
  | [] => []
  | r :: t => (if r.headAt.isNone then { r with headAt := some now } else r) :: t

def Dev.setQueue (d : Dev) (q : Nat) (l : List Rec) : Dev := { d with queues := putList d.queues q (headMark d.free l) }
def Dev.setIntake (d : Dev) (n : Nat) (l : List Rec) : Dev := { d with intakes := putList d.intakes n l }
def Dev.setResidue (d : Dev) (n : Nat) (l : List Rec) : Dev := { d with residue := putList d.residue n l }

/-- The port is ready for a record (R324); a copy made for it and waiting for its residue list keeps its place in the order (R326). -/
def Dev.ready (d : Dev) (n : Nat) : Bool :=
  (d.intake n).length < 64 && (d.residueOf n).isEmpty && !d.made.any fun r => r.port == n

/-- The record joins the residue list of its port in the order of admission, or is discarded with RESIDUE_FULL (R325, R326). -/
def Dev.joinResidue (d : Dev) (r : Rec) : Dev :=
  if sumBy (fun e : Nat × List Rec => e.2.length) d.residue ≥ 4096 then
    (((d.count (Reg.BUF_COUNT 8) 1).raise 6 1).noteDiscard r.pid 0x3C).dropRef r.data
  else
    let l := d.residueOf r.port
    let older := l.filter fun x => x.adm ≤ r.adm
    let newer := l.filter fun x => !decide (x.adm ≤ r.adm)
    (d.setResidue r.port (older ++ { r with since := d.free } :: newer)).count (Reg.BUF_COUNT 7) 1

/-- A new record goes to its intake, or to the residue list (R325). -/
def Dev.enterRec (d : Dev) (r : Rec) : Dev :=
  if d.ready r.port then d.setIntake r.port (d.intake r.port ++ [r]) else d.joinResidue r

/-- Some record is linked below a node of the tree: kind 0 queue, 1 subscriber, 2 group, 3 port. -/
def Dev.recordBelow (d : Dev) (kind i : Nat) : Bool :=
  d.queues.any fun e =>
    !e.2.isEmpty &&
      (if kind = 0 then e.1 == i
       else if kind = 1 then e.1 / 8 == i
       else if kind = 2 then d.fld (Reg.SCH_SUB (e.1 / 8)) F.SCH_SUB_PARENT == i
       else d.subPort (e.1 / 8) == some i)

/-- A node with no record below it loses its deficit (R358). -/
def Dev.drrClean (d : Dev) : Dev :=
  { d with drr := d.drr.map fun (e : Nat × Drr) =>
      if d.recordBelow (e.1 / 262144) (e.1 % 262144) then e else (e.1, { e.2 with dc := 0 }) }

/-- A record is discarded with a REASON, 0 for none, and freed (R315). -/
def Dev.freeRec (d : Dev) (why : Nat) (r : Rec) : Dev := (d.noteDiscard r.pid why).dropRef r.data

/-- Removes every record for which `f` holds, wherever it stands, with a REASON; answers how many. -/
def Dev.removeRecs (d : Dev) (why : Nat) (f : Rec → Bool) : Dev × Nat :=
  let gone := d.recs.filter f
  let keep := fun (m : List (Nat × List Rec)) =>
    (m.map fun e => (e.1, e.2.filter fun r => !f r)).filter fun e => !e.2.isEmpty
  let d := { d with
    queues := (keep d.queues).map fun e => (e.1, headMark d.free e.2)
    intakes := keep d.intakes
    residue := keep d.residue }
  ((gone.foldl (Dev.freeRec · why ·) d).drrClean, gone.length)

/-! ### Admission (R318, R319, R360, R433) -/

/-- A CLASS_GATE rung in force refuses records of class `tc` for port `n` (R433). -/
def Dev.shed (d : Dev) (tc n : Nat) : Bool :=
  d.anyRung 3 fun a => a.testBit tc && d.inPortSet (bitsOf a 8 3) n

/-- The REASON with which a record of `n` cells and colour `c` is refused on queue `q`, none when it is admitted. -/
def Dev.refusal (d : Dev) (q n c : Nat) : Option Nat :=
  match d.subPort (q / 8) with
  | none => some 0x15
  | some port =>
    if !d.bit (Reg.SCH_QCFG q) F.SCH_QCFG_EN then some 0x15
    else if d.shed (q % 8) port then some 0x2D
    else
      let pr := Reg.BUF_PROFILE (d.profileOf q)
      let mn := d.minOf q
      let qc := d.qCells q
      let shNew := max (qc + n) mn - mn
      let dn := shNew - (max qc mn - mn)
      let shared := d.fld Reg.BUF_SHARED_LIMIT F.BUF_SHARED_LIMIT_SHARED
      let fs := shared - d.sharedUsed
      let t := (fs <<< d.fld pr F.BUF_PROFILE_ALPHA) >>> 8
      let t := if c = 1 then t >>> d.fld pr F.BUF_PROFILE_YSHIFT else if c = 2 then t >>> d.fld pr F.BUF_PROFILE_RSHIFT else t
      let mx := d.fld pr F.BUF_PROFILE_MAX
      if d.freeCells < n then some 0x39
      else if mx ≠ 0 ∧ qc + n > mx then some 0x38
      else if dn = 0 then none
      else if 0 < fs ∧ dn ≤ fs ∧ shNew ≤ t then none
      else some 0x38

/-- Counts and events of a refusal. -/
def Dev.noteRefusal (d : Dev) (why : Nat) : Dev :=
  if why = 0x15 then (d.count (Reg.SCH_COUNT 5) 1).raise 7 1
  else if why = 0x2D then d.count (Reg.PWR_COUNT 9) 1
  else if why = 0x39 then (d.count (Reg.BUF_COUNT 3) 1).raise 6 0
  else d.count (Reg.BUF_COUNT 2) 1

/-- The context words that a queue record keeps (R46). -/
def recWords (ws : List Word) : List Word :=
  ((List.range 32).map fun i => if 4 ≤ i ∧ i ≤ 21 then (0 : Word) else wordAt ws i)

/-- A record of the packet that refers to data `id`; `adm` is its place in the order of admission. -/
def Pkt.toRec (p : Pkt) (id len cells own spill adm : Nat) : Rec :=
  { pid := p.pid, words := recWords (p.pass 8).words, len := len, data := id, cells := cells, own := own, spill := spill,
    port := p.get C.DEST, queue := p.get C.QUEUE, since := 0, headAt := none, adm := adm, flight := p.flight }

/-- The bytes that the spill writer holds and that no channel has accepted (R320). -/
def Dev.spillBacklog (d : Dev) : Nat :=
  256 * d.spillQ.length + 64 * sumBy (fun c : Chan => (c.port.filter fun r => r.cls == 1 && r.write).length) d.chans

/-- The DRAM address of spill cell `k` (R321, log entry 20): the channels used follow one another, lowest first. -/
def Dev.spillAddr (d : Dev) (k : Nat) : Nat :=
  let m := 4096 * d.fld Reg.BUF_SPILL_CTRL F.BUF_SPILL_CTRL_SIZE_MIB
  let chs := (List.range 4).filter fun c => (d.fld Reg.BUF_SPILL_CTRL F.BUF_SPILL_CTRL_CHANNELS).testBit c
  (chs[k / m]?).getD 0 * 2 ^ 34 + d.fld Reg.BUF_SPILL_CTRL F.BUF_SPILL_CTRL_BASE_MIB * 2 ^ 20 + 256 * (k % m)

/-- The first `n` free spill cells from cell `k` on; the fuel is the number of cells in use and `n`. -/
def Dev.spillFree (d : Dev) (used : List Nat) : Nat → Nat → Nat → List Nat
  | 0, _, _ => []
  | _, _, 0 => []
  | fuel + 1, k, n + 1 =>
    if used.contains (d.spillAddr k) then d.spillFree used fuel (k + 1) (n + 1)
    else d.spillAddr k :: d.spillFree used fuel (k + 1) n

/-- The addresses of `n` free spill cells. -/
def Dev.spillPlaces (d : Dev) (n : Nat) : List Nat :=
  let used := d.data.flatMap fun e => e.2.spillAt
  d.spillFree used (used.length + n) 0 n

/-- A spill may be made for a packet of `n` data cells on queue `q` (R320, R433). -/
def Dev.maySpill (d : Dev) (q n c : Nat) : Bool :=
  d.bit (Reg.BUF_PROFILE (d.profileOf q)) F.BUF_PROFILE_SPILL_EN && d.bit Reg.BUF_SPILL_CTRL F.BUF_SPILL_CTRL_EN
    && !d.anyRung 6 (fun _ => true) && n > 1 && (d.refusal q 1 c).isNone
    && d.spillUsed + (n - 1) ≤ d.spillCapacity && d.spillBacklog < 262144

/-! ### Mirror sessions (R333 to R336) -/

/-- A mirror or sample copy of the packet (R334, R335). -/
def Dev.mirrorCopy (d : Dev) (c : Nat) (p : Pkt) (id s : Nat) (sample : Bool) : Dev :=
  let a := Reg.BUF_MSESS_A s
  let port := if sample then 130 else d.fld a F.BUF_MSESS_A_PORT
  let sub := d.fld a F.BUF_MSESS_A_SUB
  let tc := d.fld a F.BUF_MSESS_A_TC
  let q := 8 * sub + tc
  let tr := d.fld a F.BUF_MSESS_A_TRUNC
  let len := if tr = 0 then p.bytes.length else min p.bytes.length (max tr 64)
  if port > 131 ∨ d.subPort sub ≠ some port then d.count (Reg.BUF_COUNT 13) 1
  else if d.downDiscard port then d.count (Reg.PRT_COUNT port 25) 1
  else
    match d.refusal q 1 (p.get C.COLOR) with
    | some why =>
      if why = 0x15 then d.noteRefusal why
      else if why = 0x2D then (d.noteRefusal why).count (Reg.BUF_COUNT 13) 1
      else d.count (Reg.BUF_COUNT 13) 1
    | none =>
      let x := ((p.put C.QUEUE q).put C.TC tc).put C.DEST port
      let x := (x.put C.MCAST 0).put C.REWRITE_PTR (d.fld (Reg.BUF_MSESS_B s) F.BUF_MSESS_B_REWRITE_PTR)
      let x := (x.put C.ORIG_CTX c).put C.COPY 1
      let x := if port = 130 then x.dispose Disp.host (if sample then 0x34 else 0x35)
        else if port = 131 then x.dispose Disp.recirc 0 else x.dispose Disp.forward 0
      let e := x.get C.ENERGY
      let (d, x) := d.charge x 19
      let d := d.account (p.get C.IN_PIPE) (x.get C.ENERGY - e + p.get C.FORECAST)
      let d := d.count (Reg.BUF_COUNT 1) 1
      let d := if sample then d.count (Reg.BUF_COUNT 14) 1 else d
      let (t, d) := (d.addRef id).newTag
      d.enterRec (x.toRec id len 1 1 0 t)

/-- The session's countdown selects this packet (R335); the flag says so. -/
def Dev.selects (d : Dev) (s : Nat) : Dev × Bool :=
  let b := Reg.BUF_MSESS_B s
  let n := d.fld b F.BUF_MSESS_B_N
  if n ≤ 1 then (d, true)
  else
    let k := Map.getD d.countdown s n
    if k > 1 then ({ d with countdown := Map.put d.countdown s (k - 1) }, false)
    else if d.bit b F.BUF_MSESS_B_RANDOM then
      let (x, d) := d.fresh (2 * n - 1)
      ({ d with countdown := Map.put d.countdown s (x + 1) }, true)
    else ({ d with countdown := Map.put d.countdown s n }, true)

/-- The atoms that the staged capture records hold. -/
def Dev.stagedAtoms (d : Dev) : Nat := sumBy (fun r : CapRec => r.atoms.length) d.captures

/-- The atoms of the staging area. -/
def Dev.capAtoms (d : Dev) : Nat := 16384 * d.fld Reg.BUF_CAP_CTRL F.BUF_CAP_CTRL_SIZE_MIB

/-- The address of the staging area (R336). -/
def Dev.capBase (d : Dev) : Nat :=
  d.fld Reg.BUF_CAP_CTRL F.BUF_CAP_CTRL_CHANNEL * 2 ^ 34 + d.fld Reg.BUF_CAP_CTRL F.BUF_CAP_CTRL_BASE_MIB * 2 ^ 20

/-- The next `n` atoms of the staging area, which is used in a circle (log entry 20): those after the last staged record's. -/
def Dev.capPlaces (d : Dev) (n : Nat) : List Nat :=
  let start := match d.captures.getLast?.bind (·.atoms.getLast?) with
    | some a => (a + 64 - d.capBase) / 64
    | none => 0
  (List.range n).map fun i => d.capBase + 64 * ((start + i) % d.capAtoms)

/-- The packet slots of a capture record: CAP_SLOTS, 0 taken as 1. -/
def Dev.capSlots (d : Dev) (s : Nat) : Nat := max 1 (d.fld (Reg.BUF_MSESS_B s) F.BUF_MSESS_B_CAP_SLOTS)

/-- A header-capture record without its common header (R336). `outcome` is 0 ADMITTED, 1 DROPPED, 2 SPILLED. -/
def Dev.capRecord (d : Dev) (p : Pkt) (s outcome reason : Nat) : List Word :=
  let n := d.capSlots s
  let seq := (Map.getD d.seqs s 0).toNat
  let w1 := p.get C.RX_TS_NS + p.get C.RX_TS_FRAC * 2 ^ 32 + p.get C.IN_PORT * 2 ^ 40 + s * 2 ^ 48 + p.get C.G * 2 ^ 55
    + (if outcome = 1 then reason * 2 ^ 56 else 0)
  let w2 := p.bytes.length % 16384 + outcome * 2 ^ 14 + p.get C.MCAST * 2 ^ 16 + p.get C.ENERGY * 2 ^ 40
  let w3 := (if p.flag C.MCAST then p.get C.DEST else p.get C.QUEUE) + seq * 2 ^ 32
  [0, BitVec.ofNat 64 w1, BitVec.ofNat 64 w2, BitVec.ofNat 64 w3] ++ bytesWords (slice p.bytes 0 (32 * n)) (4 * n)

/-- Stages a record: the header-capture writer writes it to DRAM, atom by atom (R336, R451). -/
def Dev.stageCapture (d : Dev) (s : Nat) (ws : List Word) : Dev :=
  let atoms := d.capPlaces ((ws.length + 7) / 8)
  let (t, d) := d.newTag
  let d := atoms.zipIdx.foldl (fun (d : Dev) (e : Nat × Nat) => d.dramReq 2 e.1 (some (slice (wordsBytes ws) (64 * e.2) 64)) 0) d
  let r : CapRec := ⟨d.fld (Reg.BUF_MSESS_B s) F.BUF_MSESS_B_RING, ws.length, atoms, t, false⟩
  { d with captures := d.captures ++ [r] }.count (Reg.BUF_COUNT 15) 1

/-- A selected packet's capture (R336). -/
def Dev.capture (d : Dev) (p : Pkt) (s outcome reason : Nat) : Dev :=
  let ws := d.capRecord p s outcome reason
  let d := { d with seqs := Map.put d.seqs s (Map.getD d.seqs s 0 + 1) }
  if d.bit Reg.BUF_CAP_CTRL F.BUF_CAP_CTRL_EN && d.stagedAtoms + (ws.length + 7) / 8 ≤ d.capAtoms then d.stageCapture s ws
  else (d.count (Reg.BUF_COUNT 16) 1).raise 6 6

/-- The packet's mirror session applies once (R333); `id` is its data when that was admitted. -/
def Dev.session (d : Dev) (c : Nat) (p : Pkt) (id : Option Nat) (outcome reason : Nat) : Dev :=
  let s := p.get C.MIRROR
  let kind := d.fld (Reg.BUF_MSESS_A s) F.BUF_MSESS_A_KIND
  if s = 0 ∨ kind = 0 then d
  else if kind = 1 then
    if d.anyRung 5 (·.testBit 1) then d
    else
      match id with
      | some i => d.mirrorCopy c p i s false
      | none => d
  else if d.anyRung 5 (·.testBit 0) then d
  else
    let (d, sel) := d.selects s
    if !sel then d
    else if kind = 3 then d.capture p s outcome reason
    else
      let d := { d with seqs := Map.put d.seqs s (Map.getD d.seqs s 0 + 1) }
      match id with
      | some i => d.mirrorCopy c p i s true
      | none => d

/-! ### ADMISSION (R319, R320, R327, R328) -/

/-- A refused packet: its session still sees it, then it is discarded (R319, R53). -/
def Dev.refuse (d : Dev) (c : Nat) (p : Pkt) (why : Nat) : Dev :=
  let d := d.noteRefusal why
  (d.session c p none 1 why).discard c (p.dispose Disp.drop why)

/-- The cells that leave the chip with addresses `as`: 256 bytes each from byte 144 on (R312, R320). -/
def spillCells (bs : List Byte) (as : List Nat) : List (Nat × List Byte) :=
  as.zipIdx.map fun e => (e.1, slice bs (144 + 256 * e.2) 256)

/-- An admitted unicast packet: `onchip` cells of its data stay on chip and those at `spill` go to DRAM. Its record comes before a mirror
copy's, and the data stays until both have been entered (R334). -/
def Dev.store (d : Dev) (c : Nat) (p : Pkt) (onchip : Nat) (spill : List Nat) : Dev :=
  let (h, d) := d.fresh bufCells
  let p := p.put C.HEAD_CELL h
  let (id, d) := d.newData
    { bytes := p.bytes, refs := 2, cells := onchip, mc := false, spillAt := spill, poison := false }
  let d := { d with spillQ := d.spillQ ++ spillCells p.bytes spill }
  let d := (d.count (Reg.BUF_COUNT 0) 1).account (p.get C.IN_PIPE) (p.get C.ENERGY)
  let (t, d) := d.newTag
  let d := d.enterRec (p.toRec id p.bytes.length onchip 0 spill.length t)
  ((d.session c p (some id) (if spill.isEmpty then 0 else 2) 0).dropRef id).dropPkt c

/-- A spilled packet (R320): its SPILL charge is part of its ENERGY at admission. -/
def Dev.spillStore (d : Dev) (c : Nat) (p : Pkt) (n : Nat) : Dev :=
  let (d, p) := d.charge (p.put C.SPILLED 1) 9
  let d := (d.count (Reg.BUF_COUNT 10) 1).store c p 1 (d.spillPlaces (n - 1))
  if d.spillUsed = d.spillCapacity then d.raise 6 3 else d

/-- Admission of a unicast packet (R319). -/
def Dev.admitUnicast (d : Dev) (c : Nat) (p : Pkt) : Dev :=
  let port := p.get C.DEST
  let q := p.get C.QUEUE
  let n := dataCells p.bytes.length
  if d.downDiscard port then (d.count (Reg.PRT_COUNT port 25) 1).discard c p
  else
    match d.refusal q n (p.get C.COLOR) with
    | none => d.store c p n []
    | some why => if why = 0x38 && d.maySpill q n (p.get C.COLOR) then d.spillStore c p n else d.refuse c p why

/-- Admission of a multicast packet (R327, R328 step 1): the replication that MC_COPY then makes holds one reference. -/
def Dev.admitMulticast (d : Dev) (c : Nat) (p : Pkt) : Dev :=
  let g := p.get C.DEST
  let n := dataCells p.bytes.length
  let cnt := d.fld (Reg.BUF_MCGROUP g) F.BUF_MCGROUP_COUNT
  let base := d.fld (Reg.BUF_MCGROUP g) F.BUF_MCGROUP_BASE
  if g ≥ 16384 then (d.count (Reg.BUF_COUNT 4) 1).discard c (p.dispose Disp.drop 0x3A)
  else if cnt = 0 ∨ cnt > 512 then (d.count (Reg.BUF_COUNT 4) 1).discard c (p.dispose Disp.drop 0x3B)
  else if d.mcUsed + n > d.fld Reg.BUF_MC_LIMIT F.BUF_MC_LIMIT_LIMIT ∨ d.freeCells < n then d.refuse c p 0x39
  else
    let (h, d) := d.fresh bufCells
    let p := p.put C.HEAD_CELL h
    let (id, d) := d.newData
      { bytes := p.bytes, refs := 1, cells := n, mc := true, spillAt := [], poison := false }
    let d := (d.count (Reg.BUF_COUNT 0) 1).account (p.get C.IN_PIPE) (p.get C.ENERGY)
    let d := d.session c p (some id) 0 0
    { d with repls := d.repls ++ [(⟨c, id, base, base + cnt, 0, []⟩ : Repl)] }.setPkt c { p with stage := .replicate }

/-- ADMISSION for the packet; `bad` is an uncorrectable context word (R43). -/
def Dev.admitPkt (d : Dev) (c : Nat) (bad : Bool) (p : Pkt) : Dev :=
  if !d.inOrder c p then d
  else if bad then d.ctxBad c p
  else if p.flag C.MCAST then d.admitMulticast c p
  else d.admitUnicast c p

/-- ADMISSION (R319). -/
def execAdmission (ctx : Nat) (bad : Bool) (s : State) : Host.Outcome State Fault Refusal :=
  .next { s with dev := s.dev.withPkt ctx (fun p => p.stage == .admission && s.dev.lineUp 80) (s.dev.admitPkt ctx bad) }

/-! ### MC_COPY (R328 to R330) -/

/-- What list entry `i` gives: nothing with its counts, or a copy's queue and port (R328 step 2). -/
def Dev.mcEntry (d : Dev) (p : Pkt) (i : Nat) : Dev × Option (Nat × Nat) :=
  let e := Reg.BUF_MCLIST i
  let port := d.fld e F.BUF_MCLIST_PORT
  let sub := d.fld e F.BUF_MCLIST_SUB
  let q := 8 * sub + p.get C.TC
  if i ≥ 65536 ∨ !d.bit e F.BUF_MCLIST_VALID then (d, none)
  else if port > 131 then ((d.count (Reg.BUF_COUNT 5) 1).raise 6 7, none)
  else if d.bit e F.BUF_MCLIST_SRC_PRUNE ∧ port = p.get C.IN_PORT then (d.count (Reg.BUF_COUNT 17) 1, none)
  else if d.subPort sub ≠ some port then (d.count (Reg.BUF_COUNT 6) 1, none)
  else if d.downDiscard port then (d.count (Reg.PRT_COUNT port 25) 1, none)
  else
    match d.refusal q 1 (p.get C.COLOR) with
    | some why => (d.noteRefusal why, none)
    | none => (d, some (q, port))

/-- Makes the copy of entry `i` (R329). -/
def Dev.makeCopy (d : Dev) (p : Pkt) (r : Repl) (i q port : Nat) : Dev × Repl :=
  let rw := d.fld (Reg.BUF_MCLIST i) F.BUF_MCLIST_REWRITE_PTR
  let x := ((p.put C.QUEUE q).put C.DEST port).put C.MCAST 0
  let x := (if rw ≠ 0 then x.put C.REWRITE_PTR rw else x).put C.ORIG_CTX r.ctx
  let (d, x) := if r.made = 0 then (d, x.put C.COPY 0)
    else
      let e := x.get C.ENERGY
      let (d, x) := d.charge (x.put C.COPY 1) 18
      (d.account (p.get C.IN_PIPE) (x.get C.ENERGY - e + p.get C.FORECAST), x)
  let (t, d) := ((d.count (Reg.BUF_COUNT 1) 1).addRef r.data).newTag
  let rec_ := x.toRec r.data p.bytes.length 1 1 0 t
  if d.ready port then (d.enterRec rec_, { r with made := r.made + 1, next := i + 1 })
  else (d, { r with made := r.made + 1, next := i + 1, notReady := r.notReady ++ [rec_] })

/-- Examines entries from `i` on, `fuel` of them at most, until one makes a copy. -/
def Dev.mcScan (d : Dev) (p : Pkt) (r : Repl) : Nat → Nat → Dev × Repl
  | _, 0 => (d, { r with next := r.last })
  | i, fuel + 1 =>
    if i ≥ r.last then (d, { r with next := r.last })
    else
      let (d, x) := d.mcEntry p i
      match x with
      | some (q, port) => d.makeCopy p r i q port
      | none => d.mcScan p r (i + 1) fuel

/-- The end of a replication (R328 steps 3 and 4): the copies for ports not ready join their residue lists, and the context is freed. -/
def Dev.mcEnd (d : Dev) (r : Repl) : Dev :=
  let d := { d with repls := d.repls.filter fun x => x.ctx != r.ctx }
  let d := r.notReady.foldl Dev.joinResidue d
  (d.dropRef r.data).dropPkt r.ctx

/-- One copy of the packet's group list. -/
def Dev.mcStep (d : Dev) (c : Nat) (p : Pkt) : Dev :=
  match d.repls.find? fun x => x.ctx = c with
  | none => d
  | some r =>
    if !d.poolFree then d
    else
      let (d, r) := d.mcScan p r r.next 513
      if r.next ≥ r.last then d.mcEnd r
      else { d with repls := d.repls.map fun x => if x.ctx = c then r else x }

/-- MC_COPY (R329). -/
def execMcCopy (ctx : Nat) (s : State) : Host.Outcome State Fault Refusal :=
  .next { s with dev := s.dev.withPkt ctx (fun p => p.stage == .replicate && s.dev.lineUp 80) (s.dev.mcStep ctx) }

/-! ### Linking and the residue list (R324, R325) -/

/-- RECORD_LINK for port `n`: the oldest record of its intake joins its queue. -/
def Dev.link (d : Dev) (n : Nat) : Dev :=
  match d.intake n with
  | [] => d
  | r :: t => (d.setIntake n t).setQueue r.queue (d.queue r.queue ++ [r])

/-- RECORD_LINK (R324). -/
def execRecordLink (port : Nat) (s : State) : Host.Outcome State Fault Refusal :=
  .next { s with dev := if s.dev.running && s.dev.lineUp 80 then s.dev.link port else s.dev }

/-- The head of the residue list has reached BUF_RESIDUE_LIMIT (R325, R338). -/
def Dev.residueOld (d : Dev) (r : Rec) : Bool :=
  let l := d.fld Reg.BUF_RESIDUE_LIMIT F.BUF_RESIDUE_LIMIT_LIMIT
  l != 0 && d.passed r.since (1000 * l)

/-- Discards the head `r` of a residue list on time. -/
def Dev.residueDrop (d : Dev) (n : Nat) (r : Rec) (t : List Rec) : Dev :=
  (((d.setResidue n t).freeRec 0x3D r).count (Reg.BUF_COUNT 9) 1).raise 6 2

/-- A copy made for port `n` and admitted before record `r` is still to join the residue list (R326). -/
def Dev.copyBefore (d : Dev) (n : Nat) (r : Rec) : Bool := d.made.any fun x => x.port == n && x.adm < r.adm

/-- RESIDUE_MOVE for port `n`; a head that has reached its limit is discarded instead (R338). -/
def Dev.residueMove (d : Dev) (n : Nat) : Dev :=
  match d.residueOf n with
  | [] => d
  | r :: t =>
    if d.residueOld r then d.residueDrop n r t
    else if (d.intake n).length < 64 && !d.copyBefore n r then (d.setResidue n t).setIntake n (d.intake n ++ [r])
    else d

/-- RESIDUE_MOVE (R325). -/
def execResidueMove (port : Nat) (s : State) : Host.Outcome State Fault Refusal :=
  .next { s with dev := if s.dev.running && s.dev.lineUp 80 then s.dev.residueMove port else s.dev }

/-- RESIDUE_TIMEOUT for port `n`. -/
def Dev.residueTimeout (d : Dev) (n : Nat) : Dev :=
  match d.residueOf n with
  | [] => d
  | r :: t => if d.residueOld r then d.residueDrop n r t else d

/-- RESIDUE_TIMEOUT (R325). -/
def execResidueTimeout (port : Nat) (s : State) : Host.Outcome State Fault Refusal :=
  .next { s with dev := if s.dev.running && s.dev.lineUp 80 then s.dev.residueTimeout port else s.dev }

end Sys2Proof.Machine
end

