-- ==== Sys2Proof/Machine/Gates.lean ====
section
/-! DEFINITION. What the gate lists say at a moment (R395, R400 to R406): preemptable classes, states in force, closing times, and whether
a frame may start. -/

namespace Sys2Proof.Machine

/-- Gate lists of a port as after reset. -/
def Gates.init : Gates :=
  { admin := [], oper := [], ran := false, cycleStart := 0, entryEnd := 0, lastChange := 0 }

def Dev.gate (d : Dev) (n : Nat) : Gates := Map.getD d.gates n Gates.init
def Dev.setGate (d : Dev) (n : Nat) (g : Gates) : Dev := { d with gates := Map.put d.gates n g }

/-- GATES, OP and INTERVAL of a gate list entry (R396). -/
def geGates (w : Word) : Nat := Fld.of ⟨0, 8⟩ w
def geOp (w : Word) : Nat := Fld.of ⟨8, 2⟩ w
def geInterval (w : Word) : Nat := Fld.of ⟨32, 30⟩ w

/-- Entries 0 to `n − 1` of a bank; an entry that is not listed is 0. -/
def bankEntries (b : List (Nat × Word)) (n : Nat) : List Word := (List.range n).map fun i => Map.getD b i 0

/-- The administrative and operational lists of port `n` (R399). -/
def Dev.adminList (d : Dev) (n : Nat) : List Word :=
  bankEntries (d.gate n).admin (d.fld (Reg.GAT_ADMIN_BASE n) F.GAT_ADMIN_BASE_LIST_LEN)
def Dev.operList (d : Dev) (n : Nat) : List Word :=
  bankEntries (d.gate n).oper (d.fld (Reg.GAT_OPER_BASE n) F.GAT_OPER_BASE_LIST_LEN)
def Dev.operCycle (d : Dev) (n : Nat) : Nat := d.fld (Reg.GAT_OPER_CYCLE n) F.GAT_OPER_CYCLE_CYCLE

def Dev.gatesEn (d : Dev) (n : Nat) : Bool := n < 128 && d.bit (Reg.GAT_CTRL n) F.GAT_CTRL_EN
def Dev.gatePending (d : Dev) (n : Nat) : Bool := d.bit (Reg.GAT_STATUS n) F.GAT_STATUS_PENDING
def Dev.gateRunning (d : Dev) (n : Nat) : Bool := d.bit (Reg.GAT_STATUS n) F.GAT_STATUS_RUNNING

/-- The gate states in force (R401); the states of a running list stand in GAT_STATUS.GATES. -/
def Dev.gatesNow (d : Dev) (n : Nat) : Nat :=
  if !d.gatesEn n then 255
  else if d.gateRunning n then d.fld (Reg.GAT_STATUS n) F.GAT_STATUS_GATES
  else d.fld (Reg.GAT_CTRL n) F.GAT_CTRL_INIT_GATES

/-- Preemption is active on the port (R123), and class `c` is preemptable (R395). -/
def Dev.mmActive (d : Dev) (n : Nat) : Bool := n < 128 && d.bit (Reg.PRT_MM_STATUS n) F.PRT_MM_STATUS_ACTIVE
def Dev.preemptable (d : Dev) (n c : Nat) : Bool :=
  d.mmActive n && (d.fld (Reg.GAT_CTRL n) F.GAT_CTRL_PREEMPT).testBit c

/-- Lengths and states of the entries of one cycle (R400): cut at CYCLE, the last entry's states lasting to its end. `f` gives an entry's
states. -/
def cycleSegs (f : Word → Nat) : List Word → Nat → List (Nat × Nat)
  | [], _ => []
  | [e], left => [(left, f e)]
  | e :: r, left => if geInterval e ≥ left then [(left, f e)] else (geInterval e, f e) :: cycleSegs f r (left - geInterval e)

/-- Segments without their first `t` ns. -/
def segsAfter : List (Nat × Nat) → Nat → List (Nat × Nat)
  | [], _ => []
  | (l, g) :: r, t => if t ≥ l then segsAfter r (t - l) else (l - t, g) :: r

/-- Segments cut after `t` ns. -/
def segsUntil : List (Nat × Nat) → Nat → List (Nat × Nat)
  | [], _ => []
  | (l, g) :: r, t => if t ≤ l then [(t, g)] else (l, g) :: segsUntil r (t - l)

/-- When the first segment with gate `c` closed begins. -/
def closesAt : List (Nat × Nat) → Nat → Option Nat
  | [], _ => none
  | (l, g) :: r, c => if l = 0 ∨ g.testBit c then (closesAt r c).map (· + l) else some 0

/-- CYCLE of the list that is running, or of the pending one before the first change (R402). -/
def Dev.gateCycleNs (d : Dev) (n : Nat) : Nat :=
  if d.gateRunning n then d.operCycle n else d.fld (Reg.GAT_ADMIN_CYCLE n) F.GAT_ADMIN_CYCLE_CYCLE

/-- What the states in force will be from now on, over at least one CYCLE (R399, R400, R402); `f` gives an entry's states. A change that lies
further off than that does not show. -/
def Dev.gateFuture (d : Dev) (f : Word → Nat) (n : Nat) : List (Nat × Nat) :=
  let now := d.ns
  let cyc := d.operCycle n
  let one := cycleSegs f (d.operList n) cyc
  let o := ahead32 (d.gate n).cycleStart.toNat now
  let st := d.gatesNow n
  let run := d.gateRunning n
  let rest := segsAfter one o
  if d.gatePending n then
    let pc := ahead32 now (d.fld (Reg.GAT_STATUS n) F.GAT_STATUS_CHANGE_TIME)
    let ac := d.fld (Reg.GAT_ADMIN_CYCLE n) F.GAT_ADMIN_CYCLE_CYCLE
    let ext := d.fld (Reg.GAT_ADMIN_CYCLE n) F.GAT_ADMIN_CYCLE_EXT
    let new := cycleSegs f (d.adminList n) ac
    let old := if !run then [(pc, st)]
      else if o ≥ cyc then [(pc, st)]
      else if pc < (cyc - o) + max 1 ext then rest ++ [(pc - (cyc - o), ((one.getLast?).getD (0, st)).2)]
      else rest ++ one
    if run && o < cyc && pc ≥ (cyc - o) + cyc then old else segsUntil old pc ++ new ++ new
  else if !run then []
  else if o ≥ cyc then (1, st) :: one
  else rest ++ one

/-- The time until gate `c` of the port next closes, none when it does not within a CYCLE (R402). -/
def Dev.closeIn (d : Dev) (n c : Nat) : Option Nat :=
  (closesAt (d.gateFuture geGates n) c).filter (· < d.gateCycleNs n)

/-- The states of an entry as a preemptable frame in transmission meets them: SET_AND_HOLD stops every class (R403). -/
def geCuts (w : Word) : Nat := if geOp w = 1 then 0 else geGates w

/-- The time until a preemptable frame of class `c` is preempted by its gate or a hold (R403). -/
def Dev.cutIn (d : Dev) (n c : Nat) : Option Nat :=
  if d.gatesEn n then (closesAt (d.gateFuture geCuts n) c).filter (· < d.gateCycleNs n) else none

/-- The MAC rate of a mode in Mb/s (R104). -/
def modeRate (m : Nat) : Nat :=
  if m = 1 then 1000 else if m = 2 then 10000 else if m = 3 then 25000 else if m = 4 then 50000
  else if 5 ≤ m ∧ m ≤ 7 then 100000 else if m = 8 ∨ m = 9 then 200000 else if m = 10 ∨ m = 11 then 400000 else 0

/-- Lane rate code of a mode (R104, PRT_LANE_STATUS.RATE). -/
def laneRate (m : Nat) : Nat :=
  if m = 1 then 1 else if m = 2 then 2 else if m = 3 ∨ m = 7 then 3 else if m = 4 ∨ m = 6 ∨ m = 9 ∨ m = 11 then 4
  else if m = 5 ∨ m = 8 ∨ m = 10 then 5 else 0

/-- `bytes` at the port's resolved rate end within `t` ns. -/
def Dev.fitsIn (d : Dev) (n bytes t : Nat) : Bool :=
  bytes * 8000 ≤ t * modeRate (d.fld (Reg.PRT_STATUS n) F.PRT_STATUS_RES_MODE)

/-- The least fragment, 64 × (1 + ADD_FRAG) bytes (R123), with the PRT_MM_CTRL in force (R136). -/
def Dev.minFrag (d : Dev) (n : Nat) : Nat := 64 * (1 + F.PRT_MM_CTRL_ADD_FRAG.of (d.port n).mm)

/-- W of R402, without and with GUARD. -/
def frameBytes (len : Nat) : Nat := max 64 (len + 4)
def Dev.guardOf (d : Dev) (n : Nat) : Nat := d.fld (Reg.GAT_CTRL n) F.GAT_CTRL_GUARD

/-- A preempted frame's remainder waits on the port (R403). -/
def Dev.remainder (d : Dev) (n : Nat) : Bool := d.pkts.any fun e => e.2.stage == .preempted n

/-- A head record of class `c` and stored length `len` may start on the port now (R402, R403). -/
def Dev.mayStart (d : Dev) (n c len : Nat) : Bool :=
  let pre := d.preemptable n c
  let held := pre && (d.remainder n || d.bit (Reg.GAT_STATUS n) F.GAT_STATUS_HOLD)
  !held &&
    (!d.gatesEn n ||
      ((d.gatesNow n).testBit c &&
        match d.closeIn n c with
        | none => true
        | some t => d.fitsIn n ((if pre then d.minFrag n else frameBytes len) + d.guardOf n) t))

/-- The port's gate list controls class `c` (R406). -/
def Dev.controlled (d : Dev) (n c : Nat) : Bool :=
  d.gatesEn n &&
    (if (d.gate n).ran then (d.operList n).any fun e => !(geGates e).testBit c
     else !(d.fld (Reg.GAT_CTRL n) F.GAT_CTRL_INIT_GATES).testBit c)

end Sys2Proof.Machine
end

