-- ==== Sys2Proof/Machine/GateLists.lean ====
section
/-! DEFINITION. Gate lists in motion (R396 to R407): the request for a change, the change, cycles and entries, oversize heads, and what a
phase step does to them.
Readings of the manual that it takes are DEDUCED, in log entry 24. -/

namespace Sys2Proof.Machine

/-! ### Requests (R397, R398, R401) -/

/-- The first failing check of R397, 0 for none. -/
def Dev.gateCheck (d : Dev) (n : Nat) : Nat :=
  let len := d.fld (Reg.GAT_ADMIN_BASE n) F.GAT_ADMIN_BASE_LIST_LEN
  let cyc := d.fld (Reg.GAT_ADMIN_CYCLE n) F.GAT_ADMIN_CYCLE_CYCLE
  let ext := d.fld (Reg.GAT_ADMIN_CYCLE n) F.GAT_ADMIN_CYCLE_EXT
  let l := d.adminList n
  if len = 0 ∨ len > 1024 then 1
  else if cyc < 200 ∨ cyc > 1000000000 then 2
  else if ext > cyc then 3
  else if l.any fun e => geInterval e < 10 || geInterval e > 1000000000 then 4
  else if l.any fun e => geOp e = 3 then 5
  else 0

/-- The change time (R398). -/
def changeTime (now base cyc : Nat) : Nat :=
  let x := (now + 1000 + 4294967296 - base) % 4294967296
  if x ≥ 2147483648 then base else (base + (x + cyc - 1) / cyc * cyc) % 4294967296

/-- PENDING and CFG_CHANGE are cleared. -/
def Dev.gateUnpend (d : Dev) (n : Nat) : Dev :=
  (d.setFld (Reg.GAT_STATUS n) F.GAT_STATUS_PENDING 0).setFld (Reg.GAT_CTRL n) F.GAT_CTRL_CFG_CHANGE 0

/-- The request itself; one while a change is pending is ignored under WS. -/
def Dev.gateRequest (d : Dev) (n : Nat) : Dev :=
  if d.gatePending n then d
  else
    let e := d.gateCheck n
    if e ≠ 0 then (d.setFld (Reg.GAT_STATUS n) F.GAT_STATUS_ERR e).raise (512 + n) 1
    else
      let t := changeTime d.ns (d.fld (Reg.GAT_ADMIN_BASE n) F.GAT_ADMIN_BASE_BASE)
        (d.fld (Reg.GAT_ADMIN_CYCLE n) F.GAT_ADMIN_CYCLE_CYCLE)
      let d := d.setFld (Reg.GAT_STATUS n) F.GAT_STATUS_PENDING 1
      (d.setFld (Reg.GAT_STATUS n) F.GAT_STATUS_CHANGE_TIME t).setFld (Reg.GAT_CTRL n) F.GAT_CTRL_CFG_CHANGE 1

/-- EN = 0: every gate opens, the operational list stops and PENDING is cleared (R401). -/
def Dev.gateOff (d : Dev) (n : Nat) : Dev :=
  let d := d.gateUnpend n
  let d := (d.setFld (Reg.GAT_STATUS n) F.GAT_STATUS_RUNNING 0).setFld (Reg.GAT_STATUS n) F.GAT_STATUS_HOLD 0
  (d.setFld (Reg.GAT_STATUS n) F.GAT_STATUS_CUR_ENTRY 0).setGate n { d.gate n with ran := false }

/-- A write of GAT_CTRLn: the RW fields; then CANCEL, CFG_CHANGE and EN = 0 in this order (R397, R401, log entry 24). -/
def Dev.gatCtrl (d : Dev) (n : Nat) (v : Word) : Dev :=
  if n ≥ 128 then d
  else
    let a := Reg.GAT_CTRL n
    let d := d.setFld a F.GAT_CTRL_EN (F.GAT_CTRL_EN.of v)
    let d := d.setFld a F.GAT_CTRL_INIT_GATES (F.GAT_CTRL_INIT_GATES.of v)
    let d := d.setFld a F.GAT_CTRL_PREEMPT (F.GAT_CTRL_PREEMPT.of v)
    let d := d.setFld a F.GAT_CTRL_GUARD (F.GAT_CTRL_GUARD.of v)
    let d := if F.GAT_CTRL_CANCEL.of v = 1 then d.gateUnpend n else d
    let d := if F.GAT_CTRL_CFG_CHANGE.of v = 1 then d.gateRequest n else d
    if F.GAT_CTRL_EN.of v = 0 then d.gateOff n else d

/-- CFG_CHANGE (R397). -/
def execCfgChange (n : Nat) (v : Word) (s : State) : Host.Outcome State Fault Refusal :=
  .next { s with dev := if n < 128 && F.GAT_CTRL_CFG_CHANGE.of v = 1 then s.dev.access (Reg.GAT_CTRL n) (some v) (·.gatCtrl n v) else s.dev }

/-- The value of a write that cancels and keeps the RW fields. -/
def Dev.cancelValue (d : Dev) (n : Nat) : Word :=
  F.GAT_CTRL_CANCEL.put (F.GAT_CTRL_CFG_CHANGE.put (d.reg (Reg.GAT_CTRL n)) 0) 1

/-- GATE_CANCEL (R397). -/
def execGateCancel (n : Nat) (s : State) : Host.Outcome State Fault Refusal :=
  .next { s with dev :=
    if n < 128 then s.dev.access (Reg.GAT_CTRL n) (some (s.dev.cancelValue n)) (·.gatCtrl n (s.dev.cancelValue n)) else s.dev }

/-- GATE_DISABLE (R401). -/
def execGateDisable (n : Nat) (v : Word) (s : State) : Host.Outcome State Fault Refusal :=
  .next { s with dev := if n < 128 && F.GAT_CTRL_EN.of v = 0 then s.dev.access (Reg.GAT_CTRL n) (some v) (·.gatCtrl n v) else s.dev }

/-! ### Cycles and entries (R399, R400, R403) -/

def addNs (t : BitVec 32) (n : Nat) : BitVec 32 := t + BitVec.ofNat 32 n

/-- Entry `i` of the operational list takes force at time `t` (R403). -/
def Dev.enterEntry (d : Dev) (n i : Nat) (t : BitVec 32) : Dev :=
  let e := Map.getD (d.gate n).oper i 0
  let d := d.setFld (Reg.GAT_STATUS n) F.GAT_STATUS_GATES (geGates e)
  let d := d.setFld (Reg.GAT_STATUS n) F.GAT_STATUS_CUR_ENTRY i
  let d := d.setGate n { d.gate n with entryEnd := addNs t (geInterval e) }
  if !d.mmActive n then d
  else if geOp e = 1 then (d.setFld (Reg.GAT_STATUS n) F.GAT_STATUS_HOLD 1).count (Reg.PRT_COUNT n 21) 1
  else if geOp e = 2 then d.setFld (Reg.GAT_STATUS n) F.GAT_STATUS_HOLD 0
  else d

/-- The administrative list becomes operational (R399). -/
def Dev.gateSwap (d : Dev) (n : Nat) : Dev :=
  let g := d.gate n
  let len := d.fld (Reg.GAT_ADMIN_BASE n) F.GAT_ADMIN_BASE_LIST_LEN
  let t := d.fld (Reg.GAT_STATUS n) F.GAT_STATUS_CHANGE_TIME
  let oper := (g.admin.filter fun e => e.1 < len).foldl (fun m e => Map.put m e.1 e.2) (g.oper.filter fun e => e.1 ≥ len)
  let d := d.setReg (Reg.GAT_OPER_BASE n) (F.GAT_OPER_BASE_LIST_LEN.put (F.GAT_OPER_BASE_BASE.put 0 t) len)
  let d := d.setReg (Reg.GAT_OPER_CYCLE n) (d.reg (Reg.GAT_ADMIN_CYCLE n))
  let d := d.setGate n { g with oper := oper, ran := true, cycleStart := BitVec.ofNat 32 t, lastChange := d.free }
  let d := (d.gateUnpend n).setFld (Reg.GAT_STATUS n) F.GAT_STATUS_RUNNING 1
  let d := (d.setFld (Reg.GAT_STATUS n) F.GAT_STATUS_HOLD 0).enterEntry n 0 (BitVec.ofNat 32 t)
  (d.count (Reg.GAT_CHANGES n) 1).raise (512 + n) 0

/-- The counter has reached the change time. -/
def Dev.gateChange (d : Dev) (n : Nat) : Dev :=
  if n < 128 && d.gatePending n && atOrAfter32 (d.fld (Reg.GAT_STATUS n) F.GAT_STATUS_CHANGE_TIME) d.ns then d.gateSwap n else d

/-- GATE_CHANGE (R399). -/
def execGateChange (n : Nat) (s : State) : Host.Outcome State Fault Refusal :=
  .next { s with dev := if s.dev.up then s.dev.gateChange n else s.dev }

/-- A cycle that begins at `t` begins in time before a pending change: by EXT ns at least (R399). -/
def Dev.cycleMayBegin (d : Dev) (n : Nat) (t : Nat) : Bool :=
  !d.gatePending n ||
    (let left := ahead32 t (d.fld (Reg.GAT_STATUS n) F.GAT_STATUS_CHANGE_TIME)
     left < 2147483648 && left ≥ max 1 (d.fld (Reg.GAT_ADMIN_CYCLE n) F.GAT_ADMIN_CYCLE_EXT))

/-- The counter has reached the start of the next cycle (R400). -/
def Dev.gateCycle (d : Dev) (n : Nat) : Dev :=
  let t := addNs (d.gate n).cycleStart (d.operCycle n)
  if n < 128 && d.gateRunning n && atOrAfter32 t.toNat d.ns && d.cycleMayBegin n t.toNat then
    (d.setGate n { d.gate n with cycleStart := t }).enterEntry n 0 t
  else d

/-- GATE_CYCLE_START (R400). -/
def execGateCycleStart (n : Nat) (s : State) : Host.Outcome State Fault Refusal :=
  .next { s with dev := if s.dev.up then s.dev.gateCycle n else s.dev }

/-- The interval of the entry in force has ended within the cycle and before any change time (R399, R400). -/
def Dev.gateEntry (d : Dev) (n : Nat) : Dev :=
  let g := d.gate n
  let i := d.fld (Reg.GAT_STATUS n) F.GAT_STATUS_CUR_ENTRY + 1
  if n < 128 && d.gateRunning n && i < d.fld (Reg.GAT_OPER_BASE n) F.GAT_OPER_BASE_LIST_LEN && atOrAfter32 g.entryEnd.toNat d.ns
      && ahead32 g.cycleStart.toNat g.entryEnd.toNat < d.operCycle n then d.enterEntry n i g.entryEnd
  else d

/-- GATE_ENTRY (R403). -/
def execGateEntry (n : Nat) (s : State) : Host.Outcome State Fault Refusal :=
  .next { s with dev := if s.dev.up then s.dev.gateEntry n else s.dev }

/-! ### Oversize heads (R405) -/

/-- The longest run of segments with gate `c` open, from a run of `run` ns so far. -/
def longestRun (c : Nat) : List (Nat × Nat) → Nat → Nat
  | [], run => run
  | (l, g) :: r, run => if g.testBit c then longestRun c r (run + l) else max run (longestRun c r 0)

/-- A queue's head can never fit: its W exceeds every open run of its gate, runs that cross the end of the cycle included. W is that of R402
for a preemptable class too (log entry 24). -/
def Dev.neverFits (d : Dev) (n c len : Nat) : Bool :=
  let segs := cycleSegs geGates (d.operList n) (d.operCycle n)
  (segs.any fun x => x.1 ≠ 0 && x.2.testBit c) && (segs.any fun x => x.1 ≠ 0 && !x.2.testBit c)
    && !d.fitsIn n (frameBytes len + d.guardOf n) (longestRun c (segs ++ segs) 0)

/-- The head of queue `q` is discarded when it is oversize and a full CYCLE has passed. -/
def Dev.gateOversize (d : Dev) (q : Nat) : Dev :=
  match d.subPort (q / 8), d.queue q with
  | some n, r :: rest =>
    match r.headAt with
    | none => d
    | some t =>
      if n < 128 && d.gatesEn n && d.gateRunning n && d.neverFits n (q % 8) r.len && d.passed (max t (d.gate n).lastChange) (d.operCycle n) then
        ((((d.setQueue q rest).freeRec 0x2C r).drrClean.count (Reg.GAT_OVERSIZE n) 1)).raise (512 + n) 2
      else d
  | _, _ => d

/-- GATE_OVERSIZE (R405). -/
def execGateOversize (q : Nat) (s : State) : Host.Outcome State Fault Refusal :=
  .next { s with dev := if s.dev.running && s.dev.lineUp 80 && s.dev.lineUp 81 then s.dev.gateOversize q else s.dev }

/-! ### Phase steps (R407) -/

/-- The entry in force `o` ns into a cycle, with its start. -/
def entryAt : List Word → Nat → Nat → Nat → Nat × Nat
  | [], i, start, _ => (i - 1, start)
  | [_], i, start, _ => (i, start)
  | e :: r, i, start, o => if o < start + geInterval e then (i, start) else entryAt r (i + 1) (start + geInterval e) o

/-- Whether a hold is in force after entries 0 to `i` of a cycle. -/
def holdAfter (l : List Word) (i : Nat) (now : Nat) : Nat :=
  (l.take (i + 1)).foldl (fun h e => if geOp e = 1 then 1 else if geOp e = 2 then 0 else h) now

/-- The list of port `n` after a phase step: a pending change that the step has passed takes effect; the cycle start moves by whole cycles and
the list goes on at the entry for the new time. -/
def Dev.gateStep (d : Dev) (n : Nat) : Dev :=
  let d := d.gateChange n
  if !d.gateRunning n then d
  else
    let g := d.gate n
    let cyc := d.operCycle n
    let x := ahead32 g.cycleStart.toNat d.ns
    let start := if x < 2147483648 then addNs g.cycleStart (x / cyc * cyc)
      else g.cycleStart - BitVec.ofNat 32 ((4294967296 - x + cyc - 1) / cyc * cyc)
    let o := ahead32 start.toNat d.ns
    let l := d.operList n
    let (i, s) := entryAt l 0 0 o
    let e := Map.getD g.oper i 0
    let d := d.setFld (Reg.GAT_STATUS n) F.GAT_STATUS_GATES (geGates e)
    let d := d.setFld (Reg.GAT_STATUS n) F.GAT_STATUS_CUR_ENTRY i
    let d := d.setGate n { d.gate n with cycleStart := start, entryEnd := addNs start (s + geInterval e) }
    if d.mmActive n then
      d.setFld (Reg.GAT_STATUS n) F.GAT_STATUS_HOLD (holdAfter l i (d.fld (Reg.GAT_STATUS n) F.GAT_STATUS_HOLD))
    else d

/-- Every gate list after a phase step. -/
def Dev.gateSteps (d : Dev) : Dev := (List.range 128).foldl (fun (d : Dev) n => d.gateStep n) d

end Sys2Proof.Machine
end

