-- ==== Sys2Proof/Machine/Rewrite.lean ====
section
/-! DEFINITION. The edits of step 9 on the bytes of one copy (R257 to R262) and the one-step PTP correction (R384): pure functions of bytes.
`none` stands for a discard with EDIT_LAYER or REWRITE_BAD, as the caller says. -/

namespace Sys2Proof.Machine

/-- The packet's bytes have `n` bytes at offset `x`. -/
def hasRun (bs : List Byte) (x n : Nat) : Bool := x + n ≤ bs.length

/-- Removes `n` bytes at offset `x`. -/
def cutAt (bs : List Byte) (x n : Nat) : List Byte := bs.take x ++ bs.drop (x + n)

/-- Inserts bytes at offset `x`. -/
def insAt (bs : List Byte) (x : Nat) (new : List Byte) : List Byte := bs.take x ++ new ++ bs.drop x

/-- Writes a 16-bit number in network order. -/
def put16 (bs : List Byte) (x v : Nat) : List Byte := overlay bs x (beBytes 2 (v % 65536))

/-- One's complement addition of 16-bit words. -/
def ocAdd (a b : Nat) : Nat := let s := a + b; s % 65536 + s / 65536

/-- RFC 1624 equation 3: a checksum after the word `m` became `m'`. -/
def ckUpdate (hc m m' : Nat) : Nat := 65535 - ocAdd (ocAdd (65535 - hc) (65535 - m)) m'

/-- Changes the byte at `x` of the IPv4 header at `o` and its checksum. -/
def ip4Set (bs : List Byte) (o x v : Nat) : List Byte :=
  let w := o + 2 * ((x - o) / 2)
  let m := be16 bs w
  let bs' := overlay bs x [BitVec.ofNat 8 v]
  put16 bs' (o + 10) (ckUpdate (be16 bs (o + 10)) m (be16 bs' w))

/-- The version nibble at `o`. -/
def ipVer (bs : List Byte) (o : Nat) : Nat := byteAt bs o / 16

/-- The two bytes before `o` read an MPLS EtherType. -/
def mplsBefore (bs : List Byte) (o : Nat) : Bool := o ≥ 2 && (be16 bs (o - 2) = 0x8847 || be16 bs (o - 2) = 0x8848)

/-- Writes `f ttl` into the TTL or hop limit of the IP header at `o`; no IP header there, no change (R260). -/
def ipTtl (bs : List Byte) (o : Nat) (f : Nat → Nat) : Option (List Byte) :=
  if !hasRun bs o 1 then none
  else if ipVer bs o = 4 then if hasRun bs o 12 then some (ip4Set bs o (o + 8) (f (byteAt bs (o + 8)))) else none
  else if ipVer bs o = 6 then if hasRun bs o 8 then some (overlay bs (o + 7) [BitVec.ofNat 8 (f (byteAt bs (o + 7)))]) else none
  else some bs

/-- SET_DSCP on the IP header at `o` (R260). -/
def ipDscp (bs : List Byte) (o dscp : Nat) : Option (List Byte) :=
  if !hasRun bs o 1 then none
  else if ipVer bs o = 4 then
    if hasRun bs o 12 then some (ip4Set bs o (o + 1) (4 * dscp + byteAt bs (o + 1) % 4)) else none
  else if ipVer bs o = 6 then
    if hasRun bs o 2 then
      let tc := 4 * dscp + (byteAt bs (o + 1) / 16) % 4
      some (overlay bs o [BitVec.ofNat 8 (96 + tc / 16), BitVec.ofNat 8 ((tc % 16) * 16 + byteAt bs (o + 1) % 16)])
    else none
  else some bs

/-- A label entry. -/
def labelEntry (lbl exp s ttl : Nat) : List Byte := beBytes 4 (lbl * 4096 + exp * 512 + s * 256 + ttl)

/-- A frame under edit with the offsets that move with it: EDIT_OFS, STRIP_START, STRIP_END. -/
structure EditF where
  bs : List Byte
  o : Nat
  s0 : Nat
  s1 : Nat
  label : Bool          -- a label stands at EDIT_OFS after the label operation
  deriving DecidableEq, Repr

/-- The offset `x` of a layer after `n` bytes at `o` were removed. -/
def offCut (x o n : Nat) : Nat := if x > o then max o (x - n) else x

/-- Step 1: the label operation at EDIT_OFS (R260). -/
def editLabel (p : Pkt) (e : EditF) : Option EditF :=
  let op := p.get C.MPLS_OP
  let exp := p.get C.EXP
  if op = 1 ∨ op = 5 then
    if hasRun e.bs e.o 4 then
      let ttl := byteAt e.bs (e.o + 3)
      let ttl := if p.flag C.DEC_TTL then ttl - 1 else ttl
      some { e with bs := overlay e.bs e.o (labelEntry (p.get C.LABEL_A) exp (byteAt e.bs (e.o + 2) % 2) ttl), label := true }
    else none
  else if op = 2 then
    if hasRun e.bs e.o 4 then
      let s := byteAt e.bs (e.o + 2) % 2
      let ttl := byteAt e.bs (e.o + 3) - 1
      let bs := cutAt e.bs e.o 4
      let bs := if s = 1 then (if e.o ≥ 2 then some (put16 bs (e.o - 2) (p.get C.NEW_ETYPE)) else none) else some bs
      let bs := bs.bind fun bs =>
        if p.flag C.DEC_TTL then
          if s = 0 then (if hasRun bs e.o 4 then some (overlay bs (e.o + 3) [BitVec.ofNat 8 ttl]) else none)
          else ipTtl bs e.o fun _ => ttl
        else some bs
      bs.map fun bs => { e with bs := bs, s0 := offCut e.s0 e.o 4, s1 := offCut e.s1 e.o 4, label := s = 0 }
    else none
  else some { e with label := mplsBefore e.bs e.o }

/-- Step 1: DEC_TTL without a label operation, and SET_DSCP (R260). -/
def editIp (p : Pkt) (e : EditF) : Option EditF :=
  let bs := if p.flag C.DEC_TTL && !labelTtl (p.get C.MPLS_OP) then ipTtl e.bs e.o (· - 1) else some e.bs
  let bs := bs.bind fun bs =>
    if p.flag C.SET_DSCP && !e.label then ipDscp bs e.o (p.get C.DSCP) else some bs
  bs.map fun bs => { e with bs := bs }

/-- The TTL of a pushed label (R260). -/
def pushTtl (p : Pkt) (e : EditF) : Option Nat :=
  if p.flag C.TTL_255 then some 255
  else if mplsBefore e.bs e.o then (if hasRun e.bs e.o 4 then some (byteAt e.bs (e.o + 3)) else none)
  else if !hasRun e.bs e.o 1 then none
  else if ipVer e.bs e.o = 4 then (if hasRun e.bs e.o 9 then some (byteAt e.bs (e.o + 8)) else none)
  else if ipVer e.bs e.o = 6 then (if hasRun e.bs e.o 8 then some (byteAt e.bs (e.o + 7)) else none)
  else some 255

/-- Step 2: pushes (R260). -/
def editPush (p : Pkt) (e : EditF) : Option EditF :=
  let op := p.get C.MPLS_OP
  if op = 3 ∨ op = 4 ∨ op = 5 then
    match pushTtl p e with
    | none => none
    | some ttl =>
      if e.o < 2 ∨ e.bs.length < e.o then none
      else
        let s := if mplsBefore e.bs e.o then 0 else 1
        let exp := p.get C.EXP
        let a := p.get C.LABEL_A
        let b := p.get C.LABEL_B
        let new := if op = 3 then labelEntry a exp s ttl
          else if op = 4 then labelEntry b exp 0 ttl ++ labelEntry a exp s ttl
          else labelEntry b exp s ttl
        let mv := fun x => if x ≥ e.o then x + new.length else x
        some { e with bs := put16 (insAt e.bs e.o new) (e.o - 2) 0x8847, o := mv e.o, s0 := mv e.s0, s1 := mv e.s1 }
  else some e

/-- Step 3: STRIP (R260). -/
def editStrip (p : Pkt) (e : EditF) : Option (List Byte) :=
  let mode := p.get C.STRIP_MODE
  if mode = 1 then (if e.s1 ≤ e.bs.length then some (e.bs.drop e.s1) else none)
  else if mode = 2 then
    if e.s1 ≤ e.bs.length ∧ e.s0 ≥ 2 then some (put16 (cutAt e.bs e.s0 (e.s1 - e.s0)) (e.s0 - 2) (p.get C.NEW_ETYPE)) else none
  else some e.bs

/-- A VLAN tag stands behind the MAC addresses. -/
def hasTag (bs : List Byte) : Bool := hasRun bs 12 2 && (be16 bs 12 = 0x8100 || be16 bs 12 = 0x88A8)

/-- Step 4: VLAN_POP; a tag that the frame does not hold whole cannot be removed (R260). -/
def popTags : Nat → List Byte → Option (List Byte)
  | 0, bs => some bs
  | n + 1, bs =>
    if !hasTag bs then popTags n bs
    else if hasRun bs 12 4 then popTags n (cutAt bs 12 4)
    else none

/-- Steps 1 to 4 on a packet's bytes; none for EDIT_LAYER (R260). -/
def ingressEdits (p : Pkt) : Option (List Byte) :=
  let e : EditF := ⟨p.bytes, p.get C.EDIT_OFS, p.get C.STRIP_START, p.get C.STRIP_END, false⟩
  let used := p.flag C.DEC_TTL || p.flag C.SET_DSCP || p.flag C.MPLS_OP
  let e := if used then ((editLabel p e).bind (editIp p)).bind (editPush p) else some e
  (e.bind (editStrip p)).bind (popTags (p.get C.VLAN_POP))

/-! ### The egress entry (R258, R259, R261) -/

/-- A field of an egress entry's result word. -/
def egFld (ws : List Word) (lo w : Nat) : Nat := Fld.of ⟨lo, w⟩ (wordAt ws (ws.length - 1))

/-- The data bytes of an entry. -/
def egData (ws : List Word) : List Byte := wordsBytes (ws.take (ws.length - 1))

/-- FORM 0 edits; none for REWRITE_BAD (R258, R259, R260). -/
def form0 (ws : List Word) (bs : List Byte) : Option (List Byte) :=
  let data := egData ws
  let vop := egFld ws 16 2
  let dm := egFld ws 18 1 = 1
  let sm := egFld ws 19 1 = 1
  let tci := be16 data 12
  if (dm && data.length < 6) || (sm && data.length < 12) || ((vop = 1 || vop = 2) && data.length < 14) then none
  else if (dm && bs.length < 6) || (sm && bs.length < 12) || (vop = 2 && bs.length < 12) then none
  else if (vop = 1 || vop = 3) && hasTag bs && !hasRun bs 12 4 then none
  else
    let bs := if vop = 1 then (if hasTag bs then put16 bs 14 ((be16 bs 14 / 4096) * 4096 + tci % 4096) else bs)
      else if vop = 2 then insAt bs 12 (beBytes 2 0x8100 ++ beBytes 2 tci)
      else if vop = 3 then (if hasTag bs then cutAt bs 12 4 else bs)
      else bs
    let bs := if dm then overlay bs 0 (slice data 0 6) else bs
    some (if sm then overlay bs 6 (slice data 6 6) else bs)

/-- The template bytes of an entry by its own TPL_HALF, none when the entry lacks them (R259). -/
def tplOf (ws : List Word) : Option (List Byte) :=
  let n := 2 * egFld ws 24 6
  if n ≤ (egData ws).length then some ((egData ws).take n) else none

/-- The one's complement sum of 16-bit words in network order. -/
def ocSum (bs : List Byte) (x : Nat) : Nat → Nat
  | 0 => 0
  | n + 1 => ocAdd (be16 bs x) (ocSum bs (x + 2) n)

/-- IPV4_FIX at `o` (R261). -/
def fixIp4 (bs : List Byte) (o : Nat) : List Byte :=
  let bs := put16 (put16 bs (o + 2) (bs.length - o)) (o + 10) 0
  put16 bs (o + 10) (65535 - ocSum bs o 10)

/-- UDP_FIX at `o` (R261). -/
def fixUdp (bs : List Byte) (o hash : Nat) : List Byte :=
  put16 (put16 (put16 bs (o + 4) (bs.length - o)) (o + 6) 0) o (0xC000 + hash % 16384)

/-- The template `tpl` of first entry `ws` prepended and fixed up; none for REWRITE_BAD (R259, R261). -/
def form1 (ws : List Word) (tpl : List Byte) (hash : Nat) (bs : List Byte) : Option (List Byte) :=
  let ipo := egFld ws 30 7
  let l4 := egFld ws 37 7
  let f4 := egFld ws 20 1 = 1
  let f6 := egFld ws 21 1 = 1
  let fu := egFld ws 22 1 = 1
  if tpl.length > 112 || (f4 && (ipo + 20 > tpl.length || byteAt tpl ipo % 16 != 5)) || (f6 && ipo + 40 > tpl.length)
      || (fu && l4 + 8 > tpl.length) then none
  else
    let bs := tpl ++ bs
    let bs := if f4 then fixIp4 bs ipo else bs
    let bs := if f6 then put16 bs (ipo + 4) (bs.length - ipo - 40) else bs
    some (if fu then fixUdp bs l4 hash else bs)

/-! ### One-step correction (R384) -/

/-- The offset behind up to two VLAN tags, from the first EtherType on. -/
def skipTags (bs : List Byte) (x : Nat) : Nat → Nat
  | 0 => x
  | n + 1 => if hasRun bs x 2 && (be16 bs x = 0x8100 || be16 bs x = 0x88A8) then skipTags bs (x + 4) n else x

/-- Where the PTP header lies, and the offset of the UDP checksum over it. -/
def ptpAt (bs : List Byte) : Option (Nat × Option Nat) :=
  let x := skipTags bs 12 2
  let et := be16 bs x
  let ip := x + 2
  let cand :=
    if !hasRun bs x 2 then none
    else if et = 0x88F7 then some (ip, none)
    else if et = 0x0800 && hasRun bs ip 28 && byteAt bs ip % 16 = 5 && byteAt bs (ip + 9) = 17 && be16 bs (ip + 6) % 16384 = 0
        && be16 bs (ip + 22) = 319 then some (ip + 28, some (ip + 26))
    else if et = 0x86DD && hasRun bs ip 48 && byteAt bs (ip + 6) = 17 && be16 bs (ip + 42) = 319 then some (ip + 48, some (ip + 46))
    else none
  match cand with
  | none => none
  | some (h, u) =>
    if hasRun bs h 16 && byteAt bs (h + 1) % 16 = 2 && byteAt bs h % 16 ≤ 3 then some (h, u) else none

/-- Adds `res` to correctionField at `f`, and updates a nonzero UDP checksum (R384). -/
def correctAt (bs : List Byte) (f : Nat) (udp : Option Nat) (res : BitVec 64) : List Byte :=
  let old := slice bs f 8
  let new := beBytes 8 (BitVec.ofNat 64 (beNat old) + res).toNat
  let bs' := overlay bs f new
  match udp with
  | none => bs'
  | some u =>
    let hc := be16 bs u
    if hc = 0 then bs'
    else put16 bs' u ((List.range 4).foldl (fun hc k => ckUpdate hc (be16 old (2 * k)) (be16 new (2 * k))) hc)

/-- The residence time of R384 in 2^-16 ns, from transmit time `tx` (ns and 1/256 ns), receive time and the port's addend. -/
def residence (txNs txFrac rxNs rxFrac add : Nat) : BitVec 64 :=
  let dn := ahead32 rxNs txNs
  BitVec.ofNat 64 (dn * 65536) + (BitVec.ofNat 64 (txFrac * 256) - BitVec.ofNat 64 (rxFrac * 256)) + sext64 add 32

end Sys2Proof.Machine
end

