-- ==== Sys2Proof/Machine/Scheduler.lean ====
section
/-! DEFINITION. The scheduler (R343, R352 to R359) and its flush (R361): eligibility, the pick, stale age, and the dequeue into a context
of the egress reserve (R47, R131, R316, R323).
Readings of the manual that it takes are DEDUCED, in log entry 21. -/

namespace Sys2Proof.Machine

/-! ### Nodes (R355, R356) -/

/-- Key of a node in `Dev.drr`: kind 0 queue, 1 subscriber, 2 group, 3 port. -/
def drrKey (kind i : Nat) : Nat := 262144 * kind + i

def Dev.drrOf (d : Dev) (kind i : Nat) : Drr := Map.getD d.drr (drrKey kind i) ⟨none, 0⟩
def Dev.setDrr (d : Dev) (kind i : Nat) (x : Drr) : Dev := { d with drr := Map.put d.drr (drrKey kind i) x }

/-- Child 0 of a node: the lowest child that QUEUE_SHAPE gives it. -/
def Dev.firstChild (d : Dev) (kind i : Nat) : Nat :=
  if kind = 3 then
    ((List.range 2048).find? fun g => d.groupPort g == some i).getD 0
  else if kind = 2 then
    ((List.range 16384).find? fun s =>
      d.bit (Reg.SCH_SUB s) F.SCH_SUB_VALID && d.fld (Reg.SCH_SUB s) F.SCH_SUB_PARENT == i).getD 0
  else 8 * i

/-- WEIGHT of a node, 1 to 255. -/
def Dev.weight (d : Dev) (kind i : Nat) : Nat :=
  max 1 (if kind = 2 then d.fld (Reg.SCH_GROUP i) F.SCH_GROUP_WEIGHT
    else if kind = 1 then d.fld (Reg.SCH_SUB i) F.SCH_SUB_WEIGHT
    else d.fld (Reg.SCH_QCFG i) F.SCH_QCFG_WEIGHT)

/-- The loop of dwrr (R356) over eligible children `l` of kind `kind`. The fuel covers every deficit that a record can leave. -/
def Dev.dwrrLoop (d : Dev) (kind : Nat) (l : List Nat) (c : Nat) : Nat → Nat × Dev
  | 0 => (c, d)
  | fuel + 1 =>
    if c ∈ l ∧ (d.drrOf kind c).dc > 0 then (c, d)
    else
      let c := nextIn l c
      let x := d.drrOf kind c
      (d.setDrr kind c { x with dc := x.dc + ((256 * d.weight kind c : Nat) : Int) }).dwrrLoop kind l c fuel

/-- dwrr(n, C) of R356 for node `i` of kind `kind`, whose children have kind `kind − 1`. -/
def Dev.dwrr (d : Dev) (kind i : Nat) (l : List Nat) : Nat × Dev :=
  let x := d.drrOf kind i
  let (c, d) := d.dwrrLoop (kind - 1) l (x.ptr.getD (d.firstChild kind i)) (80 * (l.length + 1))
  (c, d.setDrr kind i { d.drrOf kind i with ptr := some c })

/-- Bytes of the frames of one kind, preemptable or express, that the transmit rim of port `n` holds or is to take. -/
def Dev.rimLoad (d : Dev) (n : Nat) (pre : Bool) : Nat :=
  sumBy (fun e : Nat × Pkt =>
    if (e.2.stage == .egress n || e.2.stage == .txRim n || e.2.stage == .preempted n) && d.preemptable n (e.2.queue % 8) == pre then
      e.2.bytes.length + 4
    else 0) d.pkts

/-- The transmit rim can take the frame (R32, R355): a rim without a frame of its kind can; how much more it holds the manual does not
state (log entry 21). -/
def Dev.rimTakes (d : Dev) (n q : Nat) (r : Rec) : Bool :=
  let load := d.rimLoad n (d.preemptable n (q % 8))
  load = 0 || Config.freeOf 7 [n, load, r.len] % 2 = 1

/-- Queue `q` of port `n` is eligible (R355); `pre` asks for preemptable or for express queues only (R404). -/
def Dev.queueElig (d : Dev) (n : Nat) (pre : Option Bool) (q : Nat) : Bool :=
  match d.queue q with
  | [] => false
  | r :: _ =>
    d.subPort (q / 8) == some n && d.conforming 0 q && d.conforming 1 (q / 8)
      && d.conforming 2 (d.fld (Reg.SCH_SUB (q / 8)) F.SCH_SUB_PARENT)
      && (n ≥ 128 || d.mayStart n (q % 8) r.len)
      && (n ≥ 130 || d.rimTakes n q r)
      && (match pre with
          | some b => d.preemptable n (q % 8) == b
          | none => true)

/-- The eligible queues of a port; on a port with active preemption the express ones first (R404). -/
def Dev.eligQueues (d : Dev) (n : Nat) : List Nat :=
  let all := d.queues.map (·.1)
  if d.mmActive n then
    match all.filter (d.queueElig n (some false)) with
    | [] => all.filter (d.queueElig n (some true))
    | l => l
  else all.filter (d.queueElig n none)

/-- A packet the delivery stage of port 130 holds, or that is on its way to it (R503). -/
def inDelivery (p : Pkt) : Bool :=
  match p.stage with
  | .egress n => n == 130
  | .hostWait => true
  | .delivery _ => true
  | .assigned _ _ => true
  | .delivered _ _ => true
  | _ => false

/-- The port itself may send (R355). -/
def Dev.portElig (d : Dev) (n : Nat) : Bool :=
  d.conforming 3 n &&
    (if n < 130 then d.portUp n
     else if n = 130 then (d.pkts.filter fun e => inDelivery e.2).length < 512
     else n = 131 && d.recircAt ≤ 150 * d.free)

/-- What pick returns: group, subscriber and queue, and whether the queue was strict. -/
structure Pick where
  group : Nat
  sub : Nat
  queue : Nat
  strict : Bool
  deriving DecidableEq, Repr

/-- pick(P) over the eligible queues `l`, which are not empty (R356). -/
def Dev.pickFrom (d : Dev) (n : Nat) (l : List Nat) : Pick × Dev :=
  let par := fun q => d.fld (Reg.SCH_SUB (q / 8)) F.SCH_SUB_PARENT
  let (g, d) := d.dwrr 3 n (l.map par).eraseDups
  let inG := l.filter fun q => par q == g
  let (s, d) := d.dwrr 2 g (inG.map (· / 8)).eraseDups
  let inS := inG.filter fun q => q / 8 == s
  let strict := inS.filter fun q => d.bit (Reg.SCH_QCFG q) F.SCH_QCFG_STRICT
  match strict.max? with
  | some q => (⟨g, s, q, true⟩, d)
  | none =>
    let (q, d) := d.dwrr 1 s inS
    (⟨g, s, q, false⟩, d)

/-- Subtracts the byte cost from a node's deficit. -/
def Dev.payDrr (d : Dev) (kind i b : Nat) : Dev :=
  let x := d.drrOf kind i
  d.setDrr kind i { x with dc := x.dc - (b : Int) }

/-- OVERHEAD of a port, signed (R353). -/
def Dev.overhead (d : Dev) (n : Nat) : Int :=
  let x := d.fld (Reg.SCH_PORT n) F.SCH_PORT_OVERHEAD
  if x ≥ 128 then (x : Int) - 256 else (x : Int)

/-- B of R353. -/
def Dev.byteCost (d : Dev) (n len : Nat) : Nat := (max 1 ((len : Int) + 4 + d.overhead n)).toNat

/-- The head record is stale (R131). -/
def Dev.stale (d : Dev) (n q : Nat) (r : Rec) : Bool :=
  let age := Fld.of ⟨16 * d.fld (Reg.SCH_QCFG q) F.SCH_QCFG_STALE, 16⟩ (d.reg (Reg.PRT_STALE n))
  age != 0 && ahead32 (ctxGet r.words C.RX_TS_NS) d.ns > 1000 * age

/-- The egress pipe of a record for port `n` (R34, R36). -/
def egressPipe (n : Nat) (r : Rec) : Nat := if n < 130 then pipeOfPort n else ctxGet r.words C.IN_PIPE

/-- The egress reserve of pipe `e` has a free context (R41), and the pipe is not restarting. -/
def Dev.reserveFree (d : Dev) (e : Nat) : Bool :=
  d.lineUp (8 + e) && (d.pkts.filter fun x => x.2.egressPool && x.2.epipe == e).length < 1024

/-- Charges of a dequeued record (R353, R356). -/
def Dev.chargeDequeue (d : Dev) (n : Nat) (k : Pick) (b pj : Nat) : Dev :=
  let d := (((d.chargeShaper 0 k.queue b pj).chargeShaper 1 k.sub b pj).chargeShaper 2 k.group b pj).chargeShaper 3 n b pj
  let d := (d.payDrr 2 k.group b).payDrr 1 k.sub b
  let d := if k.strict then d else d.payDrr 0 k.queue b
  ((d.count (Reg.SCH_COUNT 0) 1).count (Reg.SCH_COUNT 1) b).count (Reg.SCH_COUNT 2) pj

/-- The packet that a record becomes at dequeue (R47). -/
def Rec.toPkt (r : Rec) (n : Nat) (bytes : List Byte) (seq : Nat) (spill : Option SpillRead) : Pkt :=
  { pid := r.pid, fromHost := false, fromEngine := false, egressPool := true, epipe := egressPipe n r, words := r.words
    bytes := bytes.take r.len, stage := .egress n, next := 0, counts := [], seq := seq, reads := [], flight := r.flight, dram := none, ecc := false
    group := none, pin := none, sub := none, tsFixed := false, recCell := r.cells, recOwn := r.own, recSpill := r.spill, spill := spill
    data := r.data, queue := r.queue, sent := 0, txStart := 0 }

/-- What the cells of the record show (R316): the reason of a discard, and the state with the faults noted. -/
def Dev.readCells (d : Dev) (id : Nat) (err : CellErr) : Dev × Option Nat :=
  match Map.find d.data id with
  | none => (d, none)
  | some x =>
    if err = .uncorr ∨ x.poison then
      let d := { d with data := Map.put d.data id { x with poison := true } }
      (((d.count (Reg.BUF_COUNT 12) 1).raise 6 4).report 80 2 false, some 0x3F)
    else if err = .corr then (d.report 80 1 false, none)
    else (d, none)

/-- The DRAM reads of a spilled packet of `len` bytes (R323). Cells that the spill writer still holds are written first. -/
def Dev.spillReads (d : Dev) (id len : Nat) : Dev × Option SpillRead :=
  let as := match Map.find d.data id with
    | some x => x.spillAt.take (dataCells len - 1)
    | none => []
  if as.isEmpty then (d, none)
  else
    let mine := d.spillQ.filter fun e => as.contains e.1
    let d := { d with spillQ := d.spillQ.filter fun e => !as.contains e.1 }
    let d := mine.foldl (fun (d : Dev) e => d.dramWrite 1 e.1 e.2 0) d
    let (t, d) := d.newTag
    (as.foldl (fun (d : Dev) a => d.dramRead 1 a 256 t) d, some ⟨t, len, as⟩)

/-- Takes the record off its queue, charges it and moves it to a context, or discards it on a cell error. -/
def Dev.takeRec (d : Dev) (n : Nat) (k : Pick) (r : Rec) (rest : List Rec) (err : CellErr) : Dev :=
  let b := d.byteCost n r.len
  let d := (d.setQueue k.queue rest).chargeDequeue n k b (ctxGet r.words C.ENERGY)
  let d := if n = 131 then { d with recircAt := max d.recircAt (150 * d.free) + r.len } else d
  let d := d.drrClean
  let (d, bad) := d.readCells r.data err
  match bad with
  | some why => d.freeRec why r
  | none =>
    let bytes := match Map.find d.data r.data with
      | some x => x.bytes
      | none => []
    let (d, sp) := d.spillReads r.data r.len
    let (t, d) := d.newTag
    let p := (r.toPkt n bytes t sp).pass 10
    let p := if p.get C.SPILLED = 1 then p.pass 9 else p
    let p := if d.gatesEn n then p.pass 11 else p
    let (c, d) := d.newCtx
    d.setPkt c p

/-- DEQUEUE for port `n`: stale heads are discarded, each with a new pick, until a record leaves (R357). -/
def Dev.dequeue (d : Dev) (n : Nat) (err : CellErr) : Nat → Dev
  | 0 => d
  | fuel + 1 =>
    match d.eligQueues n with
    | [] => d
    | l =>
      let (k, d') := d.pickFrom n l
      match d'.queue k.queue with
      | [] => d
      | r :: rest =>
        if d'.stale n k.queue r then
          (((d.setQueue k.queue rest).freeRec 0 r).drrClean.count (Reg.PRT_COUNT n 24) 1).dequeue n err fuel
        else if d'.reserveFree (egressPipe n r) then d'.takeRec n k r rest err
        else d

/-- The shapers that a pick for port `n` uses, by their keys in `Dev.buckets`: the port's, and those of its queues with records, their
subscribers and groups. -/
def Dev.usedShapers (d : Dev) (n : Nat) : List Nat :=
  bucketKey 3 n :: ((d.queues.map (·.1)).filter fun q => d.subPort (q / 8) == some n).flatMap fun q =>
    [bucketKey 0 q, bucketKey 1 (q / 8), bucketKey 2 (d.fld (Reg.SCH_SUB (q / 8)) F.SCH_SUB_PARENT)]

/-- Each bucket that the pick uses is refilled (R350). -/
def Dev.refillUsed (d : Dev) (n : Nat) : Dev :=
  let l := d.usedShapers n
  { d with buckets := d.buckets.map fun (e : Nat × Bucket) =>
      if l.contains e.1 then (e.1, ⟨d.levelNow (e.1 / 262144) (e.1 % 262144), d.free⟩) else e }

/-- DEQUEUE in RUN: the buckets are refilled, and an eligible port picks. -/
def Dev.dequeueStep (d : Dev) (n : Nat) (err : CellErr) : Dev :=
  let d := d.refillUsed n
  if d.portElig n then d.dequeue n err (d.recs.length + 1) else d

/-- DEQUEUE (R356). -/
def execDequeue (port : Nat) (err : CellErr) (s : State) : Host.Outcome State Fault Refusal :=
  .next { s with dev := if s.dev.running && s.dev.lineUp 80 && s.dev.lineUp 81 then s.dev.dequeueStep port err else s.dev }

/-! ### SCH_FLUSH (R361) -/

/-- Flushes the queue that a write of SCH_FLUSH names. While GO reads 1 the write is ignored under WS. -/
def Dev.schFlush (d : Dev) (v : Word) : Dev :=
  if d.bit Reg.SCH_FLUSH F.SCH_FLUSH_GO then d
  else
    let q := F.SCH_FLUSH_QUEUE.of v
    let d := d.setFld Reg.SCH_FLUSH F.SCH_FLUSH_QUEUE q
    if F.SCH_FLUSH_GO.of v = 1 then
      let (d, n) := d.removeRecs 0x16 fun r => r.queue == q
      (d.count (Reg.SCH_COUNT 6) n).setFld Reg.SCH_FLUSH F.SCH_FLUSH_GO 1
    else d

/-- SCH_FLUSH (R361). -/
def execSchFlush (v : Word) (s : State) : Host.Outcome State Fault Refusal :=
  .next { s with dev := s.dev.access Reg.SCH_FLUSH (some v) (·.schFlush v) }

/-- The flush ends: GO reads 0 and FLUSH_DONE is raised. -/
def Dev.flushDone (d : Dev) : Dev :=
  if d.bit Reg.SCH_FLUSH F.SCH_FLUSH_GO then (d.setFld Reg.SCH_FLUSH F.SCH_FLUSH_GO 0).raise 7 2 else d

/-- FLUSH_DONE (R361). -/
def execFlushDone (s : State) : Host.Outcome State Fault Refusal :=
  .next { s with dev := if s.dev.running && s.dev.lineUp 81 then s.dev.flushDone else s.dev }

end Sys2Proof.Machine
end

