-- ==== Sys2Proof/Machine/Egress.lean ====
section
/-! DEFINITION. Steps 9 and 10 of the path (R257 to R262, R32, R123, R125, R382 to R385, R403): the egress rewrite, the transmit rim,
and the recirculation return (R161).
Readings of the manual that it takes are DEDUCED, in log entries 22, 24. -/

namespace Sys2Proof.Machine

/-- Frees a dequeued packet with its record (R315). -/
def Dev.freePkt (d : Dev) (c : Nat) (p : Pkt) : Dev := (d.dropRef p.data).dropPkt c

/-- Discards a dequeued packet with a REASON, 0 for none (R45). -/
def Dev.losePkt (d : Dev) (c : Nat) (p : Pkt) (why : Nat) : Dev := (d.noteDiscard p.pid why).freePkt c p

/-- Why the egress pipe discards a copy. -/
inductive EgDrop where
  | editLayer | miss | bad | tooLong | ecc
  deriving DecidableEq, Repr

/-- The REASON of an egress discard (R210, R269). -/
def EgDrop.reason : EgDrop → Nat
  | .editLayer => 0x21
  | .miss => 0x25
  | .bad => 0x26
  | .tooLong => 0x27
  | .ecc => 0x18

/-- Counts and events of an egress discard (R258, R259, R260, R262, R207). -/
def Dev.egCount (d : Dev) : EgDrop → Dev
  | .editLayer => d.count (Reg.ACT_COUNT 2) 1
  | .miss => (d.count (Reg.ACT_COUNT 7) 1).raise 4 2
  | .bad => (d.count (Reg.ACT_COUNT 7) 1).raise 4 3
  | .tooLong => (d.count (Reg.ACT_COUNT 8) 1).raise 4 4
  | .ecc => d.count (Reg.TBL_COUNT 10) 1

/-- Reads place `pl` of EGR_TABLE `t` (R258): its image, or the discard. -/
def Dev.egRead (d : Dev) (t : Nat) (b : List Byte) (pl : Nat) (err : ReadErr) : Dev × Except EgDrop (List Word) :=
  if pl ≥ tmPlaces b then (d, .error .miss)
  else
    let m := d.tbl t
    let bad := match err with | .uncorr _ => true | _ => false
    if bad || m.poisoned pl then
      (d.badRead t b pl err, .error .ecc)
    else
      let d := match err with | .corr w => d.tileCorr t b pl w | _ => d
      let ws := m.image pl (tmW b)
      if rwValid (wordAt ws (tmW b - 1)) then (d, .ok ws) else (d, .error .miss)

/-- The egress entry of the packet's REWRITE_PTR applied to the bytes; `err` and `err2` are what the reads of it and of its NEXT met (R258,
R259). -/
def Dev.egEntry (d : Dev) (p : Pkt) (bs : List Byte) (err err2 : ReadErr) : Dev × Except EgDrop (List Byte) :=
  let lay := d.secOr0 (p.get C.G) T.REWRITE_LAYOUT 0
  let t := bodyFld lay 0 0 8
  match (if bodyFld lay 0 8 1 = 1 then d.tblIn (p.get C.G) t else .none) with
  | .tile b =>
    let (d, r) := d.egRead t b (p.get C.REWRITE_PTR) err
    match r with
    | .error e => (d, .error e)
    | .ok ws =>
      if egFld ws 23 1 = 0 then (d, match form0 ws bs with | some x => .ok x | none => .error .bad)
      else
        match tplOf ws with
        | none => (d, .error .bad)
        | some t1 =>
          let next := egFld ws 44 20
          let (d, r2) := if next = 0 then (d, .ok []) else d.egRead t b next err2
          match r2 with
          | .error e => (d, .error e)
          | .ok ws2 =>
            let t2 := if next = 0 then some [] else if egFld ws2 44 20 ≠ 0 then none else tplOf ws2
            match t2 with
            | none => (d, .error .bad)
            | some t2 => (d, match form1 ws (t1 ++ t2) (p.get C.HASH) bs with | some x => .ok x | none => .error .bad)
  | _ => (d, .error .miss)

/-- A frame's length on the wire, FCS and padding included (R262). -/
def wireLen (bs : List Byte) : Nat := max 64 (bs.length + 4)

/-- The frame is longer than its port takes (R262). -/
def Dev.tooLong (d : Dev) (n : Nat) (bs : List Byte) : Bool :=
  if n < 130 then wireLen bs > F.PRT_MODE_MAX_FRAME.of (d.modeOf n) else n = 131 && wireLen bs > 16383

/-- Where the packet goes after step 9. -/
def afterEgress (n : Nat) : Stage := if n < 130 then .txRim n else if n = 130 then .hostWait else .recirc

/-- The table of the late-bound entry (R260). -/
def Dev.egTable (d : Dev) (p : Pkt) : Nat := bodyFld (d.secOr0 (p.get C.G) T.REWRITE_LAYOUT 0) 0 0 8

/-- The tables the packet has read, its egress entry's among them (R203). -/
def Dev.egFlight (d : Dev) (p : Pkt) : List Nat :=
  let lay := d.secOr0 (p.get C.G) T.REWRITE_LAYOUT 0
  let t := d.egTable p
  if p.flag C.REWRITE_PTR && bodyFld lay 0 8 1 = 1 && !p.flight.contains t then p.flight ++ [t] else p.flight

/-- A frame padded with zero bytes to 64 bytes with its FCS (R262). -/
def padFrame (bs : List Byte) : List Byte := slice bs 0 (max 60 bs.length)

/-- The egress pipe discards the packet. -/
def Dev.egLose (d : Dev) (c : Nat) (p : Pkt) (e : EgDrop) : Dev := (d.egCount e).losePkt c p e.reason

/-- EGRESS_REWRITE for the packet on its way to port `n` (R260); a frame that reaches the rim of a port that is down is discarded (R125). -/
def Dev.egressPkt (d : Dev) (c n : Nat) (err err2 : ReadErr) (p : Pkt) : Dev :=
  match ingressEdits p with
  | none => d.egLose c p .editLayer
  | some bs =>
    let ptr := p.get C.REWRITE_PTR
    let (d, r) := if ptr = 0 then (d, .ok bs) else d.egEntry p bs err err2
    match r with
    | .error e => d.egLose c p e
    | .ok bs =>
      let bs := padFrame bs
      if d.tooLong n bs then d.egLose c p .tooLong
      else if !d.portUp n then (d.count (Reg.PRT_COUNT n 13) 1).losePkt c p 0
      else
        let p := if ptr ≠ 0 then p.pass 12 else p
        let p := if p.flag C.MPLS_OP || p.flag C.STRIP_MODE || p.flag C.VLAN_POP then p.pass 13 else p
        let d := if n < 130 then d else (d.count (Reg.PRT_COUNT n 9) 1).count (Reg.PRT_COUNT n 10) bs.length
        d.setPkt c { p with bytes := bs, stage := afterEgress n, flight := d.egFlight p }

/-- The packet has been dequeued and waits for its egress rewrite. -/
def Pkt.atEgress (p : Pkt) : Bool := match p.stage with | .egress _ => true | _ => false

/-- The packet with its spilled cells once they have all been read (R323): none while it waits; the flag says that a read was
uncorrectable. -/
def Dev.spillTake (d : Dev) (p : Pkt) : Option (Dev × Pkt × Bool) :=
  match p.spill with
  | none => some (d, p, false)
  | some s =>
    if d.dramWaits s.tag then none
    else
      let l := d.answersOf s.tag
      let bs := p.bytes.take 144 ++ s.addrs.flatMap fun a => answerBytes l a 256
      some (d.takeAnswers s.tag, { p with bytes := bs.take s.len, spill := none }, l.any fun a => a.bad ≠ 0)

/-- An uncorrectable spill read discards the packet (R323). -/
def Dev.spillLose (d : Dev) (c : Nat) (p : Pkt) : Dev := ((d.count (Reg.BUF_COUNT 11) 1).raise 6 5).losePkt c p 0x3E

/-- EGRESS_REWRITE for a packet wherever it goes: after the packets of its port and queue before it, and with all its cells read. -/
def Dev.egressStep (d : Dev) (c : Nat) (err err2 : ReadErr) (p : Pkt) : Dev :=
  match p.stage with
  | .egress n =>
    if d.lineUp (8 + p.epipe) && (p.get C.REWRITE_PTR = 0 || d.tableUp (d.egTable p)) && !d.older p (· == .egress n) then
      match d.spillTake p with
      | none => d
      | some (d, p, bad) => if bad then d.spillLose c p else d.egressPkt c n err err2 p
    else d
  | _ => d

/-- EGRESS_REWRITE (R260). -/
def execEgressRewrite (ctx : Nat) (err err2 : ReadErr) (s : State) : Host.Outcome State Fault Refusal :=
  .next { s with dev := s.dev.withPkt ctx Pkt.atEgress (s.dev.egressStep ctx err err2) }

/-! ### FRAME_TX (R32, R123, R125, R262, R380 to R385, R402, R403) -/

/-- How far a compensated timestamp may lie off: 1 ns on NRZ modes, 2 ns on PAM4 modes, in 1/256 ns (R104, R380). -/
def Dev.tsSpread (d : Dev) (n : Nat) : Int := if laneRate (d.fld (Reg.PRT_STATUS n) F.PRT_STATUS_RES_MODE) ≥ 4 then 512 else 256

/-- A transmit time as 40 bits of ns and 1/256 ns (R380): the counter now, `dev` off as far as R380 allows, with the port's TX latency added. -/
def Dev.txTime (d : Dev) (n : Nat) (dev : BitVec 40) : Nat :=
  let off := max (-d.tsSpread n) (min (d.tsSpread n) dev.toInt)
  (d.now40 + BitVec.ofInt 40 off + BitVec.ofNat 40 (sext64 (d.fld (Reg.TIM_PORT_LAT n) F.TIM_PORT_LAT_TX) 16).toNat).toNat

/-- Counts of a frame sent whole (R122, R134). -/
def Dev.countTx (d : Dev) (n : Nat) (bs : List Byte) : Dev :=
  let d := (d.count (Reg.PRT_COUNT n 9) 1).count (Reg.PRT_COUNT n 10) bs.length
  if slice bs 0 6 = List.replicate 6 0xFF then d.count (Reg.PRT_COUNT n 12) 1
  else if byteAt bs 0 % 2 = 1 then d.count (Reg.PRT_COUNT n 11) 1
  else d

/-- The correction of R384 on the frame: the bytes, whether a header was found, and the counts. -/
def Dev.correct (d : Dev) (p : Pkt) (tx : Nat) : Dev × List Byte × Bool :=
  let ts := p.get C.TS
  if ts = 2 ∨ ts = 3 then
    match ptpAt p.bytes with
    | none => ((d.count (Reg.TIM_COUNT 2) 1).raise 8 8, p.bytes, false)
    | some (h, u) =>
      let src := p.get C.IN_PORT
      let add := if src < 130 then d.fld (Reg.TIM_PORT_CORR src) F.TIM_PORT_CORR_ADD else 0
      let res := residence (tx / 256) (tx % 256) (p.get C.RX_TS_NS) (p.get C.RX_TS_FRAC) add
      (d.count (Reg.TIM_COUNT 1) 1, correctAt p.bytes (h + 8) u res, true)
  else (d, p.bytes, false)

/-- A transmit timestamp record without its common header (R383). -/
def tsReport (p : Pkt) (n tx : Nat) (found : Bool) : HostRec :=
  let ts := p.get C.TS
  let w1 := tx + n * 2 ^ 40 + ts * 2 ^ 48 + (if found then 2 ^ 50 else 0) + (if ts = 3 ∧ !found then 2 ^ 51 else 0)
  let w3 := p.get C.RX_TS_NS + p.get C.RX_TS_FRAC * 2 ^ 32 + p.get C.IN_PORT * 2 ^ 40
  ⟨[0, BitVec.ofNat 64 w1, p.word 28, BitVec.ofNat 64 w3]⟩

/-- Queues the report of a frame that asked for one (R383). -/
def Dev.pushReport (d : Dev) (p : Pkt) (n tx : Nat) (found : Bool) : Dev :=
  let ts := p.get C.TS
  if ts = 1 ∨ ts = 3 then
    if d.tim.tsq.length < 1024 then { d with tim := { d.tim with tsq := d.tim.tsq ++ [tsReport p n tx found] } }
    else (d.count (Reg.TIM_COUNT 3) 1).raise 8 6
  else d

/-- An express frame that starts now runs past its gate's close (R402). -/
def Dev.overrun (d : Dev) (n : Nat) (p : Pkt) : Dev :=
  let c := p.queue % 8
  if d.gatesEn n && !d.preemptable n c then
    let late := !(d.gatesNow n).testBit c ||
      (match d.closeIn n c with
       | some t => !d.fitsIn n (wireLen p.bytes) t
       | none => false)
    if late then (d.count (Reg.GAT_OVERRUN n) 1).raise (512 + n) 3 else d
  else d

/-- A preemptable frame may be cut after `k` further bytes: the fragment is long enough and leaves a final fragment of 64 bytes
(R123, R403). -/
def Dev.mayCut (d : Dev) (n : Nat) (p : Pkt) (k : Nat) : Bool :=
  d.preemptable n (p.queue % 8) && k + 4 ≥ d.minFrag n && p.sent + k + 64 ≤ wireLen p.bytes

/-- The whole frame, or its last fragment, has been sent. -/
def Dev.sendWhole (d : Dev) (c n : Nat) (p : Pkt) (tx : Nat) : Dev :=
  let (d, bs, found) := d.correct p tx
  let d := d.pushReport p n tx found
  let bs := padFrame bs
  let d := { d with wire := ⟨n, bs, true⟩ :: d.wire }
  (d.countTx n bs).freePkt c p

/-- An express frame waits for the port, in its rim or as an eligible record (R404). -/
def Dev.expressWaits (d : Dev) (n : Nat) : Bool :=
  (d.pkts.any fun e => e.2.stage == .txRim n && !d.preemptable n (e.2.queue % 8))
    || (d.portElig n && (d.queues.map (·.1)).any (d.queueElig n (some false)))

/-- After how many further bytes a preemptable frame that starts now must be cut: as soon as it may be for an express frame (R404), and at
the close of its gate or a hold that comes before its end (R403). -/
def Dev.forcedCut (d : Dev) (n : Nat) (p : Pkt) : Option Nat :=
  let least := d.minFrag n - 4
  if d.expressWaits n then some least
  else
    match d.cutIn n (p.queue % 8) with
    | none => none
    | some t =>
      if d.fitsIn n (wireLen p.bytes - p.sent) t then none
      else some (max least (t * modeRate (d.fld (Reg.PRT_STATUS n) F.PRT_STATUS_RES_MODE) / 8000))

/-- Where the frame is cut: at `cut` or where it must be, whichever comes first, as far as fragments allow it (R123). -/
def Dev.cutPoint (d : Dev) (n : Nat) (p : Pkt) (cut : Option Nat) : Option Nat :=
  if !d.preemptable n (p.queue % 8) then none
  else
    match cut.filter (d.mayCut n p), (d.forcedCut n p).filter (d.mayCut n p) with
    | some a, some b => some (min a b)
    | some a, none => some a
    | none, o => o

/-- What keeps a preemptable frame, or the remainder of one, from starting (R403). -/
def Dev.txBlocked (d : Dev) (n : Nat) (rest : Bool) (p : Pkt) : Bool :=
  let hold := d.bit (Reg.GAT_STATUS n) F.GAT_STATUS_HOLD
  if rest then !(d.gatesNow n).testBit (p.queue % 8) || hold else d.preemptable n (p.queue % 8) && (d.remainder n || hold)

/-- FRAME_TX for a frame in the rim of port `n`; `rest` marks the remainder of a preempted frame. Frames of one queue leave in order
(R40). -/
def Dev.txFrame (d : Dev) (c n : Nat) (dev : BitVec 40) (cut : Option Nat) (rest : Bool) (p : Pkt) : Dev :=
  if !d.portUp n then (d.count (Reg.PRT_COUNT n 13) 1).losePkt c p 0
  else if d.txBlocked n rest p || d.older p (fun s => s == .egress n || s == .txRim n || s == .preempted n) then d
  else
    let tx := if rest then p.txStart else d.txTime n dev
    let d := if rest then d else d.overrun n p
    match d.cutPoint n p cut with
    | some k => (d.count (Reg.PRT_COUNT n 20) 1).setPkt c { p with stage := .preempted n, sent := p.sent + k, txStart := tx }
    | none => d.sendWhole c n p tx

/-- The packet stands in a transmit rim, whole or as the remainder of a preempted frame. -/
def Pkt.inRim (p : Pkt) : Bool := match p.stage with | .txRim _ => true | .preempted _ => true | _ => false

/-- FRAME_TX for a packet in either place. -/
def Dev.txStep (d : Dev) (c : Nat) (dev : BitVec 40) (cut : Option Nat) (p : Pkt) : Dev :=
  match p.stage with
  | .txRim n => d.txFrame c n dev cut false p
  | .preempted n => d.txFrame c n dev cut true p
  | _ => d

/-- FRAME_TX (R32). -/
def execFrameTx (ctx : Nat) (dev : BitVec 40) (cut : Option Nat) (s : State) : Host.Outcome State Fault Refusal :=
  .next { s with dev := s.dev.withPkt ctx Pkt.inRim (s.dev.txStep ctx dev cut) }

/-! ### RECIRC_RETURN (R161) -/

/-- The context words of a returning packet (R161). -/
def recircWords (ws : List Word) : List Word :=
  let ws' := (List.range 32).map fun i => if i = 0 ∨ i = 1 ∨ i = 27 ∨ i ≥ 28 then wordAt ws i else (0 : Word)
  ctxPut (ctxPut ws' C.PASS (ctxGet ws C.PASS + 1)) C.SATURATED (ctxGet ws C.SATURATED)

/-- RECIRC_RETURN for the packet: a general-pool context in place of the egress one, waiting while the pool is empty (R41) or another source of
the pipe has the turn (R35). -/
def Dev.recircPkt (d : Dev) (c : Nat) (p : Pkt) : Dev :=
  if !d.poolFree || !d.mayReturn p || !d.inTurn (p.get C.IN_PIPE) 131 then d
  else
    let d := (((d.granted (p.get C.IN_PIPE) 131).freePkt c p).count (Reg.PRT_COUNT 131 0) 1).count (Reg.PRT_COUNT 131 1) p.bytes.length
    let q : Pkt := { p with
      egressPool := false, epipe := 0, words := recircWords p.words, stage := .crossed, next := 0, counts := [], seq := d.pidCtr + 1
      reads := [], dram := none, group := none, pin := none, sub := none, tsFixed := false
      recCell := 0, recOwn := 0, recSpill := 0, spill := none, data := 0, queue := 0, sent := 0, txStart := 0 }
    let (d, q) := { d with pidCtr := d.pidCtr + 1 }.charge q 17
    let (k, d) := d.newCtx
    d.setPkt k q

/-- RECIRC_RETURN (R161). -/
def execRecircReturn (ctx : Nat) (s : State) : Host.Outcome State Fault Refusal :=
  .next { s with dev := s.dev.withPkt ctx (fun p => p.stage == .recirc && s.dev.lineUp (8 + p.epipe) && s.dev.lineUp (p.get C.IN_PIPE)) (s.dev.recircPkt ctx) }

end Sys2Proof.Machine
end

