-- ==== Sys2Proof/Machine/Completion.lean ====
section
/-! DEFINITION. Rings seen from the device (R479 to R484, R498 to R502, R509 to R517): indexes, owners, cached translations, writes to host
memory, posting to a completion ring, stalls, ring errors and fault records.
Readings of the manual that it takes are DEDUCED, in log entries 30, 32. -/

namespace Sys2Proof.Machine

/-- What a step writes into host memory. -/
abbrev HostWrites := List HostWrite

/-- Carries out a step's writes to host memory. -/
def State.wrote (s : State) (x : Dev × HostWrites) : State :=
  { s with dev := x.1, host := x.2.foldl (fun m w => Mem.writeAll m w.pa w.bytes) s.host, posted := if x.2.isEmpty then s.posted else x.2 }

/-! ### Indexes (R480) -/

/-- The position of a 17-bit index on a ring of `n` slots, WRAP counting as `n`. -/
def idxPos (n x : Nat) : Nat := x % 65536 + (x / 65536 % 2) * n

/-- The index at a position modulo 2n. -/
def idxAt (n p : Nat) : Nat := p % n + (p / n % 2) * 65536

/-- advance of R480. -/
def idxAdvance (n x k : Nat) : Nat := idxAt n (idxPos n x + k)

/-- Slots from index `a` up to index `b`. -/
def idxGap (n a b : Nat) : Nat := (idxPos n b + 2 * n - idxPos n a % (2 * n)) % (2 * n)

/-! ### Ring contexts (R479, R483) -/

/-- The ring context of completion ring `c`. -/
def cqCtx (c : Nat) : Nat := 32768 + c

/-- STATE values of RNG_STATE. -/
def rsDisabled : Nat := 0
def rsActive : Nat := 1
def rsError : Nat := 2
def rsFaultWait : Nat := 3
def rsStopping : Nat := 4

def Dev.ringState (d : Dev) (r : Nat) : Nat := d.fld (Reg.RNG_STATE r) F.RNG_STATE_STATE
/-- A new STATE; ERR reads 0 in ACTIVE and DISABLED. -/
def Dev.setRingState (d : Dev) (r st : Nat) : Dev :=
  let d := d.setFld (Reg.RNG_STATE r) F.RNG_STATE_STATE st
  if st ≤ 1 then d.setFld (Reg.RNG_STATE r) F.RNG_STATE_ERR 0 else d
def Dev.ringSize (d : Dev) (r : Nat) : Nat := 2 ^ d.fld (Reg.RNG_BASE r) F.RNG_BASE_LOG2_SIZE
def Dev.ringSpace (d : Dev) (r : Nat) : Nat := d.fld (Reg.RNG_BASE r) F.RNG_BASE_SPACE
/-- The I/O virtual address of slot `i`. -/
def Dev.slotAddr (d : Dev) (r i : Nat) : Nat := d.fld (Reg.RNG_BASE r) F.RNG_BASE_BASE * 4096 + 32 * i
/-- The function that owns ring context `r` (R479). -/
def Dev.ringFunc (d : Dev) (r : Nat) : Nat := d.fld (Reg.HIF_GROUP (r % 32768 / 64)) F.HIF_GROUP_FUNC

/-! ### Cached translations (R509, R511) -/

/-- The space is enabled and owned by function `f` (R513 SPACE_OFF). -/
def Dev.spaceOn (d : Dev) (f sp : Nat) : Bool :=
  d.bit (Reg.XLT_SPACE sp) F.XLT_SPACE_EN && d.fld (Reg.XLT_SPACE sp) F.XLT_SPACE_FUNC = f

/-- The physical address of an I/O virtual address, when a cached translation allows the access. -/
def Dev.xlate (d : Dev) (r iova : Nat) (write : Bool) : Option Nat :=
  let sp := d.ringSpace r
  let a := iova % 2 ^ 48
  if d.spaceOn (d.ringFunc r) sp then
    match d.hif.tlb.find? fun x => x.space = sp ∧ x.page = a / 4096 ∧ (if write then x.wr else x.rd) with
    | some x => some (x.pa * 4096 + a % 4096)
    | none => none
  else none

/-- Bytes cut at 4 KiB boundaries; `fuel` bounds the pages. -/
def pageCuts (a : Nat) (bs : List Byte) : Nat → List (Nat × List Byte)
  | 0 => []
  | fuel + 1 =>
    if bs.isEmpty then []
    else
      let k := 4096 - a % 4096
      (a, bs.take k) :: pageCuts (a + k) (bs.drop k) fuel

/-- The writes of bytes to an I/O virtual address of ring `r`'s space, with Relaxed Ordering when `ro` says so and the ring's function may use it
(R56, R475); none while a page has no cached translation. -/
def Dev.hostWrites (d : Dev) (r iova : Nat) (bs : List Byte) (ro : Bool) : Option HostWrites :=
  (pageCuts iova bs (bs.length / 4096 + 2)).foldr (fun x acc =>
    match acc, d.xlate r x.1 true with
    | some l, some pa => some (⟨pa, x.2, ro && !d.hif.noRo.contains (d.ringFunc r)⟩ :: l)
    | _, _ => none) (some [])

/-- Every page of a range of `n` bytes may be read. -/
def Dev.mayRead (d : Dev) (r iova n : Nat) : Bool :=
  (List.range ((iova % 4096 + n + 4095) / 4096)).all fun i => (d.xlate r (iova - iova % 4096 + 4096 * i) false).isSome

/-! ### Fault records, stalls and ring errors (R484, R499, R517) -/

/-- A fault record goes to its function's store, or is lost beyond 64 (R517). -/
def Dev.faultRec (d : Dev) (kind code ctx index : Nat) (write : Bool) (iova space prog : Nat) : Dev :=
  if d.hif.faults.length < 64 then
    let w1 := kind + code * 2 ^ 8 + ctx * 2 ^ 16 + index * 2 ^ 32 + (if write then 2 ^ 49 else 0)
    let w2 := iova % 2 ^ 48 + space * 2 ^ 48
    let w3 := prog % 2 ^ 32 + (d.ns % 2 ^ 32) * 2 ^ 32
    let r : FaultRec := ⟨d.ringFunc ctx, [0, BitVec.ofNat 64 w1, BitVec.ofNat 64 w2, BitVec.ofNat 64 w3]⟩
    { d with hif := { d.hif with faults := d.hif.faults ++ [r] } }
  else (d.count (Reg.HIF_COUNT 11) 1).raise 14 4

/-- Slots a completion ring holds. -/
def Dev.cqUsed (d : Dev) (c : Nat) : Nat :=
  idxGap (d.ringSize (cqCtx c)) (d.fld (Reg.RNG_CI c) F.RNG_CI_CI) (d.fld (Reg.RNG_PI_C c) F.RNG_PI_C_PI)

/-- The completion ring is full (R480). -/
def Dev.cqFull (d : Dev) (c : Nat) : Bool :=
  (d.ringState (cqCtx c) = rsActive ∨ d.ringState (cqCtx c) = rsError) && d.ringSize (cqCtx c) ≤ d.cqUsed c

/-- An episode of R499 starts. -/
def Dev.stallStart (d : Dev) (c : Nat) : Dev :=
  if c ∈ d.hif.stalled then d
  else
    let d := { d with hif := { d.hif with stalled := d.hif.stalled ++ [c] } }
    (((d.count (Reg.HIF_COUNT 9) 1).raise 14 3).faultRec 3 0 (cqCtx c) 0 false 0 0 0)

/-- A ring enters ERROR (R484, R517); a completion ring in ERROR stops the rings that name it (R499). -/
def Dev.ringError (d : Dev) (r code index : Nat) (write : Bool) (iova space : Nat) : Dev :=
  let a := Reg.RNG_STATE r
  let d := (d.setRingState r rsError).setFld a F.RNG_STATE_ERR code
  let d := d.setFld (Reg.RNG_ERR_INDEX r) F.RNG_ERR_INDEX_INDEX index
  let d := ((d.count (Reg.HIF_COUNT 10) 1).raise 14 1).faultRec 2 code r index write iova space 0
  if 32768 ≤ r then ({ d with hif := { d.hif with wbOwed := d.hif.wbOwed.filter (· != r - 32768) } } : Dev).stallStart (r - 32768) else d

/-- Completions wait for completion ring `c` that were finished while it was in an episode. -/
def Dev.heldFor (d : Dev) (c : Nat) : Bool :=
  d.hif.held.any fun x => x.cq == c

/-- After a change of ring `c`: an episode starts when it is full, and ends when it is ACTIVE with room and nothing is held for it. -/
def Dev.cqCheck (d : Dev) (c : Nat) : Dev :=
  if d.cqFull c then d.stallStart c
  else if d.ringState (cqCtx c) = rsActive ∧ !d.heldFor c then
    { d with hif := { d.hif with stalled := d.hif.stalled.filter (· != c) } }
  else d

/-! ### Posting to a completion ring (R482, R498, R501, R502) -/

/-- The MSI-X message of a completion ring (R502): sent when ARM is 1 and CI differs from PI; ARM then reads 0. -/
def Dev.armCheck (d : Dev) (c : Nat) : Dev :=
  if d.bit (Reg.RNG_CI c) F.RNG_CI_ARM ∧ d.fld (Reg.RNG_CI c) F.RNG_CI_CI ≠ d.fld (Reg.RNG_PI_C c) F.RNG_PI_C_PI then
    (d.setFld (Reg.RNG_CI c) F.RNG_CI_ARM 0).sendVec (d.ringFunc (cqCtx c)) (d.fld (Reg.RNG_CFG_C c) F.RNG_CFG_C_VECTOR)
  else d

/-- Slots of PAD before an entry of `k` slots at index `pi` (R501). -/
def padSlots (n pi k : Nat) : Nat := if pi % 65536 + k > n then n - pi % 65536 else 0

/-- The completion ring has room for an entry of `k` slots with its PAD. -/
def Dev.cqRoom (d : Dev) (c k : Nat) : Bool :=
  let n := d.ringSize (cqCtx c)
  d.ringState (cqCtx c) = rsActive && d.cqUsed c + padSlots n (d.fld (Reg.RNG_PI_C c) F.RNG_PI_C_PI) k + k ≤ n

/-- The writeback of completion ring `c`'s PI, when WB_EN is 1 (R498); without a cached translation of its address it is owed. -/
def Dev.piWriteback (d : Dev) (c : Nat) : Dev × HostWrites :=
  if d.bit (Reg.RNG_CFG_C c) F.RNG_CFG_C_WB_EN then
    let rest := d.hif.wbOwed.filter (· != c)
    match d.hostWrites (cqCtx c) (d.fld (Reg.RNG_WB c) F.RNG_WB_ADDR * 8) (leBytes 8 (d.fld (Reg.RNG_PI_C c) F.RNG_PI_C_PI)) false with
    | some w => ({ d with hif := { d.hif with wbOwed := rest } }.count (Reg.HIF_COUNT 3) 8, w)
    | none => ({ d with hif := { d.hif with wbOwed := rest ++ [c] } }, [])
  else (d, [])

/-- Writes an entry of whole slots into completion ring `c`: a PAD where it does not fit before the end, then the entry, then the PI
writeback, then the message. None while the ring has no room or a page of the entry has no cached translation. -/
def Dev.post (d : Dev) (c : Nat) (words : List Word) (ro : Bool) : Option (Dev × HostWrites) :=
  let r := cqCtx c
  let n := d.ringSize r
  let k := words.length / 4
  let pi := d.fld (Reg.RNG_PI_C c) F.RNG_PI_C_PI
  let pad := padSlots n pi k
  let padBytes := if pad = 0 then [] else wordsBytes (BitVec.ofNat 64 ((pad - 1) * 256) :: List.replicate (4 * pad - 1) 0)
  let pi' := idxAdvance n pi (pad + k)
  if !d.cqRoom c k then none
  else
    match d.hostWrites r (d.slotAddr r (pi % 65536)) padBytes ro,
        d.hostWrites r (d.slotAddr r ((pi % 65536 + pad) % n)) (wordsBytes words) ro with
    | some w0, some w1 =>
      let d := d.count (Reg.HIF_COUNT 3) (32 * (pad + k))
      let x := (d.setFld (Reg.RNG_PI_C c) F.RNG_PI_C_PI pi').piWriteback c
      some ((x.1.cqCheck c).armCheck c, w0 ++ w1 ++ x.2)
    | _, _ => none

/-- The common header of a record (R492). -/
def recHeader (op slots : Nat) : Word := BitVec.ofNat 64 (op + (slots - 1) * 256)

/-- Whole slots: the words padded with zero words to a multiple of four. -/
def toSlots (ws : List Word) : List Word := ws ++ List.replicate ((4 - ws.length % 4) % 4) 0

/-- A record of a block goes to completion ring `c` (R492, R500): its words with word 0 replaced by the header. `done` takes it out of the
block's store. Without room nothing happens. -/
def Dev.record (d : Dev) (c op : Nat) (words : List Word) (done : Dev → Dev) : Dev × HostWrites :=
  let ws := toSlots (words.set 0 (recHeader op ((words.length + 3) / 4)))
  if c ∈ d.hif.stalled ∧ d.heldFor c then (d, [])
  else
    match d.post c ws true with
    | some (d, w) => ((done d).count (Reg.HIF_COUNT 1) 1, w)
    | none => (d, [])

/-- The host interface works: RUN, and no restart of its own block in progress (R518, R533). -/
def Dev.hifOn (d : Dev) : Bool := d.running && d.lineUp 100

end Sys2Proof.Machine
end

