-- ==== Sys2Proof/Machine/Rings.lean ====
section
/-! DEFINITION. Submission rings and DMA jobs (R484 to R499, R502): doorbells, fetching, the entries of the host interface, chunks, completions,
and the registers of ring contexts.
Readings of the manual that it takes are DEDUCED, in log entries 30, 31. -/

namespace Sys2Proof.Machine

def Sub.init : Sub := { prog := [], rx := [], susps := [], scan := false }
def Dev.sub (d : Dev) (r : Nat) : Sub := Map.getD d.hif.subs r Sub.init
def Dev.setSub (d : Dev) (r : Nat) (x : Sub) : Dev :=
  { d with hif := { d.hif with subs := if x = Sub.init then Map.del d.hif.subs r else Map.put d.hif.subs r x } }

/-! ### Entries -/

def Entry.w (e : Entry) (i : Nat) : Nat := (wordAt e.words i).toNat
def Entry.op (e : Entry) : Nat := bitsOf (e.w 0) 0 8
def Entry.slots (e : Entry) : Nat := bitsOf (e.w 0) 8 3 + 1
def Entry.fence (e : Entry) : Bool := bitOf (e.w 0) 11
def Entry.ordered (e : Entry) : Bool := bitOf (e.w 0) 12
def Entry.tag (e : Entry) : Nat := bitsOf (e.w 0) 32 32

/-- The entry counts among the 4 in progress: PAD never, RX_BUF once it has a packet (R489). -/
def Entry.counted (e : Entry) : Bool := e.op ≠ 0 && (e.op ≠ 5 || e.started)

/-- RNG_STATE.IN_PROGRESS. -/
def Dev.inProgress (d : Dev) (r : Nat) : Nat := ((d.sub r).prog.filter Entry.counted).length

def Dev.fetchIdx (d : Dev) (r : Nat) : Nat := d.fld (Reg.RNG_FETCH r) F.RNG_FETCH_FETCH
def Dev.subPi (d : Dev) (r : Nat) : Nat := d.fld (Reg.RNG_PI_S r) F.RNG_PI_S_PI
def Dev.subCq (d : Dev) (r : Nat) : Nat := d.fld (Reg.RNG_CFG_S r) F.RNG_CFG_S_CQ
def Dev.subPrio (d : Dev) (r : Nat) : Nat := d.fld (Reg.RNG_CFG_S r) F.RNG_CFG_S_PRIO

/-- How many slots index `i` lies behind FETCH. -/
def Dev.behind (d : Dev) (r i : Nat) : Nat := idxGap (d.ringSize r) i (d.fetchIdx r)

/-- RNG_FETCH.DONE: the first entry not yet completed. -/
def Dev.doneIdx (d : Dev) (r : Nat) : Nat :=
  ((d.sub r).prog ++ (d.sub r).rx).foldl (fun b e => if d.behind r e.index > d.behind r b then e.index else b) (d.fetchIdx r)

/-- Entry `i` may be executed in the ring's state (R485). -/
def Dev.mayRun (d : Dev) (r i : Nat) : Bool :=
  let st := d.ringState r
  if st = rsError ∨ st = rsFaultWait then d.behind r (d.fld (Reg.RNG_ERR_INDEX r) F.RNG_ERR_INDEX_INDEX) < d.behind r i
  else st = rsActive ∨ st = rsStopping

/-- The entry's access is suspended (R514). -/
def Dev.suspended (d : Dev) (r i : Nat) : Bool := (d.sub r).susps.any fun x => x.kind ≠ 0 ∧ x.index = i

/-- The entry may start, or go on once it has started (R485, R497). -/
def Dev.canGo (d : Dev) (r : Nat) (e : Entry) : Bool :=
  !e.finished && !d.suspended r e.index
    && (e.started || (d.mayRun r e.index && (!e.fence || d.doneIdx r = e.index)))

def Dev.entry (d : Dev) (r i : Nat) : Option Entry := (d.sub r).prog.find? fun e => e.index = i

def Dev.setEntry (d : Dev) (r : Nat) (e : Entry) : Dev :=
  d.setSub r { d.sub r with prog := (d.sub r).prog.map fun x => if x.index = e.index then e else x }

def Dev.dropEntry (d : Dev) (r i : Nat) : Dev :=
  d.setSub r { d.sub r with prog := (d.sub r).prog.filter fun x => x.index != i }

/-- Entry `i` of ring `r`, when it carries an opcode for which `ok` holds and may go on: `f` acts on it. -/
def Dev.withEntry (d : Dev) (r i : Nat) (ok : Nat → Bool) (f : Entry → Dev × HostWrites) : Dev × HostWrites :=
  if d.hifOn then
    match d.entry r i with
    | some e => if ok e.op && d.canGo r e then f e else (d, [])
    | none => (d, [])
  else (d, [])

/-- The completion words of an entry: header, TAG and INDEX, then the rest (R491). -/
def Entry.completion (e : Entry) (r status : Nat) (rest : List Word) : List Word :=
  let k := (2 + rest.length) / 4
  [BitVec.ofNat 64 (e.op + (k - 1) * 2 ^ 8 + status * 2 ^ 16 + r * 2 ^ 24), BitVec.ofNat 64 (e.tag + e.index * 2 ^ 32)] ++ rest

/-- The words after the first two: VALUE and zero, and for RX_BUF two slots more (R491, R505). -/
def Entry.rest (e : Entry) (value : Word) : List Word := if e.op = 5 then value :: List.replicate 9 0 else [value, 0]

/-- The entry has finished: its completion waits to be written. -/
def Dev.finishWith (d : Dev) (r : Nat) (e : Entry) (status : Nat) (rest : List Word) : Dev :=
  let d := d.setEntry r { e with finished := true, job := false, dram := none, records := [], status := status, value := rest.headD 0 }
  { d with hif := { d.hif with held := d.hif.held ++ [⟨d.subCq r, r, e.index, e.completion r status rest, !(e.fence || e.ordered)⟩] } }

def Dev.finish (d : Dev) (r : Nat) (e : Entry) (status : Nat) (value : Word) : Dev := d.finishWith r e status (e.rest value)

/-! ### DOORBELL and DOORBELL_SCAN (R488) -/

/-- A group's doorbell is rung; one during a scan causes one further scan. -/
def Dev.doorbell (d : Dev) (g : Nat) : Dev :=
  if g ≥ 512 then d
  else if g ∈ d.hif.scans then
    if g ∈ d.hif.rescans then d else { d with hif := { d.hif with rescans := d.hif.rescans ++ [g] } }
  else { d with hif := { d.hif with scans := d.hif.scans ++ [g] } }

/-- The doorbell page of group `g` (R476). -/
def doorbellAddr (g : Nat) : Nat := 0x8000000 + 0x1000 * g

/-- DOORBELL (R488). -/
def execDoorbell (g : Nat) (s : State) : Host.Outcome State Fault Refusal :=
  .next { s with dev := if g < 512 then s.dev.access (doorbellAddr g) (some 0) (·.doorbell g) else s.dev }

/-- The scan of a group takes its ACTIVE rings whose FETCH differs from PI. -/
def Dev.scanGroup (d : Dev) (g : Nat) : Dev :=
  if g ∈ d.hif.scans then
    let take := fun (x : Dev) r =>
      if x.ringState r = rsActive ∧ x.fetchIdx r ≠ x.subPi r then x.setSub r { x.sub r with scan := true } else x
    let d := ((List.range 64).map (64 * g + ·)).foldl take d
    let again := g ∈ d.hif.rescans
    { d with hif := { d.hif with
        scans := if again then d.hif.scans else d.hif.scans.filter (· != g)
        rescans := d.hif.rescans.filter (· != g) } }
  else d

/-- DOORBELL_SCAN (R488). -/
def execDoorbellScan (g : Nat) (s : State) : Host.Outcome State Fault Refusal :=
  .next { s with dev := if s.dev.hifOn then s.dev.scanGroup g else s.dev }

/-! ### ENTRY_FETCH (R487, R489, R499) -/

/-- The opcodes that may be submitted (R492). -/
def submitOp (op : Nat) : Bool := op ≤ 6 || (0x10 ≤ op && op ≤ 0x17)

/-- The error of an entry's header at index `idx` of a ring of `n` slots (R487). -/
def headerError (n idx w0 : Nat) : Option Nat :=
  let op := bitsOf w0 0 8
  let k := bitsOf w0 8 3 + 1
  if !submitOp op then some 0x01
  else if bitsOf w0 13 19 ≠ 0 then some 0x04
  else if op = 4 ∧ k < 2 then some 0x02
  else if idx % 65536 + k > n then some 0x03
  else none

/-- A DRAM address or length is not a multiple of 64 (R494). -/
def misaligned (loc addr len : Nat) : Bool := loc = 1 && (addr % 64 ≠ 0 || len % 64 ≠ 0)

/-- The error of an entry's body (R487). -/
def bodyError (e : Entry) : Option Nat :=
  let op := e.op
  let w1 := e.w 1
  let w2 := e.w 2
  let w3 := e.w 3
  if op = 1 then (if w1 ≠ 0 ∨ w2 ≠ 0 ∨ w3 ≠ 0 then some 0x04 else none)
  else if op = 2 then
    if bitsOf w1 49 15 ≠ 0 ∨ bitsOf w2 49 15 ≠ 0 ∨ bitsOf w3 32 32 ≠ 0 then some 0x04
    else if misaligned (bitsOf w1 48 1) (bitsOf w1 0 48) w3 ∨ misaligned (bitsOf w2 48 1) (bitsOf w2 0 48) w3 then some 0x07
    else none
  else if op = 3 then
    let len := bitsOf w1 56 8
    if bitsOf w1 49 7 ≠ 0 then some 0x04
    else if len = 0 ∨ len > 32 * e.slots - 16 then some 0x08
    else if misaligned (bitsOf w1 48 1) (bitsOf w1 0 48) len then some 0x07
    else none
  else if op = 4 then
    let direct := bitOf w2 20
    if bitsOf w1 48 16 ≠ 0 ∨ bitsOf w2 14 2 ≠ 0 ∨ bitOf w2 19 ∨ bitsOf w2 23 41 ≠ 0 then some 0x04
    else if (if direct then bitsOf w3 25 7 ≠ 0 ∨ bitsOf w3 52 12 ≠ 0 else w3 ≠ 0) then some 0x04
    else if bitsOf w2 0 14 < 60 ∨ bitsOf w2 0 14 > 16379 then some 0x08
    else none
  else if op = 5 then
    let len := bitsOf w2 0 15
    if bitsOf w1 48 16 ≠ 0 ∨ bitsOf w2 15 49 ≠ 0 ∨ w3 ≠ 0 then some 0x04
    else if w1 % 64 ≠ 0 ∨ len < 64 ∨ len > 16384 ∨ len % 64 ≠ 0 then some 0x08
    else none
  else if op = 6 then
    if bitsOf w1 11 53 ≠ 0 ∨ bitsOf w2 0 12 ≠ 0 ∨ bitsOf w2 48 16 ≠ 0 ∨ bitsOf w3 32 32 ≠ 0 then some 0x04 else none
  else none

/-- The ring may be fetched from: ACTIVE, with entries, and its completion ring in no episode (R489, R499). -/
def Dev.fetchable (d : Dev) (r : Nat) : Bool :=
  d.ringState r = rsActive && d.fetchIdx r ≠ d.subPi r && !d.hif.stalled.contains (d.subCq r)

/-- It is ring `r`'s turn: no ring taken by a scan has a higher PRIO, and among equal PRIO the turn goes round (R489). -/
def Dev.fetchTurn (d : Dev) (r : Nat) : Bool :=
  let comp := r :: (d.hif.subs.filter fun x => x.2.scan && x.1 != r && d.fetchable x.1 && d.inProgress x.1 < 4).map (·.1)
  let p := d.subPrio r
  comp.all (fun q => d.subPrio q ≤ p)
    && nextIn (comp.filter fun q => d.subPrio q = p) (Map.getD d.hif.served p 65535) = r

/-- A new entry at index `idx`. -/
def Entry.new (idx : Nat) (words : List Word) : Entry :=
  { index := idx, words := words, started := false, doneBytes := 0, job := false, finished := false, status := 0, value := 0
    records := [], progress := 0, dram := none }

/-- Room for the entry: 4 in progress, 64 RX_BUF entries ahead, PAD always (R489, R504). -/
def Dev.entryRoom (d : Dev) (r : Nat) (e : Entry) : Bool :=
  if e.op = 0 then true
  else if e.op = 5 then ((d.sub r).prog.filter fun x => x.op = 5 ∧ !x.started).length + (d.sub r).rx.length < 64
  else d.inProgress r < 4

/-- Takes the entry: FETCH passes it. -/
def Dev.takeEntry (d : Dev) (r idx : Nat) (e : Entry) : Dev :=
  let n := d.ringSize r
  let d := d.count (Reg.HIF_COUNT 2) (32 * e.slots)
  let d := d.setFld (Reg.RNG_FETCH r) F.RNG_FETCH_FETCH (idxAdvance n idx e.slots)
  let more := d.fetchIdx r ≠ d.subPi r
  let d := d.setSub r { d.sub r with prog := (d.sub r).prog ++ [e], scan := (d.sub r).scan && more }
  { d with hif := { d.hif with served := Map.put d.hif.served (d.subPrio r) r } }

/-- ENTRY_FETCH on ring `r`; the words are what host memory holds from the entry's slot on, none when the read was aborted. The command brings
them, so no PCIe read stays outstanding between commands and the limit of 4,096 is never reached (R61, R472, log entry 30). -/
def Dev.entryFetch (d : Dev) (r : Nat) (words : Option (List Word)) : Dev :=
  let n := d.ringSize r
  let idx := d.fetchIdx r
  let a := d.slotAddr r (idx % 65536)
  if r ≥ 32768 ∨ !d.fetchable r ∨ !d.fetchTurn r ∨ !d.mayRead r a 32 then d
  else
    match words with
    | none => d.ringError r 0x0B idx false 0 0
    | some ws =>
      match headerError n idx (wordAt ws 0).toNat with
      | some c => d.ringError r c idx false 0 0
      | none =>
        let e := Entry.new idx ((List.range (4 * (bitsOf (wordAt ws 0).toNat 8 3 + 1))).map (wordAt ws))
        if idxGap n idx (d.subPi r) < e.slots then d.setSub r { d.sub r with scan := false }
        else if !d.mayRead r a (32 * e.slots) ∨ !d.entryRoom r e then d
        else
          match bodyError e with
          | some c => d.ringError r c idx false 0 0
          | none => d.takeEntry r idx e

/-- ENTRY_FETCH (R489). -/
def execEntryFetch (r : Nat) (words : Option (List Word)) (s : State) : Host.Outcome State Fault Refusal :=
  .next { s with dev := if s.dev.hifOn then s.dev.entryFetch r words else s.dev }

/-! ### PAD, NOP, RX_BUF, XLT_INV -/

/-- PAD (R482): filler; it leaves without a completion. -/
def execSubPad (r i : Nat) (s : State) : Host.Outcome State Fault Refusal :=
  .next (s.wrote (s.dev.withEntry r i (· == 0) fun e => (s.dev.dropEntry r e.index, [])))

/-- NOP (R492): OK with VALUE 0. -/
def execSubNop (r i : Nat) (s : State) : Host.Outcome State Fault Refusal :=
  .next (s.wrote (s.dev.withEntry r i (· == 1) fun e => (s.dev.finish r e 0 0, [])))

/-- A posted RX_BUF entry joins the ring's buffers in fetch order (R504, R505). -/
def Dev.postRx (d : Dev) (r : Nat) (e : Entry) : Dev :=
  let older := (d.sub r).prog.any fun x => x.op = 5 ∧ !x.started ∧ d.behind r x.index > d.behind r e.index
  if e.started || older then d
  else
    let d := d.dropEntry r e.index
    d.setSub r { d.sub r with rx := (d.sub r).rx ++ [e] }

/-- RX_BUF (R505). -/
def execSubRxBuf (r i : Nat) (s : State) : Host.Outcome State Fault Refusal :=
  .next (s.wrote (s.dev.withEntry r i (· == 5) fun e => (s.dev.postRx r e, [])))

/-- The cached translations that an XLT_INV entry names are dropped (R512). -/
def Dev.xltInv (d : Dev) (r : Nat) (e : Entry) : Dev :=
  let sp := bitsOf (e.w 1) 0 10
  let all := bitOf (e.w 1) 10
  let p := bitsOf (e.w 2) 12 36
  let n := bitsOf (e.w 3) 0 32
  if e.started then d
  else if d.fld (Reg.XLT_SPACE sp) F.XLT_SPACE_FUNC ≠ d.ringFunc r then d.finish r e 0x06 0
  else
    let keep := d.hif.tlb.filter fun x => !(x.space == sp && (all || (p ≤ x.page && x.page < p + n)))
    { d.setEntry r { e with started := true } with hif := { (d.setEntry r { e with started := true }).hif with tlb := keep } }

/-- XLT_INV (R512). -/
def execSubXltInv (r i : Nat) (s : State) : Host.Outcome State Fault Refusal :=
  .next (s.wrote (s.dev.withEntry r i (· == 6) fun e => (s.dev.xltInv r e, [])))

/-- XLT_INV_DONE (R512): no job still uses an old translation; every access of a job translates anew. -/
def execXltInvDone (r i : Nat) (s : State) : Host.Outcome State Fault Refusal :=
  .next (s.wrote (s.dev.withEntry r i (· == 6) fun e => (if e.started then s.dev.finish r e 0 0 else s.dev, [])))

/-! ### DMA jobs (R494, R495) -/

def Entry.isJob (e : Entry) : Bool := e.op = 2 || e.op = 3
def Entry.jobLen (e : Entry) : Nat := if e.op = 2 then bitsOf (e.w 3) 0 32 else bitsOf (e.w 1) 56 8
def Entry.jobDst (e : Entry) : Nat := if e.op = 2 then bitsOf (e.w 2) 0 48 else bitsOf (e.w 1) 0 48
def Entry.dstDram (e : Entry) : Bool := if e.op = 2 then bitOf (e.w 2) 48 else bitOf (e.w 1) 48
def Entry.srcDram (e : Entry) : Bool := e.op = 2 && bitOf (e.w 1) 48
def Entry.jobSrc (e : Entry) : Nat := bitsOf (e.w 1) 0 48
/-- Bytes of the chunk that comes next: up to a 4 KiB boundary of the destination. -/
def Entry.chunk (e : Entry) : Nat := min (e.jobLen - e.doneBytes) (4096 - (e.jobDst + e.doneBytes) % 4096)

/-- Jobs that hold a place, and jobs that wait for one, with their rings. -/
def Dev.jobs (d : Dev) : List (Nat × Entry) := d.hif.subs.flatMap fun x => (x.2.prog.filter (·.job)).map fun e => (x.1, e)
def Dev.jobWaits (d : Dev) : List (Nat × Entry) :=
  d.hif.subs.flatMap fun x =>
    (x.2.prog.filter fun e => e.isJob && e.started && !e.job && !e.finished && !d.suspended x.1 e.index).map fun e => (x.1, e)

/-- The waiting job of the highest PRIO. -/
def Dev.topWait (d : Dev) : Option (Nat × Entry) :=
  d.jobWaits.foldl (fun b x =>
    match b with
    | none => some x
    | some y => if d.subPrio x.1 > d.subPrio y.1 then some x else b) none

/-- Free places go to waiting jobs, the highest PRIO first. -/
def Dev.placeJobs (d : Dev) : Nat → Dev
  | 0 => d
  | fuel + 1 =>
    if d.jobs.length < 64 then
      match d.topWait with
      | some (r, e) => (d.setEntry r { e with job := true }).placeJobs fuel
      | none => d
    else d

/-- The running job that yields: the lowest PRIO, and among those the one with the most bytes left (R495). -/
def Dev.yielder (d : Dev) : Option (Nat × Entry) :=
  d.jobs.foldl (fun b x =>
    match b with
    | none => some x
    | some y =>
      if d.subPrio x.1 < d.subPrio y.1
          ∨ (d.subPrio x.1 = d.subPrio y.1 ∧ x.2.jobLen - x.2.doneBytes > y.2.jobLen - y.2.doneBytes) then some x
      else b) none

/-- At the end of a chunk the job yields to a waiting job of higher PRIO when it is the one that yields. -/
def Dev.mayYield (d : Dev) (r i : Nat) : Dev :=
  match d.topWait, d.yielder with
  | some w, some y =>
    if y.1 = r ∧ y.2.index = i ∧ d.subPrio w.1 > d.subPrio r ∧ d.jobs.length ≥ 64 then
      let d := (d.setEntry r { y.2 with job := false }).count (Reg.HIF_COUNT 12) 1
      d.setEntry w.1 { w.2 with job := true }
    else d
  | _, _ => d

/-- A job starts: at once OK with LEN 0, otherwise it takes a place or waits for one. -/
def Dev.startJob (d : Dev) (r : Nat) (e : Entry) : Dev :=
  if e.started then d
  else if e.jobLen = 0 then d.finish r e 0 0
  else (d.setEntry r { e with started := true }).placeJobs 1

/-- COPY (R494). -/
def execSubCopy (r i : Nat) (s : State) : Host.Outcome State Fault Refusal :=
  .next (s.wrote (s.dev.withEntry r i (· == 2) fun e => (s.dev.startJob r e, [])))

/-- WRITE_INLINE (R494). -/
def execSubWriteInline (r i : Nat) (s : State) : Host.Outcome State Fault Refusal :=
  .next (s.wrote (s.dev.withEntry r i (· == 3) fun e => (s.dev.startJob r e, [])))

/-- A job ends early: VALUE is the bytes of its whole chunks. -/
def Dev.failJob (d : Dev) (r : Nat) (e : Entry) (status : Nat) : Dev :=
  (d.finish r e status (BitVec.ofNat 64 e.doneBytes)).placeJobs 1

/-- The chunk has been written. -/
def Dev.chunkDone (d : Dev) (r : Nat) (e : Entry) : Dev :=
  let e := { e with doneBytes := e.doneBytes + e.chunk, dram := none }
  if e.doneBytes ≥ e.jobLen then (d.finish r e 0 (BitVec.ofNat 64 e.jobLen)).placeJobs 1
  else (d.setEntry r e).mayYield r e.index

/-- Every write of the chunk has been accepted, or one was refused (R452, R497); until then the job waits. -/
def Dev.chunkAccepted (d : Dev) (r : Nat) (e : Entry) (tag : Nat) : Dev :=
  if d.dramWaits tag then d
  else if (d.answersOf tag).isEmpty then d.chunkDone r e
  else (d.takeAnswers tag).failJob r e 0x04

/-- The chunk's bytes go to their destination. -/
def Dev.chunkStore (d : Dev) (r : Nat) (e : Entry) (bs : List Byte) : Dev × HostWrites :=
  let a := e.jobDst + e.doneBytes
  if e.dstDram then
    let (tag, d) := d.newTag
    let e := { e with dram := some (1, tag) }
    (((d.setEntry r e).dramWrite 3 a bs tag).chunkAccepted r e tag, [])
  else ((d.count (Reg.HIF_COUNT 3) bs.length).chunkDone r e, (d.hostWrites r a bs !e.fence).getD [])

/-- The chunk's DRAM reads: while one is unanswered the job waits; a refused or poisoned one ends it (R452, R454). -/
def Dev.chunkRead (d : Dev) (r : Nat) (e : Entry) (tag : Nat) : Dev × HostWrites :=
  let l := d.answersOf tag
  if d.dramWaits tag then (d, [])
  else if l.any (·.bad == 2) then ((d.takeAnswers tag).failJob r e 0x04, [])
  else if l.any (·.bad == 1) then ((d.takeAnswers tag).failJob r e 0x03, [])
  else (d.takeAnswers tag).chunkStore r e (answerBytes l (e.jobSrc + e.doneBytes) e.chunk)

/-- The next chunk of a job begins: a DRAM source is asked for, other bytes go on at once. -/
def Dev.chunkBegin (d : Dev) (r : Nat) (e : Entry) (data : Option (List Byte)) : Dev × HostWrites :=
  let k := e.chunk
  let a := e.jobSrc + e.doneBytes
  if e.op = 3 then d.chunkStore r e (slice (wordsBytes e.words) (16 + e.doneBytes) k)
  else if e.srcDram then
    let (tag, d) := d.newTag
    (((d.setEntry r { e with dram := some (0, tag) }).dramRead 3 a k tag), [])
  else if !d.mayRead r a k then (d, [])
  else
    match data with
    | none => (d.failJob r e 0x05, [])
    | some bs => (d.count (Reg.HIF_COUNT 2) k).chunkStore r e (slice bs 0 k)

/-- DMA_CHUNK of a job that holds a place; `data` is what a host source gave, none when the read was aborted. DESIGN CHOICE (log entry 30): the
chunks of a job move in ascending order and its completion is written after all of them, which R56 leaves open. -/
def Dev.dmaChunk (d : Dev) (r : Nat) (e : Entry) (data : Option (List Byte)) : Dev × HostWrites :=
  if !e.job then (d, [])
  else if !e.dstDram && (d.hostWrites r (e.jobDst + e.doneBytes) (List.replicate e.chunk 0) true).isNone then (d, [])
  else
    match e.dram with
    | some (0, tag) => d.chunkRead r e tag
    | some (_, tag) => (d.chunkAccepted r e tag, [])
    | none => d.chunkBegin r e data

/-- DMA_CHUNK (R495). -/
def execDmaChunk (r i : Nat) (data : Option (List Byte)) (s : State) : Host.Outcome State Fault Refusal :=
  .next (s.wrote (s.dev.withEntry r i (fun op => op == 2 || op == 3) fun e => s.dev.dmaChunk r e data))

/-- TX (R507): the packet's bytes are read; the packet then waits for its context. -/
def Dev.txRead (d : Dev) (r : Nat) (e : Entry) (data : Option (List Byte)) : Dev :=
  let n := bitsOf (e.w 2) 0 14
  if e.started ∨ !d.mayRead r (bitsOf (e.w 1) 0 48) n then d
  else
    match data with
    | none => d.finish r e 0x05 0
    | some bs =>
      let d := (d.setEntry r { e with started := true }).count (Reg.HIF_COUNT 2) n
      { d with hif := { d.hif with injects := d.hif.injects ++ [⟨r, e.index, e.words, slice bs 0 n⟩] } }

/-- TX (R507). -/
def execSubTx (r i : Nat) (data : Option (List Byte)) (s : State) : Host.Outcome State Fault Refusal :=
  .next (s.wrote (s.dev.withEntry r i (· == 4) fun e => (s.dev.txRead r e data, [])))

/-! ### COMPLETION_WRITE (R491, R499) -/

/-- A packet whose completion is written leaves flight (R504). -/
def Dev.deliveredOut (d : Dev) (r i : Nat) : Dev :=
  match d.pkts.find? fun e => e.2.stage == .delivered r i with
  | none => d
  | some (c, p) => ((d.dropRef p.data).dropPkt c).count (Reg.HIF_COUNT 5) 1

/-- Writes the first completion of ring `r` that waits; during an episode completions go in the order in which they finished. -/
def Dev.completionWrite (d : Dev) (r : Nat) : Dev × HostWrites :=
  match d.hif.held.find? fun h => h.ring = r with
  | none => (d, [])
  | some h =>
    let first := match d.hif.held.find? fun x => x.cq = h.cq with
      | some x => x.ring = r
      | none => true
    if h.cq ∈ d.hif.stalled ∧ !first then (d, [])
    else
      match d.post h.cq h.words h.ro with
      | none => (if d.ringState (cqCtx h.cq) = rsActive ∧ !d.cqRoom h.cq (h.words.length / 4) then d.stallStart h.cq else d, [])
      | some (d, w) =>
        let d := { d with hif := { d.hif with held := d.hif.held.erase h } }
        let d := (d.dropEntry r h.index).count (Reg.HIF_COUNT 0) 1
        ((d.deliveredOut r h.index).cqCheck h.cq, w)

/-- COMPLETION_WRITE (R499). -/
def execCompletionWrite (r : Nat) (s : State) : Host.Outcome State Fault Refusal :=
  .next (if s.dev.hifOn then s.wrote (s.dev.completionWrite r) else s)

/-! ### Registers of ring contexts (R484, R486, R490, R498, R502) -/

/-- A write of a submission ring's PI (R490). -/
def Dev.piWrite (d : Dev) (r : Nat) (v : Word) : Dev :=
  if r ≥ 32768 then d
  else
    let pi := F.RNG_PI_S_PI.of v
    let n := d.ringSize r
    let st := d.ringState r
    let d := d.setFld (Reg.RNG_PI_S r) F.RNG_PI_S_PI pi
    if (st = rsActive ∨ st = rsFaultWait) ∧ (pi % 65536 ≥ n ∨ idxGap n (d.fetchIdx r) pi > n) then
      (d.setSub r { d.sub r with susps := [], scan := false }).ringError r 0x05 (d.fetchIdx r) false 0 0
    else d

/-- RING_PI_WRITE (R490). -/
def execRingPiWrite (r : Nat) (v : Word) (s : State) : Host.Outcome State Fault Refusal :=
  .next { s with dev := if r < 32768 then s.dev.access (Reg.RNG_PI_S r) (some v) (·.piWrite r v) else s.dev }

/-- A write of a completion ring's CI register: CI, and ARM when it is 1 (R498, R502). -/
def Dev.ciWrite (d : Dev) (c : Nat) (v : Word) : Dev :=
  if c ≥ 32768 then d
  else
    let d := d.setFld (Reg.RNG_CI c) F.RNG_CI_CI (F.RNG_CI_CI.of v)
    let d := if F.RNG_CI_ARM.of v = 1 then d.setFld (Reg.RNG_CI c) F.RNG_CI_ARM 1 else d
    (d.armCheck c).cqCheck c

/-- RING_CI_WRITE (R498). -/
def execRingCiWrite (c : Nat) (v : Word) (s : State) : Host.Outcome State Fault Refusal :=
  .next { s with dev := if c < 32768 then s.dev.access (Reg.RNG_CI c) (some v) (·.ciWrite c v) else s.dev }

/-- ARM is written 1. -/
def Dev.ringArm (d : Dev) (c : Nat) : Dev := (d.setFld (Reg.RNG_CI c) F.RNG_CI_ARM 1).armCheck c

/-- RING_ARM (R502). -/
def execRingArm (c : Nat) (s : State) : Host.Outcome State Fault Refusal :=
  .next { s with dev := if c < 32768 then s.dev.access (Reg.RNG_CI c) (some (F.RNG_CI_ARM.put (s.dev.reg (Reg.RNG_CI c)) 1)) (·.ringArm c) else s.dev }

/-- The ring's configuration passes R486. -/
def Dev.enableOk (d : Dev) (r : Nat) : Bool :=
  let l := d.fld (Reg.RNG_BASE r) F.RNG_BASE_LOG2_SIZE
  4 ≤ l && l ≤ 16 && d.spaceOn (d.ringFunc r) (d.ringSpace r)
    && (if r < 32768 then
          d.ringState (cqCtx (d.subCq r)) = rsActive && d.ringFunc (cqCtx (d.subCq r)) = d.ringFunc r
        else !d.bit (Reg.RNG_CFG_C (r - 32768)) F.RNG_CFG_C_WB_EN || d.fld (Reg.RNG_WB (r - 32768)) F.RNG_WB_ADDR ≠ 0)

/-- A write of ENABLE (R484, R486). -/
def Dev.ringEnable (d : Dev) (r : Nat) : Dev :=
  if r ≥ 65536 ∨ d.ringState r ≠ rsDisabled then d
  else if !d.enableOk r then d.ringError r 0x06 0 false 0 0
  else
    let d := d.setRingState r rsActive
    if r < 32768 then d.setFld (Reg.RNG_FETCH r) F.RNG_FETCH_FETCH (d.subPi r) else d.cqCheck (r - 32768)

/-- RING_ENABLE (R486). -/
def execRingEnable (r : Nat) (s : State) : Host.Outcome State Fault Refusal :=
  .next { s with dev := if r < 65536 then s.dev.access (Reg.RNG_CTRL r) (some (F.RNG_CTRL_ENABLE.put 0 1)) (·.ringEnable r) else s.dev }

/-- A packet that waits for the host leaves with HOST_FAULT (R506, R515). -/
def Dev.hostFault (d : Dev) (c : Nat) (p : Pkt) : Dev :=
  ((((d.noteDiscard p.pid 0x1C).dropRef p.data).dropPkt c).count (Reg.HIF_COUNT 6) 1).raise 14 5

/-- The packet that entry `i` of ring `r` was assigned, and whose write is given up, is discarded. -/
def Dev.dropAssigned (d : Dev) (r i : Nat) : Dev :=
  match d.pkts.find? fun e => e.2.stage == .assigned r i with
  | some (c, p) => d.hostFault c p
  | none => d

/-- A write of RESET (R484): nothing more is fetched, suspended entries are given up without a completion. -/
def Dev.ringReset (d : Dev) (r : Nat) : Dev :=
  let st := d.ringState r
  if r ≥ 65536 ∨ st = rsDisabled ∨ st = rsStopping then d
  else
    let d := (d.setRingState r rsStopping).setFld (Reg.RNG_CTRL r) F.RNG_CTRL_RESET 1
    if r ≥ 32768 then d
    else
      let gone := ((d.sub r).susps.filter fun x => x.kind ≠ 0).map Susp.index
      let d := d.setSub r { d.sub r with susps := [], scan := false }
      gone.foldl (fun (x : Dev) i => (x.dropAssigned r i).dropEntry r i) d

/-- RING_RESET (R484). -/
def execRingReset (r : Nat) (s : State) : Host.Outcome State Fault Refusal :=
  .next { s with dev := if r < 65536 then s.dev.access (Reg.RNG_CTRL r) (some (F.RNG_CTRL_RESET.put 0 1)) (·.ringReset r) else s.dev }

/-- STOPPING ends when no entry is in progress (R484): unused RX_BUF entries complete with FLUSHED, and the indexes return to 0. -/
def Dev.ringStopped (d : Dev) (r : Nat) : Dev :=
  if r ≥ 65536 ∨ d.ringState r ≠ rsStopping then d
  else
    let d' := (d.setRingState r rsDisabled).setFld (Reg.RNG_CTRL r) F.RNG_CTRL_RESET 0
    if r ≥ 32768 then
      let c := r - 32768
      let d' := { d' with hif := { d'.hif with wbOwed := d'.hif.wbOwed.filter (· != c) } }
      (((d'.setFld (Reg.RNG_PI_C c) F.RNG_PI_C_PI 0).setFld (Reg.RNG_CI c) F.RNG_CI_CI 0)).cqCheck c
    else if d.inProgress r ≠ 0 then d
    else
      let posted := (d.sub r).rx ++ (d.sub r).prog.filter fun e => e.op = 5
      let flushed := posted.map fun e => (⟨d.subCq r, r, e.index, e.completion r 0x08 (e.rest 0), !(e.fence || e.ordered)⟩ : Held)
      let d' := { d' with hif := { d'.hif with held := d'.hif.held ++ flushed } }
      let d' := d'.setSub r Sub.init
      (d'.setFld (Reg.RNG_PI_S r) F.RNG_PI_S_PI 0).setFld (Reg.RNG_FETCH r) F.RNG_FETCH_FETCH 0

/-- RING_STOPPED (R484). -/
def execRingStopped (r : Nat) (s : State) : Host.Outcome State Fault Refusal :=
  .next { s with dev := if s.dev.hifOn then s.dev.ringStopped r else s.dev }

end Sys2Proof.Machine
end

