-- ==== Sys2Proof/Machine/HostPkt.lean ====
section
/-! DEFINITION. Packets to and from the host (R503 to R508).
Readings of the manual that it takes are DEDUCED, in log entry 31. -/

namespace Sys2Proof.Machine

/-! ### HOST_DELIVERY (R503) -/

/-- A packet that the delivery stage discards (R503, R506). -/
def Dev.hostDrop (d : Dev) (c : Nat) (p : Pkt) (why : Nat) : Dev := ((d.losePkt c p why).count (Reg.HIF_COUNT 6) 1).raise 14 5

/-- The receive ring of a packet, when delivery is enabled and the ring is ACTIVE. -/
def Dev.rxRing (d : Dev) (p : Pkt) : Option Nat :=
  let a := Reg.HIF_RXMAP (p.queue / 8)
  let r := d.fld a F.HIF_RXMAP_BASE + (p.get C.HASH) % 2 ^ d.fld a F.HIF_RXMAP_LOG2N
  if d.bit a F.HIF_RXMAP_EN ∧ r < 32768 ∧ d.ringState r = rsActive then some r else none

/-- The packet enters the delivery stage. -/
def Dev.deliver (d : Dev) (c : Nat) (p : Pkt) : Dev :=
  match d.rxRing p with
  | none => d.hostDrop c p 0x1A
  | some r =>
    if (d.pkts.filter fun e => e.2.stage == .delivery r).length ≥ 16 then d.hostDrop c p 0x1B
    else { d with pidCtr := d.pidCtr + 1 }.setPkt c { p.pass 20 with stage := .delivery r, seq := d.pidCtr + 1 }

/-- HOST_DELIVERY (R503). -/
def execHostDelivery (ctx : Nat) (s : State) : Host.Outcome State Fault Refusal :=
  .next { s with dev := s.dev.withPkt ctx (fun p => p.stage == .hostWait && s.dev.hifOn && s.dev.lineUp (8 + p.epipe)) (s.dev.deliver ctx) }

/-! ### RX_ASSIGN (R504, R505) -/

/-- Words 2 to 11 of a receive completion for a buffer of `len` bytes (R505). -/
def rxWords (p : Pkt) (len : Nat) : List Word :=
  let l := p.bytes.length
  let w2 := l % 16384 + (if l > len then 2 ^ 14 else 0) + p.get C.IN_PORT * 2 ^ 16 + p.get C.REASON * 2 ^ 24
    + p.get C.DISP * 2 ^ 32 + p.get C.G * 2 ^ 36 + p.get C.COPY * 2 ^ 37 + p.get C.QUEUE * 2 ^ 41
  [BitVec.ofNat 64 w2, p.word 1, p.word 3, BitVec.ofNat 64 (p.get C.HASH), p.word 22, 0,
   p.word 28, p.word 29, p.word 30, p.word 31]

/-- The first packet that waits for ring `r`. -/
def Dev.firstWaiting (d : Dev) (r : Nat) : Option (Nat × Pkt) :=
  (d.pkts.filter fun e => e.2.stage == .delivery r).foldl (fun b e =>
    match b with
    | none => some e
    | some x => if e.2.seq < x.2.seq then some e else b) none

/-- A waiting packet takes the next posted buffer, when the ring's hold has room for the completion; in ERROR and FAULT_WAIT only one fetched
before the bad or suspended entry (R485), in STOPPING none (R484). -/
def Dev.claim (d : Dev) (r : Nat) : Dev :=
  match d.firstWaiting r, (d.sub r).rx with
  | some (c, p), e :: rest =>
    if d.ringState r ≠ rsStopping ∧ d.mayRun r e.index ∧ d.inProgress r < 4 then
      (d.setSub r { d.sub r with rx := rest, prog := (d.sub r).prog ++ [{ e with started := true }] }).setPkt c
        { p with stage := .assigned r e.index }
    else d
  | _, _ => d

/-- The packet of ring `r` that has a buffer and is still to be written. -/
def Dev.assignedPkt (d : Dev) (r : Nat) : Option (Nat × Pkt × Entry) :=
  d.pkts.findSome? fun x =>
    match x.2.stage with
    | .assigned q i =>
      if q = r ∧ !d.suspended r i then (d.entry r i).map fun e => (x.1, x.2, e) else none
    | _ => none

/-- Writes an assigned packet into its buffer, and after it the completion; without a translation it stays to be written. -/
def Dev.writeRx (d : Dev) (r c : Nat) (p : Pkt) (e : Entry) : Dev × HostWrites :=
  let len := bitsOf (e.w 2) 0 15
  let bs := p.bytes.take len
  match d.hostWrites r (bitsOf (e.w 1) 0 48) bs !e.fence with
  | none => (d, [])
  | some w =>
    let d := (d.count (Reg.HIF_COUNT 3) bs.length).finishWith r e 0 (rxWords p len)
    (d.setPkt c { p with stage := .delivered r e.index }, w)

/-- RX_ASSIGN for ring `r`. -/
def Dev.rxAssign (d : Dev) (r : Nat) : Dev × HostWrites :=
  let d := if (d.assignedPkt r).isSome then d else d.claim r
  match d.assignedPkt r with
  | some (c, p, e) => d.writeRx r c p e
  | none => (d, [])

/-- RX_ASSIGN (R504). -/
def execRxAssign (ring : Nat) (s : State) : Host.Outcome State Fault Refusal :=
  .next (if s.dev.hifOn then s.wrote (s.dev.rxAssign ring) else s)

/-! ### HOST_INJECT (R508) -/

/-- The fields that a TX entry gives its context: META, and TS in word 23. -/
def injectPkt (p : Pkt) (j : Inject) : Pkt :=
  let w := fun i => wordAt j.words i
  let p := (((p.putWord 28 (w 4)).putWord 29 (w 5)).putWord 30 (w 6)).putWord 31 (w 7)
  { p.put C.TS (bitsOf (w 2).toNat 21 2) with tsFixed := true }

/-- A DIRECT packet: DISP FORWARD, its destination and queue, the checks of R246 and R255, then the forecast. -/
def Dev.injectDirect (d : Dev) (c : Nat) (p : Pkt) (w3 : Nat) : Dev :=
  let dest := bitsOf w3 0 8
  let q := bitsOf w3 8 17
  let p := ((p.dispose Disp.forward 0).put C.QUEUE q).put C.TC (q % 8)
  let p := ((p.put C.DEST dest).put C.MCAST 0).put C.REWRITE_PTR (bitsOf w3 32 20)
  if dest > 129 then d.discard c (p.dispose Disp.drop 0x28)
  else if d.subPort (q / 8) ≠ some dest then (d.count (Reg.ACT_COUNT 4) 1).discard c (p.dispose Disp.drop 0x23)
  else
    let (d, p) := d.forecast (d.secOr0 (p.get C.G) T.ACTION_MERGE (p.get C.IN_PIPE)) p
    d.setPkt c { p with stage := .admission, seq := 0 }

/-- HOST_INJECT: the oldest packet read takes a general-pool context, or waits while the pool is empty or another
source of its pipe has the turn (R35); its TX entry then completes. -/
def Dev.hostInject (d : Dev) : Dev :=
  match d.hif.injects with
  | [] => d
  | j :: rest =>
    let pipe := bitsOf (wordAt j.words 2).toNat 16 3
    let direct := bitOf (wordAt j.words 2).toNat 20
    if !d.poolFree || !d.lineUp pipe || !(direct || d.inTurn pipe 130) then d
    else
      let d := { if direct then d else d.granted pipe 130 with hif := { d.hif with injects := rest } }
      let (c, p, d) := d.newPkt 130 130 pipe (d.ns256 % 2 ^ 40) j.bytes
      let p := injectPkt p j
      let d := (d.count (Reg.HIF_COUNT 4) 1).count (Reg.PRT_COUNT 130 0) 1
      let d := d.count (Reg.PRT_COUNT 130 1) j.bytes.length
      let d := match d.entry j.ring j.index with
        | some e => d.finish j.ring e 0 0
        | none => d
      if direct then d.injectDirect c p (wordAt j.words 3).toNat else d.setPkt c p

/-- HOST_INJECT (R508). -/
def execHostInject (s : State) : Host.Outcome State Fault Refusal :=
  .next { s with dev := if s.dev.hifOn then s.dev.hostInject else s.dev }

end Sys2Proof.Machine
end

