-- ==== Sys2Proof/Machine/RegWrite.lean ====
section
/-! DEFINITION. What a plain write to a register stores (R16): RW fields take the value, W1C bits written 1 clear, all other fields keep
theirs. -/

namespace Sys2Proof.Machine

/-- The register after a write of `v` has acted on field `f` of `old`. -/
def FieldSpec.apply (f : FieldSpec) (old v : Word) : Word :=
  let x : Fld := ⟨f.lo, f.w⟩
  match f.acc with
  | .rw => x.put old (x.of v)
  | .w1c => old &&& ~~~ (v &&& x.mask)
  | _ => old

/-- The register after a write of `v` has acted on all its fields. -/
def applyWrite (fields : List FieldSpec) (old v : Word) : Word := fields.foldl (fun w f => f.apply w v) old

/-- A value to be written in which a field's 0 is taken as 1. -/
def minOne (f : Fld) (v : Word) : Word := if f.of v = 0 then f.put v 1 else v

/-- A plain write of the register at BAR0 offset `a`; at an unassigned address it is discarded (R13). -/
def Dev.plainWrite (d : Dev) (a : Nat) (v : Word) : Dev :=
  match regFam a with
  | some f => d.setReg a (applyWrite f.fields (d.reg a) v)
  | none => d

end Sys2Proof.Machine
end

