-- ==== Sys2Proof/Machine/HostLink.lean ====
section
/-! DEFINITION. The PCIe link, resets of the host interface, bad accesses and event registers (R472 to R478, R520, R521).
Readings of the manual that it takes are DEDUCED, in log entries 19, 31, 32. -/

namespace Sys2Proof.Machine

/-! ### Resets (R520) -/

/-- Frees the packets at the host that wait on a ring for which `p` holds: those not yet written are discarded with HOST_NO_RING. -/
def Dev.dropHostPkts (d : Dev) (p : Nat → Bool) : Dev :=
  d.pkts.foldl (fun (x : Dev) e =>
    match e.2.stage with
    | .delivery r => if p r then x.hostDrop e.1 e.2 0x1A else x
    | .assigned r _ => if p r then x.hostDrop e.1 e.2 0x1A else x
    | .delivered r _ => if p r then x.freePkt e.1 e.2 else x
    | _ => x) d

/-- The commands of the rings in question no longer wait for a completion; their updates are still written. -/
def ChUpdate.orphan (p : Nat → Bool) (u : ChUpdate) : ChUpdate :=
  match u.cmd with
  | some (r, _) => if p r then { u with cmd := none } else u
  | none => u

/-- Every ring of the numbers for which `p` holds returns to its reset values; held completions are discarded. -/
def Dev.resetRings (d : Dev) (p : Nat → Bool) : Dev :=
  let d := { d with
    regs := d.regs.filter fun e => !(0x4000000 ≤ e.1 && e.1 < 0x8000000 && p ((e.1 - 0x4000000) / 64 % 32768))
    fences := d.fences.filter fun x => !p x.ring
    chQueues := d.chQueues.map fun (e : Nat × List ChUpdate) => (e.1, e.2.map (ChUpdate.orphan p))
    hif := { d.hif with
      subs := d.hif.subs.filter fun x => !p x.1
      held := d.hif.held.filter fun x => !p x.ring
      stalled := d.hif.stalled.filter fun x => !p x
      wbOwed := d.hif.wbOwed.filter fun x => !p x
      injects := d.hif.injects.filter fun x => !p x.ring } }
  d.dropHostPkts p

/-- A boot load from the host begins again at byte 0 (R562). -/
def Dev.bootRestart (d : Dev) : Dev :=
  if d.loader.src != .bootHost then d
  else
    let d := { d with loader := { d.loader with bytes := [] } }.setGen 0 ⟨.loading, 0, [], []⟩
    let d := d.satCount Reg.SYS_LOAD_STATUS F.SYS_LOAD_STATUS_RESTARTS 1
    (d.setFld Reg.SYS_LOAD_STATUS F.SYS_LOAD_STATUS_STATE 1).setFld Reg.SYS_LOAD_STATUS F.SYS_LOAD_STATUS_BYTES 0

/-- A hot reset, a link down or an FLR of the PF: every ring, HIF register but the link's state, XLT space and MSI-X table. -/
def Dev.hostReset (d : Dev) : Dev :=
  let keep := fun a => !((0x2000000 ≤ a && a < 0x4000000 && a != Reg.HIF_LINK) || 0xC000000 ≤ a || (0x7F0 ≤ a && a < 0x1000))
  let d := { d with
    regs := d.regs.filter fun e => keep e.1
    hif := { d.hif with
      scans := [], rescans := [], served := [], tlb := [], faults := [], vfMsix := [], vfPba := [], halves := [], pend := [] } }
  (d.resetRings fun _ => true).bootRestart

/-- HOST_RESET (R520). -/
def execHostReset (s : State) : Host.Outcome State Fault Refusal := .next { s with dev := s.dev.hostReset }

/-- An FLR of VF `f`: its groups' rings and its MSI-X table. -/
def Dev.vfFlr (d : Dev) (f : Nat) : Dev :=
  if f = 0 ∨ f > 15 then d
  else
    let d := { d with hif := { d.hif with
      vfMsix := d.hif.vfMsix.filter fun e => e.1 / 256 != f
      vfPba := d.hif.vfPba.filter fun e => e.1 / 2 != f
      halves := d.hif.halves.filter fun e => e.1 / 2 ^ 28 != f } }
    d.resetRings fun r => d.ringFunc r == f

/-- VF_FLR (R520). -/
def execVfFlr (f : Nat) (s : State) : Host.Outcome State Fault Refusal := .next { s with dev := s.dev.vfFlr f }

/-- Stage RIMS has begun in this cold start. -/
def Dev.rimsBegun (d : Dev) : Bool :=
  let st := if d.stage = 14 then d.fld Reg.SYS_REASON F.SYS_REASON_STAGE else d.stage
  3 ≤ st

/-- The link trains, once stage RIMS has begun and PERST_N is high (R562), or goes down (R472); a link down resets the host interface
(R520). DESIGN CHOICE (log entry 29): a LINK_CHANGE raised before the first entry to RUN still stands there, though R15 gives 0. -/
def Dev.linkChange (d : Dev) (speed width : Nat) : Dev :=
  let up := 1 ≤ speed && speed ≤ 5 && (width = 1 || width = 2 || width = 4 || width = 8)
  if !((up && d.pins.perst && d.rimsBegun) || (speed = 0 && width = 0)) then d
  else
    let d := if up then d else d.hostReset
    let w := F.HIF_LINK_WIDTH.put (F.HIF_LINK_SPEED.put 0 speed) width
    let d := { d with hif := { d.hif with linkUp := up } }.setReg Reg.HIF_LINK w
    d.raise 14 6

/-- PCIE_LINK_CHANGE (R472). -/
def execPcieLinkChange (speed width : Nat) (s : State) : Host.Outcome State Fault Refusal :=
  .next { s with dev := s.dev.linkChange speed width }

/-! ### The access log (R478) -/

/-- HIF_ACCESS_LOG_READ (R478). -/
def execHifAccessLogRead (s : State) : Host.Outcome State Fault Refusal :=
  .next { s with dev := s.dev.access Reg.HIF_ACCESS_LOG none (·.readClear Reg.HIF_ACCESS_LOG) }

/-! ### EVENT_WRITE (R521) -/

/-- A write of an EVENT or EVENT_MASK register that leaves its source pending sends the message again. -/
def Dev.eventWrite (d : Dev) (src : Nat) (mask : Bool) (v : Word) : Dev :=
  match evtReg src with
  | none => d
  | some a =>
    let d := d.plainWrite (if mask then a + 8 else a) v
    if d.pendingEvt src then d.sendEvt src else d

/-- EVENT_WRITE (R521). -/
def execEventWrite (src : Nat) (mask : Bool) (v : Word) (s : State) : Host.Outcome State Fault Refusal :=
  .next { s with dev := match evtReg src with
    | some a => s.dev.access (if mask then a + 8 else a) (some v) (·.eventWrite src mask v)
    | none => s.dev }

end Sys2Proof.Machine
end

