-- ==== Sys2Proof/Machine/Pmc.lean ====
section
/-! DEFINITION. Performance counters (R549 to R556): counting nanoseconds, overflow, snapshot, clear and freeze. Counter `c` is counter
`c % 8` of group `c / 8`. -/

namespace Sys2Proof.Machine

def pmcMax : Nat := 281474976710655

/-- The counter's group counts (R551). -/
def Dev.pmcRuns (d : Dev) (c : Nat) : Bool :=
  d.bit (Reg.PMC_GCTRL (c / 8)) F.PMC_GCTRL_EN && !d.bit (Reg.PMC_GSTAT (c / 8)) F.PMC_GSTAT_FROZEN

def Dev.pmcEvent (d : Dev) (c : Nat) : Nat := d.fld (Reg.PMC_SEL c) F.PMC_SEL_EVENT

/-- The counter names an event that counts: one of R551, of a region up to 287, or nanoseconds. -/
def Dev.pmcNamed (d : Dev) (c : Nat) : Bool :=
  d.pmcEvent c = 0x80 || (d.pmcEvent c ≤ 3 && d.fld (Reg.PMC_SEL c) F.PMC_SEL_REGION ≤ 287)

/-- A group snapshot (R554). -/
def Dev.pmcSnap (d : Dev) (g : Nat) : Dev :=
  let d := (List.range 8).foldl (fun (d : Dev) k => d.setReg (Reg.PMC_SNAPV (8 * g + k)) (d.reg (Reg.PMC_CNT (8 * g + k)))) d
  (d.setReg (Reg.PMC_SNAP_TIME g) d.tim.free).raise 16 32

/-- What an overflow of counter `c` brings beside its count (R552, R553). -/
def Dev.pmcOvf (d : Dev) (c : Nat) : Dev :=
  let g := c / 8
  let a := Reg.PMC_GSTAT g
  let d := (d.setFld a F.PMC_GSTAT_OVF (d.fld a F.PMC_GSTAT_OVF ||| 2 ^ (c % 8))).raise 16 g
  let d := if d.bit (Reg.PMC_GCTRL g) F.PMC_GCTRL_SNAP_ON_OVF then d.pmcSnap g else d
  if d.bit (Reg.PMC_GCTRL g) F.PMC_GCTRL_FREEZE_ON_OVF then d.setFld a F.PMC_GSTAT_FROZEN 1 else d

/-- An event finds COUNT at 2^48 − 1 (R552). -/
def Dev.pmcWrap (d : Dev) (c : Nat) : Dev :=
  let r := Reg.PMC_RELOAD c
  (d.setFld (Reg.PMC_CNT c) F.PMC_CNT_COUNT (if d.bit r F.PMC_RELOAD_EN then d.fld r F.PMC_RELOAD_VALUE else 0)).pmcOvf c

/-- One occurrence of the event of counter `c` (R551, R552). -/
def Dev.pmcAdd (d : Dev) (c : Nat) : Dev :=
  let n := d.fld (Reg.PMC_CNT c) F.PMC_CNT_COUNT
  if n = pmcMax then d.pmcWrap c else d.setFld (Reg.PMC_CNT c) F.PMC_CNT_COUNT (n + 1)

/-- One nanosecond of TIM_FREE on the counters that count it. -/
def Dev.pmcTick (d : Dev) : Dev :=
  (List.range 256).foldl (fun (d : Dev) c => if d.pmcRuns c && d.pmcEvent c = 0x80 then d.pmcAdd c else d) d

/-- The counter names an event of a region that no command brings: BEATS, PACKETS, OUT_WAITS or IDLE_ENTRIES (R551). -/
def Dev.pmcRegional (d : Dev) (c : Nat) : Bool := d.pmcNamed c && d.pmcEvent c != 0x80

/-- A packet is in flight through region `r` (R23, R29): a packet of its pipe or cluster, or any packet for a region that every pipe shares,
records in the buffer included. -/
def Dev.regionBusy (d : Dev) (r : Nat) : Bool :=
  if r < 96 then d.pkts.any fun e => !e.2.egressPool && e.2.get C.IN_PIPE == r / 12
  else if r < 160 then d.pkts.any fun e => e.2.egressPool && e.2.epipe == (r - 96) / 8
  else if 224 ≤ r ∧ r < 256 then !d.pkts.isEmpty || !d.data.isEmpty
  else if 256 ≤ r ∧ r < 272 then
    d.engines.any fun e => e.1 / 16 == r - 256 && (!e.2.inq.isEmpty || e.2.threads.any fun t => t.ctx.isSome)
  else !d.pkts.isEmpty

/-- No restart holds the region (R532, R551). -/
def Dev.regionFree (d : Dev) (r : Nat) : Bool :=
  d.running && d.lineUp (if r < 96 then r / 12 else if r < 160 then 8 + (r - 96) / 8 else if r < 224 then r - 144
    else if r < 248 then 80 else if r < 256 then 81 else if r < 272 then r - 174 else if r < 280 then 99 else 100)

/-- The most beats that region `r` can perform in this nanosecond: PACE per microsecond, and none without a packet in flight through it
(R29, R417). -/
def Dev.beatsMax (d : Dev) (r : Nat) : Nat :=
  let p := d.fld (Reg.PWR_REGION r) F.PWR_REGION_PACE
  if d.regionBusy r && d.regionFree r then p * (d.free % 1000 + 1) / 1000 - p * (d.free % 1000) / 1000 else 0

/-- The events of counter `c` in this nanosecond, at most: beats, and packets and waits no more than those; running out of work at most
once. -/
def Dev.pmcMost (d : Dev) (c : Nat) : Nat :=
  if d.pmcEvent c = 3 then 1 else d.beatsMax (d.fld (Reg.PMC_SEL c) F.PMC_SEL_REGION)

/-- The events of the regions in one nanosecond: how many is a free value up to what PACE and the packets in flight allow (log entry 12). -/
def Dev.pmcBeats (d : Dev) : Dev :=
  (List.range 256).foldl (fun (d : Dev) c =>
    if d.pmcRuns c && d.pmcRegional c then
      let (k, d) := d.fresh (d.pmcMost c + 1)
      (List.range k).foldl (fun (d : Dev) _ => if d.pmcRuns c then d.pmcAdd c else d) d
    else d) d

/-- An event of counter `c` can come now: a nanosecond, an entry into idleness, or the event of a region with a packet in flight that no restart
holds (R29, R551). -/
def Dev.pmcMay (d : Dev) (c : Nat) : Bool :=
  let r := d.fld (Reg.PMC_SEL c) F.PMC_SEL_REGION
  d.pmcNamed c && (!(d.pmcEvent c ≤ 2) || (d.regionBusy r && d.regionFree r))

/-- PMC_OVERFLOW: an event finds counter `c` at 2^48 − 1. -/
def Dev.pmcOverflow (d : Dev) (c : Nat) : Dev :=
  if d.pmcRuns c && d.pmcMay c && d.fld (Reg.PMC_CNT c) F.PMC_CNT_COUNT = pmcMax then d.pmcWrap c else d

/-- PMC_OVERFLOW (R552). -/
def execPmcOverflow (c : Nat) (s : State) : Host.Outcome State Fault Refusal :=
  .next { s with dev := if s.dev.up && c < 256 then s.dev.pmcOverflow c else s.dev }

/-- PMC_SNAP (R554). -/
def execPmcSnap (g : Nat) (s : State) : Host.Outcome State Fault Refusal :=
  .next { s with dev := if g < 32 then s.dev.access (Reg.PMC_GCTRL g) (some (F.PMC_GCTRL_SNAP.put (s.dev.reg (Reg.PMC_GCTRL g)) 1)) (·.pmcSnap g) else s.dev }

/-- All eight counts become 0. -/
def Dev.pmcClear (d : Dev) (g : Nat) : Dev :=
  (List.range 8).foldl (fun (d : Dev) k => d.setFld (Reg.PMC_CNT (8 * g + k)) F.PMC_CNT_COUNT 0) d

/-- PMC_CLEAR (R556). -/
def execPmcClear (g : Nat) (s : State) : Host.Outcome State Fault Refusal :=
  .next { s with dev := if g < 32 then s.dev.access (Reg.PMC_GCTRL g) (some (F.PMC_GCTRL_CLEAR.put (s.dev.reg (Reg.PMC_GCTRL g)) 1)) (·.pmcClear g) else s.dev }

/-- A write of PMC_CNTc; `ovf` says that it falls in the beat of an event that finds COUNT at 2^48 − 1: the written value
stands (R553). -/
def Dev.pmcWrite (d : Dev) (c : Nat) (v : Word) (ovf : Bool) : Dev :=
  let wraps := ovf && d.pmcRuns c && d.pmcMay c && d.fld (Reg.PMC_CNT c) F.PMC_CNT_COUNT = pmcMax
  let d := d.plainWrite (Reg.PMC_CNT c) v
  if wraps then (d.setFld (Reg.PMC_GSTAT (c / 8)) F.PMC_GSTAT_OVF_PENDING 1).pmcOvf c else d

/-- PMC_CNT_WRITE (R553). -/
def execPmcCntWrite (c : Nat) (v : Word) (ovf : Bool) (s : State) : Host.Outcome State Fault Refusal :=
  .next { s with dev := if c < 256 then s.dev.access (Reg.PMC_CNT c) (some v) (·.pmcWrite c v ovf) else s.dev }

/-- PMC_UNFREEZE (R552). -/
def execPmcUnfreeze (g : Nat) (s : State) : Host.Outcome State Fault Refusal :=
  .next { s with dev := if g < 32 then s.dev.access (Reg.PMC_GSTAT g) (some (F.PMC_GSTAT_FROZEN.put 0 1)) (·.setFld (Reg.PMC_GSTAT g) F.PMC_GSTAT_FROZEN 0) else s.dev }

/-- A write of PMC_GCTRLg; SNAP and CLEAR act at once, in either order when both are written. -/
def Dev.pmcCtrl (d : Dev) (g : Nat) (v : Word) : Dev :=
  let d := d.plainWrite (Reg.PMC_GCTRL g) v
  let snap := F.PMC_GCTRL_SNAP.of v = 1
  let clear := F.PMC_GCTRL_CLEAR.of v = 1
  if snap && clear then
    let (k, d) := d.fresh 2
    if k = 0 then (d.pmcSnap g).pmcClear g else (d.pmcClear g).pmcSnap g
  else if snap then d.pmcSnap g
  else if clear then d.pmcClear g
  else d

end Sys2Proof.Machine
end

