-- ==== Sys2Proof/Machine/Ports.lean ====
section
/-! DEFINITION. Ports and links (R101 to R137): acquisition, up and down, holding and flushing, the verify process of MAC Merge, and
recovered clocks.
Readings of the manual that it takes are DEDUCED, in log entry 23. -/

namespace Sys2Proof.Machine

/-! ### Modes and ranks (R104, R115 to R118) -/

/-- Modes and options of the ranks of R115: width in lanes, MODE, and the option of the last column (0 none, 1 BASE-R, 2 RS). -/
def ranks : List (Nat × Nat × Nat × Nat) :=
  [(1, 4, 0xA, 2), (2, 2, 0x8, 2), (3, 4, 0x9, 2), (4, 1, 0x5, 2), (5, 2, 0x6, 2), (6, 4, 0x7, 2), (7, 1, 0x4, 2), (8, 1, 0x3, 1),
   (9, 1, 0x2, 1), (10, 1, 0x1, 0)]

/-- FEC_ALLOW: bit 0 none, bit 1 BASE-R, bit 2 RS (R108). -/
def fecAllow (m : Word) : Nat := Fld.of ⟨16, 3⟩ m

/-- FEC options of a mode: bit 0 none, bit 1 BASE-R, bit 2 RS (R104). -/
def modeOptions (m : Nat) : Nat :=
  if m = 1 then 1 else if m = 2 ∨ m = 3 then 3 else if 4 ≤ m ∧ m ≤ 6 then 4 else if m = 7 then 5 else if 8 ≤ m ∧ m ≤ 11 then 4 else 0

/-- The first option that MODE offers and FEC_ALLOW allows, in the order RS, BASE-R, none (R118); a management port runs only
1000BASE-X and 10GBASE-R (R106). -/
def fecChoice (n : Nat) (m : Word) : Option Nat :=
  let mode := F.PRT_MODE_MODE.of m
  let o := if n ≥ 128 ∧ mode > 2 then 0 else fecAllow m &&& modeOptions mode
  if o.testBit 2 then some 2 else if o.testBit 1 then some 1 else if o.testBit 0 then some 0 else none

/-- The common mode (R116, R117): rank, MODE and FEC; `adv` and `lp` are PRT_AN_ADV and PRT_AN_LP. -/
def resolve (m adv lp : Word) : Option (Nat × Nat × Nat) :=
  let common := F.PRT_AN_ADV_ABIL.of adv &&& F.PRT_AN_LP_ABIL.of lp
  let width := F.PRT_MODE_WIDTH.of m
  let baseR := (fecAllow m).testBit 1 && F.PRT_AN_LP_FEC_ABLE.of lp = 1 &&
    (F.PRT_AN_ADV_FEC_REQ.of adv = 1 || F.PRT_AN_LP_FEC_REQ.of lp = 1)
  ranks.findSome? fun r =>
    let fec := if r.2.2.2 = 1 && !baseR then 0 else r.2.2.2
    if common.testBit (r.1 - 1) && r.2.1 = 2 ^ (width - 1) && width ≠ 0 && (fecAllow m).testBit fec then some (r.1, r.2.2.1, fec) else none

/-! ### Lanes -/

/-- The lanes that a port's PRT_MODE in force names. -/
def Dev.lanesOf (d : Dev) (n : Nat) : List Nat :=
  let m := d.modeOf n
  if n ≥ 128 ∨ F.PRT_MODE_WIDTH.of m = 0 then []
  else (List.range (2 ^ (F.PRT_MODE_WIDTH.of m - 1))).map (· + F.PRT_MODE_FIRST_LANE.of m)

def Dev.setRate (d : Dev) (n code : Nat) : Dev :=
  (d.lanesOf n).foldl (fun (d : Dev) l => d.setFld (Reg.PRT_LANE_STATUS l) F.PRT_LANE_STATUS_RATE code) d

/-- The running mode of the port. -/
def Dev.setResult (d : Dev) (n rank mode fec : Nat) : Dev :=
  (((d.setFld (Reg.PRT_STATUS n) F.PRT_STATUS_RES_MODE mode).setFld (Reg.PRT_STATUS n) F.PRT_STATUS_RES_FEC fec).setFld
    (Reg.PRT_STATUS n) F.PRT_STATUS_RES_RANK rank).setRate n (laneRate mode)

/-! ### Lanes and recovered clocks (R126, R127) -/

/-- The lanes of a port; lanes 96 and 97 are MGMT0 and MGMT1 (R101). -/
def Dev.portLanes (d : Dev) (n : Nat) : List Nat := if n < 128 then d.lanesOf n else [n - 32]

/-- A source lane has signal and receive lock. -/
def Dev.laneLocked (d : Dev) (l : Nat) : Bool :=
  if l < 96 then
    d.bit (Reg.PRT_LANE_STATUS l) F.PRT_LANE_STATUS_SIGNAL && d.bit (Reg.PRT_LANE_STATUS l) F.PRT_LANE_STATUS_CDR_LOCK
  else if l < 98 then (d.pins.mgmtLock[l - 96]?).getD false
  else false

/-- Sets signal and lock of a source lane. -/
def Dev.setLane (d : Dev) (l : Nat) (signal lock : Bool) : Dev :=
  if l < 96 then
    (d.setFld (Reg.PRT_LANE_STATUS l) F.PRT_LANE_STATUS_SIGNAL signal.toNat).setFld (Reg.PRT_LANE_STATUS l) F.PRT_LANE_STATUS_CDR_LOCK lock.toNat
  else if l < 98 then { d with pins := { d.pins with mgmtLock := d.pins.mgmtLock.set (l - 96) (signal && lock) } }
  else d

def Dev.rclkLane (d : Dev) (k : Nat) : Nat := d.fld (Reg.PRT_RCLK k) F.PRT_RCLK_LANE

/-- The divisor of an output (R126). -/
def Dev.rclkDiv (d : Dev) (k : Nat) : Nat :=
  let x := d.fld (Reg.PRT_RCLK k) F.PRT_RCLK_DIV
  if x = 0 then 1 else if x = 1 then 2 else if x = 2 then 4 else 5

/-- Output `k` after its register or its source has changed: held low when squelched or not enabled; one that was low starts with its register's
clock; one that runs changes at its next edge (R127). -/
def Dev.rclkDrive (d : Dev) (k : Nat) : Dev :=
  let on := d.bit (Reg.PRT_RCLK k) F.PRT_RCLK_EN && !d.bit (Reg.PRT_RCLK k) F.PRT_RCLK_SQUELCHED
  let now := (d.pins.rclk[k]?).getD none
  let new := if !on then none else if now.isSome then now else some ⟨d.rclkLane k, d.rclkDiv k, false, 0⟩
  { d with pins := { d.pins with rclk := d.pins.rclk.set k new } }

/-- SQUELCHED of every output follows its source; an output that becomes squelched raises its event when `ev` holds. -/
def Dev.rclkFollow (d : Dev) (ev : Bool) : Dev :=
  (List.range 4).foldl (fun (d : Dev) k =>
    let was := d.bit (Reg.PRT_RCLK k) F.PRT_RCLK_SQUELCHED
    let lost := !d.laneLocked (d.rclkLane k)
    let d := (d.setFld (Reg.PRT_RCLK k) F.PRT_RCLK_SQUELCHED lost.toNat).rclkDrive k
    if ev && lost && !was then d.raise 13 k else d) d

/-- One nanosecond of an output: 156.25 MHz divided gives phases of 3.2 ns times the divisor, and each edge takes the register's clock (R126,
R127). -/
def Dev.rclkStep (d : Dev) (k : Nat) (o : RclkOut) : RclkOut :=
  if o.phase + 10 ≥ 32 * o.div then ⟨d.rclkLane k, d.rclkDiv k, !o.level, o.phase + 10 - 32 * o.div⟩ else { o with phase := o.phase + 10 }

/-- One nanosecond of the outputs that run. -/
def Dev.rclkTick (d : Dev) : Dev :=
  { d with pins := { d.pins with rclk := d.pins.rclk.mapIdx fun k o => o.map (d.rclkStep k) } }

/-! ### Flushing (R128 to R132) -/

/-- Flushes records of port `n`, counting each in counter `k`. -/
def Dev.flushPort (d : Dev) (n k : Nat) (f : Rec → Bool) : Dev :=
  let (d, m) := d.removeRecs 0 fun r => r.port == n && f r
  d.count (Reg.PRT_COUNT n k) m

/-- `k` bytes of a frame that is cut off stand on the wire, without a valid FCS (R125). -/
def Dev.cutFrame (d : Dev) (n : Nat) (p : Pkt) (k : Nat) : Dev :=
  if k = 0 then d else { d with wire := ⟨n, p.bytes.take k, false⟩ :: d.wire }

/-- A frame in the transmit rim of a port that goes down. Of the frame that is next, how much has left already is the device's own (log
entry 6). -/
def Dev.abortFrame (d : Dev) (n c : Nat) (p : Pkt) : Dev :=
  let d := d.count (Reg.PRT_COUNT n 13) 1
  let d := if p.stage == .preempted n then d.cutFrame n p p.sent
    else if d.older p (fun s => s == .txRim n || s == .preempted n) then d
    else
      let (k, d) := d.fresh p.bytes.length
      d.cutFrame n p k
  d.losePkt c p 0

/-- Frames in the transmit rim of a port that goes down (R125). -/
def Dev.abortTx (d : Dev) (n : Nat) : Dev :=
  d.pkts.foldl (fun (d : Dev) (x : Nat × Pkt) =>
    if x.2.stage == .txRim n || x.2.stage == .preempted n then d.abortFrame n x.1 x.2 else d) d

/-- Every queue of the port is flushed, and packets for it are discarded until it comes up (R129, R130). -/
def Dev.flushAll (d : Dev) (n : Nat) : Dev :=
  let d := d.flushPort n 23 fun _ => true
  d.setPort n { d.port n with holdEnd := none, discard := true }

/-- The hold timer has run out (R129). -/
def Dev.holdOut (d : Dev) (n : Nat) : Dev := (d.flushAll n).raise (64 + n) 4

/-- The port leaves up (R112, R125, R128): frames in transmission are cut off and gated queues are flushed. -/
def Dev.cutOff (d : Dev) (n : Nat) : Dev :=
  if !d.portUp n then d
  else
    let d := ((d.setFld (Reg.PRT_STATUS n) F.PRT_STATUS_LINK 0).count (Reg.PRT_COUNT n 28) 1).raise (64 + n) 1
    (d.abortTx n).flushPort n 22 fun r => d.controlled n (r.queue % 8)

/-- The port goes down and its hold timer starts (R128, R129); a hold time of 0 flushes at once. -/
def Dev.goDown (d : Dev) (n : Nat) : Dev :=
  if !d.portUp n then d
  else
    let d := d.cutOff n
    let hold := d.fld (Reg.PRT_HOLD n) F.PRT_HOLD_HOLD
    if hold = 0 then d.holdOut n else d.setPort n { d.port n with holdEnd := some (d.free + 1000 * hold), discard := false }

/-- The port comes up (R112, R129): the hold timer stops and the held queues transmit. -/
def Dev.goUp (d : Dev) (n : Nat) : Dev :=
  let d := d.setPort n { d.port n with holdEnd := none, discard := false }
  (d.setFld (Reg.PRT_STATUS n) F.PRT_STATUS_LINK 1).raise (64 + n) 0

/-! ### Acquisition (R111, R114, R118, R136) -/

/-- The port enters a state of R111. -/
def Dev.setPortState (d : Dev) (n st : Nat) : Dev :=
  (d.setFld (Reg.PRT_STATUS n) F.PRT_STATUS_STATE st).setPort n { d.port n with since := d.free }

def Dev.mmEn (d : Dev) (n : Nat) : Bool := n < 128 && F.PRT_MM_CTRL_EN.of (d.port n).mm = 1
def Dev.mmNoVerify (d : Dev) (n : Nat) : Bool := F.PRT_MM_CTRL_VERIFY_DIS.of (d.port n).mm = 1
def Dev.verifyState (d : Dev) (n : Nat) : Nat := d.fld (Reg.PRT_MM_STATUS n) F.PRT_MM_STATUS_VERIFY

/-- PRT_MM_STATUS: VERIFY and ACTIVE. -/
def Dev.setMm (d : Dev) (n verify : Nat) (active : Bool) : Dev :=
  (d.setFld (Reg.PRT_MM_STATUS n) F.PRT_MM_STATUS_VERIFY verify).setFld (Reg.PRT_MM_STATUS n) F.PRT_MM_STATUS_ACTIVE active.toNat

/-- PRT_MM_STATUS under the PRT_MM_CTRL that has taken effect (R123). -/
def Dev.mmFollow (d : Dev) (n : Nat) : Dev :=
  if n ≥ 128 then d
  else if !d.mmEn n then d.setMm n 0 false
  else d.setMm n (d.verifyState n) (d.mmNoVerify n || d.verifyState n == 3)

/-- PRT_MODE, PRT_AN_ADV and PRT_MM_CTRL take effect (R136). -/
def Dev.latchPort (d : Dev) (n : Nat) : Dev :=
  (d.setPort n { d.port n with mode := d.reg (Reg.PRT_MODE n), adv := d.reg (Reg.PRT_AN_ADV n), mm := d.reg (Reg.PRT_MM_CTRL n) }).mmFollow n

/-- A port that has become unbound stops its hold timer and flushes its queues (R106, R130). -/
def Dev.unboundFlush (d : Dev) (n : Nat) : Dev := if F.PRT_MODE_AN_EN.of (d.port n).mode = 0 && F.PRT_MODE_MODE.of (d.port n).mode = 0 && n ≥ 128 then d.flushAll n else d

/-- The port enters AN, or ALIGN with or without its PCS (R111, R114, R118). Which of the two follows the PRT_MODE that takes effect here, also
where R111 names AN after a failed training or negotiation (log entry 23). -/
def Dev.acquire (d : Dev) (n : Nat) : Dev :=
  let d := ((d.latchPort n).unboundFlush n).setFld (Reg.PRT_STATUS n) F.PRT_STATUS_RES_RANK 0
  let m := d.reg (Reg.PRT_MODE n)
  let an := F.PRT_MODE_AN_EN.of m = 1 && (n < 128 || F.PRT_MODE_MODE.of m = 1)
  if an then ((d.setFld (Reg.PRT_AN_LP n) F.PRT_AN_LP_VALID 0).setPort n { d.port n with pcs := true }).setPortState n stAn
  else
    match fecChoice n m with
    | some fec => ((d.setPort n { d.port n with pcs := true }).setPortState n stAlign).setResult n 0 (F.PRT_MODE_MODE.of m) fec
    | none => (d.setPort n { d.port n with pcs := false }).setPortState n stAlign

/-- The port enters ALIGN from AN or TRAIN. -/
def Dev.toAlign (d : Dev) (n : Nat) : Dev := (d.latchPort n).setPortState n stAlign

/-- The port leaves UP or any other state for acquisition or ADMIN_DOWN; remote fault is no longer received. -/
def Dev.leaveUp (d : Dev) (n : Nat) : Dev := (d.goDown n).setFld (Reg.PRT_STATUS n) F.PRT_STATUS_RF 0

/-- Acquisition starts on a bound port in ADMIN_DOWN whose ADMIN_UP is 1, unless a rung holds it down (R111, R433). -/
def Dev.startPort (d : Dev) (n : Nat) : Dev :=
  if d.portState n = stAdminDown && d.bound n && !(d.port n).forcedDown && d.bit (Reg.PRT_CTRL n) F.PRT_CTRL_ADMIN_UP then d.acquire n
  else d

/-- The lanes of a port that goes down: whether each still has signal and lock is the line's (log entry 6), or `off` ends both. -/
def Dev.dropLanes (d : Dev) (n : Nat) (off : Bool) : Dev :=
  (d.portLanes n).foldl (fun (d : Dev) l =>
    let (a, d) := d.fresh 2
    let (b, d) := d.fresh 2
    if off then d.setLane l false false else d.setLane l (a = 1) (a * b = 1)) d

/-- The port stops, without HOLD_EXPIRED (R111, R130, R433); its lanes are off. Records of gated queues of a port that is up count as R128 has
it, the others as R130 has it (log entry 23). -/
def Dev.stopPort (d : Dev) (n : Nat) : Dev :=
  let d := (d.cutOff n).setFld (Reg.PRT_STATUS n) F.PRT_STATUS_RF 0
  let d := d.setFld (Reg.PRT_STATUS n) F.PRT_STATUS_LF 0
  let d := ((d.setRate n 0).dropLanes n true).rclkFollow true
  (d.setPortState n stAdminDown).flushAll n

/-- A step on a port with lanes. -/
def Dev.onPort (d : Dev) (n : Nat) (f : Dev) : Dev := if d.up && n < 130 then f else d

/-- A write `v` of PRT_CTRL of port `n`. -/
def Dev.onPortCtrl (d : Dev) (n : Nat) (v : Word) (f : Dev → Dev) : Dev :=
  if n < 130 then d.access (Reg.PRT_CTRL n) (some v) f else d

/-- ADMIN_UP is set to 1. -/
def Dev.adminUp (d : Dev) (n : Nat) : Dev := (d.setFld (Reg.PRT_CTRL n) F.PRT_CTRL_ADMIN_UP 1).startPort n

/-- PORT_ADMIN_UP (R111). -/
def execPortAdminUp (n : Nat) (s : State) : Host.Outcome State Fault Refusal :=
  .next { s with dev := s.dev.onPortCtrl n (F.PRT_CTRL_ADMIN_UP.put 0 1) (·.adminUp n) }

/-- ADMIN_UP is set to 0. -/
def Dev.adminDown (d : Dev) (n : Nat) : Dev :=
  if d.bit (Reg.PRT_CTRL n) F.PRT_CTRL_ADMIN_UP then (d.setFld (Reg.PRT_CTRL n) F.PRT_CTRL_ADMIN_UP 0).stopPort n else d

/-- PORT_ADMIN_DOWN (R130). -/
def execPortAdminDown (n : Nat) (s : State) : Host.Outcome State Fault Refusal :=
  .next { s with dev := s.dev.onPortCtrl n 0 (·.adminDown n) }

/-- RESTART in any state but ADMIN_DOWN. -/
def Dev.portRestart (d : Dev) (n : Nat) : Dev := if d.portState n = stAdminDown then d else (d.leaveUp n).acquire n

/-- PORT_RESTART (R111). -/
def execPortRestart (n : Nat) (s : State) : Host.Outcome State Fault Refusal :=
  .next { s with dev := s.dev.onPortCtrl n (F.PRT_CTRL_RESTART.put (s.dev.reg (Reg.PRT_CTRL n)) 1) (·.portRestart n) }

/-- Base pages are exchanged; `lp` holds the partner's in the layout of PRT_AN_LP (R114, R116). -/
def Dev.basePage (d : Dev) (n : Nat) (lp : Word) : Dev :=
  if d.portState n ≠ stAn then d
  else
    let w := F.PRT_AN_LP_ABIL.put 0 (F.PRT_AN_LP_ABIL.of lp)
    let w := F.PRT_AN_LP_FEC_REQ.put w (F.PRT_AN_LP_FEC_REQ.of lp)
    let w := F.PRT_AN_LP_FEC_ABLE.put w (F.PRT_AN_LP_FEC_ABLE.of lp)
    let w := F.PRT_AN_LP_VALID.put w 1
    let d := d.setReg (Reg.PRT_AN_LP n) w
    if n ≥ 128 then (d.setResult n 0 1 0).toAlign n
    else
      match resolve (d.port n).mode (d.port n).adv w with
      | some (rank, mode, fec) =>
        let d := d.setResult n rank mode fec
        if rank = 10 then d.toAlign n else d.setPortState n stTrain
      | none => ((d.count (Reg.PRT_COUNT n 26) 1).raise (64 + n) 2).acquire n

/-- BASE_PAGE_EXCHANGE (R116). -/
def execBasePageExchange (n : Nat) (lp : Word) (s : State) : Host.Outcome State Fault Refusal :=
  .next { s with dev := s.dev.onPort n (s.dev.basePage n lp) }

/-- TRAIN_DONE (R111). -/
def execTrainDone (n : Nat) (s : State) : Host.Outcome State Fault Refusal :=
  .next { s with dev := s.dev.onPort n (if s.dev.portState n = stTrain then s.dev.toAlign n else s.dev) }

/-- Training fails. -/
def Dev.trainFail (d : Dev) (n : Nat) : Dev :=
  if d.portState n = stTrain then ((d.count (Reg.PRT_COUNT n 27) 1).raise (64 + n) 3).acquire n else d

/-- TRAIN_FAIL (R111). -/
def execTrainFail (n : Nat) (s : State) : Host.Outcome State Fault Refusal :=
  .next { s with dev := s.dev.onPort n (s.dev.trainFail n) }

/-! ### MAC Merge (R123, R124) -/

/-- The verify process at an entry to UP. -/
def Dev.mmStart (d : Dev) (n : Nat) : Dev :=
  if n ≥ 128 then d
  else if !d.mmEn n then d.setMm n 0 false
  else if d.mmNoVerify n then d.setMm n 0 true
  else (d.setPort n { d.port n with verifyTries := 0, verifyAt := d.free }).setMm n 1 false

/-- The verify timer: the next verify frame, or FAILED after three without an answer. -/
def Dev.mmSend (d : Dev) (n : Nat) : Dev :=
  if n < 128 && d.portState n = stUp && (d.verifyState n = 1 || d.verifyState n = 2) && (d.port n).verifyAt ≤ d.free then
    if (d.port n).verifyTries ≥ 3 then (d.setMm n 4 false).raise (64 + n) 6
    else
      let next := d.free + 1000000 * F.PRT_MM_CTRL_VERIFY_TIME.of (d.port n).mm
      (d.setPort n { d.port n with verifyTries := (d.port n).verifyTries + 1, verifyAt := next }).setMm n 2 false
  else d

/-- MM_VERIFY_SEND (R124). -/
def execMmVerifySend (n : Nat) (s : State) : Host.Outcome State Fault Refusal :=
  .next { s with dev := s.dev.onPort n (s.dev.mmSend n) }

/-- A verify response arrives. -/
def Dev.mmResponse (d : Dev) (n : Nat) : Dev :=
  if n < 128 && d.portState n = stUp && d.verifyState n = 2 then (d.setMm n 3 true).raise (64 + n) 5 else d

/-- MM_VERIFY_RESPONSE (R123). -/
def execMmVerifyResponse (n : Nat) (s : State) : Host.Outcome State Fault Refusal :=
  .next { s with dev := s.dev.onPort n (s.dev.mmResponse n) }

/-! ### Up and down (R111, R112, R128, R129) -/

/-- UP_DEBOUNCE and DOWN_DEBOUNCE in ns. -/
def Dev.upDebounce (d : Dev) (n : Nat) : Nat := 1000 * d.fld (Reg.PRT_LINK_TIMER n) F.PRT_LINK_TIMER_UP_DEBOUNCE
def Dev.downDebounce (d : Dev) (n : Nat) : Nat := 1000 * d.fld (Reg.PRT_LINK_TIMER n) F.PRT_LINK_TIMER_DOWN_DEBOUNCE

/-- Lock has held for UP_DEBOUNCE, so the port has been in ALIGN that long at least (R111). -/
def Dev.linkUp (d : Dev) (n : Nat) : Dev :=
  if d.portState n = stAlign && (d.port n).pcs && d.passed (d.port n).since (d.upDebounce n) then
    let d := ((d.portLanes n).foldl (fun (d : Dev) l => d.setLane l true true) d).rclkFollow false
    let d := d.setFld (Reg.PRT_STATUS n) F.PRT_STATUS_LF 0
    ((d.setPortState n stUp).goUp n).mmStart n
  else d

/-- LINK_UP (R111). -/
def execLinkUp (n : Nat) (s : State) : Host.Outcome State Fault Refusal :=
  .next { s with dev := s.dev.onPort n (s.dev.linkUp n) }

/-- No lock within 500 ms of the entry to ALIGN. -/
def Dev.alignTimeout (d : Dev) (n : Nat) : Dev :=
  if d.portState n = stAlign && d.passed (d.port n).since 500000000 then d.acquire n else d

/-- ALIGN_TIMEOUT (R111). -/
def execAlignTimeout (n : Nat) (s : State) : Host.Outcome State Fault Refusal :=
  .next { s with dev := s.dev.onPort n (s.dev.alignTimeout n) }

/-- PCS link status has been false for DOWN_DEBOUNCE, so the port has been in UP that long at least; it detects local fault (R111, R136). -/
def Dev.linkDown (d : Dev) (n : Nat) : Dev :=
  if d.portState n = stUp && d.passed (d.port n).since (d.downDebounce n) then
    let d := ((d.leaveUp n).dropLanes n false).rclkFollow true
    (d.setFld (Reg.PRT_STATUS n) F.PRT_STATUS_LF 1).acquire n
  else d

/-- LINK_DOWN (R128). -/
def execLinkDown (n : Nat) (s : State) : Host.Outcome State Fault Refusal :=
  .next { s with dev := s.dev.onPort n (s.dev.linkDown n) }

/-- Remote fault begins or clears on a port in UP. -/
def Dev.remoteFault (d : Dev) (n : Nat) (rf : Bool) : Dev :=
  if d.portState n ≠ stUp || rf = d.bit (Reg.PRT_STATUS n) F.PRT_STATUS_RF then d
  else
    let d := d.setFld (Reg.PRT_STATUS n) F.PRT_STATUS_RF rf.toNat
    if rf then d.goDown n else d.goUp n

/-- REMOTE_FAULT (R112). -/
def execRemoteFault (n : Nat) (rf : Bool) (s : State) : Host.Outcome State Fault Refusal :=
  .next { s with dev := s.dev.onPort n (s.dev.remoteFault n rf) }

/-- The hold timer reaches 0 while the port is down. -/
def Dev.holdExpired (d : Dev) (n : Nat) : Dev :=
  match (d.port n).holdEnd with
  | some t => if t ≤ d.free && !d.portUp n then d.holdOut n else d
  | none => d

/-- HOLD_EXPIRED (R129). -/
def execHoldExpired (n : Nat) (s : State) : Host.Outcome State Fault Refusal :=
  .next { s with dev := s.dev.onPort n (s.dev.holdExpired n) }

/-! ### Recovered clocks (R126, R127) -/

/-- The source lane of an output loses signal or lock. -/
def Dev.rclkLose (d : Dev) (k : Nat) : Dev :=
  let l := d.rclkLane k
  if k < 4 && d.laneLocked l then
    let (a, d) := d.fresh 2
    (d.setLane l (a = 1) false).rclkFollow true
  else d

/-- RCLK_SQUELCH (R127). -/
def execRclkSquelch (k : Nat) (s : State) : Host.Outcome State Fault Refusal :=
  .next { s with dev := if s.dev.up then s.dev.rclkLose k else s.dev }

/-- A write of PRT_RCLKk. -/
def Dev.rclkSelect (d : Dev) (k : Nat) (v : Word) : Dev :=
  if k ≥ 4 then d
  else
    let d := d.setFld (Reg.PRT_RCLK k) F.PRT_RCLK_LANE (F.PRT_RCLK_LANE.of v)
    let d := d.setFld (Reg.PRT_RCLK k) F.PRT_RCLK_EN (F.PRT_RCLK_EN.of v)
    (d.setFld (Reg.PRT_RCLK k) F.PRT_RCLK_DIV (F.PRT_RCLK_DIV.of v)).rclkFollow false

/-- RCLK_SELECT (R127). -/
def execRclkSelect (k : Nat) (v : Word) (s : State) : Host.Outcome State Fault Refusal :=
  .next { s with dev := s.dev.access (Reg.PRT_RCLK k) (some v) (·.rclkSelect k v) }

/-- SOURCE_LANE_LOCK (R127). -/
def execSourceLaneLock (k : Nat) (s : State) : Host.Outcome State Fault Refusal :=
  .next { s with dev := if s.dev.up && k < 4 then (s.dev.setLane (s.dev.rclkLane k) true true).rclkFollow false else s.dev }

/-! ### Lane map (R107, R110, R130) -/

/-- A PORT_DOWN rung begins or ends its hold on a port (R433). -/
def Dev.forcePort (d : Dev) (n : Nat) (down : Bool) : Dev :=
  if (d.port n).forcedDown = down then d
  else
    let d := d.setPort n { d.port n with forcedDown := down }
    if down then (if d.portState n = stAdminDown then d else d.stopPort n) else d.startPort n

end Sys2Proof.Machine
end

