-- ==== Sys2Proof/Machine/RegEvents.lean ====
section
/-! DEFINITION. Register accesses of the core blocks that do more than store a value (R163, R265, R322, R337, R351).
Readings of the manual that it takes are DEDUCED, in log entry 21. -/

namespace Sys2Proof.Machine

/-- A write of PRS_PUNT_RATE: the credit restarts full (R159, R163). -/
def Dev.puntRateWrite (d : Dev) (v : Word) : Dev :=
  let d := d.plainWrite Reg.PRS_PUNT_RATE (minOne F.PRS_PUNT_RATE_BURST v)
  { d with credit := d.fld Reg.PRS_PUNT_RATE F.PRS_PUNT_RATE_BURST * 1000000000, creditAt := d.free }

/-- PUNT_RATE_WRITE (R163). -/
def execPuntRateWrite (v : Word) (s : State) : Host.Outcome State Fault Refusal :=
  .next { s with dev := s.dev.access Reg.PRS_PUNT_RATE (some v) (·.puntRateWrite v) }

/-- PRS_MAL_LAST_READ (R163). -/
def execPrsMalLastRead (s : State) : Host.Outcome State Fault Refusal :=
  .next { s with dev := s.dev.access Reg.PRS_MAL_LAST none (·.readClear Reg.PRS_MAL_LAST) }

/-- The live costs of class `k` return to the reference values (R265). -/
def Dev.costReset (d : Dev) (k : Nat) : Dev :=
  let d := d.setFld (Reg.ACT_COST k) F.ACT_COST_A (d.fld (Reg.ACT_COST_REF k) F.ACT_COST_REF_A_REF)
  d.setFld (Reg.ACT_COST k) F.ACT_COST_B (d.fld (Reg.ACT_COST_REF k) F.ACT_COST_REF_B_REF)

/-- A write of ACT_COSTs: CAL_EN 0 returns the live costs to the reference values in the same beat (R265). -/
def Dev.costWrite (d : Dev) (k : Nat) (v : Word) : Dev :=
  let d := d.plainWrite (Reg.ACT_COST k) v
  if F.ACT_COST_CAL_EN.of v = 0 then d.costReset k else d

/-- COST_CAL_DISABLE: a write of ACT_COSTs with CAL_EN 0 (R265). -/
def execCostCalDisable (k : Nat) (s : State) : Host.Outcome State Fault Refusal :=
  .next { s with dev := if k < 32 then s.dev.access (Reg.ACT_COST k) (some 0) (·.costWrite k 0) else s.dev }

/-- The write moves or resizes the spill region. -/
def Dev.spillMoves (d : Dev) (v : Word) : Bool :=
  let w := d.reg Reg.BUF_SPILL_CTRL
  F.BUF_SPILL_CTRL_CHANNELS.of v != F.BUF_SPILL_CTRL_CHANNELS.of w || F.BUF_SPILL_CTRL_BASE_MIB.of v != F.BUF_SPILL_CTRL_BASE_MIB.of w
    || F.BUF_SPILL_CTRL_SIZE_MIB.of v != F.BUF_SPILL_CTRL_SIZE_MIB.of w

/-- A write of BUF_SPILL_CTRL (R322). -/
def Dev.spillCtrlWrite (d : Dev) (v : Word) : Dev :=
  if d.spillUsed ≠ 0 && d.spillMoves v then d.raise 6 8 else d.plainWrite Reg.BUF_SPILL_CTRL v

/-- SPILL_CTRL_WRITE (R322). -/
def execSpillCtrlWrite (v : Word) (s : State) : Host.Outcome State Fault Refusal :=
  .next { s with dev := s.dev.access Reg.BUF_SPILL_CTRL (some v) (·.spillCtrlWrite v) }

/-- A write of BUF_MSESS_An: SEQ restarts at 0 and the countdown at N (R337). -/
def Dev.msessWrite (d : Dev) (n : Nat) (v : Word) : Dev :=
  let d := d.plainWrite (Reg.BUF_MSESS_A n) v
  { d with seqs := Map.del d.seqs n, countdown := Map.put d.countdown n (d.fld (Reg.BUF_MSESS_B n) F.BUF_MSESS_B_N) }

/-- MSESS_A_WRITE (R337). -/
def execMsessAWrite (n : Nat) (v : Word) (s : State) : Host.Outcome State Fault Refusal :=
  .next { s with dev := if 0 < n && n < 128 then s.dev.access (Reg.BUF_MSESS_A n) (some v) (·.msessWrite n v) else s.dev }

/-- WEIGHT of the nodes below a port. -/
def weightFld : Fld := ⟨38, 8⟩

/-- A write of a shaper's register: its level stays, clamped to the new DEPTH (R351); a WEIGHT of 0 is taken as 1. -/
def Dev.shaperWrite (d : Dev) (kind n : Nat) (v : Word) : Dev :=
  let l := d.levelNow kind n
  let d := d.plainWrite (bucketReg kind n) (if kind = 3 then v else minOne weightFld v)
  d.setLevel kind n (min l (depthOf (d.reg (bucketReg kind n))))

/-- SHAPER_WRITE (R351). -/
def execShaperWrite (kind n : Nat) (v : Word) (s : State) : Host.Outcome State Fault Refusal :=
  .next { s with dev := if kind < 4 && n < bucketCount kind then s.dev.access (bucketReg kind n) (some v) (·.shaperWrite kind n v) else s.dev }

/-- A write of a policer's register: its level becomes the new DEPTH (R351). -/
def Dev.policerWrite (d : Dev) (p : Nat) (v : Word) : Dev :=
  let d := d.plainWrite (Reg.SCH_POL p) v
  { d with buckets := Map.del d.buckets (bucketKey 4 p) }

/-- POLICER_WRITE (R351). -/
def execPolicerWrite (p : Nat) (v : Word) (s : State) : Host.Outcome State Fault Refusal :=
  .next { s with dev := if p < 65536 then s.dev.access (Reg.SCH_POL p) (some v) (·.policerWrite p v) else s.dev }

/-- SCH_ESCALE.SCALE takes a new value: energy buckets refilled so far keep what the old one gave (R350, R433). -/
def Dev.setScale (d : Dev) (v : Nat) : Dev :=
  if d.fld Reg.SCH_ESCALE F.SCH_ESCALE_SCALE = v then d
  else
    let one := fun (d : Dev) (e : Nat × Bucket) => d.setLevel (e.1 / 262144) (e.1 % 262144) (d.levelNow (e.1 / 262144) (e.1 % 262144))
    (d.buckets.foldl one d).setFld Reg.SCH_ESCALE F.SCH_ESCALE_SCALE v

end Sys2Proof.Machine
end

