-- ==== Sys2Proof/Machine/PowerBase.lean ====
section
/-! DEFINITION. What the power manager works on (R23, R24, R415 to R422, R431 to R435, R602): regions and their neighbours, trims and
rails with the clamp of R422, and the rungs of the ladder.
Readings of the manual that it takes are DEDUCED, in log entries 25, 26. -/

namespace Sys2Proof.Machine

/-! ### Regions (R23, R602) -/

/-- The rail of a region (R23). -/
def railOf (r : Nat) : Nat :=
  if r < 48 then 0 else if r < 96 then 1 else if r < 160 then 2 else if r < 208 then 3 else if r < 256 then 4 else 5

/-- Region `x` begins a run of R602. -/
def runStart (x : Nat) : Bool :=
  if x ≤ 96 then x % 12 == 0 else if x ≤ 160 then x % 8 == 0 else [208, 224, 248, 256, 272, 280, 288].contains x

/-- The pairs of R602's second table. -/
def crossPairs : List (Nat × Nat) :=
  ((List.range 8).flatMap fun p =>
    [(12 * p + 4, 160 + 6 * p), (12 * p + 7, 208 + 2 * p), (12 * p + 11, 272 + p), (272 + p, 224 + 3 * p),
     (226 + 3 * p, 248 + p), (248 + p, 96 + 8 * p), (103 + 8 * p, 12 * p), (103 + 8 * p, 280 + p), (280 + p, 12 * p)])
  ++ (List.range 16).map fun c => (256 + c, 272 + c / 2)

/-- Regions `a` and `b` are adjacent (R602). -/
def adjacent (a b : Nat) : Bool :=
  (b == a + 1 && !runStart b) || (a == b + 1 && !runStart a) || crossPairs.contains (a, b) || crossPairs.contains (b, a)

/-- The neighbours of a region in ascending order (R602, PWR_ADJ). -/
def neighbours (r : Nat) : List Nat :=
  let run := (if 0 < r ∧ !runStart r then [r - 1] else []) ++ (if !runStart (r + 1) then [r + 1] else [])
  let l := run ++ crossPairs.filterMap fun p => if p.1 = r then some p.2 else if p.2 = r then some p.1 else none
  l.foldl (fun m x => insertUp x m) []

/-- The adjacent pairs, the lower region first. -/
def regionPairs : List (Nat × Nat) :=
  (List.range 288).flatMap fun r => ((neighbours r).filter (r < ·)).map fun b => (r, b)

/-- The pairs whose regions lie on different rails. -/
def railPairs : List (Nat × Nat) :=
  (crossPairs ++ [(47, 48), (95, 96), (159, 160), (207, 208), (255, 256)]).filter fun p => adjacent p.1 p.2 && railOf p.1 != railOf p.2

/-! ### Supplies (R416, R422, R585) -/

/-- The trim in force of a region, in steps of 2.5 mV. -/
def Dev.trim (d : Dev) (r : Nat) : Int := signed (d.fld (Reg.PWR_REGION r) F.PWR_REGION_TRIM) 8

def Dev.railHeld (d : Dev) (k : Nat) : Bool := d.bit (Reg.PWR_RAIL_STAT k) F.PWR_RAIL_STAT_HELD

/-- The voltage of a rail: as last commanded, or as last reported while it is held (R422, R438). -/
def Dev.railMv (d : Dev) (k : Nat) : Nat :=
  if d.railHeld k then d.fld (Reg.PWR_RAIL_STAT k) F.PWR_RAIL_STAT_V_MV else (d.pwr.railCmd[k]?).getD 0

/-- VEFF of a region in units of 0.5 mV (R416). -/
def Dev.veff2 (d : Dev) (r : Nat) : Int := 2 * (d.railMv (railOf r) : Int) + 5 * d.trim r

/-- The value nearest to `x` within all the limits, none when they leave nothing. -/
def within (lh : List (Int × Int)) (x : Int) : Option Int :=
  let lo := lh.foldl (fun m p => max m p.1) (-100000)
  let hi := lh.foldl (fun m p => min m p.2) 100000
  if lo ≤ hi then some (clampInt x lo hi) else none

/-- A command `x` within `hard` limits, and within `soft` ones where both can be met. Without a value within the hard limits the setting stays
at `now`: the command is not made (log entry 25). The flag says that the command has been clamped. -/
def clampTo (hard soft : List (Int × Int)) (now x : Int) : Int × Bool :=
  let y := match within (hard ++ soft) x with
    | some y => y
    | none => (within hard x).getD now
  (y, y != x)

/-- The trim command `x` of region `r`: within ±60 mV and within 120 mV of every neighbour, and within VEFF's range of R585 (R24, R27, R422). -/
def Dev.trimLimits (d : Dev) (r : Nat) (x : Int) : Int × Bool :=
  let v := 2 * (d.railMv (railOf r) : Int)
  let near := (neighbours r).map fun b => ((d.veff2 b - 240 - v + 4) / 5, (d.veff2 b + 240 - v) / 5)
  clampTo ((-24, 24) :: near) [((1200 - v + 4) / 5, (1800 - v) / 5)] (d.trim r) x

/-- The rail command `x`, in mV: within 120 mV of every neighbour, and within VEFF's range of R585 on every region (R27, R422). -/
def Dev.railLimits (d : Dev) (k : Nat) (x : Int) : Int × Bool :=
  let regs := (List.range 288).filter fun r => railOf r = k
  let veff := regs.map fun r => ((1200 - 5 * d.trim r + 1) / 2, (1800 - 5 * d.trim r) / 2)
  let near := railPairs.filterMap fun p =>
    if railOf p.1 = k then some (p.1, p.2) else if railOf p.2 = k then some (p.2, p.1) else none
  clampTo (near.map fun p => ((d.veff2 p.2 - 240 - 5 * d.trim p.1 + 1) / 2, (d.veff2 p.2 + 240 - 5 * d.trim p.1) / 2)) veff (d.railMv k) x

/-- A clamped command is counted and raises CLAMPED (R422). -/
def Dev.noteClamp (d : Dev) (b : Bool) : Dev := if b then (d.count (Reg.PWR_COUNT 7) 1).raise 11 12 else d

/-- Commands the trim of a region. -/
def Dev.commandTrim (d : Dev) (r : Nat) (x : Int) : Dev :=
  let l := d.trimLimits r x
  (d.noteClamp l.2).setFld (Reg.PWR_REGION r) F.PWR_REGION_TRIM (l.1 % 256).toNat

/-! ### Rungs on trims and rails (R433, R434) -/

/-- The rungs in force of a kind, by their ARG. -/
def Dev.rungArgs (d : Dev) (kind : Nat) : List Nat :=
  ((List.range 16).filter fun k => d.rungOn k && d.rungKind k == kind).map d.rungArg

/-- Steps that TRIM rungs in force, with or without BELOW_LR, add on rail `k`. -/
def Dev.rungTrim (d : Dev) (k : Nat) (below : Bool) : Int :=
  (d.rungArgs 8).foldl (fun n a => if (bitsOf a 8 6).testBit k && a.testBit 16 == below then n + signed (bitsOf a 0 8) 8 else n) 0

/-- mV that RAIL rungs in force, with or without BELOW_LR, add on rail `k`. -/
def Dev.rungRail (d : Dev) (k : Nat) (below : Bool) : Int :=
  (d.rungArgs 9).foldl (fun n a => if (bitsOf a 0 6).testBit k && a.testBit 24 == below then n + signed (bitsOf a 8 16) 16 else n) 0

/-- PWR_REGIONr.BELOW_LR: a rung with BELOW_LR lowers the region (R434). -/
def Dev.belowLr (d : Dev) (r : Nat) : Bool :=
  let k := railOf r
  (d.rungArgs 8).any (fun a => (bitsOf a 8 6).testBit k && a.testBit 16 && signed (bitsOf a 0 8) 8 < 0)
    || (d.rungArgs 9).any fun a => (bitsOf a 0 6).testBit k && a.testBit 24 && signed (bitsOf a 8 16) 16 < 0

def Dev.guarded (d : Dev) (r : Nat) : Bool := d.bit (Reg.PWR_REGION r) F.PWR_REGION_GUARD

/-- LR_PACE of a region (R419). -/
def lrPaceOf (r : Nat) : Nat := (Config.lrPace r).toNat % 4096

/-- The region's last PACE is below LR_PACE. -/
def Dev.slow (d : Dev) (r : Nat) : Bool := d.fld (Reg.PWR_REGION r) F.PWR_REGION_PACE < lrPaceOf r

/-- A region's trim without the rungs that R434 restrains: TRIM_BASE and the other rungs, clamped (R416), with what R420 and R421 have
added. -/
def Dev.trimTop (d : Dev) (r : Nat) : Int :=
  let k := railOf r
  let base := signed (d.fld (Reg.PWR_REGION r) F.PWR_REGION_TRIM_BASE) 8 + d.rungTrim k true + max 0 (d.rungTrim k false)
  clampInt (clampInt base (-24) 24 + (Map.getD d.pwr.trimUp r 0 : Nat)) (-24) 24

/-- The trim commanded for a region: rungs without BELOW_LR lower a guarded region no further than R434 allows. -/
def Dev.trimTarget (d : Dev) (r : Nat) : Int :=
  let k := railOf r
  let top := d.trimTop r
  let base := signed (d.fld (Reg.PWR_REGION r) F.PWR_REGION_TRIM_BASE) 8 + d.rungTrim k true + d.rungTrim k false
  let x := clampInt (clampInt base (-24) 24 + (Map.getD d.pwr.trimUp r 0 : Nat)) (-24) 24
  match Map.find d.pwr.trimStop r with
  | some m => if d.guarded r then max x (min m top) else x
  | none => x

/-- VMIN_MV and VMAX_MV of a rail; 0 stands for the limits of R585. -/
def Dev.railMin (d : Dev) (k : Nat) : Nat :=
  let v := d.fld (Reg.PWR_RAIL k) F.PWR_RAIL_VMIN_MV
  if v = 0 then 660 else v
def Dev.railMax (d : Dev) (k : Nat) : Nat :=
  let v := d.fld (Reg.PWR_RAIL k) F.PWR_RAIL_VMAX_MV
  if v = 0 then 860 else v

/-- A rail's setting under offset `o`, within VMIN_MV and VMAX_MV. -/
def Dev.railSetting (d : Dev) (k : Nat) (o : Int) : Int :=
  clampInt ((d.fld (Reg.PWR_RAIL k) F.PWR_RAIL_VOUT_MV : Int) + (Map.getD d.pwr.railUp k 0 : Nat) + o) (d.railMin k) (d.railMax k)

/-- The setting without the rungs that R434 restrains, and the setting commanded. -/
def Dev.railTop (d : Dev) (k : Nat) : Int := d.railSetting k (d.rungRail k true + max 0 (d.rungRail k false))
def Dev.railTarget (d : Dev) (k : Nat) : Int :=
  let x := d.railSetting k (d.rungRail k true + d.rungRail k false)
  match Map.find d.pwr.railStop k with
  | some m => max x (min (m : Int) (d.railTop k))
  | none => x

/-- A guarded region of the rail reads a PACE below LR_PACE. -/
def Dev.railSlow (d : Dev) (k : Nat) : Bool :=
  (List.range 288).any fun r => railOf r == k && d.guarded r && d.slow r

/-- A rail sets out for its setting, clamped under R422; a held rail takes no command (R438). -/
def Dev.planRail (d : Dev) (k : Nat) : Dev :=
  if d.railHeld k then d
  else
    let x := d.railTarget k
    let l := d.railLimits k x
    let t := l.1.toNat
    let d := d.noteClamp l.2
    { d with pwr := { d.pwr with
        railAsk := Map.put d.pwr.railAsk k x
        railTo := if t = d.railMv k then Map.del d.pwr.railTo k else Map.put d.pwr.railTo k t } }

/-- Every rail of which something new is asked sets out for it. -/
def Dev.planRails (d : Dev) : Dev :=
  (List.range 6).foldl (fun (d : Dev) k => if Map.find d.pwr.railAsk k = some (d.railTarget k) then d else d.planRail k) d

/-! ### The ladder (R431 to R433) -/

def Dev.level (d : Dev) : Nat := d.fld Reg.PWR_LADDER F.PWR_LADDER_LEVEL
def Dev.ladderEn (d : Dev) : Bool := d.bit Reg.PWR_CTRL F.PWR_CTRL_EN
def Dev.floorLevel (d : Dev) : Nat := min 16 (d.fld Reg.PWR_CTRL F.PWR_CTRL_FLOOR)

/-- SCH_ESCALE.SCALE: the least ARG of the ESCALE rungs in force, or 256. -/
def Dev.scaleNow (d : Dev) : Nat := (d.rungArgs 2).foldl (fun m a => min m (bitsOf a 0 9)) 256

/-- SHED_OUT pins asserted by rungs and by FORCE. -/
def Dev.shedPins (d : Dev) : Nat :=
  (d.rungArgs 1).foldl (fun m a => m ||| bitsOf a 0 8) (d.fld Reg.PWR_SHED F.PWR_SHED_FORCE)

/-- SHED_OUT follows the pins asserted, low where POL says so (R433, R444). -/
def Dev.driveShed (d : Dev) : Dev :=
  { d with pins := { d.pins with shedOut := d.shedPins ^^^ d.fld Reg.PWR_SHED F.PWR_SHED_POL } }

/-- Ports follow the PORT_DOWN rungs in force. -/
def Dev.followPorts (d : Dev) : Dev :=
  let down := fun n => (d.rungArgs 10).any fun a => d.inPortSet (bitsOf a 0 3) n
  (List.range 128).foldl (fun (x : Dev) n => x.forcePort n (down n)) d

/-- The rungs in force, or what they ask for, have changed. -/
def Dev.rungsChanged (d : Dev) : Dev :=
  let d := { d with pwr := { d.pwr with trimStop := [], railStop := [] } }
  ((d.setScale d.scaleNow).followPorts.spRetarget).planRails.driveShed

/-- LEVEL becomes `n`: rungs are applied in ascending or released in descending order, each counted as a step. -/
def Dev.ladderTo (d : Dev) (n : Nat) : Dev :=
  let l := d.level
  if n = l then d
  else
    let d := if l < n then (d.count (Reg.PWR_COUNT 0) (n - l)).raise 11 0 else (d.count (Reg.PWR_COUNT 1) (l - n)).raise 11 1
    let d := (d.setFld Reg.PWR_LADDER F.PWR_LADDER_LEVEL n).setFld Reg.PWR_LADDER F.PWR_LADDER_IN_FORCE (2 ^ n - 1)
    let d := d.setFld Reg.PWR_LADDER F.PWR_LADDER_LAST_STEP d.free
    { d with pwr := { d.pwr with lastStep := some d.free } }.rungsChanged

/-- No step has been made within the last STEP_US µs. -/
def Dev.stepDue (d : Dev) : Bool :=
  match d.pwr.lastStep with
  | none => true
  | some t => d.passed t (1000 * max 1 (d.fld Reg.PWR_CTRL F.PWR_CTRL_STEP_US))

/-- One step is requested: at once, or at STEP_US after the last step. A request at the instant of a step is met by that step (R443). -/
def Dev.stepRequest (d : Dev) : Dev :=
  if !d.ladderEn || d.pwr.lastStep = some d.free then d
  else if d.stepDue then d.ladderTo (min (d.level + 1) 16)
  else { d with pwr := { d.pwr with request := true } }

/-- Triggers (R425, R427, R428, R430). -/
def Dev.feedOn (d : Dev) : Bool := d.bit Reg.PWR_FEED F.PWR_FEED_BREACH
def Dev.forecastOn (d : Dev) : Bool := d.bit Reg.PWR_FC F.PWR_FC_BREACH
def Dev.anyTrigger (d : Dev) : Bool := d.pwr.alertLow || d.feedOn || d.forecastOn || d.pwr.warn

/-- PWR_LADDER.TRIGGERS. -/
def Dev.triggerBits (d : Dev) : Nat :=
  d.pwr.alertLow.toNat + 2 * d.feedOn.toNat + 4 * d.forecastOn.toNat + 8 * d.pwr.warn.toNat + (if 0 < d.floorLevel then 16 else 0)

/-- The relax timer starts. -/
def Dev.relaxStart (d : Dev) (t : Nat) : Dev := { d with pwr := { d.pwr with relaxFrom := t } }

/-- A feed, forecast or thermal trigger has become active. -/
def Dev.trigBegin (d : Dev) : Dev := (d.relaxStart d.free).stepRequest

/-- A trigger has become inactive; the relax timer runs once none is active. -/
def Dev.trigEnd (d : Dev) : Dev := if d.anyTrigger then d else d.relaxStart d.free

end Sys2Proof.Machine
end

