-- ==== Sys2Proof/Machine/Crypto.lean ====
section
/-! DEFINITION. SHA-384 and ECDSA over P-384 (R73, R74). The manual names FIPS 186-5; the constants and the steps are those of FIPS 180-4 and
FIPS 186-5 (PRESUMED, log entry 10). -/

namespace Sys2Proof.Machine

/-! ### SHA-384 -/

/-- The round constants. -/
def shaK : List Word :=
  [0x428A2F98D728AE22, 0x7137449123EF65CD, 0xB5C0FBCFEC4D3B2F, 0xE9B5DBA58189DBBC,
   0x3956C25BF348B538, 0x59F111F1B605D019, 0x923F82A4AF194F9B, 0xAB1C5ED5DA6D8118,
   0xD807AA98A3030242, 0x12835B0145706FBE, 0x243185BE4EE4B28C, 0x550C7DC3D5FFB4E2,
   0x72BE5D74F27B896F, 0x80DEB1FE3B1696B1, 0x9BDC06A725C71235, 0xC19BF174CF692694,
   0xE49B69C19EF14AD2, 0xEFBE4786384F25E3, 0x0FC19DC68B8CD5B5, 0x240CA1CC77AC9C65] ++
  [0x2DE92C6F592B0275, 0x4A7484AA6EA6E483, 0x5CB0A9DCBD41FBD4, 0x76F988DA831153B5,
   0x983E5152EE66DFAB, 0xA831C66D2DB43210, 0xB00327C898FB213F, 0xBF597FC7BEEF0EE4,
   0xC6E00BF33DA88FC2, 0xD5A79147930AA725, 0x06CA6351E003826F, 0x142929670A0E6E70,
   0x27B70A8546D22FFC, 0x2E1B21385C26C926, 0x4D2C6DFC5AC42AED, 0x53380D139D95B3DF,
   0x650A73548BAF63DE, 0x766A0ABB3C77B2A8, 0x81C2C92E47EDAEE6, 0x92722C851482353B] ++
  [0xA2BFE8A14CF10364, 0xA81A664BBC423001, 0xC24B8B70D0F89791, 0xC76C51A30654BE30,
   0xD192E819D6EF5218, 0xD69906245565A910, 0xF40E35855771202A, 0x106AA07032BBD1B8,
   0x19A4C116B8D2D0C8, 0x1E376C085141AB53, 0x2748774CDF8EEB99, 0x34B0BCB5E19B48A8,
   0x391C0CB3C5C95A63, 0x4ED8AA4AE3418ACB, 0x5B9CCA4F7763E373, 0x682E6FF3D6B2B8A3,
   0x748F82EE5DEFB2FC, 0x78A5636F43172F60, 0x84C87814A1F0AB72, 0x8CC702081A6439EC] ++
  [0x90BEFFFA23631E28, 0xA4506CEBDE82BDE9, 0xBEF9A3F7B2C67915, 0xC67178F2E372532B,
   0xCA273ECEEA26619C, 0xD186B8C721C0C207, 0xEADA7DD6CDE0EB1E, 0xF57D4F7FEE6ED178,
   0x06F067AA72176FBA, 0x0A637DC5A2C898A6, 0x113F9804BEF90DAE, 0x1B710B35131C471B,
   0x28DB77F523047D84, 0x32CAAB7B40C72493, 0x3C9EBE0A15C9BEBC, 0x431D67C49C100D4C,
   0x4CC5D4BECB3E42B6, 0x597F299CFC657E2A, 0x5FCB6FAB3AD6FAEC, 0x6C44198C4A475817]

/-- The initial hash value of SHA-384. -/
def shaInit : List Word :=
  [0xCBBB9D5DC1059ED8, 0x629A292A367CD507, 0x9159015A3070DD17, 0x152FECD8F70E5939,
   0x67332667FFC00B31, 0x8EB44A8768581511, 0xDB0C2E0D64F98FA7, 0x47B5481DBEFA4FA4]

/-- Rotation to the right. -/
def rotr (x : Word) (n : Nat) : Word := x.rotateRight n

/-- The message with its padding to a multiple of 128 bytes. -/
def shaPad (m : List Byte) : List Byte :=
  let n := m.length
  m ++ [0x80] ++ List.replicate ((239 - n % 128) % 128) 0 ++ beBytes 16 (8 * n)

/-- One step of the message schedule; the newest word first. -/
def shaNext (ws : List Word) : Word :=
  let w := fun i => wordAt ws i
  let s0 := rotr (w 14) 1 ^^^ rotr (w 14) 8 ^^^ (w 14 >>> 7)
  let s1 := rotr (w 1) 19 ^^^ rotr (w 1) 61 ^^^ (w 1 >>> 6)
  s1 + w 6 + s0 + w 15

/-- The 80 schedule words of a block. -/
def shaSchedule (block : List Byte) : List Word :=
  let first := ((List.range 16).map fun i => BitVec.ofNat 64 (beNat (slice block (8 * i) 8))).reverse
  ((List.range 64).foldl (fun ws _ => shaNext ws :: ws) first).reverse

/-- One round on the working variables a to h. -/
def shaRound (v : List Word) (kw : Word) : List Word :=
  let x := fun i => wordAt v i
  let s1 := rotr (x 4) 14 ^^^ rotr (x 4) 18 ^^^ rotr (x 4) 41
  let ch := (x 4 &&& x 5) ^^^ (~~~x 4 &&& x 6)
  let t1 := x 7 + s1 + ch + kw
  let s0 := rotr (x 0) 28 ^^^ rotr (x 0) 34 ^^^ rotr (x 0) 39
  let maj := (x 0 &&& x 1) ^^^ (x 0 &&& x 2) ^^^ (x 1 &&& x 2)
  [t1 + s0 + maj, x 0, x 1, x 2, x 3 + t1, x 4, x 5, x 6]

/-- The compression of one block. -/
def shaBlock (h : List Word) (block : List Byte) : List Word :=
  let v := (shaK.zip (shaSchedule block)).foldl (fun v kw => shaRound v (kw.1 + kw.2)) h
  (h.zip v).map fun x => x.1 + x.2

/-- The blocks of a padded message. -/
def shaBlocks (m : List Byte) (h : List Word) : Nat → List Word
  | 0 => h
  | n + 1 => shaBlocks (m.drop 128) (shaBlock h (m.take 128)) n

/-- The SHA-384 digest. -/
def sha384 (m : List Byte) : List Byte :=
  let p := shaPad m
  ((shaBlocks p shaInit (p.length / 128)).flatMap fun w => beBytes 8 w.toNat).take 48

/-! ### P-384 -/

/-- The field's prime. -/
def p384P : Nat := 2 ^ 384 - 2 ^ 128 - 2 ^ 96 + 2 ^ 32 - 1
/-- The curve's b; its a is −3. -/
def p384B : Nat := 0xb3312fa7e23ee7e4988e056be3f82d19181d9c6efe8141120314088f5013875ac656398d8a2ed19d2a85c8edd3ec2aef
/-- The order of the base point. -/
def p384N : Nat := 0xffffffffffffffffffffffffffffffffffffffffffffffffc7634d81f4372ddf581a0db248b0a77aecec196accc52973
/-- The base point. -/
def p384G : Nat × Nat :=
  (0xaa87ca22be8b05378eb1c71ef320ad746e1d3b628ba79b9859f741e082542a385502f25dbf55296c3a545e3872760ab7,
   0x3617de4a96262c6f5d9e98bf9292dc29f8f41dbd289a147ce9da3113b5f0b8c00a60b1ce1d7e819d7a431d7c90ea0e5f)

/-- `a ^ e mod m` over the low `n` bits of `e`. -/
def powMod (m a e n : Nat) : Nat :=
  ((List.range n).reverse).foldl (fun r i => if e.testBit i then r * r % m * a % m else r * r % m) 1

/-- The inverse modulo a prime of 384 bits. -/
def invMod (m a : Nat) : Nat := powMod m (a % m) (m - 2) 384

/-- The difference modulo the prime. -/
def pSub (a b : Nat) : Nat := (a + p384P - b % p384P) % p384P

/-- A point in Jacobian coordinates: (X, Y, Z) stands for (X / Z², Y / Z³), Z = 0 for the point at infinity. -/
abbrev CurvePt := Nat × Nat × Nat

/-- Twice a point (a = −3). -/
def ptDouble (p : CurvePt) : CurvePt :=
  let (x, y, z) := p
  let zz := z * z % p384P
  let yy := y * y % p384P
  let b := x * yy % p384P
  let a := 3 * pSub x zz * (x + zz) % p384P
  let x3 := pSub (a * a) (8 * b)
  (x3, pSub (a * pSub (4 * b) x3) (8 * yy * yy), 2 * y * z % p384P)

/-- The sum of two points. -/
def ptAdd (p q : CurvePt) : CurvePt :=
  let (x, y, z) := p
  let (x', y', z') := q
  if z = 0 then q
  else if z' = 0 then p
  else
    let zz := z * z % p384P
    let zz' := z' * z' % p384P
    let u := x * zz' % p384P
    let s := y * z' % p384P * zz' % p384P
    let h := pSub (x' * zz) u
    let r := pSub (y' * z % p384P * zz) s
    if h = 0 then if r = 0 then ptDouble p else (1, 1, 0)
    else
      let hh := h * h % p384P
      let v := u * hh % p384P
      let hhh := h * hh % p384P
      let x3 := pSub (r * r) (hhh + 2 * v)
      (x3, pSub (r * pSub v x3) (s * hhh), z * z' % p384P * h % p384P)

/-- `k` times a point. -/
def ptMul (k : Nat) (p : CurvePt) : CurvePt :=
  ((List.range 384).reverse).foldl (fun r i => if k.testBit i then ptAdd (ptDouble r) p else ptDouble r) (1, 1, 0)

/-- The point lies on the curve. -/
def onCurve (x y : Nat) : Bool := x < p384P && y < p384P && y * y % p384P = (x * x * x + (p384P - 3) * x + p384B) % p384P

/-- ECDSA verification of a message under a public key (R73). -/
def ecdsaOk (x y : Nat) (m : List Byte) (r s : Nat) : Bool :=
  if r = 0 || r ≥ p384N || s = 0 || s ≥ p384N || !onCurve x y then false
  else
    let e := beNat (sha384 m)
    let w := invMod p384N s
    let (x1, _, z1) := ptAdd (ptMul (e * w % p384N) (p384G.1, p384G.2, 1)) (ptMul (r * w % p384N) (x, y, 1))
    let i := invMod p384P z1
    z1 ≠ 0 && x1 * (i * i % p384P) % p384P % p384N = r

end Sys2Proof.Machine
end

