-- ==== Sys2Proof/Machine/StreamCheck.lean ====
section
/-! DEFINITION. The checks of section bodies (R70): each owning block's own checks of one body, and the checks made against the idle
generation as the stream leaves it. A check answers every error it finds as (BLOCK_CODE, byte offset in the body); which of several
errors a load reports is the device's choice (log entry 11).
Readings of the manual that it takes are DEDUCED, in log entry 33. -/

namespace Sys2Proof.Machine

/-- The 64-bit words of a body. -/
def words64 : List Byte → List Nat
  | a :: b :: c :: d :: e :: f :: g :: h :: r => leNat [a, b, c, d, e, f, g, h] :: words64 r
  | _ => []

/-- The 32-bit words of a body. -/
def words32 : List Byte → List Nat
  | a :: b :: c :: d :: r => leNat [a, b, c, d] :: words32 r
  | _ => []

/-- Errors of one check: (BLOCK_CODE, offset). -/
abbrev BodyErrs : Type := List (Nat × Nat)

/-- Error `code` at `ofs` when `bad` holds. -/
def errIf (bad : Bool) (code ofs : Nat) : BodyErrs := if bad then [(code, ofs)] else []

/-- Bits `lo` to `hi` of `w` are not all zero. -/
def bitsSet (w lo hi : Nat) : Bool := bitsOf w lo (hi + 1 - lo) != 0

/-- FORMAT (0x01) when a word from index `i` to `j` of a body is not zero (reserved words). -/
def wordsZero (ws : List Nat) (i j ofs : Nat) : BodyErrs :=
  errIf (((ws.drop i).take (j + 1 - i)).any (· != 0)) 1 ofs

/-- Element `i`, 0 beyond the end. -/
def natAt (ws : List Nat) (i : Nat) : Nat := (ws[i]?).getD 0

/-! ### Parser (R142, R149, R155, R164) -/

/-- REASON of an ODD or MALFORMED transition must lie in 0x40 to 0x7F. -/
def kindErrs (count kind next reason ofs : Nat) : BodyErrs :=
  errIf (kind = 0 && next ≥ count) 2 ofs ++ errIf (kind ≥ 2 && (reason < 0x40 || reason > 0x7F)) 6 ofs

def stateErrs (count trans : Nat) (ws : List Nat) (o : Nat) : BodyErrs :=
  let w0 := natAt ws 0
  let w1 := natAt ws 1
  let w2 := natAt ws 2
  let w3 := natAt ws 3
  errIf (bitsSet w0 31 31 || bitsSet w0 48 63) 1 o ++ errIf (bitsSet w1 20 63) 1 (o + 8)
    ++ errIf (bitsSet w2 11 11 || bitsSet w2 32 63) 1 (o + 16)
    ++ errIf (bitsSet w3 17 19 || bitsSet w3 31 31 || bitsSet w3 40 63) 1 (o + 24)
    ++ errIf (bitsOf w0 0 2 = 3 || (bitsOf w0 0 2 = 0 && bitsOf w0 2 8 = 0)) 4 o ++ errIf (bitsOf w1 18 2 = 3) 4 (o + 8)
    ++ errIf (bitsOf w2 8 3 > 4) 7 (o + 16) ++ errIf (bitsOf w2 12 12 + bitsOf w2 24 8 > trans) 3 (o + 16)
    ++ errIf (bitsOf w3 12 5 > 16) 5 (o + 24) ++ kindErrs count (bitsOf w3 20 2) (bitsOf w3 22 9) (bitsOf w3 32 8) (o + 24)

def transErrs (count : Nat) (ws : List Nat) (o : Nat) : BodyErrs :=
  let w0 := natAt ws 0
  let w1 := natAt ws 1
  errIf (bitsOf w0 0 32 &&& bitsOf w0 32 32 != bitsOf w0 0 32) 7 o
    ++ errIf (bitsSet w1 11 15 || bitsSet w1 24 63) 1 (o + 8) ++ kindErrs count (bitsOf w1 0 2) (bitsOf w1 2 9) (bitsOf w1 16 8) (o + 8)

def parseGraphErrs (inst : Nat) (b : List Byte) : BodyErrs :=
  let ws := words64 b
  let w0 := natAt ws 0
  let n := bitsOf w0 0 10
  let m := bitsOf w0 16 13
  if inst ≠ 0 ∨ b.length < 64 ∨ b.length ≠ 64 + 32 * n + 16 * m then [(1, 0)]
  else
    let starts := fun (i : Nat) => (List.range 4).flatMap fun k => errIf (bitsOf (natAt ws i) (16 * k) 9 ≥ n) 2 (8 * i)
    let rsv := fun (i : Nat) => (List.range 4).flatMap fun k => errIf (bitsSet (natAt ws i) (16 * k + 9) (16 * k + 15)) 1 (8 * i)
    errIf (n = 0 || n > 512 || m > 4096) 1 0 ++ errIf (bitsSet w0 10 15 || bitsSet w0 29 63) 1 0
      ++ starts 1 ++ starts 2 ++ rsv 1 ++ rsv 2 ++ wordsZero ws 3 7 24
      ++ ((List.range n).flatMap fun s => stateErrs n m (ws.drop (8 + 4 * s)) (64 + 32 * s))
      ++ ((List.range m).flatMap fun t => transErrs n (ws.drop (8 + 4 * n + 2 * t)) (64 + 32 * n + 16 * t))

def extractErrs (inst : Nat) (b : List Byte) : BodyErrs :=
  if inst ≠ 0 ∨ b.length % 8 ≠ 0 ∨ b.length > 32768 then [(1, 0)]
  else
    (words64 b).zipIdx.flatMap fun x =>
      let w := x.1
      let o := 8 * x.2
      let mode := bitsOf w 0 2
      let len := bitsOf w 16 6
      errIf (bitsSet w 22 23 || bitsSet w 32 63) 1 o
        ++ errIf (mode = 3 || (mode = 0 && (len = 0 || len > 32)) || ((mode = 1 || mode = 2) && len != 1) || bitsOf w 10 6 + len > 64) 5 o

def policyErrs (inst : Nat) (b : List Byte) : BodyErrs :=
  if inst ≠ 0 ∨ b.length ≠ 80 then [(1, 0)]
  else
    let ws := words64 b
    let w := natAt ws 0
    errIf (bitsSet w 4 15 || bitsSet w 30 63) 1 0 ++ wordsZero ws 9 9 72
      ++ errIf (bitsOf w 16 14 < 64 || bitsOf w 16 14 > 16383) 8 0

/-! ### Tables (R174, R178, R187, R209) -/

/-- Set bits of a number of `n` bits. -/
def countBits (x n : Nat) : Nat := ((List.range n).filter fun i => x.testBit i).length

def tileMapErrs (inst : Nat) (b : List Byte) : BodyErrs :=
  if inst > 255 ∨ b.length ≠ 64 then [(1, 0)]
  else
    let ws := words64 b
    let w0 := natAt ws 0
    let kind := tmKind b
    let wcode := bitsOf w0 2 2
    let kb := tmKeyBits b
    let shape :=
      if kind = 0 then decide (1 ≤ wcode ∧ 1 ≤ kb ∧ kb ≤ 448 ∧ kb ≤ 64 * (2 ^ wcode - 1))
      else if kind = 1 then decide (wcode = 0 ∧ 1 ≤ kb ∧ kb ≤ 144)
      else if kind = 2 then decide (kb = 0)
      else decide (wcode = 2 ∧ kb = 0)
    let flags := (kind = 0 || (!tmPortField b && !tmNotifyAged b && bitsOf w0 32 16 = 0)) && (kind = 2 || !tmEgress b) && (kind = 1 || !tmDramExt b)
    let n := countBits (natAt ws 2) 64 + countBits (natAt ws 3) 64 + countBits (natAt ws 4) 64
    errIf (bitsSet w0 17 31 || bitsSet w0 48 63) 1 0 ++ errIf (bitsSet (natAt ws 1) 8 63) 1 8 ++ wordsZero ws 5 7 40
      ++ errIf (n ≠ tmTileCount b || n = 0 || (kind = 0 && n % 2 = 1)) 2 8 ++ errIf (!(shape && flags)) 4 0

/-- Length of a key source in bytes. -/
def srcLen (src : Nat) : Nat := if src = 1 then 64 else if src = 2 then 8 else 32

def lookupRecErrs (b : List Byte) (i : Nat) : BodyErrs :=
  let o := 32 * i
  let segs := (List.range 8).map (lrSeg b i)
  let rsv := fun (w : Nat) => (List.range 4).any fun k => bitsSet w (16 * k + 14) (16 * k + 15)
  errIf (bitsSet (word64 b o) 27 63 || lrCond b i = 3 || lrIndexLsb b i > 47 || word64 b (o + 24) != 0) 1 o
    ++ errIf (rsv (word64 b (o + 8))) 1 (o + 8) ++ errIf (rsv (word64 b (o + 16))) 1 (o + 16)
    ++ errIf (lrEn b i && segs.any fun s => s.1 != 0 && s.2.2 > 56) 1 (o + 8)
    ++ errIf (lrEn b i && segs.any fun s => s.1 != 0 && (s.2.2 = 0 || s.2.1 + s.2.2 > srcLen s.1)) 6 (o + 8)

def lookupErrs (inst : Nat) (b : List Byte) : BodyErrs :=
  if inst > 7 ∨ b.length ≠ 512 then [(1, 0)] else (List.range 16).flatMap (lookupRecErrs b)

def dramLpmErrs (inst : Nat) (b : List Byte) : BodyErrs :=
  if inst > 255 ∨ b.length ≠ 32 then [(1, 0)]
  else
    let ws := words64 b
    errIf (bitsSet (natAt ws 0) 12 63) 1 0 ++ errIf (bitsSet (natAt ws 1) 32 63) 1 8 ++ wordsZero ws 2 3 16
      ++ errIf (dlChannels b = 0) 9 0 ++ errIf (dlSize b = 0) 9 8 ++ errIf (dlSplit b < 8) 9 0

/-! ### Chamois arrays (R216, R238) -/

def chainErrs (inst : Nat) (b : List Byte) : BodyErrs :=
  if inst > 255 ∨ b.length ≠ 32 then [(1, 0)]
  else
    let ws := words64 b
    let k := ccK b
    let whole := (List.range (64 / k)).all fun c =>
      (List.range k).all fun j => ccHasSeg b (k * c + j) == ccHasSeg b (k * c)
    errIf (bitsSet (natAt ws 0) 2 3 || bitsSet (natAt ws 0) 14 63) 1 0 ++ wordsZero ws 2 3 16
      ++ errIf (ccKeyBits b = 0 || ccKeyBits b > 80 * k) 2 0 ++ errIf (natAt ws 1 = 0 || !whole) 3 8

/-! ### Actions (R241, R250, R257, R264, R268) -/

/-- A reserved bit of an action word of its TYPE is set (R242). -/
def awReserved (w : Nat) : Bool :=
  let t := bitsOf w 16 3
  if t = 1 then bitsSet w 22 23 || bitsSet w 60 63
  else if t = 2 then bitsSet w 52 63
  else if t = 3 then bitsSet w 63 63
  else if t = 4 then bitsSet w 62 63
  else if t = 5 then bitsSet w 46 63
  else if t = 6 then bitsSet w 60 63
  else false

/-- FORMAT and BAD_WORD of an action word image. -/
def imageErrs (w o : Nat) : BodyErrs := errIf (awReserved w) 1 o ++ errIf (awBad w || bitsSet w 0 15) 2 o

def mergeErrs (inst : Nat) (b : List Byte) : BodyErrs :=
  if inst > 7 ∨ b.length ≠ 320 then [(1, 0)]
  else
    let ws := words64 b
    imageErrs (natAt ws 0) 0 ++ errIf (bitsSet (natAt ws 1) 8 63) 1 8 ++ wordsZero ws 2 7 16
      ++ (List.range 8).flatMap fun k =>
        let i := 8 + 4 * k
        errIf (bitsSet (natAt ws i) 8 63 || bitsOf (natAt ws i) 0 2 = 3) 1 (8 * i) ++ wordsZero ws (i + 3) (i + 3) (8 * i + 24)
          ++ imageErrs (natAt ws (i + 1)) (8 * i + 8) ++ imageErrs (natAt ws (i + 2)) (8 * i + 16)

def layoutErrs (inst : Nat) (b : List Byte) : BodyErrs :=
  if inst ≠ 0 ∨ b.length ≠ 32 then [(1, 0)]
  else
    let ws := words64 b
    errIf (bitsSet (natAt ws 0) 9 63) 1 0 ++ wordsZero ws 1 3 8

def spreadErrs (inst : Nat) (b : List Byte) : BodyErrs :=
  if inst ≠ 0 ∨ b.length ≠ 576 then [(1, 0)]
  else
    let ws := words64 b
    errIf (bitsSet (natAt ws 0) 32 63) 1 0 ++ wordsZero ws 1 7 8
      ++ (List.range 16).flatMap fun n =>
        let i := 8 + 4 * n
        let p := natAt ws i
        let s := natAt ws (i + 1)
        let pair := fun (j : Nat) =>
          let l := bitsOf p (17 * j + 12) 5
          l != 0 && (l > 16 || bitsOf p (17 * j) 6 + l > 64 || bitsOf p (17 * j + 6) 6 + l > 64)
        let single := fun (j : Nat) =>
          let l := bitsOf s (12 * j + 6) 5
          l != 0 && (l > 16 || bitsOf s (12 * j) 6 + l > (if bitsOf s (12 * j + 11) 1 = 1 then 8 else 64))
        errIf (bitsSet p 52 63) 1 (8 * i) ++ errIf (bitsSet s 36 63) 1 (8 * i + 8) ++ wordsZero ws (i + 2) (i + 3) (8 * i + 16)
          ++ errIf ((List.range 3).any pair) 4 (8 * i) ++ errIf ((List.range 3).any single) 4 (8 * i + 8)

def costErrs (inst : Nat) (b : List Byte) : BodyErrs :=
  if inst ≠ 0 ∨ b.length ≠ 256 then [(1, 0)]
  else
    (words64 b).zipIdx.flatMap fun x =>
      if x.2 < 21 then errIf (bitsSet x.1 33 39 || bitsSet x.1 48 63) 1 (8 * x.2) else errIf (x.1 != 0) 5 (8 * x.2)

/-! ### Engines (R280, R281, R306 to R308) -/

/-- The bits of an instruction that its opcode leaves reserved (R280, R281, R289); none for a reserved opcode. -/
def insnReserved (w : Nat) : Option Nat :=
  let op := iOp w
  let d := 0xF80000
  let a := 0x7C000
  let b := 0x3E00
  let x := 0x1FF
  if 0x10 ≤ op ∧ op ≤ 0x18 then some x
  else if 0x20 ≤ op ∧ op ≤ 0x23 then some 0
  else if op = 0x24 ∨ op = 0x25 then some 0x3FC0
  else if op = 0x26 then some 0x3000
  else if op = 0x28 ∨ op = 0x29 then some 0x40000
  else if 0x30 ≤ op ∧ op ≤ 0x35 then some (if iZ w then a else 0)
  else if 0x38 ≤ op ∧ op ≤ 0x3B then some 0
  else if op = 0x3C ∨ op = 0x3D then some a
  else if op = 0x3E then some 0
  else if op = 0x3F then some (d + b + x)
  else if op = 0x40 ∨ op = 0x41 then some 0x100
  else if op = 0x42 then some (if iX w % 4 = 0 ∨ iX w % 4 = 3 then 0x1FC + b else 0x1FC)
  else if op = 0x43 then some 0x1FE
  else if op = 0x44 ∨ op = 0x4C then some 0xFFFFFF
  else if op = 0x45 then some (d + x)
  else if op = 0x46 then some x
  else if op = 0x48 then some (a + b + x)
  else if 0x49 ≤ op ∧ op ≤ 0x4B then some (d + b + x)
  else if op = 0x4D ∨ op = 0x4F then some (d + a + b + 0x100)
  else none

/-- The branch target of a C or G instruction at index `i`. -/
def insnTarget (w i : Nat) : Option Int :=
  let op := iOp w
  if 0x38 ≤ op ∧ op ≤ 0x3D then some (i + 1 + signed (bitsOf w 0 14) 14)
  else if op = 0x3E then some (i + 1 + signed (bitsOf w 0 19) 19)
  else none

def insnErrs (count w i : Nat) : BodyErrs :=
  let o := 64 + 4 * i
  errIf (match insnReserved w with | none => true | some m => w &&& m != 0) 3 o
    ++ errIf (match insnTarget w i with | none => false | some t => t < 0 || t ≥ (count : Int)) 4 o

def programErrs (inst : Nat) (b : List Byte) : BodyErrs :=
  let n := epCount b
  if inst > 255 ∨ b.length < 64 ∨ b.length ≠ 64 + 4 * n then [(1, 0)]
  else
    let ws := words64 (b.take 64)
    let w := natAt ws 0
    let r := epResident b
    let accept := (ws.drop 1).take 4
    errIf (bitsSet w 13 15 || bitsSet w 28 31 || bitsSet w 48 63) 1 0 ++ wordsZero ws 5 7 40
      ++ errIf (n = 0 || n > 4096 || epEntry b ≥ n) 2 0
      ++ errIf (r > 8 || (r > 0 && epResEntry b ≥ n) || (r = 8 && accept.any (· != 0))) 6 0
      ++ (words32 (b.drop 64)).zipIdx.flatMap fun x => insnErrs n x.1 x.2

def dataErrs (inst : Nat) (b : List Byte) : BodyErrs :=
  errIf (inst > 255) 1 0 ++ errIf (b.length % 8 ≠ 0 || b.length > 16384) 7 0

/-! ### Ports (R103 to R109, R603) -/

/-- Lanes of a mode (R104). -/
def modeLanes (m : Nat) : Nat :=
  if m = 0 then 0 else if m ≤ 5 then 1 else if m = 6 ∨ m = 8 then 2 else if m = 7 ∨ m = 9 ∨ m = 10 then 4 else if m = 11 then 8 else 0

/-- FEC options of a mode: bit 0 none, bit 1 BASE-R, bit 2 RS (R104). -/
def modeFec (m : Nat) : Nat :=
  if m = 1 then 1 else if m = 2 ∨ m = 3 then 3 else if 4 ≤ m ∧ m ≤ 6 then 4 else if m = 7 then 5 else if 8 ≤ m ∧ m ≤ 11 then 4 else 0

/-- Lanes of a WIDTH code. -/
def widthLanes (c : Nat) : Nat := if c = 0 then 0 else 2 ^ (c - 1)

/-- FEC options that the ranks of a width offer (R115). -/
def rankFec (lanes : Nat) : Nat := if lanes = 1 then 7 else if lanes = 2 ∨ lanes = 4 then 4 else 0

/-- The port record `w` of port `n`; `lanes` are the lanes bound to it, ascending. -/
def portRecErrs (n w : Nat) (lanes : List Nat) (o : Nat) : BodyErrs :=
  let first := bitsOf w 0 7
  let code := bitsOf w 8 3
  let an := bitOf w 11
  let mode := bitsOf w 12 4
  let fec := bitsOf w 16 3
  let maxFrame := bitsOf w 20 14
  let width := widthLanes code
  let rel := first - 12 * (n / 16)
  let mgmt := n ≥ 128
  let checked := if mgmt then mode != 0 else code != 0
  errIf (bitOf w 7 || bitOf w 19 || bitsSet w 34 35 || bitsSet w 38 63 || mode ≥ 12 || code ≥ 5 || (!mgmt && bitsSet w 36 37)) 7 o
    ++ errIf (!mgmt && (lanes != (List.range lanes.length).map (· + first) && lanes != [] || lanes.length != width ||
        (lanes != [] && (first < 12 * (n / 16) || (if width = 8 then rel != 0 && rel != 4 else rel % width != 0))))) 2 o
    ++ errIf (checked && ((!an && modeLanes mode != width) || (an && width = 8))) 3 o
    ++ errIf (checked && (if an then fec &&& rankFec width = 0 else fec &&& modeFec mode = 0)) 4 o
    ++ errIf (checked && (maxFrame < 64 || maxFrame > 16383)) 5 o
    ++ errIf (mgmt && (mode > 2 || (an && mode != 1))) 6 o

def laneMapErrs (inst : Nat) (b : List Byte) : BodyErrs :=
  if inst ≠ 0 ∨ b.length ≠ 1808 then [(7, 0)]
  else
    let ws := words64 b
    let lanes := (ws.take 96).zipIdx
    (lanes.flatMap fun x =>
        errIf (bitsSet x.1 10 63) 7 (8 * x.2) ++ errIf (bitOf x.1 7 && bitsOf x.1 0 7 / 16 != x.2 / 12) 1 (8 * x.2))
      ++ ((ws.drop 96).take 130).zipIdx.flatMap fun x =>
        portRecErrs x.2 x.1 ((lanes.filter fun l => bitOf l.1 7 && bitsOf l.1 0 7 = x.2).map (·.2)) (768 + 8 * x.2)

/-! ### Scheduler and register values (R345, R347, R72) -/

def shapeErrs (inst : Nat) (b : List Byte) : BodyErrs :=
  if inst ≠ 0 ∨ b.length ≠ 73728 then [(1, 0)]
  else
    let ws := words32 b
    let groups := ws.take 2048
    (groups.zipIdx.flatMap fun x =>
        errIf (bitsSet x.1 8 30) 1 (4 * x.2) ++ errIf (bitOf x.1 31 && bitsOf x.1 0 8 > 131) 2 (4 * x.2))
      ++ (ws.drop 2048).zipIdx.flatMap fun x =>
        let o := 8192 + 4 * x.2
        errIf (bitsSet x.1 11 30) 1 o ++ errIf (bitOf x.1 31 && !bitOf (natAt groups (bitsOf x.1 0 11)) 31) 3 o

/-- BAR0 offsets a REG_INIT record may name (R72): the PWR, TIM, GAT, PRT, PRS, TBL, AAR, ACT, ENG, BUF, SCH and DMC windows. -/
def regInitOk (a : Nat) : Bool := a % 8 = 0 && 0x40000 ≤ a && a < 0x2000000

/-- The records of a REG_INIT body: offset and value. -/
def regInitRecs : List Nat → List (Nat × Nat)
  | a :: v :: r => (a, v) :: regInitRecs r
  | _ => []

/-- BLOCK_CODE of a REG_INIT error is not stated (log entry 11): 0 here stands for "to be drawn". -/
def regInitErrs (b : List Byte) : BodyErrs :=
  errIf (b.length % 16 ≠ 0) 0 0
    ++ (regInitRecs (words64 b)).zipIdx.flatMap fun x => errIf (!regInitOk x.1.1) 0 (16 * x.2)

/-! ### One body -/

/-- The types of R67 but NOTE, with class G first. -/
def typesG : List Nat := [0x01, 0x02, 0x03, 0x10, 0x11, 0x12, 0x18, 0x20, 0x21, 0x22, 0x28, 0x29]
def typesD : List Nat := [0x30, 0x38, 0x40, 0x48]

/-- What the block that owns a section's body finds in it (R70). -/
def bodyErrs (t inst : Nat) (b : List Byte) : BodyErrs :=
  if t = T.PARSE_GRAPH then parseGraphErrs inst b
  else if t = T.PARSE_EXTRACT then extractErrs inst b
  else if t = T.MALFORMED_POLICY then policyErrs inst b
  else if t = T.TILE_MAP then tileMapErrs inst b
  else if t = T.LOOKUP_PROGRAM then lookupErrs inst b
  else if t = T.DRAM_LPM then dramLpmErrs inst b
  else if t = T.CHAMOIS_CHAIN then chainErrs inst b
  else if t = T.ACTION_MERGE then mergeErrs inst b
  else if t = T.REWRITE_LAYOUT then layoutErrs inst b
  else if t = T.SPREAD then spreadErrs inst b
  else if t = T.ENGINE_PROGRAM then programErrs inst b
  else if t = T.ENGINE_DATA then dataErrs inst b
  else if t = T.LANE_MAP then laneMapErrs inst b
  else if t = T.QUEUE_SHAPE then shapeErrs inst b
  else if t = T.ENERGY_COSTS then costErrs inst b
  else if t = T.REG_INIT then regInitErrs b
  else []

/-! ### Checks against a whole generation (R164, R209, R238, R268, R308) -/

/-- An error of a whole generation: section type and instance it is found in, BLOCK_CODE, offset in that body. -/
structure GenErr where
  type : Nat
  inst : Nat
  code : Nat
  ofs : Nat
  deriving DecidableEq, Repr

/-- Sections of one type. -/
def secsOf (secs : List Section) (t : Nat) : List Section := secs.filter fun s => s.type = t

def genErr (bad : Bool) (s : Section) (code ofs : Nat) : List GenErr := if bad then [⟨s.type, s.inst, code, ofs⟩] else []

/-- EXTRACT_RANGE of states whose records lie beyond the list. -/
def extractCross (secs : List Section) : List GenErr :=
  let n := ((findSec secs T.PARSE_EXTRACT 0).getD []).length / 8
  (secsOf secs T.PARSE_GRAPH).flatMap fun s =>
    let ws := words64 s.body
    (List.range (bodyFld s.body 0 0 10)).flatMap fun i =>
      let w := natAt ws (8 + 4 * i + 3)
      genErr (bitsOf w 12 5 ≠ 0 && bitsOf w 0 12 + bitsOf w 12 5 > n) s 5 (64 + 32 * i + 24)

/-- TILE_CLASH; each of two sections that clash can be the one at fault. -/
def tileCross (secs : List Section) : List GenErr :=
  ((secsOf secs T.CHAMOIS_CHAIN).flatMap fun s => genErr ((findSec secs T.TILE_MAP s.inst).isSome) s 3 0) ++ (secsOf secs T.TILE_MAP).flatMap fun s =>
    genErr ((secsOf secs T.TILE_MAP).any fun r => r.inst ≠ s.inst && (List.range 192).any fun t => tmHasTile r.body t && tmHasTile s.body t) s 3 16
      ++ genErr ((findSec secs T.CHAMOIS_CHAIN s.inst).isSome) s 3 0

/-- How a table number is defined among sections. -/
def tblOf (secs : List Section) (t : Nat) : TblDef :=
  match findSec secs T.TILE_MAP t with
  | some b => .tile b
  | none =>
    match findSec secs T.CHAMOIS_CHAIN t with
    | some b => .cham b
    | none => .none

/-- NO_TABLE, KEY_SIZE, LEARN_TABLE, EGRESS_USE and SEARCH_USE of one enabled record. The key of an EXACT table is W − 1 words, of an LPM
table 3 words, of a Chamois table 10k bytes, of the others empty. -/
def recordCross (secs : List Section) (s : Section) (i : Nat) : List GenErr :=
  let b := s.body
  let o := 32 * i
  let t := lrTable b i
  let segs := (List.range 8).map (lrSeg b i)
  let total := segs.foldl (fun n x => if x.1 = 0 then n else n + x.2.2) 0
  let any := segs.any fun x => x.1 != 0
  if !lrEn b i then []
  else
    match tblOf secs t with
    | .tile m =>
      let kind := tmKind m
      let key := if kind = 0 then 8 * (tmW m - 1) else if kind = 1 then 24 else 0
      genErr (total > key || (kind ≥ 2 && any)) s 6 (o + 8)
        ++ genErr (lrLearn b i && !(kind = 0 && tmW m = 2 && tmPortField m)) s 7 o
        ++ genErr (tmEgress m || (kind = 2 && tmW m > 1)) s 8 o
    | .cham m =>
      genErr (total > 10 * ccK m) s 6 (o + 8) ++ genErr (lrLearn b i) s 7 o
        ++ genErr ((List.range i).any fun j => lrEn b j && lrTable b j = t) s 0x105 o
    | _ => genErr true s 5 o

def programCross (secs : List Section) : List GenErr :=
  (secsOf secs T.LOOKUP_PROGRAM).flatMap fun s => (List.range 16).flatMap (recordCross secs s)

/-- NO_TABLE and DRAM_REGION of DRAM_LPM bodies; `base` and `size` are the range of the table clients in MiB. -/
def dramCross (secs : List Section) (base size : Nat) : List GenErr :=
  (secsOf secs T.DRAM_LPM).flatMap fun s =>
    match findSec secs T.TILE_MAP s.inst with
    | none => genErr true s 5 0
    | some m =>
      genErr (!(tmKind m = 1 && tmDramExt m)) s 5 0 ++ genErr (tmKind m = 1 && dlSplit s.body + 1 > tmKeyBits m) s 9 0
        ++ genErr (dlBase s.body < base || dlBase s.body + dlSize s.body > base + size) s 9 8

/-- SEG_CLASH. -/
def segCross (secs : List Section) : List GenErr :=
  (secsOf secs T.CHAMOIS_CHAIN).flatMap fun s =>
    genErr ((secsOf secs T.CHAMOIS_CHAIN).any fun r => r.inst ≠ s.inst && word64 r.body 8 &&& word64 s.body 8 != 0) s 4 8

/-- EGR_TABLE; with EGR_EN 0 no egress table exists and the field names none (R257; DEDUCED, log entry 33). -/
def egressCross (secs : List Section) : List GenErr :=
  (secsOf secs T.REWRITE_LAYOUT).flatMap fun s =>
    genErr (bodyFld s.body 0 8 1 = 1 &&
      (match findSec secs T.TILE_MAP (bodyFld s.body 0 0 8) with
       | some m => !(tmKind m = 2 && tmEgress m && tmW m ≥ 2)
       | none => true)) s 3 0

/-- TABLE_REF and DATA. -/
def engineCross (secs : List Section) : List GenErr :=
  ((secsOf secs T.ENGINE_PROGRAM).flatMap fun s =>
      (words32 (s.body.drop 64)).zipIdx.flatMap fun x =>
        let counter := match findSec secs T.TILE_MAP (iX x.1 % 256) with | some m => tmKind m = 3 | none => false
        let defined := tblOf secs (iX x.1 % 256) != .none
        genErr ((iOp x.1 = 0x40 && (counter || !defined)) || (iOp x.1 = 0x41 && !counter)) s 5 (64 + 4 * x.2))
    ++ (secsOf secs T.ENGINE_DATA).flatMap fun s => genErr ((findSec secs T.ENGINE_PROGRAM s.inst).isNone) s 7 0

/-- Every check of the generation as the stream leaves it. Codes of the Chamois block are marked by 0x100 where the section is not its own. -/
def genErrs (secs : List Section) (base size : Nat) : List GenErr :=
  extractCross secs ++ tileCross secs ++ programCross secs ++ dramCross secs base size ++ segCross secs ++ egressCross secs ++ engineCross secs

/-! ### Resource conflicts (R71) -/

/-- Section (type, instance, body) of an overlay gives new content to a resource that the active generation's sections use. -/
def conflicts (active : List Section) (t inst : Nat) (b : List Byte) : Bool :=
  if t = T.TILE_MAP then
    if findSec active T.TILE_MAP inst = some b then false
    else
      (findSec active T.TILE_MAP inst).isSome || (findSec active T.CHAMOIS_CHAIN inst).isSome ||
        (secsOf active T.TILE_MAP).any fun r => (List.range 192).any fun k => tmHasTile r.body k && tmHasTile b k
  else if t = T.CHAMOIS_CHAIN then
    (secsOf active T.CHAMOIS_CHAIN).any fun r => word64 r.body 8 &&& word64 b 8 != 0
  else if t = T.ENGINE_PROGRAM ∨ t = T.ENGINE_DATA then (findSec active T.ENGINE_PROGRAM inst).isSome
  else false

end Sys2Proof.Machine
end

