-- ==== Sys2Proof/Machine/TableBase.lean ====
section
/-! DEFINITION. What all table commands share (R55, R196 to R201, R493, R514): their words, their order on a ring, refusals, and the writing of
records to RESULT_ADDR.
Readings of the manual that it takes are DEDUCED, in log entry 17. -/

namespace Sys2Proof.Machine

/-! ### Words of a table command (R196) -/

def Entry.tTable (e : Entry) : Nat := bitsOf (e.w 1) 0 8
def Entry.tAll (e : Entry) : Bool := bitOf (e.w 1) 8
def Entry.tMode (e : Entry) : Nat := bitsOf (e.w 1) 12 4
def Entry.tPlen (e : Entry) : Nat := bitsOf (e.w 1) 16 8
def Entry.tArg (e : Entry) : Nat := bitsOf (e.w 1) 32 32
/-- Word `i` from 0x18 on. -/
def Entry.tWord (e : Entry) (i : Nat) : Word := wordAt e.words (3 + i)
/-- `n` words from 0x18 on. -/
def Entry.tWords (e : Entry) (n : Nat) : List Word := (List.range n).map e.tWord
/-- The entry holds `n` words from 0x18 on. -/
def Entry.tHolds (e : Entry) (n : Nat) : Bool := 3 + n ≤ 4 * e.slots

/-! ### Statuses (R200) -/

namespace St

def ok : Nat := 0
def notPermitted : Nat := 0x07
def noTable : Nat := 0x20
def genLoading : Nat := 0x21
def wrongKind : Nat := 0x22
def exists_ : Nat := 0x23
def notFound : Nat := 0x24
def full : Nat := 0x25
def badKey : Nat := 0x26
def badIndex : Nat := 0x27
def badLength : Nat := 0x28
def end_ : Nat := 0x29
def fenceTimeout : Nat := 0x2A
def poisoned : Nat := 0x2B

end St

/-! ### Order on a ring (R55) -/

/-- A table command that has taken effect. -/
def Entry.effected (e : Entry) : Bool := e.finished || !e.records.isEmpty

/-- Entry `e` is a table command that must take effect before one on table `t` (none: any table) that comes after it. -/
def Entry.precedes (e : Entry) (t : Option Nat) : Bool :=
  0x10 ≤ e.op && !e.effected &&
    (match t with
     | none => true
     | some n => e.tTable == n || (e.op == 0x16 && e.tAll))

/-- Every earlier command of the ring to the table has taken effect. -/
def Dev.tableTurn (d : Dev) (r : Nat) (e : Entry) (t : Option Nat) : Bool :=
  (d.sub r).prog.all fun x => d.behind r x.index ≤ d.behind r e.index || !x.precedes t

/-! ### Records (R198, R514) -/

/-- Writes the records of a command that has taken effect, then completes it; without a translation they wait on chip. -/
def Dev.flushRecords (d : Dev) (r : Nat) (e : Entry) : Dev × HostWrites :=
  match d.hostWrites r (bitsOf (e.w 2) 0 48) e.records !e.fence with
  | some w => ((d.count (Reg.HIF_COUNT 3) e.records.length).finish r e e.status e.value, w)
  | none => (d, [])

/-- A command ends with a status, a value and records. -/
def Dev.tableEnd (d : Dev) (r : Nat) (e : Entry) (status value : Nat) (data : List Byte) : Dev × HostWrites :=
  if data.isEmpty then (d.finish r e status (BitVec.ofNat 64 value), [])
  else
    let e := { e with started := true, records := data, status := status, value := BitVec.ofNat 64 value }
    (d.setEntry r e).flushRecords r e

/-- A command ends without records. -/
def Dev.tableStop (d : Dev) (r : Nat) (e : Entry) (status : Nat) : Dev × HostWrites := d.tableEnd r e status 0 []

/-- A reserved bit of word 1 is set (R196). -/
def Entry.tReserved (e : Entry) : Bool := bitsOf (e.w 1) 9 3 ≠ 0 || bitsOf (e.w 1) 24 8 ≠ 0

/-- A reserved bit of word 2 is set: RESULT_ADDR, the places of AGE_SCAN, or a reserved word. -/
def Entry.tWord2Bad (e : Entry) : Bool :=
  if e.op = 0x12 ∨ e.op = 0x13 ∨ e.op = 0x17 then bitsOf (e.w 2) 0 3 ≠ 0 || bitsOf (e.w 2) 48 16 ≠ 0
  else if e.op = 0x15 then bitsOf (e.w 2) 32 32 ≠ 0
  else e.w 2 ≠ 0

/-- The largest MODE that the command defines for some kind of table. -/
def modeMax (op : Nat) : Nat :=
  if op = 0x10 then 2 else if op = 0x12 then 3 else if op = 0x14 ∨ op = 0x17 then 1 else if op = 0x16 then 2 else 0

/-- The ring's owner may issue table commands (R493). -/
def Dev.tableEn (d : Dev) (r : Nat) : Bool := d.bit (Reg.HIF_FUNC (d.ringFunc r)) F.HIF_FUNC_TABLE_EN

/-- A table command of opcode `op` on ring `r`: records still to be written go first; it waits for its turn; `f` carries it out. -/
def Dev.tableCmd (d : Dev) (r i op : Nat) (f : Entry → Dev × HostWrites) : Dev × HostWrites :=
  d.withEntry r i (· == op) fun e =>
    if !e.records.isEmpty then d.flushRecords r e
    else if e.started ∨ !d.tableTurn r e (if op = 0x16 then none else some e.tTable) then (d, [])
    else if !d.tableEn r then d.tableStop r e St.notPermitted
    else f e

/-- Word 0 of a record of SEARCH or NEXT (R198, R228). -/
def recordWord (place plen : Nat) (more : Bool) : Word := BitVec.ofNat 64 (place % 2 ^ 32 + plen * 2 ^ 32 + (if more then 2 ^ 40 else 0))

/-- The 8 bytes that NEXT writes first. -/
def nextHeader (cursor n : Nat) : List Byte := leBytes 8 (cursor % 2 ^ 32 + n * 2 ^ 32)

end Sys2Proof.Machine
end

