-- ==== Sys2Proof/Machine/Xlt.lean ====
section
/-! DEFINITION. Translation (R509 to R517): walks, suspended accesses, RESUME and SKIP, and fault records.
Readings of the manual that it takes are DEDUCED, in log entries 30, 32. -/

namespace Sys2Proof.Machine

/-! ### The walk (R510, R511, R513) -/

/-- What a walk ends with: a fault code, the physical page with its permissions, or a table read that the command did not bring. -/
inductive WalkEnd where
  | fault (code : Nat)
  | page (pa : Nat) (rd wr : Bool)
  | open_
  deriving DecidableEq, Repr

/-- The physical address of the entry that level `l` reads in the table at physical page `t` (R510). -/
def entryAddr (iova l t : Nat) : Nat := t * 4096 + 8 * bitsOf iova (3 + 9 * l) 9

/-- The walk from level `l` and the table at physical page `t` down; `es` gives the entries read, by physical address, none for a read that
failed on PCIe; `rd` and `wr` say that every entry so far allows the access. -/
def walk (iova : Nat) (es : List (Nat × Option Word)) (rd wr : Bool) : Nat → Nat → WalkEnd
  | 0, _ => .fault 6
  | l + 1, t =>
    match (es.find? fun x => x.1 == entryAddr iova (l + 1) t).map Prod.snd with
    | some (some e) =>
      let x := e.toNat
      let large := bitOf x 7
      let rd := rd && bitOf x 2
      let wr := wr && bitOf x 1
      if !bitOf x 0 then .fault 1
      else if bitsOf x 3 4 ≠ 0 ∨ bitsOf x 8 4 ≠ 0 ∨ bitsOf x 52 12 ≠ 0 ∨ (large ∧ l + 1 ≥ 3) then .fault 4
      else if l + 1 = 2 ∧ large then
        if bitsOf x 12 9 ≠ 0 then .fault 4 else .page (bitsOf x 12 40 + bitsOf iova 12 9) rd wr
      else if l = 0 then .page (bitsOf x 12 40) rd wr
      else walk iova es rd wr l (bitsOf x 12 40)
    | some none => .fault 6
    | none => .open_

/-- The fault of an access, none when the walk allows it (R513). -/
def walkFault (e : WalkEnd) (write : Bool) : Option Nat :=
  match e with
  | .fault c => some c
  | .page _ rd wr => if write then (if wr then none else some 3) else (if rd then none else some 2)
  | .open_ => none

/-! ### The access that waits for a translation -/

/-- `x` lies in the `n` bytes from `a`. -/
def inRange (x a n : Nat) : Bool := a ≤ x && x < a + n

/-- Ring `r` has an access of this kind to this address that needs a translation: 0 entry fetch, 1 job, 2 packet read of TX, 3 packet
write, 4 RESULT_ADDR write, 5 completion or PI writeback. -/
def Dev.accessWaits (d : Dev) (r kind i iova : Nat) (write : Bool) : Bool :=
  if kind = 0 then
    r < 32768 && d.fetchable r && !write && inRange iova (d.slotAddr r (d.fetchIdx r % 65536)) 256
  else if kind = 5 then
    let c := r - 32768
    let n := d.ringSize r
    32768 ≤ r && r < 65536 && d.ringState r = rsActive && write
      && ((inRange iova (d.slotAddr r 0) (32 * n)
            && idxGap n (d.fld (Reg.RNG_PI_C c) F.RNG_PI_C_PI % 65536) ((iova - d.slotAddr r 0) / 32) % n < 16)
          || (c ∈ d.hif.wbOwed && inRange iova (d.fld (Reg.RNG_WB c) F.RNG_WB_ADDR * 8) 8))
  else
    match d.entry r i with
    | none => false
    | some e =>
      d.canGo r e &&
        (if kind = 1 then
           e.job && (if write then !e.dstDram && inRange iova (e.jobDst + e.doneBytes) e.chunk
             else e.op = 2 && !e.srcDram && inRange iova (e.jobSrc + e.doneBytes) e.chunk)
         else if kind = 2 then
           e.op = 4 && !e.started && !write && inRange iova (bitsOf (e.w 1) 0 48) (bitsOf (e.w 2) 0 14)
         else if kind = 3 then
           e.op = 5 && e.started && write && inRange iova (bitsOf (e.w 1) 0 48) (bitsOf (e.w 2) 0 15)
         else kind = 4 && !e.records.isEmpty && write && inRange iova (bitsOf (e.w 2) 0 48) e.records.length)

/-! ### Suspension (R484, R514, R516) -/

/-- RNG_PROG of a suspended access (R514). -/
def Dev.suspProg (d : Dev) (r : Nat) (x : Susp) : Nat :=
  if x.kind = 1 then (match d.entry r x.index with | some e => e.doneBytes | none => 0) else 0

/-- The ring enters FAULT_WAIT for a suspended access. -/
def Dev.enterWait (d : Dev) (r : Nat) (x : Susp) : Dev :=
  let prog := d.suspProg r x
  let d := (d.setRingState r rsFaultWait).setFld (Reg.RNG_STATE r) F.RNG_STATE_ERR x.code
  let d := d.setFld (Reg.RNG_ERR_INDEX r) F.RNG_ERR_INDEX_INDEX x.index
  let d := d.setFld (Reg.RNG_PROG r) F.RNG_PROG_DONE_BYTES prog
  (d.raise 14 2).faultRec 1 x.code r x.index x.write x.iova (d.ringSpace r) prog

/-- A translation fault on an access of a submission ring: it is suspended; one that comes while another is suspended waits behind it;
a STOPPING ring gives its entry up, and in ERROR the access stays to be tried again. -/
def Dev.suspend (d : Dev) (r : Nat) (x : Susp) : Dev :=
  let st := d.ringState r
  let d := match d.entry r x.index with
    | some e => if x.kind = 1 then (d.setEntry r { e with job := false }).placeJobs 1 else d
    | none => d
  let sub := d.sub r
  if st = rsActive then (d.setSub r { sub with susps := [x], scan := false }).enterWait r x
  else if st = rsFaultWait then d.setSub r { sub with susps := sub.susps ++ [x] }
  else if st = rsStopping then (d.dropAssigned r x.index).dropEntry r x.index
  else d

/-- A walk has ended with a fault. -/
def Dev.walkFaulted (d : Dev) (r kind i iova : Nat) (write : Bool) (code : Nat) : Dev :=
  let d := d.count (Reg.HIF_COUNT 8) 1
  if kind = 5 then
    d.ringError r 0x0A (d.fld (Reg.RNG_PI_C (r - 32768)) F.RNG_PI_C_PI) true iova (d.ringSpace r)
  else d.suspend r ⟨kind, if kind = 0 then d.fetchIdx r else i, iova, write, code⟩

/-- The PI writebacks owed to the rings `cs` are done where a translation is now cached (R498). -/
def Dev.payWritebacks (d : Dev) : List Nat → Dev × HostWrites
  | [] => (d, [])
  | c :: cs =>
    let x := d.piWriteback c
    let y := x.1.payWritebacks cs
    (y.1, x.2 ++ y.2)

/-- XLT_WALK for an access that waits: SPACE_OFF before any table is read, otherwise the walk from the space's ROOT; a page found is cached (R511), and the PI
writebacks that waited for it are done. -/
def Dev.xltWalk (d : Dev) (r kind i iova : Nat) (write : Bool) (entries : List (Nat × Option Word)) : Dev × HostWrites :=
  let a := iova % 2 ^ 48
  let sp := d.ringSpace r
  if !d.accessWaits r kind i a write ∨ (d.xlate r a write).isSome then (d, [])
  else if !d.spaceOn (d.ringFunc r) sp then (d.walkFaulted r kind i a write 5, [])
  else
    let e := walk a entries true true 4 (d.fld (Reg.XLT_SPACE sp) F.XLT_SPACE_ROOT)
    let keep := d
    let d := d.count (Reg.HIF_COUNT 7) 1
    match walkFault e write, e with
    | some c, _ => (d.walkFaulted r kind i a write c, [])
    | none, .open_ => (keep, [])
    | none, .page pa rd wr =>
      let keep := d.hif.tlb.filter fun x => !(x.space == sp && x.page == a / 4096)
      let d : Dev := { d with hif := { d.hif with tlb := keep ++ [⟨sp, a / 4096, pa, rd, wr⟩] } }
      d.payWritebacks d.hif.wbOwed
    | none, .fault _ => (d, [])

/-- XLT_WALK (R513). -/
def execXltWalk (r kind i iova : Nat) (write : Bool) (entries : List (Nat × Option Word)) (s : State) : Host.Outcome State Fault Refusal :=
  .next (if s.dev.hifOn then s.wrote (s.dev.xltWalk r kind i iova write entries) else s)

/-! ### RESUME and SKIP (R484, R515) -/

/-- The suspended access of a ring in FAULT_WAIT leaves; the ring is ACTIVE again, or waits for the next one. -/
def Dev.nextSusp (d : Dev) (r : Nat) : Dev :=
  let sub := d.sub r
  let d := (d.setSub r { sub with susps := sub.susps.drop 1 }).setRingState r rsActive
  match sub.susps.drop 1 with
  | x :: _ => d.enterWait r x
  | [] => d

/-- RING_RESUME: the suspended access is tried again. -/
def Dev.ringResume (d : Dev) (r : Nat) : Dev :=
  if r < 32768 ∧ d.ringState r = rsFaultWait then (d.nextSusp r).placeJobs 1 else d

/-- RING_RESUME (R515). -/
def execRingResume (r : Nat) (s : State) : Host.Outcome State Fault Refusal :=
  .next { s with dev := if r < 65536 then s.dev.access (Reg.RNG_CTRL r) (some (F.RNG_CTRL_RESUME.put 0 1)) (·.ringResume r) else s.dev }

/-- RING_SKIP: the suspended entry completes with XLT_FAULT and VALUE equal to RNG_PROG; a suspended fetch puts the ring into ERROR. -/
def Dev.ringSkip (d : Dev) (r : Nat) : Dev :=
  if r < 32768 ∧ d.ringState r = rsFaultWait then
    match (d.sub r).susps with
    | [] => d
    | x :: _ =>
      if x.kind = 0 then
        (d.setSub r { d.sub r with susps := [], scan := false }).ringError r 0x09 x.index false x.iova (d.ringSpace r)
      else
        let d := if x.kind = 3 then d.dropAssigned r x.index else d
        let d := match d.entry r x.index with
          | some e => d.finish r e 0x02 (BitVec.ofNat 64 (d.fld (Reg.RNG_PROG r) F.RNG_PROG_DONE_BYTES))
          | none => d
        d.nextSusp r
  else d

/-- RING_SKIP (R515). -/
def execRingSkip (r : Nat) (s : State) : Host.Outcome State Fault Refusal :=
  .next { s with dev := if r < 65536 then s.dev.access (Reg.RNG_CTRL r) (some (F.RNG_CTRL_SKIP.put 0 1)) (·.ringSkip r) else s.dev }

/-! ### FAULT_RECORD_WRITE (R517) -/

/-- The first waiting fault record of function `f` goes to its fault ring, when FAULT_EN is 1. -/
def Dev.faultWrite (d : Dev) (f : Nat) : Dev × HostWrites :=
  match d.hif.faults.find? fun x => x.func = f with
  | none => (d, [])
  | some x =>
    if d.bit (Reg.HIF_FUNC f) F.HIF_FUNC_FAULT_EN then
      d.record (d.fld (Reg.HIF_FUNC f) F.HIF_FUNC_FAULT_RING) 0x85 x.words fun d =>
        { d with hif := { d.hif with faults := d.hif.faults.erase x } }
    else (d, [])

/-- FAULT_RECORD_WRITE (R517). -/
def execFaultRecordWrite (f : Nat) (s : State) : Host.Outcome State Fault Refusal :=
  .next (if s.dev.hifOn then s.wrote (s.dev.faultWrite f) else s)

end Sys2Proof.Machine
end

