-- ==== Sys2Proof/Machine/Chamois.lean ====
section
/-! DEFINITION. Commands on Chamois tables, update queues and the background comparer (R221 to R240).
Readings of the manual that it takes are DEDUCED, in log entry 19. -/

namespace Sys2Proof.Machine

/-! ### Images (R225) -/

/-- The `10k` bytes that key words or mask words hold. -/
def chBytes (b : List Byte) (ws : List Word) : List Byte := slice (wordsBytes ws) 0 (10 * ccK b)

/-- Key and mask of an image as numbers over 80k bits, or none when R225 rejects it; without a mask, the key alone. -/
def chImage (b : List Byte) (key : List Word) (mask : Option (List Word)) : Option (Nat × Nat) :=
  let n := 10 * ccK b
  let beyond := fun (ws : List Word) => (wordsBytes ws).drop n |>.any (· != 0)
  let k := beNat (chBytes b key)
  let m := match mask with
    | some ws => beNat (chBytes b ws)
    | none => 0
  let low := 2 ^ (8 * n - ccKeyBits b) - 1
  if beyond key || (match mask with | some ws => beyond ws | none => false) then none
  else if (k ||| m) &&& low ≠ 0 then none
  else if mask.isSome ∧ k &&& m ≠ k then none
  else some (k, m)

/-- A number over 80k bits cut into 80-bit parts, one per segment. -/
def cutParts (b : List Byte) (x : Nat) : List (BitVec 80) := chParts (beBytes (10 * ccK b) x) (ccK b)

/-- The key and the mask stored at an index. -/
def Dev.chKeyMask (d : Dev) (b : List Byte) (i : Nat) : Nat × Nat :=
  (d.chRow b i).foldl (fun x e => (x.1 * 2 ^ 80 + e.key.toNat, x.2 * 2 ^ 80 + e.mask.toNat)) (0, 0)

/-- The image bytes of key and mask. -/
def imageBytes (b : List Byte) (km : Nat × Nat) : List Byte :=
  let n := 10 * ccK b
  let z := List.replicate (8 * ccKW b - n) (0 : Byte)
  beBytes n km.1 ++ z ++ beBytes n km.2 ++ z

/-! ### Update queues (R224) -/

/-- The group of 8 segments that an index's chain lies in. -/
def chGroup (b : List Byte) (i : Nat) : Nat := (chainSegs b (i / 4096)).headD 0 / 8

def Dev.chQueue (d : Dev) (g : Nat) : List ChUpdate := Map.getD d.chQueues g []
def Dev.setChQueue (d : Dev) (g : Nat) (l : List ChUpdate) : Dev :=
  { d with chQueues := if l.isEmpty then Map.del d.chQueues g else Map.put d.chQueues g l }

/-- The valid bit that index `i` of table `t` will have once the updates queued for it are written. -/
def Dev.chWillBe (d : Dev) (t : Nat) (b : List Byte) (i : Nat) : Bool :=
  match (d.chQueue (chGroup b i)).reverse.find? fun u => u.table = t ∧ u.index = i with
  | some u => u.valid
  | none => d.chValid b i

/-- A command update of index `i` of table `t` has been accepted: a compare of that index in progress notes it (R232). -/
def Dev.cmpNote (d : Dev) (t i : Nat) : Dev :=
  match d.cmp.fetch with
  | some f => if d.cmp.tables.head? = some t ∧ d.cmp.index = i then { d with cmp := { d.cmp with fetch := some { f with raced := true } } } else d
  | none => d

/-- A command's update enters its group queue; while that is full the command waits, counted once. -/
def Dev.chPush (d : Dev) (r : Nat) (e : Entry) (b : List Byte) (u : ChUpdate) : Dev × HostWrites :=
  let g := chGroup b u.index
  let q := d.chQueue g
  if q.length < 32 then (((d.setChQueue g (q ++ [u])).cmpNote u.table u.index).setEntry r { e with started := true }, [])
  else if e.progress = 0 then (((d.setEntry r { e with progress := 1 }).count (Reg.AAR_COUNT 3) 1).raise 3 3, [])
  else (d, [])

/-! ### The commands (R226 to R228) -/

/-- INSERT. -/
def Dev.chInsert (d : Dev) (r : Nat) (e : Entry) (t : Nat) (b : List Byte) : Dev × HostWrites :=
  let kw := ccKW b
  let i := e.tArg
  match chImage b (e.tWords kw) (some ((List.range kw).map fun j => e.tWord (kw + j))) with
  | none => d.tableStop r e St.badKey
  | some (k, m) =>
    if i ≥ ccCapacity b then d.tableStop r e St.badIndex
    else if e.tMode = 0 ∧ d.chWillBe t b i then d.tableStop r e St.exists_
    else if e.tMode = 1 ∧ !d.chWillBe t b i then d.tableStop r e St.notFound
    else d.chPush r e b ⟨t, i, true, k, m, some (r, e.index), true⟩

/-- DELETE: the valid bit is cleared; key and mask are cleared with it, and an invalid entry's bits are never seen. -/
def Dev.chDelete (d : Dev) (r : Nat) (e : Entry) (t : Nat) (b : List Byte) : Dev × HostWrites :=
  let i := e.tArg
  if i ≥ ccCapacity b then d.tableStop r e St.badIndex
  else if !d.chWillBe t b i then d.tableStop r e St.notFound
  else d.chPush r e b ⟨t, i, false, 0, 0, some (r, e.index), true⟩

/-- A record of SEARCH or NEXT. -/
def Dev.chRecord (d : Dev) (b : List Byte) (i : Nat) (more : Bool) : List Byte :=
  wordBytes (recordWord i 0 more) ++ imageBytes b (d.chKeyMask b i)

/-- SEARCH EXACT, MATCH and READ. -/
def Dev.chSearchCmd (d : Dev) (r : Nat) (e : Entry) (b : List Byte) : Dev × HostWrites :=
  let kw := ccKW b
  let a := e.tArg
  let mode := e.tMode
  let mask := if mode = 0 then some ((List.range kw).map fun j => e.tWord (kw + j)) else none
  let img := if mode = 3 then some (0, 0) else chImage b (e.tWords kw) mask
  match img with
  | none => d.tableStop r e St.badKey
  | some (k, m) =>
    if a ≥ ccCapacity b then d.tableStop r e St.badIndex
    else
      let from_ := (d.chIndices b).filter (a ≤ ·)
      let hits :=
        if mode = 3 then from_.filter (· = a)
        else if mode = 0 then from_.filter fun i => d.chKeyMask b i = (k, m)
        else from_.filter fun i => rowMatches (d.chRow b i) (cutParts b k)
      match hits with
      | [] => d.tableStop r e St.notFound
      | i :: t => d.tableEnd r e St.ok i (d.chRecord b i (mode = 2 && !t.isEmpty))

/-- NEXT. -/
def Dev.chNext (d : Dev) (r : Nat) (e : Entry) (b : List Byte) : Dev × HostWrites :=
  let mx := (e.tWord 0).toNat
  let a := e.tArg
  if mx = 0 ∨ mx > 256 ∨ a > ccCapacity b then d.tableStop r e St.badIndex
  else
    let left := (d.chIndices b).filter (a ≤ ·)
    let got := left.take mx
    let cursor := match got.getLast? with
      | some i => i + 1
      | none => a
    d.tableEnd r e (if left.length ≤ mx then St.end_ else St.ok) got.length
      (nextHeader cursor got.length ++ got.flatMap fun i => d.chRecord b i false)

/-- Words that a command on a Chamois table needs from 0x18 on. -/
def chNeeds (op mode kw : Nat) : Nat :=
  if op = 0x10 then 2 * kw else if op = 0x13 then 1
  else if op = 0x12 then (if mode = 0 then 2 * kw else if mode = 2 then kw else 0) else 0

/-- A table command on a Chamois table (R226). -/
def Dev.chCommand (d : Dev) (r : Nat) (e : Entry) (t : Nat) (b : List Byte) : Dev × HostWrites :=
  let op := e.op
  if op = 0x14 ∨ op = 0x15 ∨ op = 0x17 ∨ (op = 0x12 ∧ e.tMode = 1) then d.tableStop r e St.wrongKind
  else if !e.tHolds (chNeeds op e.tMode (ccKW b)) then d.tableStop r e St.badLength
  else if e.tReserved || e.tAll || e.tWord2Bad || e.tPlen ≠ 0 || e.tMode > modeMax op then d.tableStop r e St.badKey
  else if op = 0x10 then d.chInsert r e t b
  else if op = 0x11 then d.chDelete r e t b
  else if op = 0x12 then d.chSearchCmd r e b
  else d.chNext r e b

/-! ### CHAMOIS_UPDATE (R223, R229) -/

/-- The oldest update of group `g` is written; the command it belongs to completes. -/
def Dev.chUpdate (d : Dev) (g : Nat) : Dev :=
  match d.chQueue g with
  | [] => d
  | u :: t =>
    let d := d.setChQueue g t
    let ok := match d.tblDef u.table with
      | .cham b => some b
      | _ => none
    let d := match ok with
      | some b => d.chWrite b u.index u.valid (cutParts b u.key) (cutParts b u.mask)
      | none => d
    let d := if u.byCmd && ok.isSome then d.count (Reg.AAR_COUNT 2) 1 else d
    match u.cmd with
    | none => d
    | some (r, i) =>
      match d.entry r i with
      | none => d
      | some e =>
        if ok.isSome then d.finish r e St.ok (BitVec.ofNat 64 u.index)
        else d.finish r e St.noTable 0

/-- CHAMOIS_UPDATE (R223). -/
def execChamoisUpdate (g : Nat) (s : State) : Host.Outcome State Fault Refusal :=
  .next { s with dev := if s.dev.running && s.dev.lineUp (64 + 2 * g) && s.dev.lineUp (65 + 2 * g) then s.dev.chUpdate g else s.dev }

/-! ### The comparer (R230 to R237) -/

/-- The Chamois definition of a table in a generation that counts. -/
def Dev.chDef (d : Dev) (t : Nat) : Option (List Byte) :=
  match d.tblDef t with
  | .cham b => some b
  | _ => none

/-- The table is compared. -/
def Dev.cmpOn (d : Dev) (t : Nat) : Bool := d.bit (Reg.AAR_SHADOW t) F.AAR_SHADOW_EN && (d.chDef t).isSome

/-- A new sweep, the tables for which `front` holds first, then in ascending number (R232, R236). -/
def Dev.cmpStart (d : Dev) (front : Nat → Bool) : Dev :=
  let on := (List.range 256).filter d.cmpOn
  let d := match d.cmp.fetch with
    | some f => d.takeAnswers f.tag
    | none => d
  { d with cmp := ⟨true, on.filter front ++ on.filter (fun t => !front t), 0, d.free, none⟩ }

/-- The sweep ends when no table is left (R235). -/
def Dev.cmpSettle (d : Dev) : Nat → Dev
  | 0 => d
  | fuel + 1 =>
    match d.cmp.tables with
    | [] =>
      if d.cmp.running then
        let ms := min 65535 ((d.free - d.cmp.started) / 1000000)
        let d := { d with cmp := { d.cmp with running := false, index := 0 } }
        (d.setFld Reg.AAR_CMP_STATUS F.AAR_CMP_STATUS_LAST_SWEEP ms).raise 3 4
      else d
    | t :: r =>
      let more := match d.chDef t with
        | some b => d.bit (Reg.AAR_SHADOW t) F.AAR_SHADOW_EN && d.cmp.index < ccCapacity b
        | none => false
      if more then d else { d with cmp := { d.cmp with tables := r, index := 0 } }.cmpSettle fuel

/-- A shadow record: valid bit, key and mask. -/
structure Shadow where
  valid : Bool
  key : Nat
  mask : Nat
  deriving DecidableEq, Repr

/-- The record that words of a shadow spell (R230). -/
def shadowOf (b : List Byte) (ws : List Word) : Shadow :=
  let kw := ccKW b
  let part := fun o => beNat (chBytes b ((List.range kw).map fun j => wordAt ws (o + j)))
  ⟨(wordAt ws 0).getLsbD 0, part 1, part (1 + kw)⟩

/-- S, the bytes of a shadow record. -/
def shadowSize (b : List Byte) : Nat := if ccK b ≤ 2 then 64 else 32 * ccK b

/-- The address of the shadow record of index `i` (R230). -/
def shadowAddr (f : CmpFetch) (b : List Byte) (i : Nat) : Nat := F.AAR_SHADOW_ADDR.of f.shadow * 64 + i * shadowSize b

/-- The page of an address in a space may be read: through a cached translation, or by a walk that read `entries`; none while the walk has not
read what it needs (R509, R513). -/
def Dev.pageRead (d : Dev) (sp iova : Nat) (entries : List (Nat × Option Word)) : Option Bool × Dev :=
  if !d.bit (Reg.XLT_SPACE sp) F.XLT_SPACE_EN then (some false, d)
  else if d.hif.tlb.any fun x => x.space == sp && x.page == iova / 4096 && x.rd then (some true, d)
  else
    let e := walk iova entries true true 4 (d.fld (Reg.XLT_SPACE sp) F.XLT_SPACE_ROOT)
    let keep := d
    let d := d.count (Reg.HIF_COUNT 7) 1
    match walkFault e false, e with
    | none, .open_ => (none, keep)
    | none, .page pa rd wr =>
      let keep := d.hif.tlb.filter fun x => !(x.space == sp && x.page == iova / 4096)
      (some true, { d with hif := { d.hif with tlb := keep ++ [⟨sp, iova / 4096, pa, rd, wr⟩] } })
    | _, _ => (some false, d)

/-- The pages of a shadow record may be read, the second one too when the record reaches into it. -/
def Dev.shadowPages (d : Dev) (sp a n : Nat) (entries : List (Nat × Option Word)) : Option Bool × Dev :=
  match d.pageRead sp a entries with
  | (some true, d) => if (a + n - 1) / 4096 = a / 4096 then (some true, d) else d.pageRead sp (a + n - 1) entries
  | x => x

/-- What the fetch of a shadow record has given: nothing yet, a failure (R234), or the record. -/
inductive Fetched where
  | waits
  | failed
  | record (s : Shadow)
  deriving DecidableEq, Repr

/-- The shadow record of index `i`: from host memory through its space, or from DRAM once its reads are answered (R230, R234). -/
def Dev.fetchShadow (d : Dev) (i : Nat) (b : List Byte) (f : CmpFetch) (entries : List (Nat × Option Word)) (data : Option (List Word)) :
    Fetched × Dev :=
  let a := shadowAddr f b i
  let n := shadowSize b
  if F.AAR_SHADOW_LOC.of f.shadow = 1 then
    if d.dramWaits f.tag then (.waits, d)
    else
      let l := d.answersOf f.tag
      let d := d.takeAnswers f.tag
      if l.any (·.bad != 0) then (.failed, d) else (.record (shadowOf b (bytesWords (answerBytes l a n) (n / 8))), d)
  else
    match d.shadowPages (F.AAR_SHADOW_SPACE.of f.shadow) a n entries, data with
    | (none, d), _ => (.waits, d)
    | (some true, d), some ws => (.record (shadowOf b ws), d)
    | (_, d), _ => (.failed, d)

/-- The shadow and the array entry differ (R232). -/
def Dev.shadowDiffers (d : Dev) (b : List Byte) (i : Nat) (s : Shadow) : Bool :=
  s.valid != d.chValid b i || (s.valid && (s.key, s.mask) != d.chKeyMask b i)

/-- AAR_CMP_LAST of a mismatch or a shadow failure. -/
def cmpLast (t i kind : Nat) : Word :=
  F.AAR_CMP_LAST_VALID.put (F.AAR_CMP_LAST_KIND.put (F.AAR_CMP_LAST_INDEX.put (F.AAR_CMP_LAST_TABLE.put 0 t) i) kind) 1

/-- The shadow of the table cannot be read (R234). -/
def Dev.shadowFault (d : Dev) (t i : Nat) : Dev :=
  let d := (d.setFld (Reg.AAR_SHADOW t) F.AAR_SHADOW_EN 0).setReg Reg.AAR_CMP_LAST (cmpLast t i 2)
  (d.count (Reg.AAR_COUNT 8) 1).raise 3 2

/-- A confirmed mismatch (R233). -/
def Dev.cmpMismatch (d : Dev) (t i : Nat) (b : List Byte) (s : Shadow) : Dev :=
  let line := 64 + (chainSegs b (i / 4096)).headD 0 / 4
  let rep := d.bit Reg.AAR_CMP_CTRL F.AAR_CMP_CTRL_REPAIR
  let d := ((d.count (Reg.AAR_COUNT 6) 1).setReg Reg.AAR_CMP_LAST (cmpLast t i (if rep then 1 else 0))).raise 3 0
  if rep then
    let g := chGroup b i
    let d := d.setChQueue g (d.chQueue g ++ [⟨t, i, s.valid, s.key, s.mask, none, false⟩])
    ((d.count (Reg.AAR_COUNT 7) 1).raise 3 1).report line 1 false
  else d.report line 2 false

/-- The comparer is done with the current index. -/
def Dev.cmpNext (d : Dev) : Dev :=
  { d with cmp := { d.cmp with index := d.cmp.index + 1 } }.cmpSettle 257

/-- The comparer begins to fetch the shadow record of its current index. -/
def Dev.cmpBegin (d : Dev) (b : List Byte) (shadow : Word) (again : Bool) : Dev :=
  let (tag, d) := d.newTag
  let f : CmpFetch := ⟨shadow, again, tag, false⟩
  let d := { d with cmp := { d.cmp with fetch := some f } }
  if F.AAR_SHADOW_LOC.of shadow = 1 then d.dramRead 0 (shadowAddr f b d.cmp.index) (shadowSize b) tag else d

/-- The shadow record of the current index has been fetched: the compare, the refetch after a difference, and the verdict (R232). A compare read
waits while a command update is queued for its group (R224); one accepted since the fetch or the refetch began skips the index (R237). -/
def Dev.compareAt (d : Dev) (t : Nat) (b : List Byte) (f : CmpFetch) (entries : List (Nat × Option Word)) (data : Option (List Word)) : Dev :=
  let i := d.cmp.index
  let q := d.chQueue (chGroup b i)
  if q.any (·.byCmd) ∨ q.length ≥ 32 then d
  else
    match d.fetchShadow i b f entries data with
    | (.waits, d) => d
    | (.failed, d) => (({ d with cmp := { d.cmp with fetch := none } } : Dev).shadowFault t i).cmpSettle 257
    | (.record s, d) =>
      let d := { d with cmp := { d.cmp with fetch := none } }
      if f.raced then (d.count (Reg.AAR_COUNT 5) 1).cmpNext
      else if f.again then (if d.shadowDiffers b i s then d.cmpMismatch t i b s else d).cmpNext
      else
        let d := d.count (Reg.AAR_COUNT 4) 1
        if d.shadowDiffers b i s then d.cmpBegin b f.shadow true else d.cmpNext

/-- AAR_CMP_STATUS follows the comparer. -/
def Dev.cmpShow (d : Dev) : Dev :=
  let a := Reg.AAR_CMP_STATUS
  ((d.setFld a F.AAR_CMP_STATUS_RUNNING d.cmp.running.toNat).setFld a F.AAR_CMP_STATUS_TABLE (d.cmp.tables.headD 0)).setFld a
    F.AAR_CMP_STATUS_INDEX d.cmp.index

/-- The current index of a sweep: its fetch begins, or its record is compared. The rest of a table that no generation defines is skipped
(R237). -/
def Dev.cmpStep (d : Dev) (entries : List (Nat × Option Word)) (data : Option (List Word)) : Dev :=
  match d.cmp.tables with
  | [] => d
  | t :: _ =>
    match d.chDef t, d.cmp.fetch with
    | some b, some f => if d.segsUp b then d.compareAt t b f entries data else d
    | some b, none => if d.segsUp b then d.cmpBegin b (d.reg (Reg.AAR_SHADOW t)) false else d
    | none, some f => ({ d.takeAnswers f.tag with cmp := { d.cmp with fetch := none } } : Dev).cmpSettle 257
    | none, none => d

/-- COMPARE_INDEX: a sweep starts when none runs; then the comparer goes on with its current index. -/
def Dev.compareIndex (d : Dev) (entries : List (Nat × Option Word)) (data : Option (List Word)) : Dev :=
  if !d.bit Reg.AAR_CMP_CTRL F.AAR_CMP_CTRL_EN then d
  else
    let d := if d.cmp.running then d else d.cmpStart fun _ => false
    let d := if d.cmp.fetch.isSome then d else d.cmpSettle 257
    (d.cmpStep entries data).cmpShow

/-- COMPARE_INDEX (R232). -/
def execCompareIndex (entries : List (Nat × Option Word)) (data : Option (List Word)) (s : State) : Host.Outcome State Fault Refusal :=
  .next { s with dev := if s.dev.running then s.dev.compareIndex entries data else s.dev }

/-- A write of RESTART while EN is 1: the sweep is abandoned and a new one starts. -/
def Dev.cmpAgain (d : Dev) : Dev := if d.bit Reg.AAR_CMP_CTRL F.AAR_CMP_CTRL_EN then (d.cmpStart fun _ => false).cmpShow else d

/-- CMP_RESTART (R235). -/
def execCmpRestart (s : State) : Host.Outcome State Fault Refusal :=
  .next { s with dev := s.dev.access Reg.AAR_CMP_CTRL (some (F.AAR_CMP_CTRL_RESTART.put (s.dev.reg Reg.AAR_CMP_CTRL) 1)) Dev.cmpAgain }

end Sys2Proof.Machine
end

