-- ==== Sys2Proof/Machine/TableCmd.lean ====
section
/-! DEFINITION. Table commands on tables of tiles, and FENCE for every table (R172 to R177, R194 to R207, R604).
Readings of the manual that it takes are DEDUCED, in log entries 17, 18. -/

namespace Sys2Proof.Machine

/-! ### Checks of the operands (R196, R197, R200) -/

/-- The command, or its MODE, does not apply to the table's kind. -/
def tileWrongKind (b : List Byte) (op mode : Nat) : Bool :=
  if op = 0x14 then tmKind b ≠ 0 || !tmPortField b
  else if op = 0x15 then tmKind b ≠ 0
  else if op = 0x17 then tmKind b ≠ 3
  else op = 0x12 && (mode = 2 || mode = 3 || (mode = 1 && tmKind b ≠ 1))

/-- Words of the key of a command. -/
def tileKeyWords (b : List Byte) : Nat := if tmKind b = 0 then tmW b - 1 else if tmKind b = 1 then 3 else 0

/-- Words that a command needs from 0x18 on. -/
def tileNeeds (b : List Byte) (op : Nat) : Nat :=
  if op = 0x10 then (if tmKind b = 1 ∨ tmKind b = 3 then 4 else tmW b)
  else if op = 0x11 ∨ op = 0x12 then tileKeyWords b
  else if op = 0x13 ∨ op = 0x17 then 1
  else 0

/-- A reserved bit, a MODE of no kind, ALL, or a PREFIX_LEN that does not fit. -/
def tileBadWords (b : List Byte) (e : Entry) : Bool :=
  e.tReserved || e.tAll || e.tWord2Bad || e.tMode > modeMax e.op || (if tmKind b = 1 then e.tPlen > tmKeyBits b else e.tPlen ≠ 0)

/-- The result word of an image may be inserted: VALID, and no reserved bit. -/
def resultOk (b : List Byte) (w : Word) : Bool :=
  rwValid w && Fld.of ⟨3, 13⟩ w = 0 && !(tmKind b = 2 && rwHit w)

/-- The image of a COUNTER entry may be inserted. -/
def counterOk (ws : List Word) : Bool :=
  Fld.of ⟨48, 16⟩ (wordAt ws 0) = 0 && Fld.of ⟨48, 16⟩ (wordAt ws 1) = 0 && Fld.of ⟨48, 16⟩ (wordAt ws 2) = 0
    && Fld.of ⟨36, 28⟩ (wordAt ws 3) = 1

/-- Key words have bits at `kb` or beyond. -/
def keyOver (ws : List Word) (kb : Nat) : Bool := keyTail (wordsBytes ws) kb ≠ 0

/-- Places of an INDEX, COUNTER or EXACT table; of an LPM table the handles the device may give. -/
def cmdPlaces (b : List Byte) : Nat := if tmKind b = 1 then 4294967294 else tmPlaces b

/-! ### Placement in an EXACT table (R172, R173) -/

/-- The place is free for placement: it holds no entry, or is poisoned (R207). -/
def TableMem.placeFree (m : TableMem) (p : Nat) : Bool := m.poisoned p || !imageValid 0 ((Map.find m.places p).getD [])

/-- The key words of an EXACT entry. -/
def keyOf (ws : List Word) : List Word := ws.take (ws.length - 1)

/-- The candidate places of the entry at place `p`. -/
def TableMem.candsAt (m : TableMem) (b : List Byte) (p : Nat) : List Nat := exactPlaces b (keyOf ((Map.find m.places p).getD []))

/-- The entry at place `p` moves to place `q`: it is written there, then removed from `p`. -/
def TableMem.move (m : TableMem) (p q : Nat) : TableMem :=
  let ws := (Map.find m.places p).getD []
  (m.store q ws).store p (List.replicate ws.length 0)

/-- A place of the device's choice among `l`. -/
def Dev.chooseOf (d : Dev) (l : List Nat) : Option Nat × Dev :=
  if l.isEmpty then (none, d)
  else
    let (k, d) := d.fresh l.length
    (l[k]?, d)

/-- The device moves one entry of its choice to a free candidate place of its own. -/
def Dev.moveOne (d : Dev) (t : Nat) (b : List Byte) : Dev :=
  let m := d.tbl t
  match d.chooseOf (m.places.map (·.1)) with
  | (none, d) => d
  | (some p, d) =>
    if m.placeFree p then d
    else
      match d.chooseOf ((m.candsAt b p).filter m.placeFree) with
      | (none, d) => d
      | (some q, d) => d.setTbl t (m.move p q)

/-- `k` moves. -/
def Dev.moves (d : Dev) (t : Nat) (b : List Byte) : Nat → Dev
  | 0 => d
  | k + 1 => (d.moveOne t b).moves t b k

/-- One layer of the search for a free place: every path is led on to the candidate places of the entry it ends at that no path has reached. -/
def TableMem.layer (m : TableMem) (b : List Byte) (seen : List Nat) (paths : List (List Nat)) : List Nat × List (List Nat) :=
  paths.foldl (fun acc p =>
    (m.candsAt b (p.headD 0)).foldl (fun (a : List Nat × List (List Nat)) q =>
      if q ∈ a.1 then a else (a.1 ++ [q], a.2 ++ [q :: p])) acc) (seen, [])

/-- The shortest way to free one of the places at which the paths begin, within `k` moves: the places of its moves, the free one first. -/
def TableMem.freeing (m : TableMem) (b : List Byte) : Nat → List Nat → List (List Nat) → Option (List Nat)
  | 0, _, paths => paths.find? fun p => m.placeFree (p.headD 0)
  | k + 1, seen, paths =>
    match paths.find? fun p => m.placeFree (p.headD 0) with
    | some p => some p
    | none =>
      let x := m.layer b seen paths
      m.freeing b k x.1 x.2

/-- The moves along a way: each entry goes to the place in front of it. The place left free is the last. -/
def TableMem.along (m : TableMem) : List Nat → TableMem
  | q :: p :: r => (m.move p q).along (p :: r)
  | _ => m

/-- Entries that count towards the occupancy of R173: those of poisoned places do not. -/
def TableMem.occupancy (m : TableMem) : Nat := (m.places.filter fun e => !m.placeFree e.1).length

/-- A place for a new key with the table's moves carried out: moves of the device's choice if they free a candidate place, else the shortest
way within 64 moves. FULL is answered only when there is none and the table is at 80 % or more; below, any free place is taken (log entry 17). -/
def Dev.placeExact (d : Dev) (t : Nat) (b : List Byte) (key : List Word) : Option Nat × Dev :=
  let m := d.tbl t
  let cands := exactPlaces b key
  let (k, d) := d.fresh 65
  let tried := d.moves t b k
  match tried.chooseOf (cands.filter (tried.tbl t).placeFree) with
  | (some p, d) => (some p, d)
  | (none, _) =>
    match m.freeing b 64 cands (cands.map fun p => [p]) with
    | some way => (way.getLast?, d.setTbl t (m.along way))
    | none =>
      if 5 * m.occupancy ≥ 4 * tmPlaces b then (none, d) else d.chooseOf ((List.range (tmPlaces b)).filter m.placeFree)

/-! ### Finding (R172, R186, R201, R207) -/

/-- What a command finds under its key or index: nothing, an entry at a place, or a poisoned word there. -/
inductive Found where
  | none
  | at (p : Nat)
  | bad (p : Nat)
  deriving DecidableEq, Repr

/-- What stands at place `p`. -/
def TableMem.foundAt (m : TableMem) (kind p n : Nat) : Found :=
  if m.poisoned p then .bad p else if imageValid kind (m.image p n) then .at p else .none

/-- The entry of an EXACT key. A key that no place holds meets a poisoned place among its candidates. -/
def TableMem.foundExact (m : TableMem) (b : List Byte) (key : List Word) : Found :=
  match m.exactFind key with
  | some p => if m.poisoned p then .bad p else .at p
  | none =>
    match (exactPlaces b key).find? m.poisoned with
    | some p => .bad p
    | none => .none

/-- The entry of a prefix. -/
def TableMem.foundPrefix (m : TableMem) (key plen : Nat) : Found :=
  match m.lpm.find? fun e => e.key = key ∧ e.plen = plen with
  | some e => if e.poison then .bad e.handle else .at e.handle
  | none => .none

/-- The longest prefix that matches. -/
def TableMem.foundLongest (m : TableMem) (key : Nat) : Found :=
  match lpmBest m.lpm key with
  | some e => if e.poison then .bad e.handle else .at e.handle
  | none => .none

/-- What the command names: for EXACT and LPM by its key, otherwise by its index. -/
def Dev.found (d : Dev) (e : Entry) (t : Nat) (b : List Byte) : Found :=
  let kind := tmKind b
  let m := d.tbl t
  if kind = 0 then m.foundExact b (e.tWords (tmW b - 1))
  else if kind = 1 then
    let key := beNat (wordsBytes (e.tWords 3))
    if e.op = 0x12 ∧ e.tMode = 1 then m.foundLongest key else m.foundPrefix key e.tPlen
  else m.foundAt kind e.tArg (tmW b)

/-- The key has bits that it may not have. -/
def cmdKeyBad (e : Entry) (b : List Byte) : Bool :=
  if tmKind b = 0 then keyOver (e.tWords (tmW b - 1)) (tmKeyBits b)
  else if tmKind b = 1 then keyOver (e.tWords 3) (if e.op = 0x12 ∧ e.tMode = 1 then tmKeyBits b else e.tPlen)
  else false

/-- The index lies beyond the table. -/
def cmdIndexBad (e : Entry) (b : List Byte) : Bool := decide (2 ≤ tmKind b) && tmPlaces b ≤ e.tArg

/-- A command meets an uncorrectable word or a poisoned place: it ends with POISONED. -/
def Dev.cmdPoisoned (d : Dev) (r : Nat) (e : Entry) (t : Nat) (b : List Byte) (p : Nat) (err : ReadErr) (value : Nat) : Dev × HostWrites :=
  (d.badRead t b p err).tableEnd r e St.poisoned value []

/-! ### INSERT (R172 to R177, R197, R604) -/

/-- The image may not be inserted. -/
def imageBad (e : Entry) (b : List Byte) : Bool :=
  if tmKind b = 3 then !counterOk (e.tWords 4) else !resultOk b (e.tWord (tileNeeds b 0x10 - 1))

/-- The table fills up: INSERT_FULL is counted. -/
def Dev.insertFull (d : Dev) (r : Nat) (e : Entry) : Dev × HostWrites := (d.count (Reg.TBL_COUNT 12) 1).tableStop r e St.full

/-- INSERT writes an EXACT image at place `p`, which frees the key's Fawn entry. -/
def Dev.insertAt (d : Dev) (r : Nat) (e : Entry) (t : Nat) (b : List Byte) (p : Nat) : Dev × HostWrites :=
  let ws := e.tWords (tileNeeds b 0x10)
  let d := d.setTbl t ((d.tbl t).store p ws)
  let d := if tmKind b = 0 then d.fawnFree t (wordAt ws 0) else d
  d.tableEnd r e St.ok p []

/-- A handle for a new LPM entry, of the device's choice among those unused. -/
def freeHandle (l : List LpmEntry) : Nat → Nat → Nat
  | k, 0 => k
  | k, fuel + 1 => if l.any (fun e => e.handle = k) then freeHandle l ((k + 1) % 4294967294) fuel else k

/-- The DRAM extension of a table in a generation that counts. -/
def Dev.dramExt (d : Dev) (t : Nat) : Option (List Byte) :=
  let at_ := fun g => if d.genLive g then d.sec g T.DRAM_LPM t else none
  match at_ d.activeG with
  | some x => some x
  | none => at_ (1 - d.activeG)

/-- Entries go beyond what R185 and R188 guarantee. -/
def lpmOver (l : List LpmEntry) (b : List Byte) (ext : Option (List Byte)) : Bool :=
  match ext with
  | none => decide (lpmOnChip b < l.length)
  | some x => decide (lpmOnChip b < (l.filter fun e => !e.dram).length + lpmMarkers l (dlSplit x)) || decide (lpmDram x < (l.filter (·.dram)).length)

/-- INSERT of a prefix that no entry holds. -/
def Dev.insertPrefix (d : Dev) (r : Nat) (e : Entry) (t : Nat) (b : List Byte) : Dev × HostWrites :=
  let ext := if tmDramExt b then d.dramExt t else none
  let m := d.tbl t
  let (k, d) := d.fresh 4294967294
  let dram := match ext with
    | some x => decide (dlSplit x < e.tPlen)
    | none => false
  let n : LpmEntry := ⟨beNat (wordsBytes (e.tWords 3)), e.tPlen, e.tWord 3, dram, freeHandle m.lpm k m.lpm.length, false⟩
  let (no, d) := d.fresh 2
  if lpmOver (m.lpm ++ [n]) b ext ∧ no = 1 then d.insertFull r e
  else (d.setTbl t { m with lpm := m.lpm ++ [n] }).tableEnd r e St.ok 0 []

/-- INSERT over the entry of a prefix: its result word is replaced, with fresh check bits. -/
def Dev.replacePrefix (d : Dev) (r : Nat) (e : Entry) (t p : Nat) : Dev × HostWrites :=
  let m := d.tbl t
  let l := m.lpm.map fun x => if x.handle = p then { x with result := e.tWord 3, poison := false } else x
  (d.setTbl t { m with lpm := l }).tableEnd r e St.ok 0 []

/-- INSERT over what the key or index holds. -/
def Dev.insertOver (d : Dev) (r : Nat) (e : Entry) (t : Nat) (b : List Byte) (p : Nat) : Dev × HostWrites :=
  if tmKind b = 1 then d.replacePrefix r e t p else d.insertAt r e t b p

/-- INSERT of a key or index that holds no entry. -/
def Dev.insertNew (d : Dev) (r : Nat) (e : Entry) (t : Nat) (b : List Byte) : Dev × HostWrites :=
  if tmKind b = 0 then
    match d.placeExact t b (e.tWords (tmW b - 1)) with
    | (none, d) => d.insertFull r e
    | (some p, d) => d.insertAt r e t b p
  else if tmKind b = 1 then d.insertPrefix r e t b
  else d.insertAt r e t b e.tArg

/-- INSERT on a table of tiles. A poisoned place holds no entry for it: ADD and ADD_OR_REPLACE rewrite it; REPLACE meets the bad word. -/
def Dev.tileInsert (d : Dev) (r : Nat) (e : Entry) (t : Nat) (b : List Byte) : Dev × HostWrites :=
  if cmdIndexBad e b then d.tableStop r e St.badIndex
  else if imageBad e b || cmdKeyBad e b then d.tableStop r e St.badKey
  else
    match d.found e t b with
    | .none => if e.tMode = 1 then d.tableStop r e St.notFound else d.insertNew r e t b
    | .at p => if e.tMode = 0 then d.tableStop r e St.exists_ else d.insertOver r e t b p
    | .bad p =>
      if e.tMode = 1 then d.cmdPoisoned r e t b p .none 0
      else if tmKind b = 0 ∧ (d.tbl t).exactFind (e.tWords (tmW b - 1)) = none then d.insertNew r e t b
      else d.insertOver r e t b p

/-! ### DELETE and SEARCH (R197, R198) -/

/-- Removes what place `p` holds. -/
def Dev.remove (d : Dev) (t : Nat) (b : List Byte) (p : Nat) : Dev :=
  let m := d.tbl t
  if tmKind b = 1 then d.setTbl t { m with lpm := m.lpm.filter fun x => x.handle != p }
  else d.setTbl t (m.store p (List.replicate (tmW b) 0))

/-- DELETE. -/
def Dev.tileDelete (d : Dev) (r : Nat) (e : Entry) (t : Nat) (b : List Byte) : Dev × HostWrites :=
  if cmdIndexBad e b then d.tableStop r e St.badIndex
  else if cmdKeyBad e b then d.tableStop r e St.badKey
  else
    match d.found e t b with
    | .none => d.tableStop r e St.notFound
    | .bad p => d.cmdPoisoned r e t b p .none 0
    | .at p =>
      let d := d.remove t b p
      let d := if tmKind b = 0 then d.fawnFree t (e.tWord 0) else d
      d.tableEnd r e St.ok (if tmKind b = 1 then 0 else p) []

/-- The record of place `p`. -/
def Dev.tileRecord (d : Dev) (t : Nat) (b : List Byte) (p : Nat) : List Byte :=
  let m := d.tbl t
  if tmKind b = 1 then
    match m.lpm.find? fun x => x.handle = p with
    | some x => wordBytes (recordWord p x.plen false) ++ beBytes 24 x.key ++ wordBytes x.result
    | none => []
  else wordBytes (recordWord p 0 false) ++ wordsBytes (m.image p (tmW b))

/-- The place at which a SEARCH that finds nothing meets an error: its index, a candidate place of its key, or a word of an LPM table. -/
def Dev.searchPlace (d : Dev) (e : Entry) (b : List Byte) : Nat × Dev :=
  if 2 ≤ tmKind b then (e.tArg, d)
  else if tmKind b = 0 then
    let (k, d) := d.fresh 8
    ((exactPlaces b (e.tWords (tmW b - 1))).getD k 0, d)
  else
    let (k, d) := d.fresh (lpmOnChip b + 1)
    (k + 4294967296, d)

/-- SEARCH EXACT and LONGEST. -/
def Dev.tileSearch (d : Dev) (r : Nat) (e : Entry) (t : Nat) (b : List Byte) (err : ReadErr) : Dev × HostWrites :=
  if cmdIndexBad e b then d.tableStop r e St.badIndex
  else if cmdKeyBad e b then d.tableStop r e St.badKey
  else
    match d.found e t b with
    | .bad p => d.cmdPoisoned r e t b p err 0
    | .none =>
      if err = .none then d.tableStop r e St.notFound
      else
        let (p, d) := d.searchPlace e b
        if errBad err then d.cmdPoisoned r e t b p err 0 else (d.corrAt t b p err).tableStop r e St.notFound
    | .at p =>
      if errBad err then d.cmdPoisoned r e t b p err 0
      else (d.corrAt t b p err).tableEnd r e St.ok p (d.tileRecord t b p)

/-! ### NEXT (R198, R199) -/

/-- The places that hold entries, poisoned or not, ascending. -/
def TableMem.held (m : TableMem) (kind : Nat) : List Nat :=
  if kind = 1 then m.lpm.foldl (fun l x => insertUp x.handle l) []
  else (m.places.filter fun x => imageValid kind x.2).map (·.1)

/-- The poisoned places. -/
def TableMem.badPlaces (m : TableMem) (kind : Nat) : List Nat :=
  if kind = 1 then (m.lpm.filter (·.poison)).map (·.handle) else m.poison.map (·.1)

/-- The cursor that marks the end of a table (R198). -/
def cursorEnd : Nat := 4294967295

/-- NEXT: valid entries in ascending place; the cursor is one beyond the last returned, or marks the end (log entry 17). -/
def Dev.tileNext (d : Dev) (r : Nat) (e : Entry) (t : Nat) (b : List Byte) (err : ReadErr) : Dev × HostWrites :=
  let mx := (e.tWord 0).toNat
  let cur := e.tArg
  let kind := tmKind b
  if mx = 0 ∨ mx > 256 ∨ (cur > cmdPlaces b ∧ cur ≠ cursorEnd) then d.tableStop r e St.badIndex
  else if cur = cursorEnd then d.tableEnd r e St.end_ 0 (nextHeader cursorEnd 0)
  else
    let m := d.tbl t
    let bad := m.badPlaces kind
    let left := (m.held kind).filter fun p => cur ≤ p ∧ p ∉ bad
    let got := left.take mx
    let last := left.length ≤ mx
    let hi := if last then cmdPlaces b else got.getLastD 0 + 1
    match bad.filter fun p => cur ≤ p ∧ p < hi with
    | p :: _ => d.cmdPoisoned r e t b p err 0
    | [] =>
      let (k, d) := if err = .none then (0, d) else d.fresh (max 1 got.length)
      if errBad err ∧ cur < cmdPlaces b then d.cmdPoisoned r e t b (got.getD k cur) err 0
      else
        let d := if cur < cmdPlaces b then d.corrAt t b (got.getD k cur) err else d
        let cursor := if last then cursorEnd else hi
        d.tableEnd r e (if last then St.end_ else St.ok) got.length (nextHeader cursor got.length ++ got.flatMap (d.tileRecord t b))

/-! ### FLUSH_PORT (R197, R201) -/

/-- FLUSH_PORT: entries of the port are removed in ascending place, up to the first poisoned place. -/
def Dev.tileFlush (d : Dev) (r : Nat) (e : Entry) (t : Nat) (b : List Byte) : Dev × HostWrites :=
  let port := e.tArg
  if port > 255 then d.tableStop r e St.badKey
  else
    let m := d.tbl t
    let stop := m.poison.foldl (fun n x => min n x.1) (tmPlaces b)
    let goes := fun (x : Nat × List Word) =>
      let w := wordAt x.2 (x.2.length - 1)
      decide (x.1 < stop) && rwValid w && rwPort w == port && (e.tMode = 1 || !rwStatic w)
    let n := (m.places.filter goes).length
    let d := d.setTbl t { m with places := m.places.filter fun x => !goes x }
    if m.poison.isEmpty then (d.fawnFlush t port).tableEnd r e St.ok n []
    else d.cmdPoisoned r e t b stop .none n

/-! ### FLOW (R197, R198, R604) -/

/-- The record of a COUNTER place: uncorrectable words are zero, and POISON is set. -/
def TableMem.flowRecord (m : TableMem) (p : Nat) : List Byte :=
  let ws := m.image p 4
  if m.poisoned p then
    let zero := (List.range 4).map fun i => if (p, i) ∈ m.poison then 0 else wordAt ws i
    wordsBytes (zero.set 3 (wordAt zero 3 ||| BitVec.ofNat 64 (2 ^ 35)))
  else wordsBytes ws

/-- READ_AND_CLEAR of one place: VALID is kept; a bad word 3 leaves an entry. -/
def TableMem.flowClear (m : TableMem) (p : Nat) : TableMem :=
  let keep := imageValid 3 (m.image p 4) || decide ((p, 3) ∈ m.poison)
  m.store p [0, 0, 0, if keep then BitVec.ofNat 64 (2 ^ 36) else 0]

/-- FLOW. -/
def Dev.tileFlow (d : Dev) (r : Nat) (e : Entry) (t : Nat) (b : List Byte) (err : ReadErr) : Dev × HostWrites :=
  let n := (e.tWord 0).toNat
  let first := e.tArg
  if n = 0 ∨ n > 256 ∨ first + n > tmPlaces b then d.tableStop r e St.badIndex
  else
    let d := match err with
      | .corr w => d.tileCorr t b first w
      | .uncorr w => d.tileUncorr t b first (w % 4)
      | .none => d
    let range := (List.range n).map (first + ·)
    let again := ((d.tbl t).poison.filter fun x => first ≤ x.1 ∧ x.1 < first + n ∧ !(errBad err && x.1 == first))
    let d := again.foldl (fun (d : Dev) x => d.poisonSeen t b x.1 x.2) d
    let m := d.tbl t
    let data := range.flatMap m.flowRecord
    let d := if e.tMode = 1 then d.setTbl t (range.foldl TableMem.flowClear m) else d
    d.tableEnd r e St.ok n data

/-! ### AGE_SCAN and its aging tests (R194, R195) -/

/-- AGE_SCAN starts. -/
def Dev.tileAge (d : Dev) (r : Nat) (e : Entry) (b : List Byte) : Dev × HostWrites :=
  let first := e.tArg
  let n := bitsOf (e.w 2) 0 32
  if first ≥ tmPlaces b ∨ first + n > tmPlaces b then d.tableStop r e St.badIndex
  else if n = 0 then d.tableStop r e St.ok
  else (d.setEntry r { e with started := true, progress := 0, value := 0 }, [])

/-- The test of a place is done: the scan goes on, or ends behind its last place. -/
def Dev.ageNext (d : Dev) (r : Nat) (e : Entry) (removed : Nat) : Dev :=
  let e := { e with progress := e.progress + 1, value := e.value + BitVec.ofNat 64 removed }
  if e.progress = bitsOf (e.w 2) 0 32 then d.finish r e St.ok e.value else d.setEntry r e

/-- One aging test. -/
def Dev.ageTest (d : Dev) (r : Nat) (e : Entry) (t : Nat) (b : List Byte) (err : ReadErr) : Dev :=
  let p := e.tArg + e.progress
  let m := d.tbl t
  if m.poisoned p || errBad err then (d.badRead t b p err).finish r e St.poisoned e.value
  else
    let ws := m.image p (tmW b)
    let w := wordAt ws (tmW b - 1)
    if !rwValid w || rwStatic w then (d.corrAt t b p err).ageNext r e 0
    else if rwHit w then
      let d := (d.corrAt t b p err).setTbl t (m.setWord p (tmW b) (tmW b - 1) (w &&& ~~~2#64))
      (d.count (Reg.TBL_COUNT 7) 1).ageNext r e 0
    else if tmNotifyAged b && !d.noteRoom then d
    else
      let d := ((d.corrAt t b p err).remove t b p).count (Reg.TBL_COUNT 8) 1
      let d :=
        if tmNotifyAged b then d.pushNote (noteWords 3 t 0 0 (if tmPortField b then rwPort w else 0) false (wordAt ws 0) d.ns p) else d
      d.ageNext r e 1

/-- The next aging test of a scan in progress. -/
def Dev.agingTest (d : Dev) (r i : Nat) (err : ReadErr) : Dev :=
  if d.hifOn then
    match d.entry r i with
    | some e =>
      if e.op = 0x15 && e.started && !e.finished then
        match d.tblDef e.tTable with
        | .tile b => if d.tilesUp b then d.ageTest r e e.tTable b err else d
        | _ => d.finish r e St.noTable e.value
      else d
    | none => d
  else d

/-- AGING_TEST (R194). -/
def execAgingTest (r i : Nat) (err : ReadErr) (s : State) : Host.Outcome State Fault Refusal :=
  .next { s with dev := s.dev.agingTest r i err }

/-! ### The commands but FENCE -/

/-- A command on a table of tiles. -/
def Dev.tileCommand (d : Dev) (r : Nat) (e : Entry) (t : Nat) (b : List Byte) (err : ReadErr) : Dev × HostWrites :=
  let op := e.op
  if tileWrongKind b op e.tMode then d.tableStop r e St.wrongKind
  else if !e.tHolds (tileNeeds b op) then d.tableStop r e St.badLength
  else if tileBadWords b e then d.tableStop r e St.badKey
  else if op = 0x10 then d.tileInsert r e t b
  else if op = 0x11 then d.tileDelete r e t b
  else if op = 0x12 then d.tileSearch r e t b err
  else if op = 0x13 then d.tileNext r e t b err
  else if op = 0x14 then d.tileFlush r e t b
  else if op = 0x15 then d.tileAge r e b
  else d.tileFlow r e t b err

/-- A command that names one table (R84, R200). -/
def Dev.onTable (d : Dev) (r : Nat) (e : Entry) (err : ReadErr) : Dev × HostWrites :=
  match d.tblDef e.tTable with
  | .none => d.tableStop r e St.noTable
  | .loading => d.tableStop r e St.genLoading
  | .tile b => if d.tilesUp b then d.tileCommand r e e.tTable b err else (d, [])
  | .cham b => if d.segsUp b then d.chCommand r e e.tTable b else (d, [])

/-- INSERT (R197). -/
def execTabInsert (r i : Nat) (s : State) : Host.Outcome State Fault Refusal :=
  .next (s.wrote (s.dev.tableCmd r i 0x10 fun e => s.dev.onTable r e .none))

/-- DELETE (R197). -/
def execTabDelete (r i : Nat) (s : State) : Host.Outcome State Fault Refusal :=
  .next (s.wrote (s.dev.tableCmd r i 0x11 fun e => s.dev.onTable r e .none))

/-- SEARCH (R198). -/
def execTabSearch (r i : Nat) (err : ReadErr) (s : State) : Host.Outcome State Fault Refusal :=
  .next (s.wrote (s.dev.tableCmd r i 0x12 fun e => s.dev.onTable r e err))

/-- NEXT (R199). -/
def execTabNext (r i : Nat) (err : ReadErr) (s : State) : Host.Outcome State Fault Refusal :=
  .next (s.wrote (s.dev.tableCmd r i 0x13 fun e => s.dev.onTable r e err))

/-- FLUSH_PORT (R197). -/
def execTabFlushPort (r i : Nat) (s : State) : Host.Outcome State Fault Refusal :=
  .next (s.wrote (s.dev.tableCmd r i 0x14 fun e => s.dev.onTable r e .none))

/-- AGE_SCAN (R194). -/
def execTabAgeScan (r i : Nat) (s : State) : Host.Outcome State Fault Refusal :=
  .next (s.wrote (s.dev.tableCmd r i 0x15 fun e => s.dev.onTable r e .none))

/-- FLOW (R197). -/
def execTabFlow (r i : Nat) (err : ReadErr) (s : State) : Host.Outcome State Fault Refusal :=
  .next (s.wrote (s.dev.tableCmd r i 0x17 fun e => s.dev.onTable r e err))

/-! ### FENCE (R203, R204, R290) -/

/-- The table's reads are the late-bound ones of step 9. -/
def Dev.isEgress (d : Dev) (t : Nat) : Bool :=
  match d.tblDef t with
  | .tile b => tmEgress b
  | _ => false

/-- The packet is in the lookup stages, at the action unit, or with an engine thread: lookups of this pass may still be used (R203, R290). -/
def Stage.inAction : Stage → Bool
  | .engine _ _ => true
  | st => st.rank ≤ 2

/-- The packet has a read of a table of `ok` that has not passed STAGE LOOKUP (0) or ACTION (1). -/
def Pkt.notPassed (p : Pkt) (stage : Nat) (ok : Nat → Bool) : Bool :=
  if stage = 0 then p.stage == .dramWait && (match p.dram with | some x => ok x.table | none => false)
  else p.stage.inAction && p.reads.any ok

/-- What a fence awaits of a packet: at STAGE LOOKUP the lookup that waits, named by its record; at ACTION the packet's stay before the end of
the action unit, or with an engine thread. -/
def Pkt.fenceCode (p : Pkt) (stage : Nat) : Nat := if stage = 0 then p.next else if p.stage.rank ≤ 2 then 17 else 18

/-- The packet has not yet passed what code `c` of `fenceCode` names. -/
def Pkt.fenceHeld (p : Pkt) (c : Nat) : Bool :=
  if c ≤ 16 then p.stage == .dramWait && p.next == c
  else if c = 17 then decide (p.stage.rank ≤ 2)
  else p.stage.rank == 9 && p.stage.inAction

/-- The engine lookups that have read a table of `ok` and wait for DRAM reads: their registers are not yet written (R290). -/
def Dev.engWaits (d : Dev) (ok : Nat → Bool) : List Nat :=
  (d.engines.flatMap fun x => x.2.threads.flatMap Thread.ops).filterMap fun o =>
    match o.kind, o.reads with
    | .tlk _ t _ _, some _ => if ok t then some o.tag else none
    | _, _ => none

/-- Every queue record of the device. -/
def Dev.allRecs (d : Dev) : List Rec :=
  (d.queues ++ d.intakes ++ d.residue).flatMap (·.2) ++ d.repls.flatMap (·.notReady)

/-- The packets in flight that have read a table of `ok`. -/
def Dev.inFlight (d : Dev) (ok : Nat → Bool) : List Nat :=
  (d.pkts.filter fun x => x.2.flight.any ok).map (·.2.pid) ++ (d.allRecs.filter fun x => x.flight.any ok).map (·.pid)

/-- The contexts a fence still waits for. -/
def Dev.fencePending (d : Dev) (f : FenceWait) : Nat :=
  (d.pkts.filter fun x => f.waits.any fun w => w.1 == x.2.seq && x.2.fenceHeld w.2).length
    + ((d.engWaits fun _ => true).filter fun x => decide (x ∈ f.ops)).length
    + ((d.inFlight fun _ => true).filter fun x => decide (x ∈ f.flights)).length

/-- FENCE: with no context pending it completes at once, otherwise it waits. -/
def Dev.tabFence (d : Dev) (r : Nat) (e : Entry) : Dev × HostWrites :=
  let t := e.tTable
  let stage := e.tMode
  if e.tReserved || e.tPlen ≠ 0 || e.tMode > 2 || e.tWord2Bad then d.tableStop r e St.badKey
  else if !e.tAll && d.tblDef t == .none then d.tableStop r e St.noTable
  else if !e.tAll && d.tblDef t == .loading then d.tableStop r e St.genLoading
  else
    let named := fun n => e.tAll || n == t
    let waits := if stage = 2 then [] else
      (d.pkts.filter fun x => x.2.notPassed stage fun n => named n && !d.isEgress n).map fun x => (x.2.seq, x.2.fenceCode stage)
    let flights := if stage = 0 then [] else d.inFlight fun n => named n && (stage == 2 || d.isEgress n)
    let ops := if stage = 2 then [] else d.engWaits named
    if waits.isEmpty && flights.isEmpty && ops.isEmpty then d.tableStop r e St.ok
    else
      let f : FenceWait := ⟨r, e.index, stage, waits, flights, ops, if e.tArg = 0 then none else some (d.free + 1000 * e.tArg)⟩
      ({ d.setEntry r { e with started := true } with fences := d.fences ++ [f] }, [])

/-- FENCE (R203). -/
def execTabFence (r i : Nat) (s : State) : Host.Outcome State Fault Refusal :=
  .next (s.wrote (s.dev.tableCmd r i 0x16 fun e => s.dev.tabFence r e))

/-- A fence that waits ends. -/
def Dev.fenceEnd (d : Dev) (f : FenceWait) (status value : Nat) : Dev :=
  let d := { d with fences := d.fences.filter fun x => !(x.ring == f.ring && x.index == f.index) }
  match d.entry f.ring f.index with
  | some e => d.finish f.ring e status (BitVec.ofNat 64 value)
  | none => d

/-- The fence of entry `i` of ring `r`. -/
def Dev.fenceOf (d : Dev) (r i : Nat) : Option FenceWait :=
  if d.hifOn then d.fences.find? fun f => f.ring = r ∧ f.index = i else none

/-- FENCE_DONE (R203). -/
def execFenceDone (r i : Nat) (s : State) : Host.Outcome State Fault Refusal :=
  .next { s with dev :=
    match s.dev.fenceOf r i with
    | some f => if s.dev.fencePending f = 0 then s.dev.fenceEnd f St.ok 0 else s.dev
    | none => s.dev }

/-- FENCE_TIMEOUT (R204). -/
def execFenceTimeout (r i : Nat) (s : State) : Host.Outcome State Fault Refusal :=
  .next { s with dev :=
    match s.dev.fenceOf r i with
    | some f =>
      let late := match f.deadline with
        | some t => decide (t ≤ s.dev.free)
        | none => false
      if late && s.dev.fencePending f ≠ 0 then s.dev.fenceEnd f St.fenceTimeout (s.dev.fencePending f) else s.dev
    | none => s.dev }

end Sys2Proof.Machine
end

