-- ==== Sys2Proof/Machine/StreamLoad.lean ====
section
/-! DEFINITION. The stream loader (R63 to R86): the header, the section table and the bodies as they arrive, the signature, the key
slots, and the commands that load an overlay.
Readings of the manual that it takes are DEDUCED, in log entries 18, 33. -/

namespace Sys2Proof.Machine

/-! ### Stages (R560, R566) -/

/-- Enters a stage; ENTERED_US is SYS_ELAPSED, saturating. -/
def Dev.enterStage (d : Dev) (n : Nat) : Dev :=
  (d.setFld Reg.SYS_STAGE F.SYS_STAGE_STAGE n).setFld Reg.SYS_STAGE F.SYS_STAGE_ENTERED_US (min (d.elapsed / 1000) 4294967295)

/-- Enters HALTED; the first reason found stands (R574). -/
def Dev.halt (d : Dev) (code detail : Nat) : Dev :=
  if d.stage = 14 then d
  else
    let w := F.SYS_REASON_STAGE.put (F.SYS_REASON_DETAIL.put (F.SYS_REASON_CODE.put 0 code) detail) d.stage
    (d.setReg Reg.SYS_REASON w).enterStage 14

/-! ### Loader errors (R85, STR_LOAD_DETAIL) -/

structure LoadErr where
  err : Nat
  section_ : Nat                 -- index of the section, 0x1FF for none
  block : Nat
  ofs : Nat
  deriving DecidableEq, Repr

def loadErrIf (bad : Bool) (err sec ofs : Nat) : List LoadErr := if bad then [⟨err, sec, 0, ofs⟩] else []

/-- One of several errors, of the device's choice (log entry 11). -/
def Dev.pickErr (d : Dev) (l : List LoadErr) : Option LoadErr × Dev :=
  match l with
  | [] => (none, d)
  | [e] => (some e, d)
  | _ =>
    let (k, d) := d.fresh l.length
    (l[k]?, d)

/-! ### The parts of a stream (R63, R66) -/

def stTotal (b : List Byte) : Nat := bodyFld b 8 0 32
def stCount (b : List Byte) : Nat := bodyFld b 8 32 9
def stKind (b : List Byte) : Nat := bodyFld b 0 48 4
def stId (b : List Byte) : Nat := word64 b 0x18
def stBase (b : List Byte) : Nat := word64 b 0x20

/-- The end of the section table. -/
def stTableEnd (b : List Byte) : Nat := 64 + 16 * stCount b

/-- A section table entry. -/
structure SecEntry where
  index : Nat
  type : Nat
  del : Bool
  inst : Nat
  ofs : Nat
  len : Nat
  deriving DecidableEq, Repr

def stEntry (b : List Byte) (i : Nat) : SecEntry :=
  let o := 64 + 16 * i
  { index := i, type := bodyFld b o 0 8, del := bodyFld b o 8 1 = 1, inst := bodyFld b o 16 16, ofs := bodyFld b o 32 32
    len := bodyFld b (o + 8) 0 32 }

def stEntries (b : List Byte) : List SecEntry := (List.range (stCount b)).map (stEntry b)

/-- Bytes received when the section's entry and body have arrived. -/
def secPoint (b : List Byte) (e : SecEntry) : Nat := if e.del then stTableEnd b else max (stTableEnd b) (e.ofs + e.len)

/-- Header checks (R63, R65, R80). `run` says that only overlays are accepted, `base` is STR_BASE_ID. A reserved bit set, a zero STREAM_ID
and a BASE_ID in a full stream give LENGTH or SECTION_TABLE (R65), and a TOTAL_LEN too small for header, section table and signature block
gives LENGTH (DESIGN CHOICE, log entry 11). -/
def headErrs (run : Bool) (base : Nat) (b : List Byte) : List LoadErr :=
  let none_ := 0x1FF
  let both := fun (bad : Bool) (o : Nat) => loadErrIf bad 0x03 none_ o ++ loadErrIf bad 0x04 none_ o
  let total := stTotal b
  let n := stCount b
  loadErrIf (bodyFld b 0 0 32 ≠ 0x4C524953) 0x01 none_ 0 ++ loadErrIf (bodyFld b 0 32 16 ≠ 1) 0x01 none_ 4
    ++ loadErrIf (stKind b > 1) 0x01 none_ 6 ++ both (bitsSet (word64 b 0) 52 63) 6
    ++ loadErrIf (total % 64 ≠ 0 || total > 33554432 || total < 64 + 16 * n + 256) 0x03 none_ 8
    ++ loadErrIf (n = 0 || n > 256) 0x04 none_ 12 ++ both (bitsSet (word64 b 8) 41 63) 13
    ++ loadErrIf (bodyFld b 16 0 16 ≠ 0x9600 || bodyFld b 16 16 8 ≠ 0xA0) 0x02 none_ 16 ++ both (bitsSet (word64 b 16) 24 31) 19
    ++ both (stId b = 0) 0x18 ++ both (stKind b = 0 && stBase b ≠ 0) 0x20
    ++ both (word64 b 0x28 ≠ 0 || word64 b 0x30 ≠ 0 || word64 b 0x38 ≠ 0) 0x28
    ++ loadErrIf (stKind b = (if run then 0 else 1)) 0x0B none_ 6 ++ loadErrIf (run && stKind b = 1 && stBase b ≠ base) 0x09 none_ 0x20

/-- The types that a full stream must contain (R68). -/
def requiredTypes : List Nat :=
  [T.PARSE_GRAPH, T.TILE_MAP, T.LOOKUP_PROGRAM, T.ACTION_MERGE, T.LANE_MAP, T.QUEUE_SHAPE, T.ENERGY_COSTS]

/-- End of the bodies listed before entry `e`. -/
def prevEnd (b : List Byte) (l : List SecEntry) (e : SecEntry) : Nat :=
  l.foldl (fun n x => if x.index < e.index && !x.del then max n (x.ofs + x.len) else n) (stTableEnd b)

/-- Section table checks (R65 to R68). An entry with DELETE has no body and takes no place among the bodies. -/
def tableErrs (run : Bool) (b : List Byte) : List LoadErr :=
  let l := stEntries b
  let one := fun (e : SecEntry) =>
    let o := 64 + 16 * e.index
    let dup := l.any fun x => x.index < e.index && x.type = e.type && x.inst = e.inst
    let place := !e.del && (e.ofs % 64 ≠ 0 || e.ofs < prevEnd b l e || e.ofs + e.len > stTotal b - 256)
    loadErrIf (!((typesG ++ typesD).contains e.type || e.type = T.NOTE) || (e.del && (!run || e.len ≠ 0))) 0x05 e.index o
      ++ loadErrIf (dup || place) 0x04 e.index o
      ++ (let rsv := bitsSet (word64 b o) 9 15 || bitsSet (word64 b (o + 8)) 32 63
          loadErrIf rsv 0x03 e.index o ++ loadErrIf rsv 0x04 e.index o)
  l.flatMap one ++ loadErrIf (!run && requiredTypes.any fun t => l.all fun e => e.type ≠ t) 0x05 0x1FF 64

/-- Bytes `i` to `j − 1` are not all zero. -/
def fillerBad (b : List Byte) (i j : Nat) : Bool := ((b.drop i).take (j - i)).any (· != 0)

/-- Checks of one arrived section (R65, R70 to R72). `active` are the sections of the active generation of an overlay load. -/
def sectionErrs (run : Bool) (active : List Section) (b : List Byte) (e : SecEntry) : List LoadErr :=
  if e.del then []
  else
    let prev := prevEnd b (stEntries b) e
    let body := slice b e.ofs e.len
    loadErrIf (fillerBad b prev e.ofs) 0x03 e.index prev
      ++ (bodyErrs e.type e.inst body).map (fun x => ⟨0x06, e.index, x.1, e.ofs + x.2⟩)
      ++ loadErrIf (run && conflicts active e.type e.inst body) 0x0A e.index e.ofs

/-- The BLOCK_CODE of a REG_INIT error is the device's own (log entry 11). -/
def Dev.ownCode (d : Dev) (b : List Byte) (x : LoadErr) : LoadErr × Dev :=
  if x.err = 6 && x.section_ < stCount b && (stEntry b x.section_).type = T.REG_INIT then
    let (k, d) := d.fresh 256
    ({ x with block := k }, d)
  else (x, d)

/-- Checks after the last byte (R65, R72, R74 and the checks of whole generations): filler, the number of REG_INIT records. A section of the
stream is named where one is at fault. DESIGN CHOICE (log entry 11): an overlay with more than 4,096 REG_INIT records gets SECTION_CONTENT. -/
def finalErrs (run : Bool) (secs : List Section) (rangeBase rangeSize : Nat) (b : List Byte) : List LoadErr :=
  let l := stEntries b
  let total := stTotal b
  let last := l.foldl (fun n x => if x.del then n else max n (x.ofs + x.len)) (stTableEnd b)
  let recs := l.filter fun e => e.type = T.REG_INIT && !e.del
  let gen := (genErrs secs rangeBase rangeSize).map fun g =>
    match l.find? fun e => e.type = (if g.code ≥ 0x100 then T.LOOKUP_PROGRAM else g.type) && e.inst = g.inst && !e.del with
    | some e => (⟨0x06, e.index, g.code % 256, e.ofs + g.ofs⟩ : LoadErr)
    | none => ⟨0x06, 0x1FF, g.code % 256, 0⟩
  loadErrIf (fillerBad b last (total - 256)) 0x03 0x1FF last
    ++ (match recs with
        | e :: _ => loadErrIf (run && (recs.foldl (fun n x => n + x.len / 16) 0) > 4096) 0x06 e.index e.ofs
        | [] => [])
    ++ (if gen.all fun x => x.section_ = 0x1FF then gen else gen.filter fun x => x.section_ ≠ 0x1FF)

/-! ### Keys and the signature (R73 to R76) -/

/-- State and digest of key slot `k`; slot 4 is the Vrelnan slot (R76). -/
def Dev.keySlot (d : Dev) (k : Nat) : BitVec 2 × List Byte :=
  if k = 4 then (1, Config.keyDigest 4) else (d.loader.slots[k]?).getD (0, [])

/-- Open mode (R75). -/
def Dev.openMode (d : Dev) : Bool := (List.range 4).all fun k => (d.keySlot k).1 == 0

/-- STR_KEY_STATE.SLOTn and OPEN after a change of a slot. -/
def Dev.showKeys (d : Dev) : Dev :=
  let v := (List.range 5).foldl (fun n k => n + (d.keySlot k).1.toNat * 4 ^ k) 0
  (d.setFld Reg.STR_KEY_STATE F.STR_KEY_STATE_SLOTn v).setFld Reg.STR_KEY_STATE F.STR_KEY_STATE_OPEN d.openMode.toNat

/-- Errors of the signature block (R65, R74, R75). -/
def Dev.signErrs (d : Dev) (b : List Byte) : List LoadErr :=
  let o := stTotal b - 256
  let slot := byteAt b (o + 4)
  let x := slice b (o + 8) 48
  let y := slice b (o + 0x38) 48
  let st := d.keySlot slot
  let keyOk := slot ≤ 4 && ((st.1 == 1 && st.2 == sha384 (x ++ y)) || (d.openMode && slot < 4))
  let rsv := fillerBad b (o + 5) (o + 8) || fillerBad b (o + 0xC8) (o + 256)
  loadErrIf (leNat (slice b o 4) ≠ 0x47495353) 0x08 0x1FF o ++ loadErrIf rsv 0x03 0x1FF (o + 5) ++ loadErrIf rsv 0x04 0x1FF (o + 5)
    ++ loadErrIf (!keyOk) 0x07 0x1FF (o + 4)
    ++ loadErrIf (!ecdsaOk (beNat x) (beNat y) (b.take (o + 0x68)) (beNat (slice b (o + 0x68) 48)) (beNat (slice b (o + 0x98) 48)))
        0x08 0x1FF (o + 0x68)

/-! ### Engines of a generation (R304) -/

/-- Loads engine `e` with its program of generation `g`: its threads FREE, its data memory from ENGINE_DATA. Messages not yet written and
operations still outstanding stay. -/
def Dev.engLoad (d : Dev) (g e : Nat) : Dev :=
  let old := Map.find d.engines e
  let x : Engine :=
    match old with
    | some x => { x with gen := g, threads := x.threads.map Thread.stopped, inq := [] }
    | none => ⟨g, List.replicate 8 Thread.free, [], [], none⟩
  (d.setEngine e x).engLoadData g e

/-- Engines that no generation but `g` holds are loaded when `g` becomes READY (R71, R304). -/
def Dev.engLoadAll (d : Dev) (g : Nat) : Dev :=
  (secsOf (d.gen g).secs T.ENGINE_PROGRAM).foldl (fun (d : Dev) (s : Section) =>
    if d.genLive (1 - g) && (d.sec (1 - g) T.ENGINE_PROGRAM s.inst).isSome then d else d.engLoad g s.inst) d

/-- Resident threads of engine `e` start (R274, R304). -/
def Dev.startResidents (d : Dev) (e : Nat) : Dev :=
  match Map.find d.engines e with
  | none => d
  | some x =>
    let b := d.engProg e x
    d.setEngine e
      { x with threads := x.threads.zipIdx.map fun p => if p.2 < epResident b then p.1.resident e p.2 (epResEntry b) else p.1 }

/-- Resident threads of engine `e` stop (R304). -/
def Dev.stopResidents (d : Dev) (e : Nat) : Dev :=
  match Map.find d.engines e with
  | none => d
  | some x =>
    let b := d.engProg e x
    d.setEngine e { x with threads := x.threads.zipIdx.map fun p => if p.2 < epResident b then p.1.stopped else p.1 }

/-! ### Release of a generation (R86) -/

/-- Table numbers that a live generation defines. -/
def Dev.tblNumbers (d : Dev) : List Nat :=
  (List.range 256).filter fun t => (List.range 2).any fun g => d.genLive g && d.tblIn g t != .none

/-- AGE_SCANs in progress on tables that no generation defines complete with NO_TABLE. -/
def Dev.endScans (d : Dev) (live : List Nat) : Dev :=
  (d.hif.subs.flatMap fun x => x.2.prog.map fun e => (x.1, e)).foldl (fun (d : Dev) (x : Nat × Entry) =>
    if x.2.op = 0x15 && x.2.started && !x.2.finished && !live.contains x.2.tTable then d.finish x.1 x.2 St.noTable x.2.value else d) d

/-- Queued updates of Chamois tables that no generation defines end with NO_TABLE. -/
def Dev.endUpdates (d : Dev) (live : List Nat) : Dev :=
  let gone := fun (u : ChUpdate) => !live.contains u.table
  let d := (d.chQueues.flatMap fun q => q.2.filter gone).foldl (fun (d : Dev) (u : ChUpdate) =>
    match u.cmd with
    | none => d
    | some (r, i) =>
      match d.entry r i with
      | none => d
      | some e => d.finish r e St.noTable 0) d
  d.chQueues.foldl (fun (d : Dev) (q : Nat × List ChUpdate) => d.setChQueue q.1 (q.2.filter fun u => !gone u)) d

/-- Contents of tables that no live generation defines any more are lost; scans and Chamois updates of them end (R86). -/
def Dev.dropTables (d : Dev) : Dev :=
  let live := d.tblNumbers
  let d := (d.endScans live).endUpdates live
  { d with
    tables := d.tables.filter fun e => live.contains e.1
    fawn := d.fawn.filter fun f => live.contains f.table
    cands := d.cands.filter fun c => live.contains c.table
    hitSets := d.hitSets.filter fun h => live.contains h.table
    writeBacks := d.writeBacks.filter fun w => live.contains w.1 }

/-- Rows of Chamois segments that no live generation uses are cleared. -/
def Dev.dropSegments (d : Dev) : Dev :=
  let used := fun (s : Nat) => (List.range 2).any fun g =>
    d.genLive g && (secsOf (d.gen g).secs T.CHAMOIS_CHAIN).any fun x => ccHasSeg x.body s
  { d with cham := d.cham.filter fun e => used (e.1 / 4096) }

/-- Engines that no live generation holds are unloaded: their threads stop and their data memory is lost. Messages not yet written and
operations already issued stay (R291, R299). -/
def Dev.unloadEngines (d : Dev) : Dev :=
  let held := fun (e : Nat) => d.engHeld e
  { d with
    engines := d.engines.map fun (x : Nat × Engine) =>
      if held x.1 then x else (x.1, { x.2 with threads := x.2.threads.map Thread.stopped, inq := [], last := none })
    dmem := d.dmem.filter fun x => held x.1 || (Map.find d.engines x.1).isNone
    dmemBad := d.dmemBad.filter fun x => held x.1 || (Map.find d.engines x.1).isNone }

/-- Generation `g` becomes EMPTY: what it alone held is released (R83, R86, R304). -/
def Dev.genEmpty (d : Dev) (g : Nat) : Dev := ((d.setGen g Gen.none).dropTables).dropSegments.unloadEngines

/-! ### Ends of a load (R83, R86) -/

/-- STR_LOAD_STATUS at the end of a load in RUN. DESIGN CHOICE (log entry 33): STR_LOAD_DETAIL keeps the values of the last load error through
a later START and a load without error. -/
def Dev.loadStatus (d : Dev) (st err : Nat) : Dev :=
  ((d.setFld Reg.STR_LOAD_STATUS F.STR_LOAD_STATUS_STATE st).setFld Reg.STR_LOAD_STATUS F.STR_LOAD_STATUS_ERR err).setFld
    Reg.STR_LOAD_CTRL F.STR_LOAD_CTRL_START 0

def Dev.loadDetail (d : Dev) (e : LoadErr) : Dev :=
  d.setReg Reg.STR_LOAD_DETAIL
    (F.STR_LOAD_DETAIL_OFFSET.put (F.STR_LOAD_DETAIL_BLOCK_CODE.put (F.STR_LOAD_DETAIL_SECTION.put 0 e.section_) e.block) e.ofs)

/-- The loader is idle. -/
def Dev.loaderIdle (d : Dev) : Dev := { d with loader := { d.loader with src := .none } }

/-- A load fails: in RUN the idle generation becomes EMPTY and LOAD_ERROR is raised; at stage STREAM the next copy is tried, and the device
halts when none is left (R78, R79, R86, R566). -/
def Dev.loadFail (d : Dev) (e : LoadErr) : Dev :=
  match d.loader.src with
  | .none => d
  | .bootFlash =>
    let errs := d.loader.copyErr ++ [BitVec.ofNat 8 e.err]
    let d := (d.setGen 0 Gen.none).setFld Reg.SYS_LOAD_STATUS F.SYS_LOAD_STATUS_ERR e.err
    if errs.length = 1 then
      let d := { d with loader := { d.loader with copyErr := errs, bytes := [], flashAt := 0x02000000 } }
      ((d.setFld Reg.SYS_LOAD_STATUS F.SYS_LOAD_STATUS_COPY 1).setFld Reg.SYS_LOAD_STATUS F.SYS_LOAD_STATUS_STATE 1).setFld
        Reg.SYS_LOAD_STATUS F.SYS_LOAD_STATUS_BYTES 0
    else
      let d := { d with loader := { d.loader with copyErr := errs, src := .none } }
      (d.setFld Reg.SYS_LOAD_STATUS F.SYS_LOAD_STATUS_STATE 4).halt 0x04 ((errs.headD 0).toNat + 256 * e.err)
  | .bootHost =>
    let d := ((d.setGen 0 Gen.none).setFld Reg.SYS_LOAD_STATUS F.SYS_LOAD_STATUS_ERR e.err).setFld Reg.SYS_LOAD_STATUS
      F.SYS_LOAD_STATUS_STATE 4
    d.loaderIdle.halt 0x04 (e.err + 0xFF00)
  | _ =>
    let g := 1 - d.activeG
    (((d.loaderIdle.genEmpty g).loadStatus 4 e.err).loadDetail e).raise 0 1

/-! ### Bytes arrive (R82, R83) -/

/-- Sections whose last byte has arrived since `old` bytes were there. -/
def arrived (b : List Byte) (old : Nat) : List SecEntry :=
  if b.length < 64 || b.length < stTableEnd b then []
  else
    let before := fun (e : SecEntry) => stTableEnd b ≤ old && secPoint b e ≤ old
    (stEntries b).filter fun e => !before e && secPoint b e ≤ b.length

/-- What the checks find in the bytes that arrived last. -/
def arriveErrs (run : Bool) (base : Nat) (active : List Section) (b : List Byte) (old : Nat) : List LoadErr :=
  let head := if old < 64 && 64 ≤ b.length then headErrs run base (b.take 64) else []
  if head ≠ [] then head
  else if b.length < 64 then []
  else
    let table := if old < stTableEnd b && stTableEnd b ≤ b.length then tableErrs run b else []
    if table ≠ [] then table
    else
      match (arrived b old).find? fun e => sectionErrs run active b e ≠ [] with
      | some e => sectionErrs run active b e
      | none => []

/-- A section replaces one of its type and instance, or removes it (R69). -/
def putSec (l : List Section) (b : List Byte) (e : SecEntry) : List Section :=
  let l := l.filter fun x => !(x.type = e.type && x.inst = e.inst)
  if e.del then l else l ++ [⟨e.type, e.inst, slice b e.ofs e.len⟩]

/-- Decodes arrived sections into a generation; a class D section waits for the flip, NOTE has no effect (R67, R69, R83). DESIGN CHOICE (log
entry 33): DELETE of a class D section, or of an instance that the generation does not hold, does nothing. -/
def Gen.decode (x : Gen) (b : List Byte) (l : List SecEntry) : Gen :=
  { x with
    secs := (l.filter fun e => typesG.contains e.type).foldl (fun s e => putSec s b e) x.secs
    flipSecs := (l.filter fun e => typesD.contains e.type).foldl (fun s e => putSec s b e) x.flipSecs }

/-- The loader takes bytes (R82, R83, R567). -/
def Dev.loadFeed (d : Dev) (bs : List Byte) : Dev :=
  let old := d.loader.bytes.length
  let b := d.loader.bytes ++ bs
  let b := if 16 ≤ b.length then b.take (max 64 (stTotal b)) else b
  let run := d.loader.src == .host || d.loader.src == .flash
  let g := if run then 1 - d.activeG else 0
  let d := { d with loader := { d.loader with bytes := b, flashAt := d.loader.flashAt + bs.length } }
  let d := d.setFld Reg.STR_LOAD_STATUS F.STR_LOAD_STATUS_BYTES b.length
  let d := if run then d else d.setFld Reg.SYS_LOAD_STATUS F.SYS_LOAD_STATUS_BYTES b.length
  match d.pickErr (arriveErrs run (d.reg Reg.STR_BASE_ID).toNat (d.gen d.activeG).secs b old) with
  | (some e, d) =>
    let (e, d) := d.ownCode b e
    d.loadFail e
  | (none, d) =>
    let d := d.setGen g ((d.gen g).decode b (arrived b old))
    if 64 ≤ b.length ∧ stTotal b ≤ b.length then
      if run then d.setFld Reg.STR_LOAD_STATUS F.STR_LOAD_STATUS_STATE 2
      else d.setFld Reg.SYS_LOAD_STATUS F.SYS_LOAD_STATUS_STATE 2
    else d

/-- The load still takes bytes: one is in progress and TOTAL_LEN bytes have not arrived. -/
def Dev.receiving (d : Dev) : Bool :=
  d.loader.src != .none && !(64 ≤ d.loader.bytes.length && stTotal d.loader.bytes ≤ d.loader.bytes.length)

/-- What the last checks find: filler, the whole generation and the signature (R65, R74). -/
def Dev.verifyErrs (d : Dev) (run : Bool) (g : Nat) : List LoadErr :=
  let b := d.loader.bytes
  let base := d.fld (Reg.DMC_RANGE 0) F.DMC_RANGE_BASE_MIB
  let size := d.fld (Reg.DMC_RANGE 0) F.DMC_RANGE_SIZE_MIB
  finalErrs run (d.gen g).secs base size b ++ d.signErrs b

/-! ### Commands -/

/-- Begins a load into the idle generation, a copy of the active one (R69, R81). DESIGN CHOICE (log entry 33): while it is LOADING,
STR_ID_IDLE reads 0. -/
def Dev.loadBegin (d : Dev) (flash : Bool) : Dev :=
  let g := 1 - d.activeG
  let d := d.genEmpty g
  let d := d.setGen g ⟨.loading, 0, (d.gen d.activeG).secs, []⟩
  let l := { d.loader with
    src := if flash then LoadSrc.flash else LoadSrc.host
    bytes := [], flashAt := d.fld Reg.STR_LOAD_FLASH_OFS F.STR_LOAD_FLASH_OFS_OFS }
  let d := ({ d with loader := l }).setFld Reg.STR_LOAD_CTRL F.STR_LOAD_CTRL_START 1
  (d.setFld Reg.STR_LOAD_STATUS F.STR_LOAD_STATUS_STATE 1).setFld Reg.STR_LOAD_STATUS F.STR_LOAD_STATUS_BYTES 0

/-- START with SRC in bits 3:2 of `v` (R81, R85, R95): ignored while a load is in progress or with a reserved SRC; BUSY while the idle
generation is DRAINING or a flip has been accepted. -/
def Dev.loadStart (d : Dev) (v : Word) : Dev :=
  let src := F.STR_LOAD_CTRL_SRC.of v
  let d := d.setFld Reg.STR_LOAD_CTRL F.STR_LOAD_CTRL_SRC src
  if F.STR_LOAD_CTRL_START.of v = 0 || src ≥ 2 || d.loader.src != .none then d
  else if (d.gen (1 - d.activeG)).st == .draining || d.flipping then
    ((d.loadStatus 4 0x0C).loadDetail ⟨0x0C, 0x1FF, 0, 0⟩).raise 0 1
  else d.loadBegin (src = 1)

/-- ABORT, or a warm restart, ends the load in progress (R86, R97). -/
def Dev.loadAbort (d : Dev) : Dev :=
  if d.loader.src == .host || d.loader.src == .flash then d.loadFail ⟨0x0D, 0x1FF, 0, 0⟩ else d

/-- STR_LOAD_START (R81). -/
def execStrLoadStart (v : Word) (s : State) : Host.Outcome State Fault Refusal :=
  .next { s with dev := s.dev.access Reg.STR_LOAD_CTRL (some v) (·.loadStart v) }

/-- STR_LOAD_ABORT (R86). -/
def execStrLoadAbort (s : State) : Host.Outcome State Fault Refusal :=
  .next { s with dev := s.dev.access Reg.STR_LOAD_CTRL (some (F.STR_LOAD_CTRL_ABORT.put (s.dev.reg Reg.STR_LOAD_CTRL) 1)) Dev.loadAbort }

/-- A write to STR_LOAD_DATA: taken by a host load that receives, otherwise discarded with STRAY (R82). -/
def Dev.loadData (d : Dev) (v : Word) : Dev :=
  if d.loader.src == .host && d.receiving then d.loadFeed (wordBytes v)
  else d.setFld Reg.STR_LOAD_STATUS F.STR_LOAD_STATUS_STRAY 1

/-- STR_LOAD_DATA (R82). -/
def execStrLoadData (v : Word) (s : State) : Host.Outcome State Fault Refusal :=
  .next { s with dev := s.dev.access Reg.STR_LOAD_DATA (some v) (·.loadData v) }

/-- Bytes read from SPI flash at `flashAt` reach the loader; none stands for a failed or timed-out read (R78, R85). -/
def Dev.flashRead (d : Dev) (data : Option (List Byte)) : Dev :=
  if (d.loader.src == .flash || d.loader.src == .bootFlash) && d.receiving then
    match data with
    | some bs => d.loadFeed bs
    | none => d.loadFail ⟨0x0E, 0x1FF, 0, d.loader.bytes.length⟩
  else d

/-- STR_FLASH_READ (R78). -/
def execStrFlashRead (data : Option (List Byte)) (s : State) : Host.Outcome State Fault Refusal :=
  .next { s with dev := s.dev.flashRead data }

/-- The end of the last checks of an overlay (R86): the generation becomes READY, or the load fails. -/
def Dev.loadDone (d : Dev) : Dev :=
  if (d.loader.src == .host || d.loader.src == .flash) && !d.receiving then
    let g := 1 - d.activeG
    let b := d.loader.bytes
    match d.pickErr (d.verifyErrs true g) with
    | (some e, d) =>
      let (e, d) := d.ownCode b e
      d.loadFail e
    | (none, d) =>
      let d := d.setGen g { d.gen g with st := .ready, id := BitVec.ofNat 64 (stId b) }
      let d := (d.loaderIdle.engLoadAll g).setFld Reg.STR_KEY_STATE F.STR_KEY_STATE_OVL_SLOT (byteAt b (stTotal b - 252))
      (d.loadStatus 3 0).raise 0 0
  else d

/-- LOAD_DONE (R86). -/
def execLoadDone (s : State) : Host.Outcome State Fault Refusal :=
  .next { s with dev := if s.dev.running then s.dev.loadDone else s.dev }

/-! ### Fuses (R77, R99) -/

/-- The digest in STR_FUSE_DATA0 to 5. -/
def Dev.fuseDigest (d : Dev) : List Byte := (List.range 6).flatMap fun k => wordBytes (d.reg (Reg.STR_FUSE_DATA k))

/-- A fuse operation ends with RESULT `r`. -/
def Dev.fuseResult (d : Dev) (r : Nat) : Dev :=
  ({ d with loader := { d.loader with fuse := none } }.setFld Reg.STR_FUSE_CMD F.STR_FUSE_CMD_RESULT r).setFld
    Reg.STR_FUSE_CMD F.STR_FUSE_CMD_GO 0

/-- A write of STR_FUSE_CMD with operation `op` (1 PROGRAM, 2 REVOKE): SLOT and OP are stored; with GO the operation starts, only with the
UNLOCK value and with no other in progress. A running operation keeps its own SLOT and OP (R16, R98). Whether VPP_FUSE has been present for
1 ms at GO (R580) is the board's: a free value (log entry 6). -/
def Dev.fuseStart (d : Dev) (op : Nat) (v : Word) : Dev :=
  if F.STR_FUSE_CMD_OP.of v ≠ op then d
  else
    let slot := F.STR_FUSE_CMD_SLOT.of v
    let d := (d.setFld Reg.STR_FUSE_CMD F.STR_FUSE_CMD_SLOT slot).setFld Reg.STR_FUSE_CMD F.STR_FUSE_CMD_OP op
    if d.loader.fuse.isSome || F.STR_FUSE_CMD_GO.of v = 0 || F.STR_FUSE_CMD_UNLOCK.of v ≠ 0xA5C3 then d
    else
      let (k, d) := d.fresh 2
      ({ d with loader := { d.loader with fuse := some (BitVec.ofNat 2 op, BitVec.ofNat 3 slot), fuseSupply := k = 1 } }).setFld
        Reg.STR_FUSE_CMD F.STR_FUSE_CMD_GO 1

/-- FUSE_PROGRAM (R77). -/
def execFuseProgram (v : Word) (s : State) : Host.Outcome State Fault Refusal :=
  .next { s with dev := s.dev.access Reg.STR_FUSE_CMD (some v) (·.fuseStart 1 v) }

/-- FUSE_REVOKE (R77). -/
def execFuseRevoke (v : Word) (s : State) : Host.Outcome State Fault Refusal :=
  .next { s with dev := s.dev.access Reg.STR_FUSE_CMD (some v) (·.fuseStart 2 v) }

/-- Sets slot `k`. -/
def Dev.setSlot (d : Dev) (k : Nat) (x : BitVec 2 × List Byte) : Dev :=
  ({ d with loader := { d.loader with slots := d.loader.slots.set k x } }).showKeys

/-- A fuse operation ends (R77, R99). `ok` says that the fuses read back as programmed. DESIGN CHOICE (log entry 33): the digest is taken as it
stands now; of several results BAD_SLOT comes first, then NOT_EMPTY or NOT_VALID, then NO_SUPPLY; a REVOKE that is not ok gives VERIFY_FAIL
and leaves the slot as it was. -/
def Dev.fuseDone (d : Dev) (ok : Bool) : Dev :=
  match d.loader.fuse with
  | none => d
  | some (op, slot) =>
    let k := slot.toNat
    let st := (d.keySlot k).1
    if k ≥ 4 then d.fuseResult 1
    else if op = 1 ∧ st ≠ 0 then d.fuseResult 2
    else if op = 2 ∧ st ≠ 1 ∧ st ≠ 3 then d.fuseResult 3
    else if !d.loader.fuseSupply then d.fuseResult 4
    else if op = 1 then
      if ok then (d.setSlot k (1, d.fuseDigest)).fuseResult 0 else (d.setSlot k (3, (d.keySlot k).2)).fuseResult 5
    else if ok then (d.setSlot k (2, (d.keySlot k).2)).fuseResult 0
    else d.fuseResult 5

/-- FUSE_OP_DONE (R99). -/
def execFuseOpDone (ok : Bool) (s : State) : Host.Outcome State Fault Refusal :=
  .next { s with dev := if s.dev.running then s.dev.fuseDone ok else s.dev }

end Sys2Proof.Machine
end

