-- ==== Sys2Proof/Machine/Power.lean ====
section
/-! DEFINITION. The power manager (R415 to R446): pace and trims, sensors, the feed, the forecast, alarms, the Duiker ladder, regulators
and recalibration.
Readings of the manual that it takes are DEDUCED, in log entries 25, 26, 27. -/

namespace Sys2Proof.Machine

/-! ### Pace and trims (R416, R417, R420, R421, R434) -/

/-- Commands the trim of a region and remembers the steps as a raise of R420 or R421. -/
def Dev.raiseTrim (d : Dev) (g n : Nat) : Dev :=
  let t := d.trim g
  let d := d.commandTrim g (min 24 (t + n))
  let up := (d.trim g - t).toNat
  if up = 0 then d else { d with pwr := { d.pwr with trimUp := Map.put d.pwr.trimUp g (Map.getD d.pwr.trimUp g 0 + up) } }

/-- The retention floor (R421). -/
def Dev.paceFloor (d : Dev) (g pace : Nat) : Dev :=
  if pace ≥ lrPaceOf g / 4 then d
  else
    let k := railOf g
    let d := if d.trim g ≥ 24 then
        { d with pwr := { d.pwr with railUp := Map.put d.pwr.railUp k (Map.getD d.pwr.railUp k 0 + 10) } }.planRail k
      else d.raiseTrim g 4
    (d.raise 11 11).report 107 1 true

/-- A guarded region that rungs without BELOW_LR have lowered too far goes back by one step, and stays there (R434). -/
def Dev.stopLowering (d : Dev) (g : Nat) : Dev :=
  if !d.guarded g || !d.slow g then d
  else
    let k := railOf g
    let d := if d.rungTrim k false < 0 && d.trim g < d.trimTop g then
        { d with pwr := { d.pwr with trimStop := Map.put d.pwr.trimStop g (d.trim g + 1) } }
      else d
    if d.rungRail k false < 0 && (d.railMv k : Int) < d.railTop k then
      { d with pwr := { d.pwr with railStop := Map.put d.pwr.railStop k (d.railMv k + 10) } }.planRail k
    else d

/-- The line-rate guard (R420): the second and each later low reading raises the trim by one step. -/
def Dev.paceGuard (d : Dev) (g : Nat) : Dev :=
  if d.guarded g && d.bit Reg.PWR_CTRL F.PWR_CTRL_GUARD_EN && !d.belowLr g && Map.getD d.pwr.lowReads g 0 ≥ 2 then
    if d.trim g ≥ 24 then d.raise 11 10
    else
      let t := d.trim g
      let d := d.raiseTrim g 1
      if t < d.trim g then d.count (Reg.PWR_COUNT 6) 1 else d
  else d

/-- A pace meter's reading (R417). -/
def Dev.paceMeasure (d : Dev) (g pace : Nat) : Dev :=
  let pace := min pace 4095
  let d := d.setFld (Reg.PWR_REGION g) F.PWR_REGION_PACE pace
  let n := if d.slow g then min 2 (Map.getD d.pwr.lowReads g 0 + 1) else 0
  let d := { d with pwr := { d.pwr with lowReads := if n = 0 then Map.del d.pwr.lowReads g else Map.put d.pwr.lowReads g n } }
  ((d.paceFloor g pace).stopLowering g).paceGuard g

/-- PACE_MEASURE (R417). -/
def execPaceMeasure (g pace : Nat) (s : State) : Host.Outcome State Fault Refusal :=
  .next { s with dev := if s.dev.up && g < 288 then s.dev.paceMeasure g pace else s.dev }

/-- A region's trim moves one step toward its target; rungs without BELOW_LR lower a guarded region only while its PACE is at or above
LR_PACE (R416, R434). -/
def Dev.trimStep (d : Dev) (g : Nat) : Dev :=
  let t := d.trim g
  let x := d.trimTarget g
  if t < x then d.commandTrim g (t + 1)
  else if x < t then
    if t ≤ d.trimTop g && d.guarded g && d.slow g then d else d.commandTrim g (t - 1)
  else d

/-- TRIM_STEP (R416). -/
def execTrimStep (g : Nat) (s : State) : Host.Outcome State Fault Refusal :=
  .next { s with dev := if s.dev.up && g < 288 then s.dev.trimStep g else s.dev }

/-! ### Sensors (R28, R423, R428, R561) -/

def Dev.temp (d : Dev) (i : Nat) : Int := signed (d.fld (Reg.PWR_THERM i) F.PWR_THERM_TEMP) 12
def Dev.tempValid (d : Dev) (i : Nat) : Bool := d.bit (Reg.PWR_THERM i) F.PWR_THERM_VALID

/-- The sensor of a region (PWR_REGIONr.SENSOR). -/
def sensorNo (r : Nat) : Nat := Config.sensorOf r % 64

/-- Stores the readings. -/
def Dev.storeTemps (d : Dev) (ts : List (BitVec 12)) : Dev :=
  (ts.take 64).zipIdx.foldl (fun (d : Dev) (x : BitVec 12 × Nat) =>
    (d.setFld (Reg.PWR_THERM x.2) F.PWR_THERM_TEMP x.1.toNat).setFld (Reg.PWR_THERM x.2) F.PWR_THERM_VALID 1) d

/-- The temperature difference of a pair of regions, in 0.25 °C, when both sensors hold a reading. -/
def Dev.skew (d : Dev) (p : Nat × Nat) : Nat :=
  let a := sensorNo p.1
  let b := sensorNo p.2
  if d.tempValid a && d.tempValid b then (d.temp a - d.temp b).natAbs else 0

/-- Adjacent regions more than 35 °C apart are reported once, until they have come below 33 °C (R423). -/
def Dev.checkSkew (d : Dev) : Dev :=
  regionPairs.foldl (fun (d : Dev) (p : Nat × Nat) =>
    let k := d.skew p
    if d.pwr.skewed.contains p then
      if k < 132 then { d with pwr := { d.pwr with skewed := d.pwr.skewed.filter (· != p) } } else d
    else if k > 140 then (({ d with pwr := { d.pwr with skewed := p :: d.pwr.skewed } }).raise 11 7).report 107 2 true
    else d) d

/-- The sensors that hold a reading. -/
def Dev.sensors (d : Dev) : List Nat := (List.range 64).filter d.tempValid

/-- Some valid sensor reads above a threshold. -/
def Dev.hotterThan (d : Dev) (x : Int) : Bool := d.sensors.any fun i => x < d.temp i

def Dev.warnAt (d : Dev) : Int := signed (d.fld Reg.PWR_THERM_LIMIT F.PWR_THERM_LIMIT_WARN) 12
def Dev.critAt (d : Dev) : Int := signed (d.fld Reg.PWR_THERM_LIMIT F.PWR_THERM_LIMIT_CRIT) 12

/-- The thermal trigger (R428). -/
def Dev.checkWarn (d : Dev) : Dev :=
  if d.pwr.warn then
    if d.hotterThan (d.warnAt - 8) then d else ({ d with pwr := { d.pwr with warn := false } }).trigEnd
  else if d.hotterThan d.warnAt then (({ d with pwr := { d.pwr with warn := true } }).raise 11 5).trigBegin
  else d

/-- A reading above CRIT: LEVEL becomes 16 (R428). -/
def Dev.checkCrit (d : Dev) : Dev :=
  if d.hotterThan d.critAt then
    let d := if d.ladderEn then d.ladderTo 16 else d
    (d.raise 11 6).report 107 2 true
  else d

/-- The sensors are read; before RUN a reading above CRIT halts the device with reason THERMAL (R561). -/
def Dev.sensorRead (d : Dev) (ts : List (BitVec 12)) : Dev :=
  if d.up then ((d.storeTemps ts).checkSkew.checkWarn).checkCrit
  else if 2 ≤ d.stage && d.stage ≤ 6 then
    let d := d.storeTemps ts
    match d.sensors.find? fun i => d.critAt < d.temp i with
    | some i => d.halt 0x08 i
    | none => d
  else d

/-- SENSOR_READ (R423). -/
def execSensorRead (temps : List (BitVec 12)) (s : State) : Host.Outcome State Fault Refusal :=
  .next { s with dev := s.dev.sensorRead temps }

/-! ### Feed and forecast (R424, R425, R427) -/

/-- The feed trigger (R425). -/
def Dev.feedTrigger (d : Dev) (mw mv : Nat) : Dev :=
  let lim := d.fld Reg.PWR_FEED_LIMIT F.PWR_FEED_LIMIT_PLIMIT_MW
  let vmin := d.fld Reg.PWR_FEED_LIMIT F.PWR_FEED_LIMIT_VMIN_MV
  if d.feedOn then
    if mw + d.fld Reg.PWR_FEED_LIMIT F.PWR_FEED_LIMIT_HYST_MW ≤ lim ∧ vmin ≤ mv then
      (d.setFld Reg.PWR_FEED F.PWR_FEED_BREACH 0).trigEnd
    else d
  else if lim < mw ∨ mv < vmin then
    (((d.setFld Reg.PWR_FEED F.PWR_FEED_BREACH 1).count (Reg.PWR_COUNT 3) 1).raise 11 2).trigBegin
  else d

/-- A valid frame. -/
def Dev.feedGood (d : Dev) (vc ic : Nat) : Dev :=
  let mv := vc * d.fld Reg.PWR_FEED_SCALE F.PWR_FEED_SCALE_V_LSB_UV / 1000
  let ma := ic * d.fld Reg.PWR_FEED_SCALE F.PWR_FEED_SCALE_I_LSB_UA / 1000
  let mw := min 16777215 (mv * ma / 1000)
  let d := { d with pwr := { d.pwr with badFrames := 0 } }
  let d := ((d.setFld Reg.PWR_FEED F.PWR_FEED_V_CODE vc).setFld Reg.PWR_FEED F.PWR_FEED_I_CODE ic).setFld Reg.PWR_FEED F.PWR_FEED_P_MW mw
  (d.setFld Reg.PWR_FEED F.PWR_FEED_STALE 0).feedTrigger mw mv

/-- A frame that is not valid: the third in a row sets STALE. -/
def Dev.feedBad (d : Dev) : Dev :=
  let n := min 3 (d.pwr.badFrames + 1)
  let d := { d with pwr := { d.pwr with badFrames := n } }
  if n = 3 ∧ !d.bit Reg.PWR_FEED F.PWR_FEED_STALE then
    ((d.setFld Reg.PWR_FEED F.PWR_FEED_STALE 1).raise 11 3).report 107 2 true
  else d

/-- FEED_FRAME (R424). -/
def execFeedFrame (vc ic : BitVec 16) (s : State) : Host.Outcome State Fault Refusal :=
  .next { s with dev :=
    if s.dev.up && s.dev.bit Reg.PWR_FEED_CFG F.PWR_FEED_CFG_EN then
      if (vc = 0 && ic = 0) || (vc = 0xFFFF && ic = 0xFFFF) then s.dev.feedBad else s.dev.feedGood vc.toNat ic.toNat
    else s.dev }

/-- A forecast part in its 24-bit field; the manual gives no DYN_MW beyond it. -/
def dynField (x : Nat) : Nat := if x < 16777216 then x else Config.freeOf 2 [x] % 16777216

/-- The forecast trigger (R427). -/
def Dev.forecastTrigger (d : Dev) (mw : Nat) : Dev :=
  let lim := d.fld Reg.PWR_FC_LIMIT F.PWR_FC_LIMIT_LIMIT_MW
  let en := d.bit Reg.PWR_FC_LIMIT F.PWR_FC_LIMIT_EN
  if d.forecastOn then
    if !en || mw + d.fld Reg.PWR_FC_LIMIT F.PWR_FC_LIMIT_HYST_MW ≤ lim then (d.setFld Reg.PWR_FC F.PWR_FC_BREACH 0).trigEnd else d
  else if en && lim < mw then (((d.setFld Reg.PWR_FC F.PWR_FC_BREACH 1).count (Reg.PWR_COUNT 4) 1).raise 11 4).trigBegin
  else d

/-- The forecast of the core's draw (R427). -/
def Dev.drawForecast (d : Dev) : Dev :=
  let w := max 1 (d.fld Reg.PWR_FC_CFG F.PWR_FC_CFG_WINDOW_US)
  let acc := (d.reg (Reg.PWR_ACC 8)).toNat
  let e := (acc + 281474976710656 - (d.pwr.accHist[w - 1]?).getD 0) % 281474976710656
  let dyn := e / (w * 1000)
  let leak := (List.range 6).foldl (fun n k => n + d.fld (Reg.PWR_RAIL k) F.PWR_RAIL_LEAK) 0
  let mw := min 16777215 (dyn + d.fld Reg.PWR_FC_CFG F.PWR_FC_CFG_FIXED_MW + 16 * leak)
  let d := { d with pwr := { d.pwr with accHist := (acc :: d.pwr.accHist).take 2048 } }
  ((d.setFld Reg.PWR_FC F.PWR_FC_DYN_MW (dynField dyn)).setFld Reg.PWR_FC F.PWR_FC_P_MW mw).forecastTrigger mw

/-- FORECAST_TICK (R427). -/
def execForecastTick (s : State) : Host.Outcome State Fault Refusal :=
  .next { s with dev := if s.dev.up then s.dev.drawForecast else s.dev }

/-! ### Alarms and the fast trigger (R429, R430) -/

/-- An accepted asserting edge of alarm `k`. -/
def Dev.alarm (d : Dev) (k : Nat) : Dev :=
  let d := { d with pwr := { d.pwr with alarmAt := Map.put d.pwr.alarmAt k d.free } }.count (Reg.PWR_COUNT 5) 1
  if (d.fld Reg.PWR_ALARM F.PWR_ALARM_EN).testBit k then
    let d := d.raise 11 8
    if (d.fld Reg.PWR_ALARM F.PWR_ALARM_STEP).testBit k then d.stepRequest else d
  else d

/-- An edge of ALARM_IN[k] that the 20 ns filter passes: at most one asserting edge per 100 ns is accepted (R393, R429). -/
def Dev.alarmEdge (d : Dev) (k : Nat) (rising : Bool) : Dev :=
  let l := d.fld Reg.PWR_ALARM F.PWR_ALARM_LEVEL
  let d := d.setFld Reg.PWR_ALARM F.PWR_ALARM_LEVEL (if rising then l ||| 2 ^ k else l - (if l.testBit k then 2 ^ k else 0))
  if rising = l.testBit k then d
  else if rising = (d.fld Reg.PWR_ALARM F.PWR_ALARM_POL).testBit k then d
  else
    match Map.find d.pwr.alarmAt k with
    | some t => if d.passed t 100 then d.alarm k else (d.count (Reg.PWR_ALARM_OVR k) 1).raise 11 9
    | none => d.alarm k

/-- The pin's filtered level. -/
def Dev.alarmPin (d : Dev) (k : Nat) (b : Bool) : Dev :=
  let l := d.pins.alarmIn
  { d with pins := { d.pins with alarmIn := if b then l ||| 2 ^ k else if l.testBit k then l - 2 ^ k else l } }

/-- ALARM_EDGE (R429). -/
def execAlarmEdge (k : Nat) (rising : Bool) (s : State) : Host.Outcome State Fault Refusal :=
  .next { s with dev :=
    if k < 16 then (if s.dev.up then (s.dev.alarmPin k rising).alarmEdge k rising else s.dev.alarmPin k rising) else s.dev }

/-- FEED_ALERT_N falls: a new assertion takes the ladder to ALERT_LEVEL; a fall before re-arming continues the old one (R430, R431). -/
def Dev.fastAlert (d : Dev) : Dev :=
  if d.pwr.alertLow then d
  else
    let d := ({ d with pwr := { d.pwr with alertLow := true } }.count (Reg.PWR_COUNT 2) 1).relaxStart d.free
    if d.ladderEn then
      let x := min (d.fld Reg.PWR_CTRL F.PWR_CTRL_ALERT_LEVEL) (d.fld Reg.PWR_CTRL F.PWR_CTRL_ALERT_MAX)
      d.ladderTo (max d.level (min 16 x))
    else d

/-- The level of FEED_ALERT_N. -/
def Dev.alertPin (d : Dev) (b : Bool) : Dev := { d with pins := { d.pins with alertN := b } }

/-- FAST_ALERT (R431). -/
def execFastAlert (s : State) : Host.Outcome State Fault Refusal :=
  .next { s with dev := if s.dev.up then (s.dev.alertPin false).fastAlert else s.dev.alertPin false }

/-- FEED_ALERT_N has stayed high for 1 µs: the fast trigger ended when it rose. -/
def Dev.fastRearm (d : Dev) : Dev :=
  if d.pwr.alertLow then
    let d := { d with pwr := { d.pwr with alertLow := false } }
    if d.anyTrigger then d else d.relaxStart (d.free - 1000)
  else d

/-- FAST_ALERT_REARM (R430). -/
def execFastAlertRearm (s : State) : Host.Outcome State Fault Refusal :=
  .next { s with dev := if s.dev.up then (s.dev.alertPin true).fastRearm else s.dev.alertPin true }

/-! ### Ladder commands (R431, R436, R443) -/

/-- STEP_US after the last step: one rung for a waiting request or a feed, forecast or thermal trigger, or for the fast trigger up to
ALERT_MAX. -/
def Dev.ladderStep (d : Dev) : Dev :=
  if !d.ladderEn || !d.stepDue then d
  else if d.pwr.request || d.feedOn || d.forecastOn || d.pwr.warn then
    ({ d with pwr := { d.pwr with request := false } }).ladderTo (min (d.level + 1) 16)
  else if d.pwr.alertLow then d.ladderTo (max d.level (min 16 (min (d.level + 1) (d.fld Reg.PWR_CTRL F.PWR_CTRL_ALERT_MAX))))
  else d

/-- LADDER_STEP (R431). -/
def execLadderStep (s : State) : Host.Outcome State Fault Refusal :=
  .next { s with dev := if s.dev.up then s.dev.ladderStep else s.dev }

/-- No trigger for RELAX_MS ms: the highest rung above FLOOR is released. -/
def Dev.ladderRelax (d : Dev) : Dev :=
  if d.ladderEn && !d.anyTrigger && d.passed d.pwr.relaxFrom (1000000 * max 1 (d.fld Reg.PWR_CTRL F.PWR_CTRL_RELAX_MS)) then
    let d := d.relaxStart d.free
    if d.floorLevel < d.level then d.ladderTo (d.level - 1) else d
  else d

/-- LADDER_RELAX (R431). -/
def execLadderRelax (s : State) : Host.Outcome State Fault Refusal :=
  .next { s with dev := if s.dev.up then s.dev.ladderRelax else s.dev }

/-- A new period of recalibration begins (R441). -/
def Dev.calBegin (d : Dev) : Dev :=
  { d with pwr := { d.pwr with
      calEnergy := List.replicate 6 0
      calBase := (List.range 21).map fun k => (d.reg (Reg.ACT_CLASS_PJ k)).toNat
      calSkip := false } }

/-- A write of PWR_CTRL: EN 0 releases every rung; a FLOOR above LEVEL is reached at once (R431, R436). -/
def Dev.pwrCtrl (d : Dev) (v : Word) : Dev :=
  let cal := d.bit Reg.PWR_CTRL F.PWR_CTRL_CAL_EN
  let d := d.plainWrite Reg.PWR_CTRL v
  let d := if !cal && d.bit Reg.PWR_CTRL F.PWR_CTRL_CAL_EN then d.calBegin else d
  if !d.ladderEn then ({ d with pwr := { d.pwr with request := false } }).ladderTo 0
  else d.ladderTo (max d.level d.floorLevel)

/-- FLOOR_WRITE (R431). -/
def execFloorWrite (v : Word) (s : State) : Host.Outcome State Fault Refusal :=
  .next { s with dev := s.dev.access Reg.PWR_CTRL (some v) (·.pwrCtrl v) }

/-- LADDER_DISABLE: a write of PWR_CTRL with EN 0 (R436). -/
def execLadderDisable (v : Word) (s : State) : Host.Outcome State Fault Refusal :=
  .next { s with dev := s.dev.access Reg.PWR_CTRL (some (F.PWR_CTRL_EN.put v 0)) (·.pwrCtrl (F.PWR_CTRL_EN.put v 0)) }

/-- A write of PWR_RUNGk; in force, its old action gives way to the new one (R443). -/
def Dev.rungWrite (d : Dev) (k : Nat) (v : Word) : Dev :=
  let d := d.plainWrite (Reg.PWR_RUNG k) v
  if d.rungOn k then d.rungsChanged else d

/-- RUNG_WRITE (R443). -/
def execRungWrite (k : Nat) (v : Word) (s : State) : Host.Outcome State Fault Refusal :=
  .next { s with dev := if k < 16 then s.dev.access (Reg.PWR_RUNG k) (some v) (·.rungWrite k v) else s.dev }

/-! ### Regulators (R422, R437, R438) -/

/-- A failed transaction with rail `k`; the third in a row holds the rail (R438). -/
def Dev.busError (d : Dev) (k : Nat) : Dev :=
  let n := min 3 (Map.getD d.pwr.railFails k 0 + 1)
  let d := ({ d with pwr := { d.pwr with railFails := Map.put d.pwr.railFails k n } }.count (Reg.PWR_COUNT 8) 1).raise 11 13
  if n = 3 ∧ !d.railHeld k then
    let d := { d with pwr := { d.pwr with railTo := Map.del d.pwr.railTo k } }
    (d.setFld (Reg.PWR_RAIL_STAT k) F.PWR_RAIL_STAT_HELD 1).report 107 2 true
  else d

/-- The last step of the rail is over: the regulator has since reported a VOUT within 10 mV of it, or 1 ms has passed (R422). -/
def Dev.railSettled (d : Dev) (k : Nat) : Bool := d.pwr.railSeen.contains k || d.passed ((d.pwr.railAt[k]?).getD 0) 1000000

/-- The exponent of a VOUT_MODE that reports ULINEAR16 (R437). -/
def voutExp (mode : Nat) : Int := signed (mode % 32) 5

/-- A voltage in mV as ULINEAR16 of the exponent, and back. -/
def toUlinear (mv : Nat) (e : Int) : Nat := (if e < 0 then mv * 2 ^ (-e).toNat else mv / 2 ^ e.toNat) / 1000
def ofUlinear (m : Nat) (e : Int) : Nat := if e < 0 then m * 1000 / 2 ^ (-e).toNat else m * 1000 * 2 ^ e.toNat

/-- A LINEAR11 value in thousandths; a current below 0 reads as 0. -/
def ofLinear11 (x : Nat) : Nat := ofUlinear (signed (x % 2048) 11).toNat (signed (x / 2048 % 32) 5)

/-- The voltage command that the manager sends (R437, log entry 25): on AVSBus in mV at 25 MHz, with RailSel from ADDR; on PMBus as the ULINEAR16
of the exponent that VOUT_MODE last reported. -/
def Dev.sendRail (d : Dev) (k mv : Nat) : Dev :=
  let g := Reg.PWR_RAIL k
  let pm := d.bit g F.PWR_RAIL_BUS
  let adr := d.fld g F.PWR_RAIL_ADDR
  let c : RailCmd := if pm then
      ⟨k, 1, adr, d.fld g F.PWR_RAIL_PAGE, if d.bit Reg.PWR_PMBUS F.PWR_PMBUS_FAST then 400 else 100, mv,
        (Map.find d.pwr.voutMode k).map fun m => toUlinear mv (voutExp m)⟩
    else ⟨k, 0, adr % 16, 0, 25000, mv, some mv⟩
  { d with pwr := { d.pwr with busOut := c :: d.pwr.busOut } }

/-- Commands a rail's voltage. -/
def Dev.commandRail (d : Dev) (k v : Nat) (done : Bool) : Dev :=
  { d with pwr := { d.pwr with
      railCmd := d.pwr.railCmd.set k v, railAt := d.pwr.railAt.set k d.free, calSkip := true
      railSeen := d.pwr.railSeen.filter (· != k)
      railTo := if done then Map.del d.pwr.railTo k else d.pwr.railTo
      railFails := Map.del d.pwr.railFails k } }

/-- One step of at most 10 mV of a rail toward its setting, checked under R422; rungs without BELOW_LR lower a rail with guarded regions
only while their PACE is at or above LR_PACE (R434). -/
def Dev.railStep (d : Dev) (k : Nat) (ok : Bool) : Dev :=
  match Map.find d.pwr.railTo k with
  | none => d
  | some t =>
    let c := d.railMv k
    if d.railHeld k || !d.railSettled k then d
    else if t < c && (c : Int) ≤ d.railTop k && d.railSlow k then d
    else
      let x := if c < t then min t (c + 10) else max t (c - 10)
      let l := d.railLimits k x
      let d := d.sendRail k l.1.toNat
      if !ok then d.busError k else (d.noteClamp l.2).commandRail k l.1.toNat (l.2 || x = t)

/-- RAIL_STEP (R422). -/
def execRailStep (k : Nat) (ok : Bool) (s : State) : Host.Outcome State Fault Refusal :=
  .next { s with dev := if s.dev.up && k < 6 then s.dev.railStep k ok else s.dev }

/-- A rail's voltage in mV and current in mA have been read (R422, R437, R441). -/
def Dev.railReading (d : Dev) (k mv ma : Nat) : Dev :=
  let e := (d.pwr.calEnergy[k]?).getD 0 + mv * ma * 1000
  let c := d.railMv k
  let seen := if mv ≤ c + 10 && c ≤ mv + 10 then k :: d.pwr.railSeen.filter (· != k) else d.pwr.railSeen
  let d := { d with pwr := { d.pwr with railFails := Map.del d.pwr.railFails k, calEnergy := d.pwr.calEnergy.set k e, railSeen := seen } }
  (d.setFld (Reg.PWR_RAIL_STAT k) F.PWR_RAIL_STAT_V_MV mv).setFld (Reg.PWR_RAIL_STAT k) F.PWR_RAIL_STAT_I_MA ma

/-- What a rail's regulator answers, on the bus that BUS names (R437, R438): on AVSBus mV and units of 10 mA, on PMBus ULINEAR16 and LINEAR11. An
answer of the other bus does nothing. -/
def Dev.railTelemetry (d : Dev) (k : Nat) (read : RailRead) : Dev :=
  let pm := d.bit (Reg.PWR_RAIL k) F.PWR_RAIL_BUS
  match read with
  | .failed => d.busError k
  | .avs v i => if pm then d else d.railReading k v (10 * i)
  | .pmbus m v i =>
    if !pm then d
    else if m.toNat ≥ 32 then d.busError k
    else
      ({ d with pwr := { d.pwr with voutMode := Map.put d.pwr.voutMode k m.toNat } }).railReading k (ofUlinear v.toNat (voutExp m.toNat))
        (ofLinear11 i.toNat)

/-- RAIL_TELEMETRY (R437). -/
def execRailTelemetry (k : Nat) (read : RailRead) (s : State) : Host.Outcome State Fault Refusal :=
  .next { s with dev := if s.dev.up && k < 6 then s.dev.railTelemetry k read else s.dev }

/-- A write of PWR_RAILk: the rail sets out for its new setting, no longer held (R438). -/
def Dev.railWrite (d : Dev) (k : Nat) (v : Word) : Dev :=
  let mv := d.railMv k
  let d := (d.plainWrite (Reg.PWR_RAIL k) v).setFld (Reg.PWR_RAIL_STAT k) F.PWR_RAIL_STAT_HELD 0
  let d := { d with pwr := { d.pwr with
      railCmd := d.pwr.railCmd.set k mv, railFails := Map.del d.pwr.railFails k, railUp := Map.del d.pwr.railUp k
      railStop := Map.del d.pwr.railStop k } }
  d.planRail k

/-- RAIL_WRITE (R438): the write and the first step toward the new setting. -/
def execRailWrite (k : Nat) (v : Word) (ok : Bool) (s : State) : Host.Outcome State Fault Refusal :=
  .next { s with dev := if k < 6 then s.dev.access (Reg.PWR_RAIL k) (some v) fun d => (d.railWrite k v).railStep k ok else s.dev }

/-! ### Recalibration (R440, R441) -/

/-- Home rails of a class (R440). -/
def homeRails (s : Nat) : List Nat :=
  if s = 0 ∨ s = 17 then [0, 1]
  else if s = 11 ∨ s = 12 ∨ s = 13 ∨ s = 14 ∨ s = 15 then [2]
  else if s = 1 ∨ s = 2 ∨ s = 3 then [3]
  else if s = 6 ∨ s = 4 ∨ s = 8 ∨ s = 9 ∨ s = 10 ∨ s = 18 ∨ s = 19 then [4]
  else [5]

/-- What class `s` has been charged in this period. -/
def Dev.calDiff (d : Dev) (s : Nat) : Nat :=
  ((d.reg (Reg.ACT_CLASS_PJ s)).toNat + 281474976710656 - (d.pwr.calBase[s]?).getD 0) % 281474976710656

/-- C of R441: the charges homed on rail `r`. -/
def Dev.calCharge (d : Dev) (r : Nat) : Nat :=
  if r < 2 then (d.calDiff 0 + d.calDiff 17) / 2
  else (List.range 21).foldl (fun n s => if homeRails s = [r] then n + d.calDiff s else n) 0

/-- A factor for rail `r`, or none when it is skipped; LEAK may be learnt. -/
def Dev.calRail (d : Dev) (r period : Nat) : Dev × Option Nat :=
  let e := (d.pwr.calEnergy[r]?).getD 0
  let c := d.calCharge r
  let leak := d.fld (Reg.PWR_RAIL r) F.PWR_RAIL_LEAK
  if c = 0 ∧ d.bit Reg.PWR_CAL F.PWR_CAL_LEAK_AUTO then
    (d.setFld (Reg.PWR_RAIL r) F.PWR_RAIL_LEAK (min 4095 (e / (period * 16))), none)
  else if c < d.fld Reg.PWR_CAL F.PWR_CAL_MIN_UJ * 1000000 then (d, none)
  else
    let num : Int := ((e : Int) - (16 * leak * period : Nat)) * 256
    let f := if c = 0 then Config.freeOf 3 [e, leak, period] % 512 else (clampInt (num / (c : Int)) 0 511).toNat
    (d.setFld (Reg.PWR_RAIL_STAT r) F.PWR_RAIL_STAT_FACTOR f, some f)

/-- The factors of all rails. -/
def Dev.calRails (d : Dev) (period : Nat) : Dev × List (Option Nat) :=
  (List.range 6).foldl (fun (x : Dev × List (Option Nat)) r =>
    let y := x.1.calRail r period
    (y.1, x.2 ++ [y.2])) (d, [])

/-- The factor of a class, when none of its home rails was skipped. -/
def calFactor (fs : List (Option Nat)) (s : Nat) : Option Nat :=
  match homeRails s with
  | [r] => (fs[r]?).getD none
  | _ =>
    match (fs[0]?).getD none, (fs[1]?).getD none with
    | some a, some b => some ((a + b) / 2)
    | _, _ => none

/-- A live cost under factor `f`, within SPAN of its reference (R265). -/
def calCost (live ref span f : Nat) : Nat :=
  max ((ref * (256 - span)) >>> 8) (min ((live * f) >>> 8) (min 65535 ((ref * (256 + span)) >>> 8)))

/-- The live costs of class `s` under its factor. -/
def Dev.calClass (d : Dev) (s f : Nat) : Dev :=
  let a := Reg.ACT_COST s
  let r := Reg.ACT_COST_REF s
  let span := d.fld r F.ACT_COST_REF_SPAN
  let x := calCost (d.fld a F.ACT_COST_A) (d.fld r F.ACT_COST_REF_A_REF) span f
  let y := calCost (d.fld a F.ACT_COST_B) (d.fld r F.ACT_COST_REF_B_REF) span f
  (d.setFld a F.ACT_COST_A x).setFld a F.ACT_COST_B y

/-- The end of a period of PERIOD_MS (R441); a period in which a rail moved is skipped whole. -/
def Dev.recalibrate (d : Dev) : Dev :=
  if !d.bit Reg.PWR_CTRL F.PWR_CTRL_CAL_EN then d
  else if d.pwr.calSkip then d.calBegin
  else
    let (d, fs) := d.calRails (1000000 * max 10 (d.fld Reg.PWR_CAL F.PWR_CAL_PERIOD_MS))
    let d := (List.range 21).foldl (fun (d : Dev) s =>
      if d.bit (Reg.ACT_COST s) F.ACT_COST_CAL_EN then
        match calFactor fs s with
        | some f => d.calClass s f
        | none => d
      else d) d
    ((d.count (Reg.PWR_COUNT 10) 1).raise 11 14).calBegin

/-- RECALIBRATION (R441). -/
def execRecalibration (s : State) : Host.Outcome State Fault Refusal :=
  .next { s with dev := if s.dev.up then s.dev.recalibrate else s.dev }

/-! ### Registers and RELEASE (R425, R435, R439) -/

/-- A write of PWR_FEED_CFG: with EN 0 the feed trigger is inactive. -/
def Dev.feedCfgWrite (d : Dev) (v : Word) : Dev :=
  let d := d.plainWrite Reg.PWR_FEED_CFG v
  if d.bit Reg.PWR_FEED_CFG F.PWR_FEED_CFG_EN || !d.feedOn then d
  else (d.setFld Reg.PWR_FEED F.PWR_FEED_BREACH 0).trigEnd

/-- A write of PWR_PORTSETk: PORT_DOWN rungs in force follow the set (R435). -/
def Dev.portSetWrite (d : Dev) (k : Nat) (v : Word) : Dev := (d.plainWrite (Reg.PWR_PORTSET k) v).followPorts

/-- At stage RELEASE of a cold start the rails' VOUT is read, and the ladder acts with the values REG_INIT has given and the levels that the pins
have (R429, R430, R439). -/
def Dev.pwrRelease (d : Dev) (rails : List Nat) : Dev :=
  let d := (List.range 6).foldl (fun (d : Dev) k =>
    let v := (rails[k]?).getD 0 % 4096
    (d.setFld (Reg.PWR_RAIL k) F.PWR_RAIL_VOUT_MV v).setFld (Reg.PWR_RAIL_STAT k) F.PWR_RAIL_STAT_V_MV v) d
  let p := { d.pwr with
    railCmd := (List.range 6).map fun k => (rails[k]?).getD 0 % 4096
    railAt := List.replicate 6 d.free, relaxFrom := d.free, railSeen := List.range 6 }
  let d := { d with pwr := p }
  let d := { d with pwr := { d.pwr with railAsk := (List.range 6).map fun k => (k, d.railTarget k) } }
  let d := d.setFld Reg.PWR_ALARM F.PWR_ALARM_LEVEL d.pins.alarmIn
  let d := if d.ladderEn then d.ladderTo (max d.level d.floorLevel) else d
  let d := if d.pins.alertN then d else d.fastAlert
  d.driveShed.calBegin

/-- A write of PWR_SHED: the pins follow (R433, R444). -/
def Dev.shedWrite (d : Dev) (v : Word) : Dev := (d.plainWrite Reg.PWR_SHED v).driveShed

end Sys2Proof.Machine
end

