-- ==== Sys2Proof/Machine/Time.lean ====
section
/-! DEFINITION. The time base rim (R370 to R394): the counter's steps and the Hart servo, references, 1PPS, triggers and captures.
Readings of the manual that it takes are DEDUCED, in log entry 24. -/

namespace Sys2Proof.Machine

/-! ### Signed fields -/

/-- The number that `w` bits of `v` spell in two's complement. -/
def sgn (v w : Nat) : Int :=
  let x := v % 2 ^ w
  if x ≥ 2 ^ (w - 1) then (x : Int) - ((2 ^ w : Nat) : Int) else (x : Int)

/-- A number as `w` bits in two's complement. -/
def unsgn (x : Int) (w : Nat) : Nat := (x % ((2 ^ w : Nat) : Int)).toNat

/-- The limit of ADJ and integ: ±1,000 ppm (R373). -/
def adjLimit : Int := 1099511627

/-! ### Triggers (R387 to R391) -/

/-- How far the target's ns lies ahead of NS, modulo 2^32 (R387). -/
def Dev.targetAhead (d : Dev) (t : BitVec 40) : Nat := ahead32 d.ns ((t >>> 8).toNat)

/-- The target is behind the counter. -/
def Dev.targetBehind (d : Dev) (t : BitVec 40) : Bool := d.targetAhead t ≥ 2147483648

/-- The counter has reached the target, fraction included. -/
def Dev.targetReached (d : Dev) (t : BitVec 40) : Bool := (BitVec.ofNat 40 d.ns256 - t).toNat < 549755813888

def TrigOut.init : TrigOut := ⟨none, false, none⟩

/-- Output `k`: 0 to 15 the triggers, 16 the 1PPS output. -/
def Dev.trig (d : Dev) (k : Nat) : TrigOut := if k = 16 then d.tim.ppsOut else (d.tim.trigs[k]?).getD TrigOut.init
def Dev.setTrig (d : Dev) (k : Nat) (x : TrigOut) : Dev :=
  if k = 16 then { d with tim := { d.tim with ppsOut := x } } else { d with tim := { d.tim with trigs := d.tim.trigs.set k x } }

/-- Arms output `k` (R387); a WIDTH below 10 is taken as 10, a PERIOD of 1 to 99 as 100, and a nonzero PERIOD limits WIDTH to its half. -/
def Dev.armTrig (d : Dev) (k : Nat) (target : BitVec 40) (mode : BitVec 2) (invert : Bool) (width period : Nat) : Dev :=
  let p := if period ≠ 0 ∧ period < 100 then 100 else period
  let w := max 10 width
  let w := if p = 0 then w else min w (p / 2)
  d.setTrig k { d.trig k with armed := some ⟨target, d.targetBehind target, mode, invert, w, p⟩ }

/-- A write of TIM_TRIG_CTRLk: its RW fields, then ARM, then DISARM. -/
def Dev.trigCtrl (d : Dev) (k : Nat) (v : Word) : Dev :=
  if k ≥ 16 then d
  else
    let a := Reg.TIM_TRIG_CTRL k
    let d := d.setFld a F.TIM_TRIG_CTRL_MODE (F.TIM_TRIG_CTRL_MODE.of v)
    let d := d.setFld a F.TIM_TRIG_CTRL_INVERT (F.TIM_TRIG_CTRL_INVERT.of v)
    let d := d.setFld a F.TIM_TRIG_CTRL_WIDTH (F.TIM_TRIG_CTRL_WIDTH.of v)
    let d := d.setFld a F.TIM_TRIG_CTRL_PERIOD (F.TIM_TRIG_CTRL_PERIOD.of v)
    let d :=
      if F.TIM_TRIG_CTRL_ARM.of v = 1 then
        let t := BitVec.ofNat 40 (d.fld (Reg.TIM_TRIG_TARGET k) F.TIM_TRIG_TARGET_NS * 256 + d.fld (Reg.TIM_TRIG_TARGET k) F.TIM_TRIG_TARGET_FRAC)
        let d := (d.setFld a F.TIM_TRIG_CTRL_ARMED 1).setFld a F.TIM_TRIG_CTRL_LATE 0
        d.armTrig k t (BitVec.ofNat 2 (F.TIM_TRIG_CTRL_MODE.of v)) (F.TIM_TRIG_CTRL_INVERT.of v = 1) (F.TIM_TRIG_CTRL_WIDTH.of v)
          (F.TIM_TRIG_CTRL_PERIOD.of v)
      else d
    if F.TIM_TRIG_CTRL_DISARM.of v = 1 then (d.setFld a F.TIM_TRIG_CTRL_ARMED 0).setTrig k { d.trig k with armed := none } else d

/-- TRIGGER_ARM (R387). -/
def execTriggerArm (k : Nat) (v : Word) (s : State) : Host.Outcome State Fault Refusal :=
  .next { s with dev := if k < 16 && F.TIM_TRIG_CTRL_ARM.of v = 1 then s.dev.access (Reg.TIM_TRIG_CTRL k) (some v) (·.trigCtrl k v) else s.dev }

/-- DISARM written 1 with the other fields as they stand. -/
def Dev.disarm (d : Dev) (k : Nat) : Dev :=
  if k ≥ 16 then d
  else (d.setFld (Reg.TIM_TRIG_CTRL k) F.TIM_TRIG_CTRL_ARMED 0).setTrig k { d.trig k with armed := none }

/-- TRIGGER_DISARM (R408). -/
def execTriggerDisarm (k : Nat) (s : State) : Host.Outcome State Fault Refusal :=
  .next { s with dev := if k < 16 then s.dev.access (Reg.TIM_TRIG_CTRL k) (some (F.TIM_TRIG_CTRL_DISARM.put (s.dev.reg (Reg.TIM_TRIG_CTRL k)) 1)) (·.disarm k) else s.dev }

/-- A write of TIM_PPS_OUT: NEXT, EN and WIDTH (0 taken as 1); EN = 1 arms the output at NEXT, EN = 0 disarms it (R391). -/
def Dev.ppsOutWrite (d : Dev) (v : Word) : Dev :=
  let width := max 1 (F.TIM_PPS_OUT_WIDTH.of v)
  let w := F.TIM_PPS_OUT_WIDTH.put (F.TIM_PPS_OUT_EN.put (F.TIM_PPS_OUT_NEXT.put 0 (F.TIM_PPS_OUT_NEXT.of v)) (F.TIM_PPS_OUT_EN.of v)) width
  let d := d.setReg Reg.TIM_PPS_OUT w
  if F.TIM_PPS_OUT_EN.of v = 1 then d.armTrig 16 (BitVec.ofNat 40 (F.TIM_PPS_OUT_NEXT.of v * 256)) 0 false (1000 * width) 1000000000
  else d.setTrig 16 { d.trig 16 with armed := none }

/-- PPS_OUT_ENABLE (R391). -/
def execPpsOutEnable (v : Word) (s : State) : Host.Outcome State Fault Refusal :=
  .next { s with dev := if F.TIM_PPS_OUT_EN.of v = 1 then s.dev.access Reg.TIM_PPS_OUT (some v) (·.ppsOutWrite v) else s.dev }

/-- The periods to the next target at or after the counter, at least 1 (R389). -/
def Dev.periodsOn (d : Dev) (t : Trigger) : Nat :=
  let x := (BitVec.ofNat 40 d.ns256 - t.target).toNat
  if x ≥ 549755813888 then 1 else max 1 ((x + 256 * t.period - 1) / (256 * t.period))

/-- The output at a firing (R388). -/
def TrigOut.act (x : TrigOut) (t : Trigger) (now : Nat) : TrigOut :=
  if t.mode = 0 then { x with level := !t.invert, pulseEnd := some (now + t.width) }
  else if t.mode = 1 then { x with level := !x.level, pulseEnd := none }
  else { x with level := t.mode = 2, pulseEnd := none }

/-- Output `k` fires (R388, R389, R391). -/
def Dev.fire (d : Dev) (k : Nat) (t : Trigger) : Dev :=
  let x := (d.trig k).act t d.free
  let n := d.periodsOn t
  let next := t.target + BitVec.ofNat 40 (256 * t.period * n)
  let x := { x with armed := if t.period = 0 then none else some { t with target := next, late := false } }
  let d := d.setTrig k x
  let d := if t.late then d.count (Reg.TIM_COUNT 10) 1 else d
  let d := if t.period = 0 then d else d.count (Reg.TIM_COUNT 11) (n - 1)
  if k = 16 then d.setFld Reg.TIM_PPS_OUT F.TIM_PPS_OUT_NEXT (next >>> 8).toNat
  else
    let d := d.setFld (Reg.TIM_TRIG_CTRL k) F.TIM_TRIG_CTRL_ARMED (if t.period = 0 then 0 else 1)
    let d := d.setFld (Reg.TIM_TRIG_CTRL k) F.TIM_TRIG_CTRL_LATE t.late.toNat
    d.raiseMask 9 (2 ^ k + (if t.late then 2 ^ (16 + k) else 0))

/-- The counter has reached the target of output `k`, or the target is behind. -/
def Dev.triggerFire (d : Dev) (k : Nat) : Dev :=
  if k > 16 then d
  else
    match (d.trig k).armed with
    | some t => if t.late || d.targetReached t.target then d.fire k t else d
    | none => d

/-- TRIGGER_FIRE (R388). -/
def execTriggerFire (k : Nat) (s : State) : Host.Outcome State Fault Refusal :=
  .next { s with dev := if s.dev.up then s.dev.triggerFire k else s.dev }

/-- The pulse of output `k` ends. -/
def Dev.pulseEnd (d : Dev) (k : Nat) : Dev :=
  if k > 16 then d
  else
    match (d.trig k).pulseEnd with
    | some t => if t ≤ d.free then d.setTrig k { d.trig k with level := !(d.trig k).level, pulseEnd := none } else d
    | none => d

/-- TRIGGER_PULSE_END (R388). -/
def execTriggerPulseEnd (k : Nat) (s : State) : Host.Outcome State Fault Refusal :=
  .next { s with dev := if s.dev.up then s.dev.pulseEnd k else s.dev }

/-- Every armed target is compared anew after a phase step (R390). -/
def Dev.trigSteps (d : Dev) : Dev :=
  (List.range 17).foldl (fun (d : Dev) k =>
    match (d.trig k).armed with
    | some t => d.setTrig k { d.trig k with armed := some { t with late := d.targetBehind t.target } }
    | none => d) d

/-! ### Phase steps and Hart (R376 to R379) -/

/-- Adds an offset in 1/256 ns to the counter (R376), then follows R390 and R407. -/
def Dev.phaseStep (d : Dev) (e : Int) : Dev :=
  let d := { d with tim := { d.tim with cnt := d.tim.cnt + (BitVec.ofInt 72 e <<< 32) } }
  ((d.count (Reg.TIM_COUNT 9) 1).trigSteps).gateSteps

/-- The magnitude is 2^38 units or more: ignored with STEP_RANGE (R376). -/
def outOfRange (e : Int) : Bool := 274877906944 ≤ e.natAbs

/-- A write of TIM_STEP. -/
def Dev.timStep (d : Dev) (v : Word) : Dev :=
  let e := sgn (F.TIM_STEP_OFFSET.of v) 40
  if outOfRange e then d.raise 8 1 else d.phaseStep e

/-- TIM_STEP (R376). -/
def execTimStep (v : Word) (s : State) : Host.Outcome State Fault Refusal :=
  .next { s with dev := s.dev.access Reg.TIM_STEP (some v) (·.timStep v) }

def Dev.hartSrc (d : Dev) : Nat := d.fld Reg.TIM_HART_CTRL F.TIM_HART_CTRL_SRC

/-- Hart processes one sample (R378). -/
def Dev.hart (d : Dev) (e : Int) : Dev :=
  if outOfRange e then d.raise 8 1
  else
    let d := d.setFld Reg.TIM_HART_STATE F.TIM_HART_STATE_LAST_E (unsgn (Int.tdiv e 256) 32)
    let step := d.fld Reg.TIM_HART_STEP F.TIM_HART_STEP_STEP_NS * 256
    if d.bit Reg.TIM_HART_CTRL F.TIM_HART_CTRL_STEP_EN && decide (step ≤ e.natAbs) then (d.phaseStep (-e)).raise 8 0
    else
      let ki := (d.fld Reg.TIM_HART_GAIN F.TIM_HART_GAIN_KI : Int)
      let kp := (d.fld Reg.TIM_HART_GAIN F.TIM_HART_GAIN_KP : Int)
      let old := sgn (d.fld Reg.TIM_HART_STATE F.TIM_HART_STATE_INTEG) 32
      let integ := clampInt (old + (e * ki) >>> (d.fld Reg.TIM_HART_CTRL F.TIM_HART_CTRL_KI_SHIFT)) (-adjLimit) adjLimit
      let adj := clampInt (-((e * kp) >>> (d.fld Reg.TIM_HART_CTRL F.TIM_HART_CTRL_KP_SHIFT) + integ)) (-adjLimit) adjLimit
      (d.setFld Reg.TIM_HART_STATE F.TIM_HART_STATE_INTEG (unsgn integ 32)).setFld Reg.TIM_RATE F.TIM_RATE_ADJ (unsgn adj 32)

/-- A write of TIM_HART_SAMPLE, discarded while SRC is not SOFTWARE (R377). -/
def Dev.hartSample (d : Dev) (v : Word) : Dev := if d.hartSrc = 1 then d.hart (sgn (F.TIM_HART_SAMPLE_OFFSET.of v) 40) else d

/-- HART_SAMPLE (R378). -/
def execHartSample (v : Word) (s : State) : Host.Outcome State Fault Refusal :=
  .next { s with dev := s.dev.access Reg.TIM_HART_SAMPLE (some v) (·.hartSample v) }

/-- CLEAR sets integ to 0. -/
def Dev.hartClear (d : Dev) : Dev := d.setFld Reg.TIM_HART_STATE F.TIM_HART_STATE_INTEG 0

/-- HART_CLEAR (R378). -/
def execHartClear (s : State) : Host.Outcome State Fault Refusal :=
  .next { s with dev := s.dev.access Reg.TIM_HART_CTRL (some (F.TIM_HART_CTRL_CLEAR.put (s.dev.reg Reg.TIM_HART_CTRL) 1)) Dev.hartClear }

/-- A write of TIM_RATE: clamped, and discarded while SRC is not OFF; SRC 3 is taken as OFF (R373, R377). -/
def Dev.rateWrite (d : Dev) (v : Word) : Dev :=
  if d.hartSrc = 1 ∨ d.hartSrc = 2 then d
  else d.setFld Reg.TIM_RATE F.TIM_RATE_ADJ (unsgn (clampInt (sgn (F.TIM_RATE_ADJ.of v) 32) (-adjLimit) adjLimit) 32)

/-! ### References (R374) -/

def Dev.refSelect (d : Dev) (sel : Bool) : Dev :=
  if d.bit Reg.TIM_CTRL F.TIM_CTRL_REF_SEL = sel then d
  else (d.setFld Reg.TIM_CTRL F.TIM_CTRL_REF_SEL sel.toNat).setFld Reg.TIM_CTRL F.TIM_CTRL_LOCKED 0

/-- REF_SELECT (R374). -/
def execRefSelect (sel : Bool) (s : State) : Host.Outcome State Fault Refusal :=
  .next { s with dev := s.dev.access Reg.TIM_CTRL (some (F.TIM_CTRL_REF_SEL.put 0 sel.toNat)) (·.refSelect sel) }

/-- PLL_RELOCK (R374). -/
def execPllRelock (s : State) : Host.Outcome State Fault Refusal :=
  .next { s with dev := if s.dev.up then s.dev.setFld Reg.TIM_CTRL F.TIM_CTRL_LOCKED 1 else s.dev }

def Dev.refLost (d : Dev) : Dev :=
  if d.bit Reg.TIM_CTRL F.TIM_CTRL_REF_SEL then (d.refSelect false).raise 8 5 else d

/-- REF_LOST (R374). -/
def execRefLost (s : State) : Host.Outcome State Fault Refusal :=
  .next { s with dev := if s.dev.up then s.dev.refLost else s.dev }

/-- A read of TIM_TIME: NS and FRAC of one instant, and TIM_FREE latched (R372). -/
def Dev.timeRead (d : Dev) : Dev :=
  { d.setReg Reg.TIM_FREE_LATCH d.tim.free with bus := (d.tim.cnt >>> 8).setWidth 64 }

/-- TIM_TIME_READ (R372). -/
def execTimTimeRead (s : State) : Host.Outcome State Fault Refusal :=
  .next { s with dev := s.dev.access Reg.TIM_TIME none Dev.timeRead }

/-! ### 1PPS input (R379) -/

def Dev.ppsExpect (d : Dev) : Nat := d.fld Reg.TIM_PPS_IN F.TIM_PPS_IN_EXPECT

/-- A write of TIM_PPS_IN starts a new slot. -/
def Dev.ppsExpectWrite (d : Dev) (v : Word) : Dev :=
  let w := F.TIM_PPS_IN_FALLING.put (F.TIM_PPS_IN_EXPECT.put 0 (F.TIM_PPS_IN_EXPECT.of v)) (F.TIM_PPS_IN_FALLING.of v)
  { d.setReg Reg.TIM_PPS_IN w with tim := { d.tim with ppsDone := false } }

/-- PPS_EXPECT_WRITE (R379). -/
def execPpsExpectWrite (v : Word) (s : State) : Host.Outcome State Fault Refusal :=
  .next { s with dev := s.dev.access Reg.TIM_PPS_IN (some v) (·.ppsExpectWrite v) }

/-- Fewer than 100 ns have passed since the input's last accepted edge (R393). -/
def Dev.tooSoon (d : Dev) (c : CapIn) : Bool :=
  match c.lastEdge with
  | some t => d.free < t + 100
  | none => false

/-- The time of a transition now, `dev` off by 1 ns at most (R394). -/
def Dev.edgeTime (d : Dev) (dev : BitVec 40) : BitVec 40 := d.now40 + BitVec.ofInt 40 (max (-256) (min 256 dev.toInt))

/-- The counter has passed the end of the slot: the slot closes at the end of the tick in which the counter reaches EXPECT + 500,000,000, so
that an edge in that tick still belongs to it (R379, R408). -/
def Dev.ppsSlotEnd (d : Dev) : Dev :=
  if d.hartSrc = 2 && atOrAfter32 ((d.ppsExpect + 500000001) % 4294967296) d.ns then
    let d := if d.tim.ppsDone then d else (d.count (Reg.TIM_COUNT 7) 1).raise 8 3
    { d.setFld Reg.TIM_PPS_IN F.TIM_PPS_IN_EXPECT (d.ppsExpect + 1000000000) with tim := { d.tim with ppsDone := false } }
  else d

/-- An accepted edge in the slot: the first gives a sample, a further one is extra. -/
def Dev.ppsSlot (d : Dev) (ts : BitVec 40) : Dev :=
  let now := sgn (d.ns + 4294967296 - d.ppsExpect) 32
  let off := sgn ((ts >>> 8).toNat + 4294967296 - d.ppsExpect) 32
  if now < -500000000 ∨ now > 500000000 then d
  else if d.tim.ppsDone then (d.count (Reg.TIM_COUNT 8) 1).raise 8 4
  else
    let d := { d with tim := { d.tim with ppsDone := true } }
    ((d.count (Reg.TIM_COUNT 6) 1).raise 8 2).hart (off * 256 + ((ts.toNat % 256 : Nat) : Int))

/-- A transition of PPS_IN that then holds its level for 20 ns (R393); without a transition there is no edge. -/
def Dev.ppsEdge (d : Dev) (rising : Bool) (dev : BitVec 40) : Dev :=
  let d := d.ppsSlotEnd
  let c := { d.tim.ppsIn with level := rising }
  let matches_ := rising != d.bit Reg.TIM_PPS_IN F.TIM_PPS_IN_FALLING
  if rising = d.tim.ppsIn.level then d
  else if d.hartSrc ≠ 2 || !matches_ || d.tooSoon c then { d with tim := { d.tim with ppsIn := c } }
  else ({ d with tim := { d.tim with ppsIn := { c with lastEdge := some d.free } } }).ppsSlot (d.edgeTime dev)

/-- The level of PPS_IN before RUN. -/
def Dev.ppsLevel (d : Dev) (b : Bool) : Dev := { d with tim := { d.tim with ppsIn := { d.tim.ppsIn with level := b } } }

/-- PPS_EDGE (R379). -/
def execPpsEdge (rising : Bool) (dev : BitVec 40) (s : State) : Host.Outcome State Fault Refusal :=
  .next { s with dev := if s.dev.up then s.dev.ppsEdge rising dev else s.dev.ppsLevel rising }

/-- PPS_SLOT_END (R379). -/
def execPpsSlotEnd (s : State) : Host.Outcome State Fault Refusal :=
  .next { s with dev := if s.dev.up then s.dev.ppsSlotEnd else s.dev }

/-! ### Captures (R392 to R394) -/

def CapIn.init : CapIn := ⟨false, none, 0, 0⟩
def Dev.cap (d : Dev) (k : Nat) : CapIn := (d.tim.caps[k]?).getD CapIn.init
def Dev.setCap (d : Dev) (k : Nat) (c : CapIn) : Dev := { d with tim := { d.tim with caps := d.tim.caps.set k c } }

/-- A capture record without its common header (R394). -/
def capRecordOf (k : Nat) (rising : Bool) (ts : BitVec 40) (ovr free seq : Nat) : HostRec :=
  let w1 := (ts >>> 8).toNat + ts.toNat % 256 * 2 ^ 32 + k * 2 ^ 40 + rising.toNat * 2 ^ 44 + ovr * 2 ^ 48
  ⟨[0, BitVec.ofNat 64 w1, BitVec.ofNat 64 free, BitVec.ofNat 64 seq]⟩

/-- An accepted edge is recorded. -/
def Dev.capTake (d : Dev) (k : Nat) (c : CapIn) (rising : Bool) (ts : BitVec 40) : Dev :=
  let w := F.TIM_CAP_LAST_FRAC.put (F.TIM_CAP_LAST_NS.put 0 (ts >>> 8).toNat) (ts.toNat % 256)
  let w := F.TIM_CAP_LAST_VALID.put (F.TIM_CAP_LAST_RISING.put w rising.toNat) 1
  let d := (d.setReg (Reg.TIM_CAP_LAST k) w).raise 10 k
  let c' := { c with lastEdge := some d.free, seq := c.seq + 1 }
  if !d.bit (Reg.TIM_CAP_CTRL k) F.TIM_CAP_CTRL_RECORD then d.setCap k c'
  else if d.tim.capq.length < 256 then
    let r := capRecordOf k rising ts c.ovr d.free c.seq.toNat
    ({ d with tim := { d.tim with capq := d.tim.capq ++ [r] } }).setCap k { c' with ovr := 0 }
  else ((d.setCap k c').count (Reg.TIM_COUNT 5) 1).raise 8 7

/-- A transition of CAP_IN[k] that then holds its level for 20 ns (R393); without a transition there is no edge. -/
def Dev.captureEdge (d : Dev) (k : Nat) (rising : Bool) (dev : BitVec 40) : Dev :=
  if k ≥ 16 || rising = (d.cap k).level then d
  else
    let c := { d.cap k with level := rising }
    let e := d.fld (Reg.TIM_CAP_CTRL k) F.TIM_CAP_CTRL_EDGE
    let wanted := e = 2 || (e = 0 && rising) || (e = 1 && !rising)
    if !d.bit (Reg.TIM_CAP_CTRL k) F.TIM_CAP_CTRL_EN || !wanted then d.setCap k c
    else if d.tooSoon c then ((d.setCap k { c with ovr := min 255 (c.ovr + 1) }).count (Reg.TIM_CAP_OVR k) 1).raise 10 (16 + k)
    else d.capTake k c rising (d.edgeTime dev)

/-- CAPTURE_EDGE (R394). -/
def execCaptureEdge (k : Nat) (rising : Bool) (dev : BitVec 40) (s : State) : Host.Outcome State Fault Refusal :=
  .next { s with dev := if s.dev.up then s.dev.captureEdge k rising dev else s.dev.setCap k { s.dev.cap k with level := rising } }

/-- TIM_CAP_LAST_READ (R394). -/
def execTimCapLastRead (k : Nat) (s : State) : Host.Outcome State Fault Refusal :=
  .next { s with dev := if k < 16 then s.dev.access (Reg.TIM_CAP_LAST k) none (·.readClear (Reg.TIM_CAP_LAST k)) else s.dev }

end Sys2Proof.Machine
end

