-- ==== Sys2Proof/Machine/BlockWrite.lean ====
section
/-! DEFINITION. Ordinary 64-bit register writes to the windows that REG_INIT records may name, PWR to DMC (R16, R72): each field behaves
as its access type gives, and the registers whose write does more do it here. -/

namespace Sys2Proof.Machine

/-- The index of the register at `a` in an array from `base`. -/
def regIdx (base stride count a : Nat) : Option Nat :=
  if base ≤ a ∧ (a - base) % stride = 0 ∧ (a - base) / stride < count then some ((a - base) / stride) else none

/-- The registers of an array: `f` acts on the one at `a`; otherwise `e`. -/
def onArray (a base stride count : Nat) (f : Nat → Dev) (e : Dev) : Dev :=
  match regIdx base stride count a with
  | some n => f n
  | none => e

/-- The event source whose EVENT or EVENT_MASK register stands at `a`, and which of the two. -/
def evtAt (a : Nat) : Option (Nat × Bool) :=
  let s :=
    if 0x100000 ≤ a ∧ a < 0x182000 then 64 + (a - 0x100000) / 0x1000
    else if 0x400000 ≤ a ∧ a < 0x800000 ∧ (a % 0x4000 = 0x18 ∨ a % 0x4000 = 0x20) then 256 + (a - 0x400000) / 0x4000
    else if 0xC0000 ≤ a ∧ a < 0xC2000 then 512 + (a - 0xC0000) / 0x40
    else ((List.range 17).find? fun s => evtReg s = some a || evtReg s = some (a - 8)).getD 700
  if evtReg s = some a then some (s, false)
  else if 8 ≤ a ∧ evtReg s = some (a - 8) then some (s, true)
  else none

/-- Writes in the PWR window. -/
def Dev.pwrWrite (d : Dev) (a : Nat) (v : Word) : Dev :=
  if !d.up then d.plainWrite a v
  else if a = Reg.PWR_CTRL then d.pwrCtrl v
  else if a = Reg.PWR_SHED then d.shedWrite v
  else if a = Reg.PWR_FEED_CFG then d.feedCfgWrite v
  else
    onArray a (Reg.PWR_RUNG 0) 8 16 (fun k => d.rungWrite k v) <|
    onArray a (Reg.PWR_RAIL 0) 8 6 (fun k => d.railWrite k v) <|
    onArray a (Reg.PWR_PORTSET 0) 8 16 (fun k => d.portSetWrite k v) (d.plainWrite a v)

/-- TIM_HART_CTRL: the RW fields, then CLEAR. -/
def Dev.hartCtrlWrite (d : Dev) (v : Word) : Dev :=
  let d := d.plainWrite Reg.TIM_HART_CTRL v
  if F.TIM_HART_CTRL_CLEAR.of v = 1 then d.hartClear else d

/-- Writes in the TIM window. -/
def Dev.timWrite (d : Dev) (a : Nat) (v : Word) : Dev :=
  if a = Reg.TIM_RATE then d.rateWrite v
  else if a = Reg.TIM_STEP then d.timStep v
  else if a = Reg.TIM_CTRL then d.refSelect (F.TIM_CTRL_REF_SEL.of v = 1)
  else if a = Reg.TIM_HART_CTRL then d.hartCtrlWrite v
  else if a = Reg.TIM_HART_SAMPLE then d.hartSample v
  else if a = Reg.TIM_PPS_IN then d.ppsExpectWrite v
  else if a = Reg.TIM_PPS_OUT then d.ppsOutWrite v
  else onArray a (Reg.TIM_TRIG_CTRL 0) 8 16 (fun k => d.trigCtrl k v) (d.plainWrite a v)

/-- A write of GAT_DATA: the administrative entry that GAT_SEL names, discarded for BANK 1 and while a change is pending. -/
def Dev.gatData (d : Dev) (v : Word) : Dev :=
  let n := d.fld Reg.GAT_SEL F.GAT_SEL_PORT
  let i := d.fld Reg.GAT_SEL F.GAT_SEL_ENTRY
  if d.bit Reg.GAT_SEL F.GAT_SEL_BANK || d.gatePending n then d
  else
    let w := F.GAT_DATA_GATES.put (F.GAT_DATA_OP.put (F.GAT_DATA_INTERVAL.put 0 (F.GAT_DATA_INTERVAL.of v)) (F.GAT_DATA_OP.of v)) (F.GAT_DATA_GATES.of v)
    let g := d.gate n
    { d with gates := Map.put d.gates n { g with admin := if w = 0 then Map.del g.admin i else Map.put g.admin i w } }

/-- Writes in the GAT window. -/
def Dev.gatWrite (d : Dev) (a : Nat) (v : Word) : Dev :=
  if a = Reg.GAT_DATA then d.gatData v
  else
    onArray a (Reg.GAT_CTRL 0) 0x40 128 (fun n => d.gatCtrl n v) <|
    onArray a (Reg.GAT_ADMIN_BASE 0) 0x40 128 (fun n => if d.gatePending n then d else d.plainWrite a v) <|
    onArray a (Reg.GAT_ADMIN_CYCLE 0) 0x40 128 (fun n => if d.gatePending n then d else d.plainWrite a v) (d.plainWrite a v)

/-- A write of PRT_CTRL: ADMIN_UP, then RESTART. -/
def Dev.prtCtrl (d : Dev) (n : Nat) (v : Word) : Dev :=
  let up := F.PRT_CTRL_ADMIN_UP.of v = 1
  let d := if up && !d.bit (Reg.PRT_CTRL n) F.PRT_CTRL_ADMIN_UP then d.adminUp n else if up then d else d.adminDown n
  if F.PRT_CTRL_RESTART.of v = 1 then d.portRestart n else d

/-- A write of PRT_MODE of port `n`: it brings an unused management port whose ADMIN_UP is 1 into use (R106, R136). -/
def Dev.prtMode (d : Dev) (n : Nat) (v : Word) : Dev :=
  let d := d.plainWrite (Reg.PRT_MODE n) v
  if n ≥ 128 then d.startPort n else d

/-- Writes in the PRT window. -/
def Dev.prtWrite (d : Dev) (a : Nat) (v : Word) : Dev :=
  onArray a (Reg.PRT_MODE 0) 0x1000 130 (fun n => d.prtMode n v) <|
  onArray a (Reg.PRT_CTRL 0) 0x1000 130 (fun n => d.prtCtrl n v) <|
  onArray a (Reg.PRT_RCLK 0) 8 4 (fun k => d.rclkSelect k v) (d.plainWrite a v)

/-- A write of AAR_CMP_CTRL: RESTART begins a new sweep while EN is 1 (R235). -/
def Dev.cmpCtrl (d : Dev) (v : Word) : Dev :=
  let d := d.plainWrite Reg.AAR_CMP_CTRL v
  if F.AAR_CMP_CTRL_RESTART.of v = 1 then d.cmpAgain else d

/-- Writes in the PRS to ACT windows. -/
def Dev.pipeWrite (d : Dev) (a : Nat) (v : Word) : Dev :=
  if a = Reg.PRS_PUNT_RATE then d.puntRateWrite v
  else if a = Reg.TBL_FAWN_TIMEOUT then d.plainWrite a (minOne F.TBL_FAWN_TIMEOUT_TIMEOUT v)
  else if a = Reg.AAR_CMP_CTRL then d.cmpCtrl v
  else onArray a (Reg.ACT_COST 0) 8 32 (fun k => d.costWrite k v) (d.plainWrite a v)

/-- Writes in the ENG window. -/
def Dev.engWrite (d : Dev) (a : Nat) (v : Word) : Dev :=
  if a = Reg.ENG_FRAG_TIMEOUT then d.plainWrite a (minOne F.ENG_FRAG_TIMEOUT_TIMEOUT v)
  else if a = Reg.ENG_FRAG_FLUSH then (if v.getLsbD 0 then { d with frags := [] } else d)
  else onArray a (Reg.ENG_MEM_DATA 0) 0x4000 256 (fun e => d.engAccess e (some v) .none) (d.plainWrite a v)

/-- Writes in the BUF window. -/
def Dev.bufWrite (d : Dev) (a : Nat) (v : Word) : Dev :=
  if a = Reg.BUF_SPILL_CTRL then d.spillCtrlWrite v
  else onArray a (Reg.BUF_MSESS_A 1) 8 127 (fun n => d.msessWrite (n + 1) v) (d.plainWrite a v)

/-- Writes in the SCH window. -/
def Dev.schWrite (d : Dev) (a : Nat) (v : Word) : Dev :=
  if a = Reg.SCH_FLUSH then d.schFlush v
  else
    onArray a (Reg.SCH_PORT 0) 8 132 (fun n => d.shaperWrite 3 n v) <|
    onArray a (Reg.SCH_GROUP 0) 8 2048 (fun n => d.shaperWrite 2 n v) <|
    onArray a (Reg.SCH_SUB 0) 8 16384 (fun n => d.shaperWrite 1 n v) <|
    onArray a (Reg.SCH_QCFG 0) 8 131072 (fun n => d.shaperWrite 0 n v) <|
    onArray a (Reg.SCH_POL 0) 8 65536 (fun n => d.policerWrite n v) (d.plainWrite a v)

/-- Writes in the DMC window. -/
def Dev.dmcWrite (d : Dev) (a : Nat) (v : Word) : Dev :=
  if a = Reg.DMC_RESERVE then d.reserveWrite v
  else if a = Reg.DMC_TRAIN then d.trainGo v
  else if a = Reg.DMC_SP_CTRL then d.spRequest v
  else onArray a (Reg.DMC_SP 0) 8 4 (fun k => d.spRate k v) (d.plainWrite a v)

/-- A 64-bit write at BAR0 offset `a` of the PWR to DMC windows. -/
def Dev.blockWrite (d : Dev) (a : Nat) (v : Word) : Dev :=
  match evtAt a with
  | some (src, mask) => d.eventWrite src mask v
  | none =>
    if a < 0x80000 then d.pwrWrite a v
    else if a < 0xC0000 then d.timWrite a v
    else if a < 0x100000 then d.gatWrite a v
    else if a < 0x200000 then d.prtWrite a v
    else if a < 0x400000 then d.pipeWrite a v
    else if a < 0x800000 then d.engWrite a v
    else if a < 0xA00000 then d.bufWrite a v
    else if a < 0x1000000 then d.schWrite a v
    else d.dmcWrite a v

end Sys2Proof.Machine
end

