-- ==== Sys2Proof/Machine/ClassD.lean ====
section
/-! DEFINITION. Class D sections take effect, at cold start and at step 1 of a flip (R66, R72, R88, R107, R264, R345).
Readings of the manual that it takes are DEDUCED, in log entries 21, 23, 33. -/

namespace Sys2Proof.Machine

/-- Sets a register that does not yet hold the value. -/
def Dev.setNew (d : Dev) (a : Nat) (v : Word) : Dev := if d.reg a = v then d else d.setReg a v

/-- LANE_MAP: bindings and polarities of the lanes, and each port's PRT_MODE (R107). -/
def Dev.applyLaneMap (d : Dev) (b : List Byte) : Dev :=
  let lane := fun (d : Dev) (l : Nat) =>
    let a := Reg.PRT_LANE_STATUS l
    let w := F.PRT_LANE_STATUS_TX_INVERT.put (d.reg a) (bodyFld b (8 * l) 8 1)
    let w := F.PRT_LANE_STATUS_RX_INVERT.put w (bodyFld b (8 * l) 9 1)
    let w := F.PRT_LANE_STATUS_BOUND.put w (bodyFld b (8 * l) 7 1)
    d.setNew a (F.PRT_LANE_STATUS_PORT.put w (bodyFld b (8 * l) 0 7))
  let port := fun (d : Dev) (n : Nat) => d.setNew (Reg.PRT_MODE n) (BitVec.ofNat 64 (word64 b (0x300 + 8 * n)))
  (List.range 130).foldl port ((List.range 96).foldl lane d)

/-- A record of QUEUE_SHAPE: its VALID and its parent (R345). -/
def shapeGroup (b : List Byte) (g : Nat) : Bool × Nat := (bodyFld b (4 * g) 31 1 = 1, bodyFld b (4 * g) 0 8)
def shapeSub (b : List Byte) (s : Nat) : Bool × Nat := (bodyFld b (0x2000 + 4 * s) 31 1 = 1, bodyFld b (0x2000 + 4 * s) 0 11)

/-- QUEUE_SHAPE: VALID and parent of every group and subscriber; their other fields stay. -/
def Dev.applyShape (d : Dev) (b : List Byte) : Dev :=
  let node := fun (d : Dev) (a : Nat) (x : Bool × Nat) =>
    d.setNew a (F.SCH_GROUP_VALID.put (F.SCH_GROUP_PARENT.put (d.reg a) x.2) x.1.toNat)
  let d := (List.range 2048).foldl (fun (d : Dev) g => node d (Reg.SCH_GROUP g) (shapeGroup b g)) d
  (List.range 16384).foldl (fun (d : Dev) s => node d (Reg.SCH_SUB s) (shapeSub b s)) d

/-- ENERGY_COSTS: reference and live values of each class, CAL_EN and SPAN (R264, R265). -/
def Dev.applyCosts (d : Dev) (b : List Byte) : Dev :=
  (List.range 32).foldl (fun (d : Dev) s =>
    let x := bodyFld b (8 * s) 0 16
    let y := bodyFld b (8 * s) 16 16
    let w := F.ACT_COST_CAL_EN.put (F.ACT_COST_B.put (F.ACT_COST_A.put 0 x) y) (bodyFld b (8 * s) 32 1)
    let r := F.ACT_COST_REF_SPAN.put (F.ACT_COST_REF_B_REF.put (F.ACT_COST_REF_A_REF.put 0 x) y) (bodyFld b (8 * s) 40 8)
    (d.setNew (Reg.ACT_COST s) w).setNew (Reg.ACT_COST_REF s) r) d

/-- REG_INIT: its records as ordinary register writes in list order (R72). -/
def Dev.applyRegInit (d : Dev) (b : List Byte) : Dev :=
  (regInitRecs (words64 b)).foldl (fun (d : Dev) (x : Nat × Nat) => d.blockWrite x.1 (BitVec.ofNat 64 x.2)) d

/-- The body of a class D section, when there is one, acts. -/
def Dev.applySec (d : Dev) (secs : List Section) (t : Nat) (f : Dev → List Byte → Dev) : Dev :=
  match findSec secs t 0 with
  | some b => f d b
  | none => d

/-- Class D sections in the order of R88. -/
def Dev.applyD (d : Dev) (secs : List Section) : Dev :=
  let d := d.applySec secs T.LANE_MAP Dev.applyLaneMap
  let d := d.applySec secs T.QUEUE_SHAPE Dev.applyShape
  let d := d.applySec secs T.ENERGY_COSTS Dev.applyCosts
  (secs.filter fun x => x.type = T.REG_INIT).foldl (fun (d : Dev) x => d.applyRegInit x.body) d

/-! ### What refuses a flip (R87, R346) -/

/-- LANE_MAP changes the lanes of a port that is not administratively down. -/
def Dev.laneBusy (d : Dev) (b : List Byte) : Bool :=
  (List.range 96).any fun l =>
    let old := d.reg (Reg.PRT_LANE_STATUS l)
    let p := F.PRT_LANE_STATUS_PORT.of old
    let bd := F.PRT_LANE_STATUS_BOUND.of old = 1
    let p' := bodyFld b (8 * l) 0 7
    let bd' := bodyFld b (8 * l) 7 1 = 1
    let up := fun n => d.bit (Reg.PRT_CTRL n) F.PRT_CTRL_ADMIN_UP
    (bd != bd' || (bd && p != p')) && ((bd && up p) || (bd' && up p'))

/-- The register, a node that is VALID, loses VALID or changes its parent. -/
def nodeMoved (w : Word) (x : Bool × Nat) : Bool :=
  F.SCH_GROUP_VALID.of w = 1 && (!x.1 || x.2 != F.SCH_GROUP_PARENT.of w)

/-- A queue is enabled or holds records. -/
def Dev.busyQueues (d : Dev) : List Nat :=
  (d.regs.filterMap fun e =>
    if Reg.SCH_QCFG 0 ≤ e.1 ∧ e.1 < Reg.SCH_QCFG 131072 ∧ F.SCH_QCFG_EN.of e.2 = 1 then some ((e.1 - Reg.SCH_QCFG 0) / 8) else none)
    ++ d.usedQueues

/-- QUEUE_SHAPE moves a subscriber with a busy queue, or a group above one (R346). -/
def Dev.shapeBusy (d : Dev) (b : List Byte) : Bool :=
  d.busyQueues.any fun q =>
    let w := d.reg (Reg.SCH_SUB (q / 8))
    let g := F.SCH_SUB_PARENT.of w
    nodeMoved w (shapeSub b (q / 8))
      || (F.SCH_SUB_VALID.of w = 1 && nodeMoved (d.reg (Reg.SCH_GROUP g)) (shapeGroup b g))

end Sys2Proof.Machine
end

