-- ==== Sys2Proof/Machine/Bringup.lean ====
section
/-! DEFINITION. Bring-up (R557 to R568): cold starts, PERST_N, the stages from FUSE to RUN and the load of the full stream.
Readings of the manual that it takes are DEDUCED, in log entries 28, 33. -/

namespace Sys2Proof.Machine

/-! ### Cold starts (R557 to R559) -/

/-- Everything but the fuses, the pins and what has left the device returns to its reset value. -/
def Dev.cold (d : Dev) : Dev :=
  let z := Dev.reset
  { z with
    pins := { d.pins with mgmtLock := z.pins.mgmtLock, rclk := z.pins.rclk, shedOut := z.pins.shedOut }
    tim := { z.tim with
      ppsIn := { z.tim.ppsIn with level := d.tim.ppsIn.level }
      caps := d.tim.caps.map fun c => { CapIn.init with level := c.level } }
    loader := { z.loader with slots := d.loader.slots, fuseSupply := d.loader.fuseSupply }
    pwr := { z.pwr with busOut := d.pwr.busOut }
    hif := { z.hif with msgs := d.hif.msgs }
    wire := d.wire, bus := d.bus, sbOut := d.sbOut, freeCtr := d.freeCtr, pidCtr := d.pidCtr }

/-- BOOT_SRC as latched. -/
def Dev.bootSrc (d : Dev) : Nat := d.pins.straps.toNat % 4

/-- A cold start begins at FUSE with the straps latched; BOOT_SRC 2 and 3 halt the device (R559). -/
def Dev.coldStart (d : Dev) : Dev :=
  let d := d.cold
  if d.bootSrc ≥ 2 then d.halt 0x07 d.bootSrc else d

/-- COLD_RST_N falls: POWER at once (R557, R574). -/
def Dev.coldReset (d : Dev) : Dev :=
  if !d.pins.coldRst then d
  else { d.cold with pins := { d.cold.pins with coldRst := false } }.setFld Reg.SYS_STAGE F.SYS_STAGE_STAGE 0

/-- COLD_RESET (R557). -/
def execColdReset (s : State) : Host.Outcome State Fault Refusal := .next { s with dev := s.dev.coldReset }

/-- COLD_RST_N rises. -/
def Dev.coldRise (d : Dev) (straps : BitVec 4) : Dev :=
  if d.pins.coldRst then d else { d with pins := { d.pins with coldRst := true, straps := straps } }.coldStart

/-- COLD_START (R557). -/
def execColdStart (straps : BitVec 4) (s : State) : Host.Outcome State Fault Refusal := .next { s with dev := s.dev.coldRise straps }

/-- A write of SYS_CTRL asks for a cold start: COLD_REQ with the right KEY (R558). -/
def asksCold (v : Word) : Bool := F.SYS_CTRL_COLD_REQ.of v = 1 && F.SYS_CTRL_KEY.of v = 0x3C96

/-- A write of SYS_CTRL. SB_COLD_EN is writable from PCIe only. -/
def Dev.sysCtrl (d : Dev) (v : Word) (sideband : Bool) : Dev :=
  if d.stage = 0 then d
  else if asksCold v && (!sideband || d.bit Reg.SYS_CTRL F.SYS_CTRL_SB_COLD_EN) then d.coldStart
  else if sideband then d
  else d.setFld Reg.SYS_CTRL F.SYS_CTRL_SB_COLD_EN (F.SYS_CTRL_SB_COLD_EN.of v)

/-- COLD_REQ (R558). -/
def execColdReq (v : Word) (sideband : Bool) (s : State) : Host.Outcome State Fault Refusal :=
  .next { s with dev := s.dev.sysCtrl v sideband }

/-- PERST_N changes: low resets the host interface, as a link down when the link is up (R557, R562). -/
def Dev.perstChange (d : Dev) (level : Bool) : Dev :=
  let d := { d with pins := { d.pins with perst := level } }
  if level then d else if d.hif.linkUp then d.linkChange 0 0 else d.hostReset

/-- PERST (R557). -/
def execPerst (level : Bool) (s : State) : Host.Outcome State Fault Refusal :=
  .next { s with dev := if s.dev.pins.perst = level then s.dev else s.dev.perstChange level }

/-! ### Stages (R560, R566) -/

/-- The end of stage `n`: halted with the code and what was found, or `f`. -/
def Dev.stageEnd (d : Dev) (n code : Nat) (bad : Option Nat) (f : Dev → Dev) : Dev :=
  if d.stage ≠ n then d
  else
    match bad with
    | some x => d.halt code x
    | none => f d

/-- FUSE_STAGE_DONE (R560): the key slots read. -/
def execFuseStageDone (bad : Option Nat) (s : State) : Host.Outcome State Fault Refusal :=
  .next { s with dev := s.dev.stageEnd 1 0x01 bad fun d => d.showKeys.enterStage 2 }

/-- SELFTEST_DONE (R560). -/
def execSelftestDone (bad : Option Nat) (s : State) : Host.Outcome State Fault Refusal :=
  .next { s with dev := s.dev.stageEnd 2 0x02 bad fun d => d.enterStage 3 }

/-- The rim PLLs have locked: the time counter starts (R370), and the loader waits for the full stream (R78). -/
def Dev.rimsDone (d : Dev) : Dev :=
  let d := { d with tim := { d.tim with locked := true } }
  let d := { d with loader := { d.loader with src := if d.bootSrc = 0 then LoadSrc.bootFlash else LoadSrc.bootHost } }
  ((d.setGen 0 ⟨.loading, 0, [], []⟩).setFld Reg.SYS_LOAD_STATUS F.SYS_LOAD_STATUS_STATE 1).enterStage 4

/-- RIMS_DONE (R560). -/
def execRimsDone (bad : Option Nat) (s : State) : Host.Outcome State Fault Refusal :=
  .next { s with dev := s.dev.stageEnd 3 0x03 bad Dev.rimsDone }

/-- The full stream has passed every check: generation 0 is ACTIVE, its class D sections take effect, and DRAM begins to train
(R66, R79, R463). -/
def Dev.streamLoaded (d : Dev) : Dev :=
  let b := d.loader.bytes
  let d := d.setGen 0 { d.gen 0 with st := .active, id := BitVec.ofNat 64 (stId b) }
  let d := (d.setReg Reg.STR_BASE_ID (BitVec.ofNat 64 (stId b))).setFld Reg.STR_KEY_STATE F.STR_KEY_STATE_BOOT_SLOT (byteAt b (stTotal b - 252))
  let d := ((d.loaderIdle.engLoadAll 0).applyD (d.gen 0).flipSecs).dramInit
  let d := d.setGen 0 { d.gen 0 with flipSecs := [] }
  ((d.setFld Reg.SYS_LOAD_STATUS F.SYS_LOAD_STATUS_STATE 3).setFld Reg.SYS_LOAD_STATUS F.SYS_LOAD_STATUS_ERR 0).enterStage 5

/-- The last checks of a boot load whose bytes have all arrived. -/
def Dev.streamStageDone (d : Dev) : Dev :=
  if d.stage ≠ 4 || d.receiving || d.loader.src == .none then d
  else
    match d.pickErr (d.verifyErrs false 0) with
    | (some e, d) =>
      let (e, d) := d.ownCode d.loader.bytes e
      d.loadFail e
    | (none, d) => d.streamLoaded

/-- STREAM_STAGE_DONE (R79). -/
def execStreamStageDone (s : State) : Host.Outcome State Fault Refusal := .next { s with dev := s.dev.streamStageDone }

/-- A halt ends a warm restart (R563). -/
def Dev.haltWarm (d : Dev) (code x : Nat) : Dev := { d.halt code x with flt := { d.flt with warm := none } }

/-- The retained check ends: `bad` is a word uncorrectable in both copies, `fixed` the words rewritten from the good copy (R541). -/
def Dev.retainDone (d : Dev) (bad : Option Nat) (fixed : Nat) : Dev :=
  if d.stage ≠ 5 then d
  else
    let d := d.count (Reg.FLT_COUNT 9) fixed
    match bad with
    | some w => d.haltWarm 0x05 w
    | none => d.enterStage 6

/-- RETAIN_DONE (R541). -/
def execRetainDone (bad : Option Nat) (fixed : Nat) (s : State) : Host.Outcome State Fault Refusal :=
  .next { s with dev := s.dev.retainDone bad fixed }

/-- The regions are released and RUN begins: the rails as read (R439), buckets full (R350), the punt limiter's credit full (R159), resident
threads of generation 0 started (R274). -/
def Dev.enterRun (d : Dev) (rails : List Nat) : Dev :=
  let d := d.pwrRelease rails
  let d := { d with
    buckets := [], credit := d.fld Reg.PRS_PUNT_RATE F.PRS_PUNT_RATE_BURST * 1000000000, creditAt := d.free }
  let d := (secsOf (d.gen 0).secs T.ENGINE_PROGRAM).foldl (fun (d : Dev) (x : Section) => d.startResidents x.inst) d
  d.enterStage 15

/-- Stage RELEASE of a cold start ends, once no DRAM channel trains. -/
def Dev.releaseDone (d : Dev) (bad : Option Nat) (rails : List Nat) : Dev :=
  if d.flt.warm.isSome || (bad.isNone && (List.range 4).any fun n => d.chanState n = 1) then d
  else d.stageEnd 6 0x06 bad fun d => d.enterRun rails

/-- RELEASE_DONE (R560). -/
def execReleaseDone (bad : Option Nat) (rails : List Nat) (s : State) : Host.Outcome State Fault Refusal :=
  .next { s with dev := s.dev.releaseDone bad rails }

/-! ### SYS_LOAD_DATA (R567) -/

/-- A write of `size` bytes to SYS_LOAD_DATA by function `f`: taken by a host load at STREAM that receives, else discarded with STRAY. -/
def Dev.sysLoad (d : Dev) (v : Word) (f size : Nat) : Dev :=
  if d.stage = 0 then d
  else if d.stage = 4 && d.loader.src == .bootHost && d.receiving && f = 0 && size = 8 then d.loadFeed (wordBytes v)
  else d.setFld Reg.SYS_LOAD_STATUS F.SYS_LOAD_STATUS_STRAY 1

/-- SYS_LOAD_DATA (R567). -/
def execSysLoadData (v : Word) (f size : Nat) (s : State) : Host.Outcome State Fault Refusal :=
  .next { s with dev := s.dev.sysLoad v f size }

end Sys2Proof.Machine
end

