-- ==== Sys2Proof/Machine/FltRegs.lean ====
section
/-! DEFINITION. Registers of FLT (R529, R543, R546), scrub (R542) and the regions' own fault reports (R526).
Readings of the manual that it takes are DEDUCED, in log entries 27, 28. -/

namespace Sys2Proof.Machine

/-! ### FAULT_ACK (R529) -/

/-- A write of FLT_STATUSk: each bit written 1 acknowledges its line. -/
def Dev.faultAck (d : Dev) (k : Nat) (v : Word) : Dev :=
  let d := d.plainWrite (Reg.FLT_STATUS k) v
  (List.range 64).foldl (fun (d : Dev) j =>
    if v.getLsbD j then d.setFld (Reg.FLT_LINE (64 * k + j)) F.FLT_LINE_CLASS 0 else d) d

/-- FAULT_ACK (R529). -/
def execFaultAck (k : Nat) (v : Word) (s : State) : Host.Outcome State Fault Refusal :=
  .next { s with dev := if k < 3 then s.dev.access (Reg.FLT_STATUS k) (some v) (·.faultAck k v) else s.dev }

/-! ### FLT_INJECT (R526, R546) -/

/-- A write of FLT_INJECT: with GO, the fault goes to the collector as a real one; lines above 135 and class 0 are ignored. -/
def Dev.fltInject (d : Dev) (v : Word) : Dev :=
  let d := d.plainWrite Reg.FLT_INJECT v
  let n := F.FLT_INJECT_LINE.of v
  let k := F.FLT_INJECT_CLASS.of v
  if F.FLT_INJECT_GO.of v = 0 || 135 < n || k = 0 then d
  else { d with flt := { d.flt with queue := d.flt.queue ++ [⟨n, k, F.FLT_INJECT_KIND.of v = 1, true, d.free⟩] } }

/-- FLT_INJECT (R526). -/
def execFltInject (v : Word) (s : State) : Host.Outcome State Fault Refusal :=
  .next { s with dev := s.dev.access Reg.FLT_INJECT (some v) (·.fltInject v) }

/-! ### TILE_REPAIR (R543) -/

/-- The table whose tiles include `tile`, with its TILE_MAP body. -/
def Dev.tileOwner (d : Dev) (tile : Nat) : Option (Nat × List Byte) :=
  (List.range 256).findSome? fun t =>
    match d.tblDef t with
    | .tile b => if tile < 192 && tmHasTile b tile then some (t, b) else none
    | _ => none

/-- The poisoned place of table `t` that holds word `w` of the tile. -/
def Dev.poisonAt (d : Dev) (t : Nat) (b : List Byte) (tile w : Nat) : Option Nat :=
  if tmKind b = 1 then ((d.tbl t).lpm.find? fun e => e.poison && errWhere t b e.handle 0 == (tile, w)).map (·.handle)
  else ((d.tbl t).poison.find? fun x => tmWhere b x.1 0 == (tile, w / tmW b * tmW b)).map (·.1)

/-- The place becomes an empty entry, with no error left. -/
def TableMem.wipe (m : TableMem) (kind p : Nat) : TableMem :=
  if kind = 1 then { m with lpm := m.lpm.filter fun e => e.handle != p }
  else { m with places := Map.del m.places p, poison := m.poison.filter fun x => x.1 != p }

/-- The repair and its RESULT. -/
def Dev.repairTile (d : Dev) (tile w : Nat) : Dev × Nat :=
  match d.tileOwner tile with
  | none => (d, 2)
  | some (t, b) =>
    match d.poisonAt t b tile w with
    | none => (d, 1)
    | some p => (d.setTbl t ((d.tbl t).wipe (tmKind b) p), 0)

/-- A write of FLT_TREPAIR. -/
def Dev.tileRepair (d : Dev) (v : Word) : Dev :=
  let d := d.plainWrite Reg.FLT_TREPAIR v
  if F.FLT_TREPAIR_GO.of v = 0 then d
  else
    let (d, r) := d.repairTile (F.FLT_TREPAIR_TILE.of v) (F.FLT_TREPAIR_WORD.of v)
    d.setFld Reg.FLT_TREPAIR F.FLT_TREPAIR_RESULT r

/-- TILE_REPAIR (R543). -/
def execTileRepair (v : Word) (s : State) : Host.Outcome State Fault Refusal :=
  .next { s with dev := s.dev.access Reg.FLT_TREPAIR (some v) (·.tileRepair v) }

/-! ### SCRUB_WORD (R542) -/

/-- The tile word that a scrub read stands in a place of a table. -/
def Dev.scrubTile (d : Dev) (t p i : Nat) (f : List Byte → Dev) : Dev :=
  match d.tblDef t with
  | .tile b =>
    let there := if tmKind b = 1 then (d.tbl t).lpm.any fun e => e.handle = p && !e.dram else p < tmPlaces b && i < tmW b
    if there && d.tilesUp b then f b else d
  | _ => d

/-- A pass can end now: FLT_SCRUB.PERIOD s after the last, or at once where a restart has asked for one (R542). -/
def Dev.passDue (d : Dev) : Bool :=
  match d.flt.scrubAt with
  | none => true
  | some t => d.fld Reg.FLT_SCRUB F.FLT_SCRUB_PERIOD * 1000000000 ≤ d.free - t

/-- The end of a pass. -/
def Dev.passDone (d : Dev) : Dev :=
  if d.passDue then { d with flt := { d.flt with scrubAt := some d.free } }.raise 15 6 else d

/-- What the scrub does with the word it read, or at the end of a pass. -/
def Dev.scrub (d : Dev) : ScrubErr → Dev
  | .clean => d
  | .tileCorr t p i => d.scrubTile t p i fun b => (d.tileCorr t b p i).count (Reg.FLT_COUNT 8) 1
  | .tileUncorr t p i => d.scrubTile t p i fun b => d.tileUncorr t b p i
  | .retainedOne => d.count (Reg.FLT_COUNT 9) 1
  | .retainedBoth => d.report 108 3 false
  | .passDone => d.passDone

/-- SCRUB_WORD (R542). -/
def execScrubWord (err : ScrubErr) (s : State) : Host.Outcome State Fault Refusal :=
  .next { s with dev := if s.dev.running then s.dev.scrub err else s.dev }

/-! ### Reads that clear (R207, R233) -/

/-- TBL_ECC_LAST_READ (R207). -/
def execTblEccLastRead (s : State) : Host.Outcome State Fault Refusal :=
  .next { s with dev := s.dev.access Reg.TBL_ECC_LAST none (·.readClear Reg.TBL_ECC_LAST) }

/-- AAR_CMP_LAST_READ (R233). -/
def execAarCmpLastRead (s : State) : Host.Outcome State Fault Refusal :=
  .next { s with dev := s.dev.access Reg.AAR_CMP_LAST none (·.readClear Reg.AAR_CMP_LAST) }

/-! ### The regions' checks (R526) -/

/-- The line on which a region reports LOGIC faults (R525, R526). -/
def regionLine (g : Nat) : Nat :=
  if g < 96 then g / 12
  else if g < 160 then 8 + (g - 96) / 8
  else if g < 208 then 16 + (g - 160)
  else if g < 224 then 64 + (g - 208)
  else if g < 248 then 80
  else if g < 256 then 81
  else if g < 272 then 82 + (g - 256)
  else if g < 280 then 99
  else 100

/-- Region `g` reports a LOGIC fault of class U. -/
def Dev.regionFault (d : Dev) (g : Nat) : Dev := if g < 288 && d.up then d.report (regionLine g) 2 true else d

/-- PROTOCOL_VIOLATION (R526). -/
def execProtocolViolation (g : Nat) (s : State) : Host.Outcome State Fault Refusal := .next { s with dev := s.dev.regionFault g }

/-- The region's PACE is below PACE_MIN (R421). -/
def Dev.paceLow (d : Dev) (g : Nat) : Bool := d.fld (Reg.PWR_REGION g) F.PWR_REGION_PACE < lrPaceOf g / 4

/-- REGION_STALL (R526): no beat for 10 ms with work, at a PACE of PACE_MIN or more; that the 10 ms passed is the command's event
(log entry 12). -/
def execRegionStall (g : Nat) (s : State) : Host.Outcome State Fault Refusal :=
  .next { s with dev := if s.dev.paceLow g || !s.dev.regionBusy g || !s.dev.regionFree g then s.dev else s.dev.regionFault g }

/-- ELAND_WATCHDOG (R526). -/
def execElandWatchdog (s : State) : Host.Outcome State Fault Refusal :=
  .next { s with dev := if s.dev.up && s.dev.flt.eland.isNone then s.dev.report 109 2 true else s.dev }

end Sys2Proof.Machine
end

