-- ==== Sys2Proof/Machine/Discard.lean ====
section
/-! DEFINITION. Packets that leave flight without a disposition of their own: STR_FORCE (R94) and restarts (R533, R534). -/

namespace Sys2Proof.Machine

/-- The packet leaves its engine: out of the inbound queue, or with its thread released. -/
def Dev.leaveEngine (d : Dev) (c : Nat) : Stage → Dev
  | .engineQueue e =>
    match Map.find d.engines e with
    | some x => d.setEngine e { x with inq := x.inq.filter (· != c) }
    | none => d
  | .engine e t =>
    match Map.find d.engines e with
    | some x => d.threadEnd e t x (x.thread t)
    | none => d
  | _ => d

/-- The replication of context `c` ends: its copies not yet in the buffer and its own reference go. -/
def Dev.leaveRepl (d : Dev) (c : Nat) : Dev :=
  match d.repls.find? fun r => r.ctx = c with
  | none => d
  | some r =>
    let d := { d with repls := d.repls.filter fun x => x.ctx != c }
    (r.notReady.foldl (Dev.freeRec · 0 ·) d).dropRef r.data

/-- The packets that a packet's context stands for: itself, and copies of it made but not yet in the buffer (R330). -/
def Dev.pktCount (d : Dev) (c : Nat) : Nat :=
  match d.repls.find? fun r => r.ctx = c with
  | some r => 1 + r.notReady.length
  | none => 1

/-- A posted RX_BUF entry whose packet goes stays posted (R522). -/
def Dev.unassign (d : Dev) (r i : Nat) : Dev :=
  match d.entry r i with
  | some e =>
    let d := d.dropEntry r i
    d.setSub r { d.sub r with rx := { e with started := false } :: (d.sub r).rx }
  | none => d

/-- The packet has not been admitted (R53). -/
def Pkt.notAdmitted (p : Pkt) : Bool :=
  match p.stage with
  | .crossed => true
  | .lookups => true
  | .dramWait => true
  | .merge => true
  | .police => true
  | .admission => true
  | .engineQueue _ => true
  | .engine _ _ => true
  | _ => false

/-- Discards a packet wherever it stands, with what it holds there. -/
def Dev.scrap (d : Dev) (c : Nat) (p : Pkt) : Dev :=
  let d := (d.leaveEngine c p.stage).leaveRepl c
  let d := match p.stage with
    | .assigned r i => d.unassign r i
    | _ => d
  if p.notAdmitted then d.discard c p else d.losePkt c p 0

/-- Discards the packets for which `f` holds; answers how many. -/
def Dev.scrapAll (d : Dev) (f : Pkt → Bool) : Dev × Nat :=
  (d.pkts.filter fun e => f e.2).foldl (fun (x : Dev × Nat) (e : Nat × Pkt) => (x.1.scrap e.1 e.2, x.2 + x.1.pktCount e.1)) (d, 0)

/-- The packet's DMA to the host has begun: written, or suspended by a fault (R94, R514). -/
def Dev.dmaBegun (d : Dev) (p : Pkt) : Bool :=
  match p.stage with
  | .delivered _ _ => true
  | .assigned r i => d.suspended r i
  | _ => false

/-- The packets of generation `g` in flight (R93). -/
def Dev.flightOf (d : Dev) (g : Nat) : Nat :=
  let ps := (d.pkts.filter fun e => e.2.get C.G = g).map fun e => d.pktCount e.1
  ps.foldl (· + ·) 0 + (d.recs.filter fun r => ctxGet r.words C.G = g).length

end Sys2Proof.Machine
end

