-- ==== Sys2Proof/Machine/Flip.lean ====
section
/-! DEFINITION. Generation flips and drains (R86 to R95): STR_FLIP, FLIP_DONE, DRAIN_SLOW, STR_FORCE and DRAIN_DONE.
Readings of the manual that it takes are DEDUCED, in log entry 33. -/

namespace Sys2Proof.Machine

/-- The idle generation. -/
def Dev.idleG (d : Dev) : Nat := 1 - d.activeG

/-- Class D sections of the idle generation's overlay. -/
def Dev.flipSecs (d : Dev) : List Section := (d.gen d.idleG).flipSecs

/-- A generation is DRAINING. -/
def Dev.drainG (d : Dev) : Option Nat := (List.range 2).find? fun g => (d.gen g).st == .draining

/-- The code with which a flip is refused, 0 when it is accepted (R87). -/
def Dev.flipCode (d : Dev) : Nat :=
  if (d.gen d.idleG).st != .ready then 1
  else if d.drainG.isSome then 2
  else if (findSec d.flipSecs T.LANE_MAP 0).any d.laneBusy then 3
  else if (findSec d.flipSecs T.QUEUE_SHAPE 0).any d.shapeBusy then 4
  else 0

/-- A write of 1 to STR_FLIP. A write while a flip runs has no effect: the bit already reads 1 (R16). -/
def Dev.flipWrite (d : Dev) : Dev :=
  if d.bit Reg.STR_FLIP F.STR_FLIP_FLIP then d
  else
    let code := d.flipCode
    let d := d.setFld Reg.STR_FLIP_STATUS F.STR_FLIP_STATUS_CODE code
    if code ≠ 0 then d.raise 0 3
    else
      let n := (d.fld Reg.STR_FLIP_STATUS F.STR_FLIP_STATUS_FLIPS + 1) % 4294967296
      let d := (d.setFld Reg.STR_FLIP_STATUS F.STR_FLIP_STATUS_FLIPS n).setFld Reg.STR_FLIP F.STR_FLIP_FLIP 1
      { d.applyD d.flipSecs with flipping := true, flipped := [] }

/-- STR_FLIP (R87, R88 step 1). -/
def execStrFlip (s : State) : Host.Outcome State Fault Refusal :=
  .next { s with dev := s.dev.access Reg.STR_FLIP (some 1) Dev.flipWrite }

/-- Engine programs of a generation, by engine number. -/
def Dev.engNumbers (d : Dev) (g : Nat) : List Nat := (secsOf (d.gen g).secs T.ENGINE_PROGRAM).map (·.inst)

/-- Steps 2 and 3 of R88: the crossings have switched, the generations change state, engines that only the old generation holds stop
their resident threads and those that only the new one holds start them (R304), the drain timer starts. -/
def Dev.flipEnd (d : Dev) : Dev :=
  let o := d.activeG
  let n := d.idleG
  let oldE := d.engNumbers o
  let newE := d.engNumbers n
  let d := (oldE.filter fun e => !newE.contains e).foldl (fun (x : Dev) e => x.stopResidents e) d
  let d := (d.setGen o { d.gen o with st := .draining }).setGen n { d.gen n with st := .active, flipSecs := [] }
  let d := (newE.filter fun e => !oldE.contains e).foldl (fun (x : Dev) e => x.startResidents e) d
  let d := (d.setFld Reg.STR_GEN F.STR_GEN_ACTIVE n).setFld Reg.STR_FLIP F.STR_FLIP_FLIP 0
  { d with flipping := false, flipped := [], drainFrom := some d.free, drainSlow := false }

/-- A flip ends with FLIP_DONE. -/
def Dev.flipDone (d : Dev) : Dev := if d.flipping then d.flipEnd.raise 0 2 else d

/-- FLIP_DONE (R88 step 3). -/
def execFlipDone (s : State) : Host.Outcome State Fault Refusal :=
  .next { s with dev := if s.dev.running then s.dev.flipDone else s.dev }

/-- STR_DRAIN_COUNT.COUNT (R93). -/
def Dev.drainCount (d : Dev) : Nat :=
  match d.drainG with
  | some g => d.flightOf g
  | none => 0

/-- µs since the last accepted flip. -/
def Dev.drainUs (d : Dev) : Nat :=
  match d.drainFrom with
  | some t => (d.free - t) / 1000
  | none => 0

/-- The CNT operations of generation `g` that threads still have outstanding take effect before its tables are released (R305). -/
def Dev.settleCnts (d : Dev) (g : Nat) : Dev :=
  let mine := fun (o : AsyncOp) => match o.kind with | .cnt h _ _ _ _ => h == g | _ => false
  let d := ((d.engines.flatMap fun x => x.2.threads.flatMap Thread.ops).filter mine).foldl (fun (d : Dev) o =>
    match o.kind with
    | .cnt h t i bytes pj =>
      match d.tblIn h t with
      | .tile b => d.counterAdd t b (i % max 1 (tmPlaces b)) bytes pj .none
      | _ => d
    | _ => d) d
  let drop := fun (th : Thread) => { th with ops := th.ops.filter fun o => !mine o }
  { d with engines := d.engines.map fun (x : Nat × Engine) => (x.1, { x.2 with threads := x.2.threads.map drop }) }

/-- The draining generation becomes EMPTY; a forced drain ends with it (R86). -/
def Dev.drainEnd (d : Dev) (g : Nat) : Dev :=
  let forced := d.bit Reg.STR_FORCE F.STR_FORCE_FORCE
  let d := ((d.settleCnts g).genEmpty g).raise 0 5
  if forced then (d.setFld Reg.STR_FORCE F.STR_FORCE_FORCE 0).raise 0 6 else d

/-- The count of the draining generation has reached 0. -/
def Dev.drainDone (d : Dev) : Dev :=
  match d.drainG with
  | some g => if d.flightOf g = 0 then d.drainEnd g else d
  | none => d

/-- DRAIN_DONE (R86). -/
def execDrainDone (s : State) : Host.Outcome State Fault Refusal :=
  .next { s with dev := if s.dev.running then s.dev.drainDone else s.dev }

/-- The drain timer reaches STR_DRAIN_LIMIT with packets left: DRAIN_SLOW, once per drain (R86, R95). -/
def Dev.drainLate (d : Dev) : Dev :=
  let lim := d.fld Reg.STR_DRAIN_LIMIT F.STR_DRAIN_LIMIT_LIMIT
  if d.drainCount = 0 || lim = 0 || d.drainSlow || d.drainUs < lim then d
  else ({ d with drainSlow := true }).raise 0 4

/-- DRAIN_SLOW (R86). -/
def execDrainSlow (s : State) : Host.Outcome State Fault Refusal :=
  .next { s with dev := if s.dev.running then s.dev.drainLate else s.dev }

/-- STR_FORCE: the packets of the draining generation are discarded, but for those whose DMA has begun, and counted (R94). With no
generation draining, or none of its packets in flight, nothing happens (R95); nor while FORCE already reads 1 (R16). -/
def Dev.forceDrain (d : Dev) : Dev :=
  match d.drainG with
  | none => d
  | some g =>
    if d.flightOf g = 0 || d.bit Reg.STR_FORCE F.STR_FORCE_FORCE then d
    else
      let (d, m) := d.scrapAll fun p => p.get C.G = g && !d.dmaBegun p
      let (d, k) := d.removeRecs 0 fun r => ctxGet r.words C.G = g
      let n := (d.fld Reg.STR_FORCE_DISCARDS F.STR_FORCE_DISCARDS_COUNT + m + k) % 4294967296
      (d.setFld Reg.STR_FORCE_DISCARDS F.STR_FORCE_DISCARDS_COUNT n).setFld Reg.STR_FORCE F.STR_FORCE_FORCE 1

/-- STR_FORCE (R94). -/
def execStrForce (s : State) : Host.Outcome State Fault Refusal :=
  .next { s with dev := s.dev.access Reg.STR_FORCE (some 1) Dev.forceDrain }

end Sys2Proof.Machine
end

