-- ==== Sys2Proof/Machine/View.lean ====
section
/-! DEFINITION. What a read of a register returns (R15, R16): the stored value, or for registers that show the device's working state,
that state.
Readings of the manual that it takes are DEDUCED, in log entries 20, 30. -/

namespace Sys2Proof.Machine

/-- A register value from its fields. -/
def fldWord (l : List (Fld × Nat)) : Word := l.foldl (fun w x => x.1.put w x.2) 0

/-- Some register `f n` of an array at `a`, `o` elsewhere. -/
def viewArray (a base stride count : Nat) (f : Nat → Word) (o : Word) : Word :=
  match regIdx base stride count a with
  | some n => f n
  | none => o

/-! ### SYS and STR (R85, R568, R575) -/

/-- The check with which the serial's twelve bytes sum to 0 modulo 256 (R568). -/
def serialCheck (bs : List Byte) : Nat := (256 - (bs.foldl (fun n b => n + b.toNat) 0) % 256) % 256

/-- The serial's bytes: SYS_SERIAL0, then SERIAL_HI, each from its least significant byte. -/
def serialBytes : List Byte := wordBytes Config.serialLo ++ leBytes 4 Config.serialHi.toNat

def Dev.viewSys (d : Dev) (a : Nat) : Word :=
  if a = Reg.SYS_SERIAL0 then Config.serialLo
  else if a = Reg.SYS_SERIAL1 then
    fldWord [(F.SYS_SERIAL1_SERIAL_HI, Config.serialHi.toNat), (F.SYS_SERIAL1_CHECK, serialCheck serialBytes)]
  else if a = Reg.SYS_ELAPSED then BitVec.ofNat 64 (d.elapsed / 1000)
  else if a = Reg.SYS_STRAP then
    fldWord [(F.SYS_STRAP_BOOT_SRC, d.pins.straps.toNat % 4), (F.SYS_STRAP_SB_ADDR, d.pins.straps.toNat / 4)]
  else d.reg a

/-- The code of a generation's state in STR_GEN. -/
def GState.code : GState → Nat
  | .empty => 0
  | .loading => 1
  | .ready => 2
  | .active => 3
  | .draining => 4

def Dev.viewStr (d : Dev) (a : Nat) : Word :=
  if a = Reg.STR_GEN then
    fldWord [(F.STR_GEN_ACTIVE, d.activeG), (F.STR_GEN_STATE0, (d.gen 0).st.code), (F.STR_GEN_STATE1, (d.gen 1).st.code)]
  else if a = Reg.STR_DRAIN_COUNT then
    fldWord [(F.STR_DRAIN_COUNT_COUNT, d.drainCount), (F.STR_DRAIN_COUNT_ELAPSED, min d.drainUs 4294967295)]
  else if a = Reg.STR_ID_ACTIVE then (d.gen d.activeG).id
  else if a = Reg.STR_ID_IDLE then (d.gen d.idleG).id
  else d.reg a

/-! ### FLT, PWR, TIM, GAT and PRT -/

def Dev.viewFlt (d : Dev) (a : Nat) : Word :=
  if a = Reg.FLT_SCRUB then F.FLT_SCRUB_RUNNING.put (d.reg a) d.running.toNat
  else if a = Reg.FLT_RESTART then
    let warm := d.flt.warm.isSome
    fldWord [(F.FLT_RESTART_STATE, if warm then 2 else if d.flt.blocks.isEmpty then 0 else 1),
      (F.FLT_RESTART_BLOCKS, d.flt.blocks.length + d.flt.eland.isSome.toNat),
      (F.FLT_RESTART_LINE, d.fld a F.FLT_RESTART_LINE), (F.FLT_RESTART_LAST_US, d.fld a F.FLT_RESTART_LAST_US),
      (F.FLT_RESTART_ECHO_OPEN, (warm || !d.flt.blocks.isEmpty).toNat)]
  else d.reg a

/-- PWR_ADJr: the neighbours of R602 in ascending order, nine bits each, and their number. -/
def viewAdj (r : Nat) : Word :=
  let l := neighbours r
  fldWord [(F.PWR_ADJ_NBR, l.foldr (fun n x => n + 512 * x) 0), (F.PWR_ADJ_COUNT, l.length)]

def Dev.viewRegion (d : Dev) (r : Nat) : Word :=
  let w := F.PWR_REGION_SENSOR.put (F.PWR_REGION_BELOW_LR.put (d.reg (Reg.PWR_REGION r)) (d.belowLr r).toNat) (sensorNo r)
  F.PWR_REGION_VEFF_MV.put (F.PWR_REGION_LR_PACE.put w (lrPaceOf r)) (d.veff2 r / 2).toNat

def Dev.viewPwr (d : Dev) (a : Nat) : Word :=
  if a = Reg.PWR_LADDER then F.PWR_LADDER_TRIGGERS.put (d.reg a) d.triggerBits
  else if a = Reg.PWR_SHED then F.PWR_SHED_ASSERTED.put (d.reg a) d.shedPins
  else viewArray a (Reg.PWR_REGION 0) 8 288 d.viewRegion <| viewArray a (Reg.PWR_ADJ 0) 8 288 viewAdj (d.reg a)

def Dev.viewTim (d : Dev) (a : Nat) : Word :=
  if a = Reg.TIM_TIME then BitVec.ofNat 64 (d.tim.cnt.toNat / 256)
  else if a = Reg.TIM_FREE then d.tim.free
  else if a = Reg.TIM_CAP_LEVEL then
    let bits := ((List.range 16).map fun k => if (d.cap k).level then 2 ^ k else 0).foldl (· + ·) 0
    fldWord [(F.TIM_CAP_LEVEL_CAP, bits), (F.TIM_CAP_LEVEL_PPS, d.tim.ppsIn.level.toNat)]
  else d.reg a

/-- GAT_DATA: the entry that GAT_SEL names. -/
def Dev.viewGatData (d : Dev) : Word :=
  let g := d.gate (d.fld Reg.GAT_SEL F.GAT_SEL_PORT)
  let i := d.fld Reg.GAT_SEL F.GAT_SEL_ENTRY
  Map.getD (if d.bit Reg.GAT_SEL F.GAT_SEL_BANK then g.oper else g.admin) i 0

def Dev.viewGat (d : Dev) (a : Nat) : Word :=
  if a = Reg.GAT_DATA then d.viewGatData
  else viewArray a (Reg.GAT_STATUS 0) 0x40 128 (fun n => F.GAT_STATUS_GATES.put (d.reg a) (d.gatesNow n)) (d.reg a)

/-- HOLD_LEFT: µs, the last one begun included, until the hold timer ends, 0 when it does not run. -/
def Dev.holdLeft (d : Dev) (n : Nat) : Nat :=
  match (d.port n).holdEnd with
  | some t => (t - d.free + 999) / 1000
  | none => 0

def Dev.viewPrt (d : Dev) (a : Nat) : Word :=
  viewArray a (Reg.PRT_STATUS 0) 0x1000 130 (fun n => F.PRT_STATUS_HOLD_LEFT.put (d.reg a) (d.holdLeft n)) (d.reg a)

/-! ### PRS, TBL, AAR and ENG -/

/-- In a live generation the table is defined. -/
def Dev.tblDefined (d : Dev) (g t : Nat) : Bool := d.genLive g && decide (d.tblIn g t ≠ .none)

def Dev.viewTable (d : Dev) (t : Nat) : Word :=
  match d.tblDef t with
  | .tile b =>
    let ext := if tmKind b = 1 then match d.dramExt t with
      | some x => lpmDram x
      | none => 0
      else 0
    fldWord [(F.TBL_TABLE_KIND, tmKind b), (F.TBL_TABLE_IN_GEN0, (d.tblDefined 0 t).toNat), (F.TBL_TABLE_IN_GEN1, (d.tblDefined 1 t).toNat),
      (F.TBL_TABLE_OCCUPIED, (d.tbl t).occupied (tmKind b)),
      (F.TBL_TABLE_CAPACITY, if tmKind b = 1 then lpmOnChip b + ext else tmPlaces b)]
  | _ => 0

def Dev.viewFawn (d : Dev) : Word :=
  let c := (d.fawn.filter fun f => f.portB.isSome).length
  fldWord [(F.TBL_FAWN_STATUS_PENDING, d.fawn.length - c), (F.TBL_FAWN_STATUS_CONFLICT, c), (F.TBL_FAWN_STATUS_QUEUED, d.notes.length)]

def Dev.viewChamois (d : Dev) (t : Nat) : Word :=
  match d.tblDef t with
  | .cham b =>
    fldWord [(F.AAR_TABLE_WIDTH, bodyFld b 0 0 2), (F.AAR_TABLE_IN_GEN0, (d.tblDefined 0 t).toNat), (F.AAR_TABLE_IN_GEN1, (d.tblDefined 1 t).toNat),
      (F.AAR_TABLE_CHAINS, ccChains b), (F.AAR_TABLE_OCCUPIED, ((d.chIndices b).filter (d.chValid b)).length),
      (F.AAR_TABLE_CAPACITY, ccCapacity b)]
  | _ => 0

def Dev.viewPipe (d : Dev) (a : Nat) : Word :=
  if a = Reg.PRS_PUNT_LEVEL then BitVec.ofNat 64 (d.puntCredit / 1000000000)
  else if a = Reg.TBL_FAWN_STATUS then d.viewFawn
  else viewArray a (Reg.TBL_TABLE 0) 8 256 d.viewTable <| viewArray a (Reg.AAR_TABLE 0) 8 256 d.viewChamois (d.reg a)

def TState.code : TState → Nat
  | .free => 0
  | .run => 1
  | .stall => 2
  | .sleep => 3

def Dev.viewEngStatus (d : Dev) (e : Nat) : Word :=
  match Map.find d.engines e with
  | none => 0
  | some x =>
    let busy := ((List.range 8).map fun t => if (x.thread t).st == .free then 0 else 2 ^ t).foldl (· + ·) 0
    if !d.engHeld e then 0
    else fldWord [(F.ENG_STATUS_LOADED, 1), (F.ENG_STATUS_GEN, x.gen), (F.ENG_STATUS_SHARED, (d.engShared e).toNat),
      (F.ENG_STATUS_QUEUED, x.inq.length), (F.ENG_STATUS_BUSY, busy), (F.ENG_STATUS_RESIDENT, epResident (d.engProg e x))]

def Dev.viewThread (d : Dev) (e t : Nat) : Word :=
  match Map.find d.engines e with
  | none => 0
  | some x =>
    let th := x.thread t
    fldWord [(F.ENG_THREAD_STATE, th.st.code), (F.ENG_THREAD_RESIDENT, (decide (t < epResident (d.engProg e x))).toNat),
      (F.ENG_THREAD_PC, th.pc), (F.ENG_THREAD_OUTSTANDING, th.ops.length), (F.ENG_THREAD_STEPS, min th.steps 65535)]

def Dev.viewEng (d : Dev) (a : Nat) : Word :=
  let e := (a - 0x400000) / 0x4000
  if a = Reg.ENG_FRAG_STATUS then BitVec.ofNat 64 d.frags.length
  else if a = Reg.ENG_STATUS e then d.viewEngStatus e
  else if a = Reg.ENG_MEM_DATA e then (d.engAccess e none .none).bus
  else viewArray a (Reg.ENG_THREAD e 0) 8 8 (d.viewThread e) (d.reg a)

/-! ### BUF, SCH, HIF and RNG -/

def Dev.viewQocc (d : Dev) (q : Nat) : Word :=
  fldWord [(F.BUF_QOCC_CELLS, d.qCells q),
    (F.BUF_QOCC_PACKETS, ((d.recs ++ d.made).filter fun r => r.queue = q).length + (d.held.filter fun p => p.queue = q).length),
    (F.BUF_QOCC_SPILL_CELLS, sumBy (fun r : Rec => if r.queue = q then r.spill else 0) (d.recs ++ d.made)
      + sumBy (fun p : Pkt => if p.queue = q then p.recSpill else 0) d.held)]

def Dev.viewBuf (d : Dev) (a : Nat) : Word :=
  if a = Reg.BUF_STATUS then
    fldWord [(F.BUF_STATUS_FREE, d.freeCells), (F.BUF_STATUS_SHARED_USED, d.sharedUsed), (F.BUF_STATUS_MC_USED, d.mcUsed)]
  else if a = Reg.BUF_SPILL_STATUS then
    fldWord [(F.BUF_SPILL_STATUS_USED, d.spillUsed), (F.BUF_SPILL_STATUS_CAPACITY, d.spillCapacity)]
  else if a = Reg.BUF_RESIDUE_STATUS then BitVec.ofNat 64 (d.residue.flatMap (·.2)).length
  else if a = Reg.BUF_CAP_STATUS then BitVec.ofNat 64 d.captures.length
  else viewArray a (Reg.BUF_QOCC 0) 8 131072 d.viewQocc (d.reg a)

/-- SCH_LEVEL_DATA: whole bytes rounded toward zero, or pJ, of the bucket that SCH_LEVEL_SEL names. -/
def Dev.viewLevel (d : Dev) : Word :=
  let k := d.fld Reg.SCH_LEVEL_SEL F.SCH_LEVEL_SEL_KIND
  let i := d.fld Reg.SCH_LEVEL_SEL F.SCH_LEVEL_SEL_INDEX
  if 4 < k || bucketCount k ≤ i then 0
  else
    let u := bkUNIT.of (d.reg (bucketReg k i))
    let l := d.levelNow k i
    fldWord [(F.SCH_LEVEL_DATA_LEVEL, (BitVec.ofInt 48 (if u = 0 then Int.tdiv l 8000000 else l)).toNat), (F.SCH_LEVEL_DATA_UNIT, u),
      (F.SCH_LEVEL_DATA_CONFORMING, (d.conforming k i).toNat), (F.SCH_LEVEL_DATA_VALID, 1)]

/-- 64 bits, bit j of which is `f (64 i + j)`. -/
def bitMap (i : Nat) (f : Nat → Bool) : Word :=
  BitVec.ofNat 64 (((List.range 64).map fun j => if f (64 * i + j) then 2 ^ j else 0).foldl (· + ·) 0)

/-- Packets in the delivery stage (R503). -/
def Dev.inDelivery (d : Dev) : Nat := (d.pkts.filter fun e => Machine.inDelivery e.2).length

def Dev.viewHif (d : Dev) (a : Nat) : Word :=
  if a = Reg.HIF_HOST_STATUS then BitVec.ofNat 64 d.inDelivery
  else
    viewArray a (Reg.HIF_ERR_MAP 0) 8 1024 (fun i => bitMap i fun r => d.ringState r = rsError) <|
    viewArray a (Reg.HIF_FAULT_MAP 0) 8 512 (fun i => bitMap i fun r => d.ringState r = rsFaultWait) (d.reg a)

/-- RNG_STATEr: completions held on chip and entries in progress of a submission ring, and whether it is stalled. -/
def Dev.viewRingState (d : Dev) (r : Nat) : Word :=
  let w := d.reg (Reg.RNG_STATE r)
  if r < 32768 then
    let held := (d.hif.held.filter fun h => h.ring = r).length
    let w := F.RNG_STATE_STALLED.put w (decide (d.subCq r ∈ d.hif.stalled)).toNat
    F.RNG_STATE_IN_PROGRESS.put (F.RNG_STATE_HELD.put w held) (d.inProgress r)
  else F.RNG_STATE_STALLED.put w (d.cqFull (r - 32768)).toNat

def Dev.viewRng (d : Dev) (a : Nat) : Word :=
  viewArray a (Reg.RNG_STATE 0) 0x40 65536 d.viewRingState <|
  viewArray a (Reg.RNG_FETCH 0) 0x40 32768 (fun r => F.RNG_FETCH_DONE.put (d.reg a) (d.doneIdx r)) (d.reg a)

/-! ### Any register -/

/-- The bits of a register that a read shows: WO fields read as 0 (R16). -/
def readMask (a : Nat) (w : Word) : Word :=
  match regFam a with
  | some f => f.fields.foldl (fun w x => if x.acc == .wo then Fld.put ⟨x.lo, x.w⟩ w 0 else w) w
  | none => 0

/-- What a read of the register at BAR0 offset `a` returns. Before the first RUN, registers outside SYS and unassigned addresses of SYS
read all ones (R564); in RUN unassigned addresses read 0 (R13). -/
def Dev.view (d : Dev) (a : Nat) : Word :=
  if !d.up && (0x1000 ≤ a || (regFam a).isNone) then BitVec.allOnes 64
  else
    readMask a <|
      if a < 0x1000 then d.viewSys a
      else if a < 0x10000 then d.viewStr a
      else if a < 0x20000 then d.viewFlt a
      else if a < 0x40000 then d.reg a
      else if a < 0x80000 then d.viewPwr a
      else if a < 0xC0000 then d.viewTim a
      else if a < 0x100000 then d.viewGat a
      else if a < 0x200000 then d.viewPrt a
      else if a < 0x400000 then d.viewPipe a
      else if a < 0x800000 then d.viewEng a
      else if a < 0xA00000 then d.viewBuf a
      else if a = Reg.SCH_LEVEL_DATA then d.viewLevel
      else if a < 0x2000000 then d.reg a
      else if a < 0x4000000 then d.viewHif a
      else if a < 0x8000000 then d.viewRng a
      else d.reg a

end Sys2Proof.Machine
end

