-- ==== Sys2Proof/Machine/Sideband.lean ====
section
/-! DEFINITION. The sideband (R565, R570 to R573): I2C transactions on the SYS registers at offsets 0x000 to 0x07F.
Readings of the manual that it takes are DEDUCED, in log entry 34. -/

namespace Sys2Proof.Machine

/-- Adds one to a count of SYS_SB_STATUS. -/
def Dev.sbCount (d : Dev) (f : Fld) : Dev := d.satCount Reg.SYS_SB_STATUS f 1

/-- The offset is refused (R571). -/
def sbBad (off : Nat) : Bool := off % 4 ≠ 0 || 0x80 ≤ off

/-- Half `h` of a register takes a 32-bit value. -/
def putHalf (w : Word) (h v : Nat) : Word := Fld.put ⟨32 * h, 32⟩ w v

/-- A 32-bit sideband write at a good offset (R572). -/
def Dev.sbStore (d : Dev) (off v : Nat) : Dev :=
  let a := off / 8 * 8
  let h := off / 4 % 2
  let w := BitVec.ofNat 64 v
  if a = Reg.SYS_SB_SCRATCH then d.setReg a (putHalf (d.reg a) h v)
  else if off = Reg.SYS_CTRL && asksCold w then d.sysCtrl w true
  else
    let d := if a = Reg.SYS_LOAD_DATA then d.setFld Reg.SYS_LOAD_STATUS F.SYS_LOAD_STATUS_STRAY 1 else d
    d.sbCount F.SYS_SB_STATUS_DENIED

/-- A sideband write transaction. -/
def Dev.sbWrite (d : Dev) (off : Nat) (data : List Byte) : Dev :=
  if d.stage = 0 then d
  else if sbBad off then d.sbCount F.SYS_SB_STATUS_NACKS
  else if data.length ≠ 4 then d.sbCount F.SYS_SB_STATUS_DENIED
  else d.sbStore off (leNat data)

/-- SB_WRITE (R572). -/
def execSbWrite (off : Nat) (data : List Byte) (s : State) : Host.Outcome State Fault Refusal :=
  .next { s with dev := s.dev.sbWrite off data }

/-- What a sideband read of the register at `a` gives, its eight bytes taken at once; a read of SYS_SB_STATUS clears it (R16, R571).
Beyond offset 0x07F the manual states no bytes: they are free (log entry 6). -/
def Dev.sbTake (d : Dev) (a : Nat) : List Byte × Dev :=
  if 0x80 ≤ a then let (x, d) := d.fresh (2 ^ 64); (leBytes 8 x, d)
  else (wordBytes (d.view a), if a = Reg.SYS_SB_STATUS then d.setReg a 0 else d)

/-- The bytes of `n` successive registers from `a`. -/
def Dev.sbTakeAll (d : Dev) (a : Nat) : Nat → List Byte × Dev
  | 0 => ([], d)
  | n + 1 =>
    let (bs, d) := d.sbTake a
    let (rest, d) := d.sbTakeAll (a + 8) n
    (bs ++ rest, d)

/-- A sideband read transaction of `n` bytes. -/
def Dev.sbRead (d : Dev) (off n : Nat) : Dev :=
  if d.stage = 0 then d
  else if sbBad off then d.sbCount F.SYS_SB_STATUS_NACKS
  else if n = 0 then { d with sbOut := [] }
  else
    let a := off / 8 * 8
    let (bs, d) := d.sbTakeAll a ((off % 8 + n + 7) / 8)
    { d with sbOut := (bs.drop (off % 8)).take n }

/-- SB_READ (R571). -/
def execSbRead (off n : Nat) (s : State) : Host.Outcome State Fault Refusal := .next { s with dev := s.dev.sbRead off n }

/-- SB_TIMEOUT (R572). -/
def execSbTimeout (s : State) : Host.Outcome State Fault Refusal :=
  .next { s with dev := if s.dev.stage = 0 then s.dev else s.dev.sbCount F.SYS_SB_STATUS_TIMEOUTS }

/-- SB_STATUS_READ (R572). -/
def execSbStatusRead (s : State) : Host.Outcome State Fault Refusal :=
  .next { s with dev := if s.dev.stage = 0 then s.dev else s.dev.readClear Reg.SYS_SB_STATUS }

end Sys2Proof.Machine
end

