-- ==== Sys2Proof/Machine/BusWrite.lean ====
section
/-! DEFINITION. A 64-bit write at any BAR0 offset of the PF or of a VF (R13, R16, R62, R476, R564), and the effects of reads.
Readings of the manual that it takes are DEDUCED, in log entries 29, 30. -/

namespace Sys2Proof.Machine

/-! ### SYS and the MSI-X tables (R475, R476, R575) -/

/-- A vector that is unmasked with its pending bit set sends its message; none is sent before RUN (R564). -/
def Dev.unmaskVec (d : Dev) (f v : Nat) : Dev :=
  let k := v / 64
  let pba := if f = 0 then d.reg (Reg.SYS_MSIX_PBA k) else Map.getD d.hif.vfPba (2 * f + k) 0
  if !d.up || !pba.getLsbD (v % 64) || (d.vecCtrl f v).getLsbD 32 then d
  else
    let w := pba &&& ~~~ BitVec.ofNat 64 (2 ^ (v % 64))
    let d := if f = 0 then d.setReg (Reg.SYS_MSIX_PBA k) w else { d with hif := { d.hif with vfPba := Map.put d.hif.vfPba (2 * f + k) w } }
    d.sendVec f v

/-- A write in the SYS window from the PF. -/
def Dev.sysWrite (d : Dev) (a : Nat) (v : Word) : Dev :=
  if d.stage = 0 then d
  else if a = Reg.SYS_CTRL then d.sysCtrl v false
  else if a = Reg.SYS_LOAD_DATA then d.sysLoad v 0 8
  else onArray a (Reg.SYS_MSIX_CTRL 0) 0x10 128 (fun n => (d.plainWrite a v).unmaskVec 0 n) (d.plainWrite a v)

/-- The bits of an MSI-X control word that a write stores: message data and MASKED. -/
def msixMask : Word := BitVec.ofNat 64 0x1FFFFFFFF

/-- A write to VF `f`'s MSI-X table at offset `o`. -/
def Dev.vfMsixWrite (d : Dev) (f o : Nat) (v : Word) : Dev :=
  let n := (o - 0x800) / 16
  let ctrl := o % 16 / 8
  let w := if ctrl = 1 then v &&& msixMask else v
  let d := { d with hif := { d.hif with vfMsix := Map.put d.hif.vfMsix (2 * (128 * f + n) + ctrl) w } }
  if ctrl = 1 then d.unmaskVec f n else d

/-! ### Accesses (R11, R12, R477, R478) -/

/-- 32-bit accesses that R11 allows: the SYS block on the PF, the MSI-X table and the PBA on a VF. -/
def narrowOk (f addr size : Nat) : Bool :=
  size = 4 && addr % 4 = 0 && (if f = 0 then addr < 0x1000 else 0x7F0 ≤ addr && addr < 0x1000)

/-- An access that breaks R11: a read gives all ones, a write is discarded, and HIF_ACCESS_LOG takes it. -/
def Dev.badAccess (d : Dev) (f addr size : Nat) (write : Bool) : Dev :=
  if (size = 8 ∧ addr % 8 = 0) ∨ narrowOk f addr size then d
  else
    let w := F.HIF_ACCESS_LOG_FUNC.put (F.HIF_ACCESS_LOG_ADDR.put 0 addr) f
    let w := F.HIF_ACCESS_LOG_SIZE.put w (if size = 1 then 0 else if size = 2 then 1 else if size = 4 then 2 else 3)
    let w := F.HIF_ACCESS_LOG_VALID.put (F.HIF_ACCESS_LOG_WRITE.put w write.toNat) 1
    let d := (d.setReg Reg.HIF_ACCESS_LOG w).raise 14 0
    if write then d else { d with bus := BitVec.allOnes 64 }

/-- The 64-bit word of function `f` at 8-byte aligned offset `a` of the places that take 32-bit accesses. -/
def Dev.narrowWord (d : Dev) (f a : Nat) : Word :=
  if f = 0 then d.view a
  else if a < 0x800 then Map.getD d.hif.vfPba (2 * f + (a - 0x7F0) / 8) 0
  else if a % 16 = 0 then Map.getD d.hif.vfMsix (2 * (128 * f + (a - 0x800) / 16)) 0
  else d.vecCtrl f ((a - 0x800) / 16)

/-- Half `h` of a register. -/
def getHalf (w : Word) (h : Nat) : Nat := Fld.of ⟨32 * h, 32⟩ w

/-- A 32-bit read that R11 accepts. A read of the lower half takes the register whole and latches its upper half for that function; the next
read of that upper half returns the latched half (R573). A read of SYS_SB_STATUS clears what it takes (R16). -/
def Dev.narrowRead (d : Dev) (f addr : Nat) : Dev :=
  let a := addr / 8 * 8
  let k := 2 ^ 28 * f + a
  let w := d.narrowWord f a
  let rc := f = 0 && a = Reg.SYS_SB_STATUS
  let keep := fun (d : Dev) (m : List (Nat × Nat)) (v : Nat) => { d with hif := { d.hif with halves := m }, bus := BitVec.ofNat 64 v }
  if addr % 8 = 0 then keep (if rc then d.setReg a 0 else d) (Map.put d.hif.halves k (getHalf w 1)) (getHalf w 0)
  else
    match Map.find d.hif.halves k with
    | some v => keep d (Map.del d.hif.halves k) v
    | none => keep (if rc then d.setReg a (putHalf (d.reg a) 1 0) else d) d.hif.halves (getHalf w 1)

/-- An access of function `f` that is no aligned 64-bit one. -/
def Dev.oddAccess (d : Dev) (f addr size : Nat) (write : Bool) : Dev :=
  if narrowOk f addr size then (if write || d.stage = 0 then d else d.narrowRead f addr)
  else if d.running then d.badAccess f addr size write
  else d

/-! ### STR -/

/-- A write of STR_LOAD_CTRL; ABORT and START in one write act in either order (log entry 6). -/
def Dev.loadCtrl (d : Dev) (v : Word) : Dev :=
  let abort := F.STR_LOAD_CTRL_ABORT.of v = 1
  if abort && F.STR_LOAD_CTRL_START.of v = 1 then
    let (k, d) := d.fresh 2
    if k = 0 then d.loadAbort.loadStart v else (d.loadStart v).loadAbort
  else if abort then (d.loadStart v).loadAbort
  else d.loadStart v

/-- A write of STR_FUSE_CMD. -/
def Dev.fuseWrite (d : Dev) (v : Word) : Dev :=
  let op := F.STR_FUSE_CMD_OP.of v
  if op = 1 || op = 2 then d.fuseStart op v
  else d.plainWrite Reg.STR_FUSE_CMD v

/-- Writes in the STR window. -/
def Dev.strWrite (d : Dev) (a : Nat) (v : Word) : Dev :=
  if a = Reg.STR_LOAD_CTRL then d.loadCtrl v
  else if a = Reg.STR_LOAD_DATA then d.loadData v
  else if a = Reg.STR_FLIP then (if v.getLsbD 0 then d.flipWrite else d)
  else if a = Reg.STR_FORCE then (if v.getLsbD 0 then d.forceDrain else d)
  else if a = Reg.STR_FUSE_CMD then d.fuseWrite v
  else d.plainWrite a v

/-! ### FLT and PMC -/

/-- Writes in the FLT window. -/
def Dev.fltWrite (d : Dev) (a : Nat) (v : Word) : Dev :=
  if a = Reg.FLT_INJECT then d.fltInject v
  else if a = Reg.FLT_TREPAIR then d.tileRepair v
  else if a = Reg.FLT_SCRUB then d.plainWrite a (minOne F.FLT_SCRUB_PERIOD v)
  else onArray a (Reg.FLT_STATUS 0) 8 3 (fun k => d.faultAck k v) (d.plainWrite a v)

/-- Writes in the PMC window. -/
def Dev.pmcBusWrite (d : Dev) (a : Nat) (v : Word) : Dev :=
  onArray a (Reg.PMC_GCTRL 0) 8 32 (fun g => d.pmcCtrl g v) <|
  onArray a (Reg.PMC_CNT 0) 8 256 (fun c => d.pmcWrite c v false) (d.plainWrite a v)

/-! ### HIF, ring contexts and doorbells (R479, R483, R488) -/

/-- Every ring of group `g` is DISABLED. -/
def Dev.groupIdle (d : Dev) (g : Nat) : Bool :=
  (List.range 64).all fun j => d.ringState (64 * g + j) = rsDisabled && d.ringState (cqCtx (64 * g + j)) = rsDisabled

/-- Writes in the HIF window. -/
def Dev.hifWrite (d : Dev) (a : Nat) (v : Word) : Dev :=
  onArray a (Reg.HIF_GROUP 0) 8 512 (fun g => if d.groupIdle g then d.plainWrite a v else d) (d.plainWrite a v)

/-- A write of RNG_CTRLr. SKIP governs a write of RESUME and SKIP together (R522). -/
def Dev.ringCtrl (d : Dev) (r : Nat) (v : Word) : Dev :=
  let d := if F.RNG_CTRL_ENABLE.of v = 1 then d.ringEnable r else d
  let d := if F.RNG_CTRL_SKIP.of v = 1 then d.ringSkip r else if F.RNG_CTRL_RESUME.of v = 1 then d.ringResume r else d
  if F.RNG_CTRL_RESET.of v = 1 then d.ringReset r else d

/-- Writes to ring contexts. BASE and CFG take a write only in DISABLED (R483). -/
def Dev.rngWrite (d : Dev) (a : Nat) (v : Word) : Dev :=
  let r := (a - 0x4000000) / 0x40
  let o := a % 0x40
  if 65536 ≤ r then d
  else if o = 0x00 || o = 0x08 then (if d.ringState r = rsDisabled then d.plainWrite a v else d)
  else if o = 0x10 then (if r < 32768 then d.piWrite r v else d)
  else if o = 0x18 then (if r < 32768 then d else d.ciWrite (r - 32768) v)
  else if o = 0x38 then d.ringCtrl r v
  else d.plainWrite a v

/-- A write to a doorbell page (R488). -/
def Dev.bellWrite (d : Dev) (a : Nat) : Dev :=
  let g := (a - doorbellAddr 0) / 0x1000
  if a = doorbellAddr g && g < 512 then d.doorbell g else d

/-! ### Any offset -/

/-- A write at an offset outside SYS that no restart holds. -/
def Dev.openWrite (d : Dev) (a : Nat) (v : Word) : Dev :=
  match evtAt a with
  | some (src, mask) => d.eventWrite src mask v
  | none =>
    if a < 0x10000 then d.strWrite a v
    else if a < 0x20000 then d.fltWrite a v
    else if a < 0x40000 then d.pmcBusWrite a v
    else if a < 0x2000000 then d.blockWrite a v
    else if a < 0x4000000 then d.hifWrite a v
    else if a < 0x8000000 then d.rngWrite a v
    else if a < 0xC000000 then d.bellWrite a
    else d.plainWrite a v

/-- A 64-bit write of the PF at BAR0 offset `a`. -/
def Dev.busWrite (d : Dev) (a : Nat) (v : Word) : Dev :=
  if a % 8 ≠ 0 || 0x10000000 ≤ a then d
  else if a < 0x1000 then d.sysWrite a v
  else d.access a (some v) (·.openWrite a v)

/-- The `k`-th lowest group that VF `f` owns (R476). -/
def Dev.vfGroup (d : Dev) (f k : Nat) : Option Nat :=
  ((List.range 512).filter fun g => d.fld (Reg.HIF_GROUP g) F.HIF_GROUP_FUNC = f)[k]?

/-- The PF offset that offset `o` of VF `f`'s BAR0 reaches: a doorbell page or a ring context of one of its first 32 groups. -/
def Dev.vfOffset (d : Dev) (f o : Nat) : Option Nat :=
  if 0x10000 ≤ o ∧ o < 0x30000 then (d.vfGroup f ((o - 0x10000) / 0x1000)).map fun g => doorbellAddr g + o % 0x1000
  else if 0x100000 ≤ o ∧ o < 0x140000 then
    (d.vfGroup f ((o - 0x100000) / 0x2000)).map fun g =>
      (if o % 0x2000 < 0x1000 then 0x4000000 else 0x4200000) + 0x1000 * g + o % 0x1000
  else none

/-- A 64-bit write of VF `f` at offset `o` of its BAR0. -/
def Dev.vfWrite (d : Dev) (f o : Nat) (v : Word) : Dev :=
  if o % 8 ≠ 0 || d.stage = 0 then d
  else if 0x800 ≤ o ∧ o < 0x1000 then d.vfMsixWrite f o v
  else
    match d.vfOffset f o with
    | some a => d.busWrite a v
    | none => d

/-- What a 32-bit write makes of a whole register: its half takes the value; in the other half every RW field keeps its bits and no W1C bit is
written 1, so nothing there changes. -/
def narrowMerge (a : Nat) (old : Word) (h v : Nat) : Word :=
  let keep : Word := match regFam a with
    | some f => f.fields.foldl (fun w x => if x.acc == .rw then Fld.put ⟨x.lo, x.w⟩ w (Fld.of ⟨x.lo, x.w⟩ old) else w) 0
    | none => 0
  putHalf keep h v

/-- A 32-bit write of function `f` at offset `addr`: SYS of the PF, or the MSI-X table of a VF (R11, R477); a 32-bit write of SYS_LOAD_DATA is
discarded with STRAY (R567). -/
def Dev.narrowWrite (d : Dev) (f addr v : Nat) : Dev :=
  let a := addr / 8 * 8
  let h := addr / 4 % 2
  if d.stage = 0 then d
  else if f = 0 then
    if a = Reg.SYS_LOAD_DATA then d.sysLoad 0 0 4
    else d.sysWrite a (narrowMerge a (d.reg a) h v)
  else if 0x800 ≤ a then d.vfMsixWrite f a (putHalf (d.narrowWord f a) h v)
  else d

/-- A write of function `f`: 64 bits, or the low 32 bits of `v` where `narrow`. One that breaks R11 is discarded and logged in RUN. -/
def Dev.funcWrite (d : Dev) (f o : Nat) (v : Word) (narrow : Bool) : Dev :=
  if narrow then (if narrowOk f o 4 then d.narrowWrite f o (v.toNat % 2 ^ 32) else d.oddAccess f o 4 true)
  else if f = 0 then d.busWrite o v
  else d.vfWrite f o v

/-- VF_INFO of VF `f`: its number and how many groups it owns (R476). -/
def Dev.vfInfo (d : Dev) (f : Nat) : Word :=
  BitVec.ofNat 64 (f + 256 * min 32 ((List.range 512).filter fun g => d.fld (Reg.HIF_GROUP g) F.HIF_GROUP_FUNC = f).length)

/-- REGISTER_WRITE (R11, R16). Addresses below 0x1000_0000 are offsets in the PF's BAR0; an address f × 0x1000_0000 + o stands for offset o in
the BAR0 of VF f (log entry 13). -/
def execRegisterWrite (addr : Nat) (v : Word) (narrow : Bool) (s : State) : Host.Outcome State Fault Refusal :=
  let f := addr / 0x10000000
  let o := addr % 0x10000000
  .next { s with dev := if f < 16 then s.dev.funcWrite f o v narrow else s.dev }

/-! ### Held accesses (R536, R537) -/

/-- What a read of the register at `a` does: the value on the bus, and the effects of the registers that a read changes. -/
def Dev.busRead (d : Dev) (a : Nat) : Dev :=
  let e := (a - 0x400000) / 0x4000
  if a = Reg.TIM_TIME then d.timeRead
  else if 0x400000 ≤ a ∧ a < 0x800000 ∧ a = Reg.ENG_MEM_DATA e then d.engAccess e none .none
  else
    let rc : Bool := match regFam a with
      | some f => f.fields.any fun x => x.acc == .rc
      | none => false
    if rc then d.readClear a else { d with bus := d.view a }

/-- A 64-bit read of VF `f` at offset `o` of its BAR0 (R476, R477): before RUN all but the MSI-X tables read all ones (R564). -/
def Dev.vfRead (d : Dev) (f o : Nat) : Dev :=
  if 0x7F0 ≤ o ∧ o < 0x1000 then { d with bus := d.narrowWord f o }
  else if !d.up then { d with bus := BitVec.allOnes 64 }
  else if o = 0 then { d with bus := d.vfInfo f }
  else
    match d.vfOffset f o with
    | some a => d.access a none (·.busRead a)
    | none => { d with bus := 0 }

/-- A 64-bit read of function `f` (R11, R13). -/
def Dev.funcRead (d : Dev) (f o : Nat) : Dev :=
  if f ≠ 0 then d.vfRead f o
  else if o < 0x1000 then d.busRead o
  else d.access o none (·.busRead o)

/-- A read, or a write that brings no value, of function `f`. A read that R11 accepts is answered on the bus: 64 bits, or 32 bits where it
allows them; a write that it accepts is REGISTER_WRITE's, which brings the value. SYS answers from stage FUSE on (R564). Everything else breaks
R11, and R12 says what becomes of it in RUN. -/
def Dev.anyAccess (d : Dev) (f addr size : Nat) (write : Bool) : Dev :=
  if size = 8 ∧ addr % 8 = 0 then (if write || d.stage = 0 then d else d.funcRead f addr)
  else d.oddAccess f addr size write

/-- BAD_ACCESS (R12, R478). -/
def execBadAccess (f addr size : Nat) (write : Bool) (s : State) : Host.Outcome State Fault Refusal :=
  .next { s with dev := s.dev.anyAccess f addr size write }

/-- One held access goes on, or keeps waiting for another restart. -/
def Dev.replay (d : Dev) (x : Nat × Option Word) : Dev :=
  if !d.accessOpen x.1 then { d with flt := { d.flt with held := d.flt.held ++ [x] } }
  else
    match x.2 with
    | some v => d.openWrite x.1 v
    | none => d.busRead x.1

/-- A restart has released what it held: the accesses complete in order. -/
def Dev.replayHeld (d : Dev) : Dev :=
  d.flt.held.foldl Dev.replay { d with flt := { d.flt with held := [] } }

end Sys2Proof.Machine
end

