-- ==== Sys2Proof/Machine/RestartWork.lean ====
section
/-! DEFINITION. What block restarts and warm restarts discard and keep (R303, R339, R366, R519, R533, R534). Each function answers the
device and the packets and records discarded (RESTART_DISCARDS).
Readings of the manual that it takes are DEDUCED, in log entries 18, 28. -/

namespace Sys2Proof.Machine

/-! ### Pipes and the action unit (lines 0 to 15 and 99) -/

/-- The packet is in the regions of an ingress pipe: at its parser or between lookups. -/
def Stage.inPipe : Stage → Bool
  | .crossed => true
  | .lookups => true
  | .dramWait => true
  | _ => false

/-- The packet is in the regions of an egress pipe: dequeued and not yet whole in a rim. -/
def Stage.inEgress : Stage → Bool
  | .egress _ => true
  | .recirc => true
  | .hostWait => true
  | _ => false

/-- The packet is in the action unit: at the merge or at policing. -/
def Stage.inMerge : Stage → Bool
  | .merge => true
  | .police => true
  | _ => false

/-! ### Buffer (line 80, R339) -/

/-- The packet's multicast data is being copied. -/
def Stage.copying : Stage → Bool
  | .replicate => true
  | _ => false

/-- A packet that has left the buffer no longer refers to it. -/
def Pkt.noData (p : Pkt) : Pkt := { p with data := 0, recCell := 0, recOwn := 0, recSpill := 0 }

/-- Every record, all data and the staged captures go; packets dequeued before go on. -/
def Dev.bufferWipe (d : Dev) : Dev × Nat :=
  let (d, n) := d.scrapAll fun p => p.stage.copying
  let (d, m) := d.removeRecs 0 fun _ => true
  let lost := d.captures.length
  let d := { d with
    data := [], repls := [], captures := [], spillQ := []
    pkts := d.pkts.map fun (e : Nat × Pkt) => (e.1, e.2.noData) }
  (if lost = 0 then d else (d.count (Reg.BUF_COUNT 16) lost).raise 6 6, n + m)

/-! ### Scheduler (line 81, R366) -/

/-- Buckets are at their DEPTH, DC is 0 and pointers at child 0; a flush in progress ends. -/
def Dev.schWipe (d : Dev) : Dev := { d with buckets := [], drr := [] }.setFld Reg.SCH_FLUSH F.SCH_FLUSH_GO 0

/-! ### Engines (lines 82 to 97, R303) -/

/-- The first outstanding operation of thread `t` takes effect whole or not at all: which, is the device's choice (log entry 6). -/
def Dev.settleOp (d : Dev) (e t : Nat) : Dev :=
  match Map.find d.engines e with
  | none => d
  | some x =>
    let th := x.thread t
    match th.ops with
    | [] => d
    | o :: rest =>
      let (k, d) := d.fresh 2
      let (bs, d) := d.mixBytes o.seen (d.opBytes e o)
      let d := if k = 1 && o.reads.isNone && d.opOpen e o.kind then (d.opEffect e t th o bs .none).1 else d
      d.setThread e t { th with ops := rest }

/-- All outstanding operations of a thread. -/
def Dev.settleOps (d : Dev) (e t : Nat) : Nat → Dev
  | 0 => d
  | n + 1 => (d.settleOp e t).settleOps e t n

/-- Every outstanding operation of engine `e`. -/
def Dev.settleEngine (d : Dev) (e : Nat) : Dev :=
  (List.range 8).foldl (fun (d : Dev) t => d.settleOps e t 8) d

/-- The threads of engine `e` begin anew, resident ones of an ACTIVE program at once; data memory is loaded again. -/
def Dev.engineAgain (d : Dev) (e : Nat) : Dev :=
  match Map.find d.engines e with
  | none => d
  | some x =>
    let g := if (d.sec x.gen T.ENGINE_PROGRAM e).isSome then x.gen else 1 - x.gen
    let d := (d.setEngine e { x with threads := List.replicate 8 Thread.free, inq := [] }).engLoadData g e
    if d.engActive e then d.startResidents e else d

/-- The packet is at engine `e` for which `f` holds. -/
def Stage.atEngine (f : Nat → Bool) : Stage → Bool
  | .engineQueue e => f e
  | .engine e _ => f e
  | _ => false

/-- The engines for which `f` holds restart. -/
def Dev.enginesWipe (d : Dev) (f : Nat → Bool) : Dev × Nat :=
  let es := (d.engines.map (·.1)).filter f
  let d := es.foldl Dev.settleEngine d
  let (d, n) := d.scrapAll fun p => p.stage.atEngine f
  (es.foldl Dev.engineAgain d, n)

/-! ### Host interface (line 100, R519) -/

/-- The packet waits for the host and is not yet written. -/
def Stage.toHost : Stage → Bool
  | .delivery _ => true
  | .assigned _ _ => true
  | _ => false

/-- An entry in progress ends: its ordinary status when it had taken effect, else ABORTED, with the bytes a job has written. PAD and posted
RX_BUF entries stay. -/
def Dev.abortEntry (d : Dev) (r : Nat) (e : Entry) : Dev :=
  if !e.counted || e.finished then d
  else if e.effected then d.finish r { e with records := [] } e.status e.value
  else d.finish r { e with job := false } 0x01 (BitVec.ofNat 64 (if e.isJob then e.doneBytes else 0))

/-- The entries of ring `r`; its suspended accesses are given up, and fetching goes on from FETCH. -/
def Dev.abortRing (d : Dev) (r : Nat) : Dev :=
  let d := (d.sub r).prog.foldl (fun (d : Dev) e => d.abortEntry r e) d
  let d := d.setSub r { d.sub r with susps := [] }
  if d.ringState r = rsFaultWait then d.setRingState r rsActive else d

/-- An update that belongs to a command is withdrawn: the command has not taken effect. -/
def ChUpdate.free (u : ChUpdate) : Bool := u.cmd.isNone

/-- The DMA, ring engine and translation restart. -/
def Dev.hifAbort (d : Dev) : Dev × Nat :=
  let gone := d.pkts.filter fun e => e.2.stage.toHost
  let d := gone.foldl (fun (d : Dev) e => d.losePkt e.1 e.2 0) d
  let d := (d.hif.subs.map (·.1)).foldl Dev.abortRing d
  let d := { d with
    chQueues := (d.chQueues.map fun (x : Nat × List ChUpdate) => (x.1, x.2.filter ChUpdate.free)).filter fun x => !x.2.isEmpty
    fences := []
    hif := { d.hif with injects := [], tlb := [] } }
  (d, gone.length)

/-! ### Block restarts (R531, R533) -/

/-- The accumulators of the power manager as `d` holds them: a restart leaves them unchanged, whatever it discards (R442). -/
def Dev.keepAcc (d : Dev) (x : Dev × Nat) : Dev × Nat :=
  ((List.range 9).foldl (fun (e : Dev) k => e.setReg (Reg.PWR_ACC k) (d.reg (Reg.PWR_ACC k))) x.1, x.2)

/-- What the restart of line `n`'s block discards, and its own work. -/
def Dev.blockWork (d : Dev) (n : Nat) : Dev × Nat :=
  d.keepAcc <| if n < 8 then d.scrapAll fun p => p.stage.inPipe && p.get C.IN_PIPE = n
  else if n < 16 then d.scrapAll fun p => p.stage.inEgress && p.epipe = n - 8
  else if n < 80 then (d, 0)
  else if n = 80 then d.bufferWipe
  else if n = 81 then (d.schWipe, 0)
  else if n < 98 then d.enginesWipe fun e => e / 16 = n - 82
  else if n = 99 then d.scrapAll fun p => p.stage.inMerge
  else if n = 100 then d.hifAbort
  else (d, 0)

/-! ### Warm restarts (R89, R97, R192, R295, R303, R339, R366, R519, R534) -/

/-- The packet's bytes and completion are already on their way to the host. -/
def Stage.written : Stage → Bool
  | .delivered _ _ => true
  | _ => false

/-- Arbiter operations that wait take effect later or not at all (R169), as the device chooses. -/
def Dev.someOf {α : Type} (d : Dev) (l : List α) : List α × Dev :=
  l.foldl (fun (x : List α × Dev) o => let (k, d) := x.2.fresh 2; (if k = 1 then x.1 ++ [o] else x.1, d)) ([], d)

/-- Everything in flight and in the buffer goes, and every core block begins anew from retained state. -/
def Dev.warmWork (d : Dev) : Dev × Nat :=
  let d0 := d
  let d := d.loadAbort.flipDone
  let (d, a) := d.enginesWipe fun _ => true
  let (d, b) := d.hifAbort
  let (d, c) := d.scrapAll fun p => !p.stage.written
  let (d, e) := d.bufferWipe
  let (sets, d) := d.schWipe.someOf d.hitSets
  let d := { d with
    hitSets := sets, fawn := [], cands := [], frags := []
    credit := d.fld Reg.PRS_PUNT_RATE F.PRS_PUNT_RATE_BURST * 1000000000, creditAt := d.free }
  let d := match d.drainG with
    | some g => d.drainEnd g
    | none => d
  d0.keepAcc (d, a + b + c + e)

end Sys2Proof.Machine
end

