-- ==== Sys2Proof/Machine/Faults.lean ====
section
/-! DEFINITION. The fault collector (R525 to R530), its reactions, and the ends of restarts (R531 to R540).
Readings of the manual that it takes are DEDUCED, in log entry 28. -/

namespace Sys2Proof.Machine

/-! ### Echo windows (R538) -/

/-- The lines of region `g`: its own, and line 98 for the regions of the context store. -/
def regionLines (g : Nat) : List Nat := if 272 ≤ g ∧ g < 280 then [98, 99] else [regionLine g]

/-- The regions of line `n`'s block. -/
def lineRegions (n : Nat) : List Nat := (List.range 288).filter fun g => (regionLines g).contains n

/-- Line `n` belongs to a region adjacent to a region of line `b`'s block. -/
def lineNear (b n : Nat) : Bool := (lineRegions b).any fun g => (neighbours g).any fun h => (regionLines h).contains n

/-- Line `n` lies in an open echo window. The lines of adjacent regions join a block restart's window by its second microsecond, at a moment
of the device's own (log entry 6). -/
def Dev.inEcho (d : Dev) (n : Nat) : Bool × Dev :=
  if d.flt.warm.isSome && n ≤ 100 then (true, d)
  else if !d.lineUp n then (true, d)
  else
    let near := d.flt.blocks.filter fun b => lineNear b.1 n
    if near.isEmpty then (false, d)
    else if near.any fun b => d.passed b.2 2000 then (true, d)
    else
      let (k, d) := d.fresh 2
      (k = 1, d)

/-! ### The log and the counters (R527, R546, R547) -/

/-- The reactions of R525 and R530, numbered as FLT_LOG shows them. -/
inductive Reaction where
  | none | block | warm | eland
  deriving DecidableEq, Repr

def Reaction.code : Reaction → Nat
  | .none => 0
  | .block => 1
  | .warm => 2
  | .eland => 3

/-- What the collector has made of a fault. -/
structure Taken where
  rep : FaultRep
  cls : Nat                      -- class taken
  logic : Bool                   -- kind taken
  echo : Bool
  reaction : Reaction
  deriving DecidableEq, Repr

/-- The log entry of fault number `seq` at counter time `ns` (FLT_LOGi). -/
def logWord (t : Taken) (seq ns : Nat) : Word :=
  fldWord [(F.FLT_LOG_LINE, t.rep.line), (F.FLT_LOG_CLASS, t.cls), (F.FLT_LOG_ORIG, t.rep.cls),
    (F.FLT_LOG_ESCALATED, (t.cls != t.rep.cls).toNat), (F.FLT_LOG_ECHO, t.echo.toNat), (F.FLT_LOG_INJECTED, t.rep.injected.toNat),
    (F.FLT_LOG_KIND, t.logic.toNat), (F.FLT_LOG_REACTION, t.reaction.code), (F.FLT_LOG_SEQ, seq), (F.FLT_LOG_TIME_NS, ns)]

/-- Writes a fault into the log. -/
def Dev.logFault (d : Dev) (t : Taken) : Dev :=
  let i := d.fld Reg.FLT_LOG_PTR F.FLT_LOG_PTR_NEXT
  let d := d.setReg (Reg.FLT_LOG i) (logWord t d.flt.seq.toNat d.ns)
  let d := d.setFld Reg.FLT_LOG_PTR F.FLT_LOG_PTR_NEXT (i + 1)
  let d := if i = 63 then d.setFld Reg.FLT_LOG_PTR F.FLT_LOG_PTR_WRAPPED 1 else d
  { d with flt := { d.flt with seq := d.flt.seq + 1 } }

/-- Sets the bit of line `n` in FLT_STATUS or FLT_ECHO. -/
def Dev.markLine (d : Dev) (a n : Nat) : Dev :=
  let r := a + 8 * (n / 64)
  d.setReg r (d.reg r ||| BitVec.ofNat 64 (2 ^ (n % 64)))

/-- The line is pending. -/
def Dev.linePending (d : Dev) (n : Nat) : Bool := (d.reg (Reg.FLT_STATUS (n / 64))).getLsbD (n % 64)

/-- The field of FLT_LINEn that counts class `k`. -/
def lineCount (k : Nat) : Fld := if k = 1 then F.FLT_LINE_COUNT_C else if k = 2 then F.FLT_LINE_COUNT_U else F.FLT_LINE_COUNT_F

/-! ### Reactions (R525, R530, R540) -/

/-- The U reaction of line `n` is a block restart (R525). Lines 81, 99 and 100 restart for either kind. -/
def blockLine (n : Nat) (logic : Bool) : Bool := n = 81 || n = 99 || n = 100 || (logic && n < 98)

/-- The reaction to a fault of class `k`. A fault of class U on line 109 during an Eland restart may start it anew (log entry 6). -/
def Dev.reactionTo (d : Dev) (n k : Nat) (logic : Bool) : Reaction × Dev :=
  if !d.up then (.none, d)
  else if k = 3 then (if d.flt.warm.isSome then .none else .warm, d)
  else if k ≠ 2 then (.none, d)
  else if n = 109 then
    if d.flt.eland.isNone then (.eland, d)
    else
      let (x, d) := d.fresh 2
      (if x = 1 then .eland else .none, d)
  else (if blockLine n logic && d.flt.warm.isNone then .block else .none, d)

/-- Adds discarded packets and records to RESTART_DISCARDS. -/
def Dev.discarded (x : Dev × Nat) : Dev := if x.2 = 0 then x.1 else x.1.count (Reg.FLT_COUNT 7) x.2

/-- Starts a reaction on line `n`. -/
def Dev.react (d : Dev) (n : Nat) : Reaction → Dev
  | .none => d
  | .block =>
    let d := (d.count (Reg.FLT_COUNT 5) 1).setFld Reg.FLT_RESTART F.FLT_RESTART_LINE n
    Dev.discarded ({ d with flt := { d.flt with
      blocks := Map.put d.flt.blocks n d.free
      scrubAt := if 16 ≤ n ∧ n < 64 then .none else d.flt.scrubAt } }.blockWork n)
  | .warm =>
    let d := (d.count (Reg.FLT_COUNT 6) 1).setFld Reg.FLT_RESTART F.FLT_RESTART_LINE n
    let d := (Dev.discarded d.warmWork).setFld Reg.SYS_STAGE F.SYS_STAGE_WARM 1
    { d with flt := { d.flt with blocks := [], warm := some d.free, scrubAt := .none } }.enterStage 5
  | .eland =>
    let d := (d.count (Reg.FLT_COUNT 5) 1).setFld Reg.FLT_RESTART F.FLT_RESTART_LINE n
    { d with flt := { d.flt with eland := some d.free } }

/-! ### FAULT (R527, R539) -/

/-- A fault in an open window is only logged and counted. -/
def Dev.echoFault (d : Dev) (f : FaultRep) : Dev :=
  let d := (d.markLine (Reg.FLT_ECHO 0) f.line).satCount (Reg.FLT_LINE f.line) F.FLT_LINE_ECHOES 1
  ((d.count (Reg.FLT_COUNT 4) 1).logFault ⟨f, f.cls, f.logic, true, .none⟩).raise 15 3

/-- A fault outside every window: escalated when it repeats its line's pending class, latched, counted, logged, reacted to. -/
def Dev.realFault (d : Dev) (f : FaultRep) : Dev :=
  let n := f.line
  let esc := d.linePending n && d.fld (Reg.FLT_LINE n) F.FLT_LINE_CLASS = f.cls && f.cls ≠ 3
  let k := if esc then f.cls + 1 else f.cls
  let logic := esc || f.logic
  let d := if esc then d.count (Reg.FLT_COUNT 3) 1 else d
  let d := d.markLine (Reg.FLT_STATUS 0) n
  let d := d.setFld (Reg.FLT_LINE n) F.FLT_LINE_CLASS (max (d.fld (Reg.FLT_LINE n) F.FLT_LINE_CLASS) k)
  let d := (d.satCount (Reg.FLT_LINE n) (lineCount k) 1).count (Reg.FLT_COUNT (k - 1)) 1
  let (r, d) := d.reactionTo n k logic
  ((d.logFault ⟨f, k, logic, false, r⟩).raise 15 (k - 1)).react n r

/-- The fault `f` goes before `g`: it came earlier, or in the same cycle on a lower line or in a lower class. -/
def FaultRep.before (f g : FaultRep) : Bool :=
  f.at_ < g.at_ || (f.at_ = g.at_ && (f.line < g.line || (f.line = g.line && f.cls < g.cls)))

/-- The fault that the collector takes next. -/
def firstFault : List FaultRep → Option FaultRep
  | [] => none
  | f :: r =>
    match firstFault r with
    | some g => if g.before f then some g else some f
    | none => some f

/-- The collector takes one fault. In HALTED and POWER it takes none. -/
def Dev.fault (d : Dev) : Dev :=
  if d.stage = 0 || d.stage = 14 then d
  else
    match firstFault d.flt.queue with
    | none => d
    | some f =>
      let d := { d with flt := { d.flt with queue := d.flt.queue.erase f } }
      let (echo, d) := d.inEcho f.line
      if echo then d.echoFault f else d.realFault f

/-- FAULT (R527). -/
def execFault (s : State) : Host.Outcome State Fault Refusal := .next { s with dev := s.dev.fault }

/-! ### Ends of restarts (R531, R535, R537) -/

/-- FLT_RESTART.LAST_US of a restart that began at `t`. -/
def Dev.lastUs (d : Dev) (t : Nat) : Dev := d.setFld Reg.FLT_RESTART F.FLT_RESTART_LAST_US (min ((d.free - t) / 1000) 65535)

/-- The comparer begins a new sweep with the tables for which `f` holds (R236). -/
def Dev.cmpFront (d : Dev) (f : Nat → Bool) : Dev := if d.bit Reg.AAR_CMP_CTRL F.AAR_CMP_CTRL_EN then (d.cmpStart f).cmpShow else d

/-- Segments of Chamois region `n − 64` belong to table `t`. -/
def Dev.segOfLine (d : Dev) (n t : Nat) : Bool :=
  match d.tblDef t with
  | .cham b => (ccSegs b).any fun s => 64 + s / 4 = n
  | _ => false

/-- The restart of line `n`'s block releases its boundaries and closes its window. -/
def Dev.blockDone (d : Dev) (n : Nat) : Dev :=
  match Map.find d.flt.blocks n with
  | none => d
  | some t =>
    let d := { d with flt := { d.flt with blocks := Map.del d.flt.blocks n } }
    let d := if 64 ≤ n ∧ n < 80 then d.cmpFront (d.segOfLine n) else d
    ((d.lastUs t).raise 15 4).replayHeld

/-- BLOCK_RESTART_DONE (R531). -/
def execBlockRestartDone (n : Nat) (s : State) : Host.Outcome State Fault Refusal := .next { s with dev := s.dev.blockDone n }

/-- A warm restart ends in RUN from stage RELEASE, or halts: in stage RETAIN for a retained word bad in both copies, in stage RELEASE for a region. -/
def Dev.warmDone (d : Dev) (bad : Option Nat) : Dev :=
  match d.flt.warm with
  | none => d
  | some t =>
    match bad with
    | some x => if d.stage = 5 then d.haltWarm 0x05 x else d.haltWarm 0x06 x
    | none =>
      if d.stage ≠ 6 then d
      else
        let d := { d with flt := { d.flt with warm := none } }.enterStage 15
        ((d.cmpFront (fun _ => true)).lastUs t |>.raise 15 5).replayHeld

/-- WARM_RESTART_DONE (R535). -/
def execWarmRestartDone (bad : Option Nat) (s : State) : Host.Outcome State Fault Refusal := .next { s with dev := s.dev.warmDone bad }

/-- Eland's cores run again: held accesses complete, and the messages of the events raised meanwhile are sent (R537). -/
def Dev.elandDone (d : Dev) : Dev :=
  match d.flt.eland with
  | none => d
  | some t =>
    let late := d.hif.pend
    let d := { d with flt := { d.flt with eland := none }, hif := { d.hif with pend := [] } }.replayHeld
    ((late.foldl Dev.sendEvt d).lastUs t).raise 15 4

/-- ELAND_RESTART_DONE (R537). -/
def execElandRestartDone (s : State) : Host.Outcome State Fault Refusal := .next { s with dev := s.dev.elandDone }

end Sys2Proof.Machine
end

