-- ==== Sys2Proof/Machine/Ingress.lean ====
section
/-! DEFINITION. The receive rims and the crossings (R30, R31, R35, R42, R120 to R122, R380): FRAME_RX and CROSSING.
Readings of the manual that it takes are DEDUCED, in log entry 24. -/

namespace Sys2Proof.Machine

/-- A receive time as 40 bits of ns and 1/256 ns (R380): the counter at the frame's timestamp point, `ago` before it has been received whole, with
the port's RX latency added. -/
def Dev.rxTime (d : Dev) (n : Nat) (ago : BitVec 40) : BitVec 40 :=
  d.now40 - ago + BitVec.ofNat 40 (sext64 (d.fld (Reg.TIM_PORT_LAT n) F.TIM_PORT_LAT_RX) 16).toNat

/-- Bytes of the frames a receive rim holds, FCS included. -/
def rimBytes (l : List RxFrame) : Nat := l.foldl (fun n f => n + f.bytes.length + 4) 0

/-- Counts of a frame received whole with a good FCS (R122, R134); `frags` is the number of fragments that carried it, 0 for an express
frame. -/
def Dev.countRx (d : Dev) (n : Nat) (bs : List Byte) (frags : Nat) : Dev :=
  let d := (d.count (Reg.PRT_COUNT n 0) 1).count (Reg.PRT_COUNT n 1) bs.length
  let d := if slice bs 0 6 = List.replicate 6 0xFF then d.count (Reg.PRT_COUNT n 6) 1
    else if byteAt bs 0 % 2 = 1 then d.count (Reg.PRT_COUNT n 5) 1
    else d
  if frags = 0 ∨ n ≥ 128 then d else (d.count (Reg.PRT_COUNT n 18) 1).count (Reg.PRT_COUNT n 19) frags

/-- A good frame is stored in the quad's receive rim, or discarded whole when that is full (R31). -/
def Dev.storeRx (d : Dev) (n : Nat) (bs : List Byte) (ago : BitVec 40) : Dev :=
  let k := d.quadOf n
  let q := Map.getD d.rxq k []
  if rimBytes q + bs.length + 4 > 65536 then d.count (Reg.PRT_COUNT n 8) 1
  else { d with rxq := Map.put d.rxq k (q ++ [⟨n, bs, d.rxTime n ago⟩]) }

/-- FRAME_RX on port `n` (R120, R121); `bs` is the frame without its FCS. -/
def Dev.frameRx (d : Dev) (n : Nat) (bs : List Byte) (fcsOk : Bool) (ago : BitVec 40) (frags : Nat) : Dev :=
  if n ≥ 130 ∨ d.portState n ≠ stUp then d
  else if bs.length + 4 < 64 then d.count (Reg.PRT_COUNT n 4) 1
  else if bs.length + 4 > F.PRT_MODE_MAX_FRAME.of (d.modeOf n) then d.count (Reg.PRT_COUNT n 3) 1
  else if !fcsOk then
    let d := d.count (Reg.PRT_COUNT n 2) 1
    if frags = 0 ∨ n ≥ 128 then d else d.count (Reg.PRT_COUNT n 16) 1
  else
    let d := d.countRx n bs frags
    if be16 bs 12 = 0x8808 then d.count (Reg.PRT_COUNT n 7) 1 else d.storeRx n bs ago

/-- FRAME_RX (R120). -/
def execFrameRx (port : Nat) (bytes : List Byte) (fcsOk : Bool) (ago : BitVec 40) (frags : Nat) (s : State) :
    Host.Outcome State Fault Refusal :=
  .next { s with dev := if s.dev.up then s.dev.frameRx port bytes fcsOk ago frags else s.dev }

/-- CROSSING of quad `k`: the oldest frame of the port whose turn it is at its pipe takes a general-pool context; while there is none, or
another source has the turn, the frames of this rim wait (R30, R35, R42). -/
def Dev.crossing (d : Dev) (k : Nat) : Dev :=
  let q := Map.getD d.rxq k []
  match q.find? fun f => d.inTurn (pipeOfPort f.port) f.port with
  | none => d
  | some f =>
    if !d.poolFree || !d.lineUp (pipeOfPort f.port) then d
    else
      let r := q.eraseP fun g => g.port == f.port
      let (c, p, d) := (d.granted (pipeOfPort f.port) f.port).newPkt f.port f.port (pipeOfPort f.port) f.ts.toNat f.bytes
      { d with rxq := if r.isEmpty then Map.del d.rxq k else Map.put d.rxq k r }.setPkt c p

/-- CROSSING (R44). -/
def execCrossing (quad : Nat) (s : State) : Host.Outcome State Fault Refusal :=
  .next { s with dev := if s.dev.running then s.dev.crossing quad else s.dev }

end Sys2Proof.Machine
end

