-- ==== Sys2Proof/Machine/Records.lean ====
section
/-! DEFINITION. Records that blocks write to completion rings (R192, R291, R336, R383, R394, R492, R500). -/

namespace Sys2Proof.Machine

/-- The bytes of an atom of a staged record as the ring writer received them; what it takes from an uncorrectable read the manual does not state
(log entry 20). -/
def Dev.stagedAtom (d : Dev) (l : List DAns) (a : Nat) : Dev × List Byte :=
  match l.find? fun y => y.addr == a with
  | some y =>
    if y.bad = 0 then (d, y.bytes)
    else
      let (v, d) := d.fresh (2 ^ 512)
      (d, leBytes 64 v)
  | none => (d, List.replicate 64 0)

/-- The bytes of a staged record. -/
def Dev.stagedBytes (d : Dev) (l : List DAns) : List Nat → Dev × List Byte
  | [] => (d, [])
  | a :: r =>
    let (d, x) := d.stagedAtom l a
    let (d, y) := d.stagedBytes l r
    (d, x ++ y)

/-- CAPTURE_RECORD_WRITE: the ring writer reads the oldest staged capture record out of DRAM, and once it has been read the record goes to its
session's ring (R336, R451). -/
def Dev.captureWrite (d : Dev) : Dev × HostWrites :=
  match d.captures with
  | [] => (d, [])
  | r :: t =>
    if !r.asked then
      ({ d with captures := { r with asked := true } :: t : Dev }.readAtoms 2 r.atoms r.tag, [])
    else if d.dramWaits r.tag then (d, [])
    else
      let (d', bs) := d.stagedBytes (d.answersOf r.tag) r.atoms
      let (d'', w) := d'.record r.ring 0x82 (bytesWords bs r.len) fun d => { d with captures := t }.takeAnswers r.tag
      if w.isEmpty then (d, []) else (d'', w)

/-- CAPTURE_RECORD_WRITE (R336). -/
def execCaptureRecordWrite (s : State) : Host.Outcome State Fault Refusal :=
  .next (if s.dev.hifOn then s.wrote s.dev.captureWrite else s)

/-- TS_REPORT_WRITE: the oldest transmit timestamp report goes to the report ring (R383). -/
def Dev.tsReportWrite (d : Dev) : Dev × HostWrites :=
  match d.tim.tsq with
  | [] => (d, [])
  | r :: t =>
    if d.bit Reg.TIM_TS_RING F.TIM_TS_RING_EN then
      d.record (d.fld Reg.TIM_TS_RING F.TIM_TS_RING_RING) 0x83 r.words fun d => { d with tim := { d.tim with tsq := t } }.count (Reg.TIM_COUNT 0) 1
    else (d, [])

/-- TS_REPORT_WRITE (R383). -/
def execTsReportWrite (s : State) : Host.Outcome State Fault Refusal :=
  .next (if s.dev.hifOn then s.wrote s.dev.tsReportWrite else s)

/-- CAP_RECORD_WRITE: the oldest capture-input record goes to the capture ring (R394). -/
def Dev.capRecordWrite (d : Dev) : Dev × HostWrites :=
  match d.tim.capq with
  | [] => (d, [])
  | r :: t =>
    if d.bit Reg.TIM_CAP_RING F.TIM_CAP_RING_EN then
      d.record (d.fld Reg.TIM_CAP_RING F.TIM_CAP_RING_RING) 0x84 r.words fun d => { d with tim := { d.tim with capq := t } }.count (Reg.TIM_COUNT 4) 1
    else (d, [])

/-- CAP_RECORD_WRITE (R394). -/
def execCapRecordWrite (s : State) : Host.Outcome State Fault Refusal :=
  .next (if s.dev.hifOn then s.wrote s.dev.capRecordWrite else s)

/-- NOTIFICATION_WRITE: the head of the notification queue goes to the notification ring (R192). -/
def Dev.noteWrite (d : Dev) : Dev × HostWrites :=
  match d.notes with
  | [] => (d, [])
  | r :: t =>
    if d.bit Reg.TBL_NOTIFY_RING F.TBL_NOTIFY_RING_EN then
      d.record (d.fld Reg.TBL_NOTIFY_RING F.TBL_NOTIFY_RING_RING) 0x80 r.words fun d => { d with notes := t }
    else (d, [])

/-- NOTIFICATION_WRITE (R192). -/
def execNotificationWrite (s : State) : Host.Outcome State Fault Refusal :=
  .next (if s.dev.hifOn then s.wrote s.dev.noteWrite else s)

/-- The words of a message record without its header (R291). -/
def EngMsg.words (m : EngMsg) (e : Nat) : List Word :=
  let n := m.payload.length
  let w1 := e + m.thread * 2 ^ 8 + n * 2 ^ 11 + m.time.toNat * 2 ^ 32
  [0, BitVec.ofNat 64 w1] ++ bytesWords m.payload ((n + 7) / 8)

/-- ENG_MSG_WRITE: the oldest message of engine `e` goes to the message ring, when that is enabled (R291). -/
def Dev.msgWrite (d : Dev) (e : Nat) : Dev × HostWrites :=
  match Map.find d.engines e with
  | none => (d, [])
  | some x =>
    match x.msgs with
    | [] => (d, [])
    | m :: t =>
      if d.bit Reg.ENG_MSG_RING F.ENG_MSG_RING_EN then
        d.record (d.fld Reg.ENG_MSG_RING F.ENG_MSG_RING_RING) 0x81 (m.words e) fun d =>
          { d with engines := Map.put d.engines e { x with msgs := t } }.count (Reg.ENG_GCOUNT 5) 1
      else (d, [])

/-- ENG_MSG_WRITE (R291). -/
def execEngMsgWrite (e : Nat) (s : State) : Host.Outcome State Fault Refusal :=
  .next (if s.dev.hifOn then s.wrote (s.dev.msgWrite e) else s)

end Sys2Proof.Machine
end

