-- ==== Sys2Proof/Machine/Dispatch.lean ====
section
/-! DEFINITION. The commands of the block: one arm per constructor, one call of its meaning. -/

namespace Sys2Proof.Machine

/-- The effect of a command on everything but the queue. -/
def exec (i : Instr) (s : State) : Host.Outcome State Fault Refusal :=
  match i with
  | .frameRx port bytes fcsOk ago frags => Sys2Proof.Machine.execFrameRx port bytes fcsOk ago frags s
  | .crossing quad => Sys2Proof.Machine.execCrossing quad s
  | .parse ctx => Sys2Proof.Machine.execParse ctx s
  | .lookup ctx err => Sys2Proof.Machine.execLookup ctx err s
  | .dramLpmRead ctx => Sys2Proof.Machine.execDramLpmRead ctx s
  | .chamoisSearch ctx => Sys2Proof.Machine.execChamoisSearch ctx s
  | .actionMerge ctx bad errs => Sys2Proof.Machine.execActionMerge ctx bad errs s
  | .police ctx => Sys2Proof.Machine.execPolice ctx s
  | .admission ctx bad => Sys2Proof.Machine.execAdmission ctx bad s
  | .mcCopy ctx => Sys2Proof.Machine.execMcCopy ctx s
  | .recordLink port => Sys2Proof.Machine.execRecordLink port s
  | .residueMove port => Sys2Proof.Machine.execResidueMove port s
  | .residueTimeout port => Sys2Proof.Machine.execResidueTimeout port s
  | .captureRecordWrite => Sys2Proof.Machine.execCaptureRecordWrite s
  | .dequeue port err => Sys2Proof.Machine.execDequeue port err s
  | .egressRewrite ctx err err2 => Sys2Proof.Machine.execEgressRewrite ctx err err2 s
  | .frameTx ctx dev cut => Sys2Proof.Machine.execFrameTx ctx dev cut s
  | .tsReportWrite => Sys2Proof.Machine.execTsReportWrite s
  | .recircReturn ctx => Sys2Proof.Machine.execRecircReturn ctx s
  | .hostDelivery ctx => Sys2Proof.Machine.execHostDelivery ctx s
  | .rxAssign ring => Sys2Proof.Machine.execRxAssign ring s
  | .hostInject => Sys2Proof.Machine.execHostInject s
  | .threadTake e => Sys2Proof.Machine.execThreadTake e s
  | .engSum e t f => Sys2Proof.Machine.execEngSum e t f s
  | .engDif e t f => Sys2Proof.Machine.execEngDif e t f s
  | .engMsk e t f => Sys2Proof.Machine.execEngMsk e t f s
  | .engJoin e t f => Sys2Proof.Machine.execEngJoin e t f s
  | .engFlip e t f => Sys2Proof.Machine.execEngFlip e t f s
  | .engLsl e t f => Sys2Proof.Machine.execEngLsl e t f s
  | .engLsr e t f => Sys2Proof.Machine.execEngLsr e t f s
  | .engMull e t f => Sys2Proof.Machine.execEngMull e t f s
  | .engLess e t f => Sys2Proof.Machine.execEngLess e t f s
  | .engSumk e t f => Sys2Proof.Machine.execEngSumk e t f s
  | .engMskk e t f => Sys2Proof.Machine.execEngMskk e t f s
  | .engJoink e t f => Sys2Proof.Machine.execEngJoink e t f s
  | .engFlipk e t f => Sys2Proof.Machine.execEngFlipk e t f s
  | .engLslk e t f => Sys2Proof.Machine.execEngLslk e t f s
  | .engLsrk e t f => Sys2Proof.Machine.execEngLsrk e t f s
  | .engField e t f => Sys2Proof.Machine.execEngField e t f s
  | .engSeth e t f => Sys2Proof.Machine.execEngSeth e t f s
  | .engPuth e t f => Sys2Proof.Machine.execEngPuth e t f s
  | .engDld e t f m => Sys2Proof.Machine.execEngDld e t f m s
  | .engDst e t f => Sys2Proof.Machine.execEngDst e t f s
  | .engPld e t f => Sys2Proof.Machine.execEngPld e t f s
  | .engPst e t f => Sys2Proof.Machine.execEngPst e t f s
  | .engCld e t f => Sys2Proof.Machine.execEngCld e t f s
  | .engCst e t f => Sys2Proof.Machine.execEngCst e t f s
  | .engIfeq e t f => Sys2Proof.Machine.execEngIfeq e t f s
  | .engIfne e t f => Sys2Proof.Machine.execEngIfne e t f s
  | .engIflo e t f => Sys2Proof.Machine.execEngIflo e t f s
  | .engIfhs e t f => Sys2Proof.Machine.execEngIfhs e t f s
  | .engIfz e t f => Sys2Proof.Machine.execEngIfz e t f s
  | .engIfnz e t f => Sys2Proof.Machine.execEngIfnz e t f s
  | .engCall e t f => Sys2Proof.Machine.execEngCall e t f s
  | .engGoto e t f => Sys2Proof.Machine.execEngGoto e t f s
  | .engTlk e t f => Sys2Proof.Machine.execEngTlk e t f s
  | .engCnt e t f => Sys2Proof.Machine.execEngCnt e t f s
  | .engCrc e t f => Sys2Proof.Machine.execEngCrc e t f s
  | .engWait e t f => Sys2Proof.Machine.execEngWait e t f s
  | .engMsg e t f => Sys2Proof.Machine.execEngMsg e t f s
  | .engNewp e t f => Sys2Proof.Machine.execEngNewp e t f s
  | .engTime e t f => Sys2Proof.Machine.execEngTime e t f s
  | .engSleep e t f => Sys2Proof.Machine.execEngSleep e t f s
  | .engCharge e t f => Sys2Proof.Machine.execEngCharge e t f s
  | .engHeadadj e t f => Sys2Proof.Machine.execEngHeadadj e t f s
  | .engSend e t f => Sys2Proof.Machine.execEngSend e t f s
  | .engDrop e t f => Sys2Proof.Machine.execEngDrop e t f s
  | .engTrap e t f => Sys2Proof.Machine.execEngTrap e t f s
  | .fragLookup e t j m => Sys2Proof.Machine.execFragLookup e t j m s
  | .fragInsert e t j m => Sys2Proof.Machine.execFragInsert e t j m s
  | .fragAdd e t j m => Sys2Proof.Machine.execFragAdd e t j m s
  | .fragDelete e t j m => Sys2Proof.Machine.execFragDelete e t j m s
  | .asyncOpComplete e t j m err => Sys2Proof.Machine.execAsyncOpComplete e t j m err s
  | .sleepWake e t => Sys2Proof.Machine.execSleepWake e t s
  | .engMsgWrite e => Sys2Proof.Machine.execEngMsgWrite e s
  | .fragExpired j => Sys2Proof.Machine.execFragExpired j s
  | .engFragFlush => Sys2Proof.Machine.execEngFragFlush s
  | .engMemAccess e data m => Sys2Proof.Machine.execEngMemAccess e data m s
  | .tabInsert r j => Sys2Proof.Machine.execTabInsert r j s
  | .tabDelete r j => Sys2Proof.Machine.execTabDelete r j s
  | .tabSearch r j err => Sys2Proof.Machine.execTabSearch r j err s
  | .tabNext r j err => Sys2Proof.Machine.execTabNext r j err s
  | .tabFlushPort r j => Sys2Proof.Machine.execTabFlushPort r j s
  | .tabAgeScan r j => Sys2Proof.Machine.execTabAgeScan r j s
  | .tabFence r j => Sys2Proof.Machine.execTabFence r j s
  | .tabFlow r j err => Sys2Proof.Machine.execTabFlow r j err s
  | .fenceDone r j => Sys2Proof.Machine.execFenceDone r j s
  | .fenceTimeout r j => Sys2Proof.Machine.execFenceTimeout r j s
  | .agingTest r j err => Sys2Proof.Machine.execAgingTest r j err s
  | .hitBitSet => Sys2Proof.Machine.execHitBitSet s
  | .correctionWriteBack => Sys2Proof.Machine.execCorrectionWriteBack s
  | .learnCandidate => Sys2Proof.Machine.execLearnCandidate s
  | .fawnExpired j => Sys2Proof.Machine.execFawnExpired j s
  | .notificationWrite => Sys2Proof.Machine.execNotificationWrite s
  | .chamoisUpdate g => Sys2Proof.Machine.execChamoisUpdate g s
  | .compareIndex entries data => Sys2Proof.Machine.execCompareIndex entries data s
  | .cmpRestart => Sys2Proof.Machine.execCmpRestart s
  | .strLoadStart v => Sys2Proof.Machine.execStrLoadStart v s
  | .strLoadAbort => Sys2Proof.Machine.execStrLoadAbort s
  | .strLoadData v => Sys2Proof.Machine.execStrLoadData v s
  | .strFlashRead data => Sys2Proof.Machine.execStrFlashRead data s
  | .loadDone => Sys2Proof.Machine.execLoadDone s
  | .strFlip => Sys2Proof.Machine.execStrFlip s
  | .flipDone => Sys2Proof.Machine.execFlipDone s
  | .drainDone => Sys2Proof.Machine.execDrainDone s
  | .drainSlow => Sys2Proof.Machine.execDrainSlow s
  | .strForce => Sys2Proof.Machine.execStrForce s
  | .fuseProgram v => Sys2Proof.Machine.execFuseProgram v s
  | .fuseRevoke v => Sys2Proof.Machine.execFuseRevoke v s
  | .fuseOpDone ok => Sys2Proof.Machine.execFuseOpDone ok s
  | .portAdminUp n => Sys2Proof.Machine.execPortAdminUp n s
  | .portAdminDown n => Sys2Proof.Machine.execPortAdminDown n s
  | .portRestart n => Sys2Proof.Machine.execPortRestart n s
  | .basePageExchange n lp => Sys2Proof.Machine.execBasePageExchange n lp s
  | .trainDone n => Sys2Proof.Machine.execTrainDone n s
  | .trainFail n => Sys2Proof.Machine.execTrainFail n s
  | .linkUp n => Sys2Proof.Machine.execLinkUp n s
  | .alignTimeout n => Sys2Proof.Machine.execAlignTimeout n s
  | .linkDown n => Sys2Proof.Machine.execLinkDown n s
  | .remoteFault n rf => Sys2Proof.Machine.execRemoteFault n rf s
  | .holdExpired n => Sys2Proof.Machine.execHoldExpired n s
  | .mmVerifySend n => Sys2Proof.Machine.execMmVerifySend n s
  | .mmVerifyResponse n => Sys2Proof.Machine.execMmVerifyResponse n s
  | .rclkSquelch k => Sys2Proof.Machine.execRclkSquelch k s
  | .rclkSelect k v => Sys2Proof.Machine.execRclkSelect k v s
  | .puntRateWrite v => Sys2Proof.Machine.execPuntRateWrite v s
  | .prsMalLastRead => Sys2Proof.Machine.execPrsMalLastRead s
  | .costCalDisable k => Sys2Proof.Machine.execCostCalDisable k s
  | .spillCtrlWrite v => Sys2Proof.Machine.execSpillCtrlWrite v s
  | .msessAWrite n v => Sys2Proof.Machine.execMsessAWrite n v s
  | .schFlush v => Sys2Proof.Machine.execSchFlush v s
  | .flushDone => Sys2Proof.Machine.execFlushDone s
  | .shaperWrite kind n v => Sys2Proof.Machine.execShaperWrite kind n v s
  | .policerWrite p v => Sys2Proof.Machine.execPolicerWrite p v s
  | .timTimeRead => Sys2Proof.Machine.execTimTimeRead s
  | .timStep v => Sys2Proof.Machine.execTimStep v s
  | .hartSample v => Sys2Proof.Machine.execHartSample v s
  | .hartClear => Sys2Proof.Machine.execHartClear s
  | .refSelect sel => Sys2Proof.Machine.execRefSelect sel s
  | .pllRelock => Sys2Proof.Machine.execPllRelock s
  | .refLost => Sys2Proof.Machine.execRefLost s
  | .ppsEdge rising dev => Sys2Proof.Machine.execPpsEdge rising dev s
  | .ppsSlotEnd => Sys2Proof.Machine.execPpsSlotEnd s
  | .ppsExpectWrite v => Sys2Proof.Machine.execPpsExpectWrite v s
  | .triggerArm k v => Sys2Proof.Machine.execTriggerArm k v s
  | .triggerDisarm k => Sys2Proof.Machine.execTriggerDisarm k s
  | .triggerFire k => Sys2Proof.Machine.execTriggerFire k s
  | .ppsOutEnable v => Sys2Proof.Machine.execPpsOutEnable v s
  | .captureEdge k rising dev => Sys2Proof.Machine.execCaptureEdge k rising dev s
  | .capRecordWrite => Sys2Proof.Machine.execCapRecordWrite s
  | .timCapLastRead k => Sys2Proof.Machine.execTimCapLastRead k s
  | .cfgChange n v => Sys2Proof.Machine.execCfgChange n v s
  | .gateCancel n => Sys2Proof.Machine.execGateCancel n s
  | .gateChange n => Sys2Proof.Machine.execGateChange n s
  | .gateCycleStart n => Sys2Proof.Machine.execGateCycleStart n s
  | .gateEntry n => Sys2Proof.Machine.execGateEntry n s
  | .gateOversize q => Sys2Proof.Machine.execGateOversize q s
  | .gateDisable n v => Sys2Proof.Machine.execGateDisable n v s
  | .paceMeasure g pace => Sys2Proof.Machine.execPaceMeasure g pace s
  | .trimStep g => Sys2Proof.Machine.execTrimStep g s
  | .sensorRead temps => Sys2Proof.Machine.execSensorRead temps s
  | .feedFrame vc ic => Sys2Proof.Machine.execFeedFrame vc ic s
  | .forecastTick => Sys2Proof.Machine.execForecastTick s
  | .alarmEdge k rising => Sys2Proof.Machine.execAlarmEdge k rising s
  | .fastAlert => Sys2Proof.Machine.execFastAlert s
  | .fastAlertRearm => Sys2Proof.Machine.execFastAlertRearm s
  | .ladderStep => Sys2Proof.Machine.execLadderStep s
  | .ladderRelax => Sys2Proof.Machine.execLadderRelax s
  | .floorWrite v => Sys2Proof.Machine.execFloorWrite v s
  | .ladderDisable v => Sys2Proof.Machine.execLadderDisable v s
  | .rungWrite k v => Sys2Proof.Machine.execRungWrite k v s
  | .railStep k ok => Sys2Proof.Machine.execRailStep k ok s
  | .railTelemetry k read => Sys2Proof.Machine.execRailTelemetry k read s
  | .railWrite k v ok => Sys2Proof.Machine.execRailWrite k v ok s
  | .recalibration => Sys2Proof.Machine.execRecalibration s
  | .dramRequest cls addr data => Sys2Proof.Machine.execDramRequest cls addr data s
  | .dramCommand chan sub err => Sys2Proof.Machine.execDramCommand chan sub err s
  | .rowClose chan bank => Sys2Proof.Machine.execRowClose chan bank s
  | .refreshInterval chan => Sys2Proof.Machine.execRefreshInterval chan s
  | .mr4Read chan rr hot => Sys2Proof.Machine.execMr4Read chan rr hot s
  | .spRequest v => Sys2Proof.Machine.execSpRequest v s
  | .spPhaseDone chan => Sys2Proof.Machine.execSpPhaseDone chan s
  | .trainStepDone chan ok => Sys2Proof.Machine.execTrainStepDone chan ok s
  | .dqsOscRead chan drifts => Sys2Proof.Machine.execDqsOscRead chan drifts s
  | .dmcTrainGo v => Sys2Proof.Machine.execDmcTrainGo v s
  | .spRateWrite k v => Sys2Proof.Machine.execSpRateWrite k v s
  | .reserveWrite v => Sys2Proof.Machine.execReserveWrite v s
  | .dmcEccLastRead => Sys2Proof.Machine.execDmcEccLastRead s
  | .doorbell g => Sys2Proof.Machine.execDoorbell g s
  | .doorbellScan g => Sys2Proof.Machine.execDoorbellScan g s
  | .entryFetch r words => Sys2Proof.Machine.execEntryFetch r words s
  | .subPad r j => Sys2Proof.Machine.execSubPad r j s
  | .subNop r j => Sys2Proof.Machine.execSubNop r j s
  | .subCopy r j => Sys2Proof.Machine.execSubCopy r j s
  | .subWriteInline r j => Sys2Proof.Machine.execSubWriteInline r j s
  | .subTx r j data => Sys2Proof.Machine.execSubTx r j data s
  | .subRxBuf r j => Sys2Proof.Machine.execSubRxBuf r j s
  | .subXltInv r j => Sys2Proof.Machine.execSubXltInv r j s
  | .xltInvDone r j => Sys2Proof.Machine.execXltInvDone r j s
  | .dmaChunk r j data => Sys2Proof.Machine.execDmaChunk r j data s
  | .completionWrite r => Sys2Proof.Machine.execCompletionWrite r s
  | .ringPiWrite r v => Sys2Proof.Machine.execRingPiWrite r v s
  | .ringCiWrite c v => Sys2Proof.Machine.execRingCiWrite c v s
  | .ringArm c => Sys2Proof.Machine.execRingArm c s
  | .ringEnable r => Sys2Proof.Machine.execRingEnable r s
  | .ringReset r => Sys2Proof.Machine.execRingReset r s
  | .ringResume r => Sys2Proof.Machine.execRingResume r s
  | .ringSkip r => Sys2Proof.Machine.execRingSkip r s
  | .ringStopped r => Sys2Proof.Machine.execRingStopped r s
  | .xltWalk r kind j iova write entries => Sys2Proof.Machine.execXltWalk r kind j iova write entries s
  | .faultRecordWrite f => Sys2Proof.Machine.execFaultRecordWrite f s
  | .pcieLinkChange speed width => Sys2Proof.Machine.execPcieLinkChange speed width s
  | .hostReset => Sys2Proof.Machine.execHostReset s
  | .vfFlr f => Sys2Proof.Machine.execVfFlr f s
  | .badAccess f addr size write => Sys2Proof.Machine.execBadAccess f addr size write s
  | .hifAccessLogRead => Sys2Proof.Machine.execHifAccessLogRead s
  | .eventWrite src mask v => Sys2Proof.Machine.execEventWrite src mask v s
  | .fault => Sys2Proof.Machine.execFault s
  | .blockRestartDone n => Sys2Proof.Machine.execBlockRestartDone n s
  | .warmRestartDone bad => Sys2Proof.Machine.execWarmRestartDone bad s
  | .elandRestartDone => Sys2Proof.Machine.execElandRestartDone s
  | .protocolViolation g => Sys2Proof.Machine.execProtocolViolation g s
  | .regionStall g => Sys2Proof.Machine.execRegionStall g s
  | .elandWatchdog => Sys2Proof.Machine.execElandWatchdog s
  | .faultAck k v => Sys2Proof.Machine.execFaultAck k v s
  | .fltInject v => Sys2Proof.Machine.execFltInject v s
  | .tileRepair v => Sys2Proof.Machine.execTileRepair v s
  | .scrubWord err => Sys2Proof.Machine.execScrubWord err s
  | .tblEccLastRead => Sys2Proof.Machine.execTblEccLastRead s
  | .aarCmpLastRead => Sys2Proof.Machine.execAarCmpLastRead s
  | .engTrapLastRead e => Sys2Proof.Machine.execEngTrapLastRead e s
  | .pmcOverflow c => Sys2Proof.Machine.execPmcOverflow c s
  | .pmcSnap g => Sys2Proof.Machine.execPmcSnap g s
  | .pmcClear g => Sys2Proof.Machine.execPmcClear g s
  | .pmcCntWrite c v ovf => Sys2Proof.Machine.execPmcCntWrite c v ovf s
  | .pmcUnfreeze g => Sys2Proof.Machine.execPmcUnfreeze g s
  | .coldReset => Sys2Proof.Machine.execColdReset s
  | .coldStart straps => Sys2Proof.Machine.execColdStart straps s
  | .coldReq v sideband => Sys2Proof.Machine.execColdReq v sideband s
  | .perst level => Sys2Proof.Machine.execPerst level s
  | .fuseStageDone bad => Sys2Proof.Machine.execFuseStageDone bad s
  | .selftestDone bad => Sys2Proof.Machine.execSelftestDone bad s
  | .rimsDone bad => Sys2Proof.Machine.execRimsDone bad s
  | .streamStageDone => Sys2Proof.Machine.execStreamStageDone s
  | .retainDone bad fixed => Sys2Proof.Machine.execRetainDone bad fixed s
  | .releaseDone bad rails => Sys2Proof.Machine.execReleaseDone bad rails s
  | .sysLoadData v f size => Sys2Proof.Machine.execSysLoadData v f size s
  | .sbWrite off data => Sys2Proof.Machine.execSbWrite off data s
  | .sbRead off n => Sys2Proof.Machine.execSbRead off n s
  | .sbTimeout => Sys2Proof.Machine.execSbTimeout s
  | .sbStatusRead => Sys2Proof.Machine.execSbStatusRead s
  | .registerWrite addr v narrow => Sys2Proof.Machine.execRegisterWrite addr v narrow s
  | .engFrag e t f => Sys2Proof.Machine.execEngFrag e t f s
  | .triggerPulseEnd k => Sys2Proof.Machine.execTriggerPulseEnd k s
  | .sourceLaneLock k => Sys2Proof.Machine.execSourceLaneLock k s

end Sys2Proof.Machine
end

