-- ==== Sys2Proof/Machine/Tick.lean ====
section
/-! DEFINITION. One nanosecond without a command (log entry 14): the clocks, the spill writer and the counters of time and of beats (R311, R320, R370 to R373,
R417, R467, R551, R575). -/

namespace Sys2Proof.Machine

/-- The time counter advances by (1 + ADJ × 2^-40) ns, and TIM_FREE by 1 ns, once the rim's PLL has locked. -/
def Dev.clockTick (d : Dev) : Dev :=
  if d.tim.locked then
    let adj := signed (d.fld Reg.TIM_RATE F.TIM_RATE_ADJ) 32
    { d with tim := { d.tim with cnt := d.tim.cnt + BitVec.ofInt 72 (1099511627776 + adj), free := d.tim.free + 1 } }.pmcTick
  else d

/-- The spill writer writes some of the cells it holds to DRAM, oldest first; how many in a nanosecond is the device's own (log entry 6). -/
def Dev.spillTick (d : Dev) : Dev :=
  if d.spillQ.isEmpty || !d.running then d
  else
    let (k, d) := d.fresh (d.spillQ.length + 1)
    let out := d.spillQ.take k
    out.foldl (fun (d : Dev) e => d.dramWrite 1 e.1 e.2 0) { d with spillQ := d.spillQ.drop k }

/-- BUSY_NS of a channel with a request outstanding. -/
def Dev.busyTick (d : Dev) : Dev :=
  (List.range 4).foldl (fun (d : Dev) n =>
    let c := d.chan n
    if c.reqs.isEmpty && c.wbuf.isEmpty then d else d.count (Reg.DMC_COUNT n 13) 1) d

/-- An engine with work and no thread in RUN (R311). -/
def Engine.idles (x : Engine) : Bool :=
  x.threads.all (fun th => th.st != .run) && (!x.inq.isEmpty || x.threads.any fun th => th.st != .free)

/-- STALL_BEATS of each engine; how many beats a nanosecond brings is a free value up to what PACE allows (R417, log entry 12). -/
def Dev.stallTick (d : Dev) : Dev :=
  d.engines.foldl (fun (d : Dev) e =>
    if e.2.idles && d.clusterUp e.1 then
      let (k, d) := d.fresh (d.beatsMax (256 + e.1 / 16) + 1)
      d.count (Reg.ENG_COUNT e.1 6) k
    else d) d

/-- What the line brings in a nanosecond without a frame: codewords that FEC corrects or cannot correct, and MAC Merge frames with a bad SMD; how
many is a free value (R134, log entry 12). -/
def Dev.lineTick (d : Dev) : Dev :=
  d.ports.foldl (fun (d : Dev) e =>
    let n := e.1
    if d.portState n ≠ stUp then d
    else
      let d := if d.fld (Reg.PRT_STATUS n) F.PRT_STATUS_RES_FEC = 0 then d
        else
          let (a, d) := d.fresh 2
          let (b, d) := d.fresh 2
          (d.count (Reg.PRT_COUNT n 14) a).count (Reg.PRT_COUNT n 15) b
      if d.mmEn n then
        let (c, d) := d.fresh 2
        d.count (Reg.PRT_COUNT n 17) c
      else d) d

/-- The beats of regions and engines in one nanosecond (R311, R551). -/
def Dev.beatTick (d : Dev) : Dev := if d.up then d.pmcBeats.stallTick else d

/-- One nanosecond. In POWER nothing runs. -/
def Dev.tick (d : Dev) : Dev :=
  if d.stage = 0 then d
  else { d with elapsed := d.elapsed + 1 }.clockTick.spillTick.busyTick.beatTick.rclkTick.lineTick

end Sys2Proof.Machine
end

