-- ==== Sys2Proof/Safety.lean ====
section
/-! DEFINITION. What counts as a safe run: a step answers a next state, and the bytes written to host memory stay in canonical form. -/

namespace Sys2Proof.Machine

/-- The outcome is a next state for which `p` holds. -/
def nextWith (p : State → Prop) : Host.Outcome State Fault Refusal → Prop
  | .next t => p t
  | .fault _ => False
  | .refused _ => False

/-- The canonical form of the bytes that the device has written to host memory. -/
def State.hostOk (s : State) : Prop := Mem.wf s.host = true

end Sys2Proof.Machine
end

