-- ==== Sys2Proof/Certificates/Slice0/Obligations.lean ====
section
/-! DEFINITION. The statements for the provers: what a step does, what the commands of every family do to the state, and what they leave as it
was. `t.dev = { s.dev with f := … }` says that no other field of the device changed, `Dev.regsKept` that no other register did. -/

namespace Sys2Proof.Machine

/-- `s` with the device `d`: host memory and the queue stay. -/
def State.withDev (s : State) (d : Dev) : State := { s with dev := d }

/-- Every register outside `as` holds in `e` what it holds in `d`. -/
def Dev.regsKept (d e : Dev) (as : List Nat) : Prop := ∀ a, a ∉ as → e.reg a = d.reg a

/-- Every packet but that of context `c` is in `e` as in `d`. -/
def Dev.pktsKept (d e : Dev) (c : Nat) : Prop := ∀ k, k ≠ c → e.pkt k = d.pkt k

/-- One reference to data `id` is given up: the last frees it, an earlier one leaves one reference less (R315). -/
def Dev.dataFreed (d e : Dev) (id : Nat) : Prop :=
  ∀ x, Map.find d.data id = some x → Map.find e.data id = (if x.refs ≤ 1 then none else some { x with refs := x.refs - 1 })

/-- What counter `a` holds after `n` more (R550). -/
def Dev.plus (d : Dev) (a n : Nat) : Word := BitVec.ofNat 64 (((d.reg a).toNat + n) % 2 ^ 48)

/-- The commands that may write host memory: records, completions and commands of submission rings. -/
def mayWriteHost : Instr → Bool
  | .captureRecordWrite => true
  | .tsReportWrite => true
  | .capRecordWrite => true
  | .notificationWrite => true
  | .engMsgWrite _ => true
  | .faultRecordWrite _ => true
  | .completionWrite _ => true
  | .rxAssign _ => true
  | .subPad _ _ => true
  | .subNop _ _ => true
  | .subCopy _ _ => true
  | .subWriteInline _ _ => true
  | .subTx _ _ _ => true
  | .subRxBuf _ _ => true
  | .subXltInv _ _ => true
  | .xltInvDone _ _ => true
  | .xltWalk _ _ _ _ _ _ => true
  | .dmaChunk _ _ _ => true
  | .tabInsert _ _ => true
  | .tabDelete _ _ => true
  | .tabSearch _ _ _ => true
  | .tabNext _ _ _ => true
  | .tabFlushPort _ _ => true
  | .tabAgeScan _ _ => true
  | .tabFlow _ _ _ => true
  | .tabFence _ _ => true
  | _ => false

end Sys2Proof.Machine

open Sys2Proof Sys2Proof.Machine

/-! ### The machine as a whole -/

/-- A step takes the command at the front of the queue and runs it with the rest of the queue. -/
def Obligations.StepRunsFront : Prop :=
  ∀ (c : Instr) (rest : List Instr) (s : State), step { s with pending := c :: rest } = exec c { s with pending := rest }

/-- On an empty queue one nanosecond passes (log entry 14). In POWER nothing changes. Elsewhere the time since the cold start grows by one;
while the time base runs, TIM_FREE advances by 1 ns and the time counter by (1 + ADJ × 2^-40) ns (R371, R373), and while it does not run both
stand. -/
def Obligations.StepOnEmptyQueue : Prop :=
  ∀ s : State, s.pending = [] → ∃ t, step s = .next t ∧ t.host = s.host ∧ t.pending = [] ∧
    (s.dev.stage = 0 → t = s) ∧
    (s.dev.stage ≠ 0 → t.dev.elapsed = s.dev.elapsed + 1 ∧ t.dev.pkts = s.dev.pkts ∧ t.dev.tables = s.dev.tables ∧ t.dev.queues = s.dev.queues ∧
      (s.dev.tim.locked = false → t.dev.tim = s.dev.tim) ∧
      (s.dev.tim.locked = true → t.dev.tim.free = s.dev.tim.free + 1 ∧
        t.dev.tim.cnt = s.dev.tim.cnt + BitVec.ofInt 72 (2 ^ 40 + signed (s.dev.fld Reg.TIM_RATE F.TIM_RATE_ADJ) 32)))

/-- Every command, in every state and with every operand, answers a next state and leaves the queue of waiting commands as it is. -/
def Obligations.EveryCommandRuns : Prop :=
  ∀ (c : Instr) (s : State), ∃ t, exec c s = .next t ∧ t.pending = s.pending

/-- Only the commands that write records, completions, a submission command's data or an owed PI writeback write host memory; every other command leaves every
byte of it unchanged. -/
def Obligations.HostMemoryKept : Prop :=
  ∀ (c : Instr) (s t : State), mayWriteHost c = false → exec c s = .next t → t.host = s.host

/-- The invariant: every step keeps the host memory that the device has written in its canonical form. -/
def Obligations.HostCanonicalKept : Prop :=
  ∀ s t : State, s.hostOk → step s = .next t → t.hostOk

/-- What reset leaves: no command waits, nothing is written to host memory, nothing is in flight, both generations are EMPTY, and every
register of BAR0 holds its reset value. -/
def Obligations.ResetState : Prop :=
  State.reset.hostOk ∧ State.reset.pending = [] ∧ State.reset.dev.pkts = [] ∧ State.reset.dev.queues = [] ∧
  State.reset.dev.tables = [] ∧ State.reset.dev.engines = [] ∧ (∀ g, (State.reset.dev.gen g).st = .empty) ∧
  State.reset.dev.regsOk = true ∧ ∀ a, State.reset.dev.reg a = regReset a

/-! ### Register writes and events -/

/-- A register write to a register of plain storage stores its RW fields, clears the W1C bits written 1 and keeps every other bit (R16), an
unassigned address takes none (R13), and no other register changes. Shown for FLT registers without a start field of their own. A 32-bit write
of either half of SYS_SB_SCRATCH writes that half alone (R11). -/
def Obligations.RegisterWritePlain : Prop :=
  ∀ (a : Nat) (v : Word) (s : State),
    (s.dev.running = true → 0x10000 ≤ a → a < 0x20000 → a % 8 = 0 → evtAt a = none →
      a ≠ Reg.FLT_INJECT → a ≠ Reg.FLT_TREPAIR → a ≠ Reg.FLT_SCRUB → (∀ k, k < 3 → a ≠ Reg.FLT_STATUS k) →
      exec (.registerWrite a v false) s = .next (match regFam a with
        | some f => s.withDev (s.dev.setReg a (applyWrite f.fields (s.dev.reg a) v))
        | none => s)) ∧
    (∀ h, h < 2 → s.dev.stage ≠ 0 →
      exec (.registerWrite (Reg.SYS_SB_SCRATCH + 4 * h) v true) s =
        .next (s.withDev (s.dev.setReg Reg.SYS_SB_SCRATCH (Fld.put ⟨32 * h, 32⟩ (s.dev.reg Reg.SYS_SB_SCRATCH) (v.toNat % 2 ^ 32)))))

/-! ### Receive rims, crossings, parser and lookups -/

/-- A frame outside 64 to MAX_FRAME bytes, FCS included, or with a bad FCS, is discarded and counted once: RX_UNDERSIZE, FRAME_TOO_LONG or
FCS_ERRORS, and MM_ASS_ERROR beside it for a frame that came in fragments (R134); in no state but UP of its port is it taken or counted (R120). A
good frame counts as a frame and its octets up to the FCS (R122); a MAC control frame is counted and goes no further (R121); any other joins its
quad's receive rim behind the frames there, with the time counter at its timestamp point corrected by the port's latency (R380), or is discarded
whole and counted when the rim would hold more than 64 KiB (R31). -/
def Obligations.FrameArrives : Prop :=
  (∀ (n : Nat) (bs : List Byte) (ok : Bool) (ago : BitVec 40) (frags : Nat) (s : State),
    let out := exec (.frameRx n bs ok ago frags) s
    let len := bs.length + 4
    let most := F.PRT_MODE_MAX_FRAME.of (s.dev.modeOf n)
    (s.dev.portState n ≠ stUp → out = .next s) ∧
    (s.dev.up = true → n < 130 → s.dev.portState n = stUp →
      (len < 64 → out = .next (s.withDev (s.dev.setReg (Reg.PRT_COUNT n 4) (s.dev.plus (Reg.PRT_COUNT n 4) 1)))) ∧
      (64 ≤ len → most < len → out = .next (s.withDev (s.dev.setReg (Reg.PRT_COUNT n 3) (s.dev.plus (Reg.PRT_COUNT n 3) 1)))) ∧
      (64 ≤ len → len ≤ most → ok = false →
        let e := s.dev.setReg (Reg.PRT_COUNT n 2) (s.dev.plus (Reg.PRT_COUNT n 2) 1)
        out = .next (s.withDev (if frags = 0 ∨ 128 ≤ n then e else e.setReg (Reg.PRT_COUNT n 16) (s.dev.plus (Reg.PRT_COUNT n 16) 1)))))) ∧
  (∀ (n : Nat) (bs : List Byte) (ago : BitVec 40) (frags : Nat) (s : State), s.dev.up = true → n < 130 → s.dev.portState n = stUp →
    64 ≤ bs.length + 4 → bs.length + 4 ≤ F.PRT_MODE_MAX_FRAME.of (s.dev.modeOf n) →
    let rim := Map.getD s.dev.rxq (s.dev.quadOf n) []
    ∃ t, exec (.frameRx n bs true ago frags) s = .next t ∧
      t = s.withDev { s.dev with regs := t.dev.regs, rxq := t.dev.rxq } ∧
      t.dev.reg (Reg.PRT_COUNT n 0) = s.dev.plus (Reg.PRT_COUNT n 0) 1 ∧
      t.dev.reg (Reg.PRT_COUNT n 1) = s.dev.plus (Reg.PRT_COUNT n 1) bs.length ∧
      s.dev.regsKept t.dev ([0, 1, 5, 6, 7, 8, 18, 19].map (Reg.PRT_COUNT n)) ∧
      (be16 bs 12 = 0x8808 → t.dev.rxq = s.dev.rxq ∧ t.dev.reg (Reg.PRT_COUNT n 7) = s.dev.plus (Reg.PRT_COUNT n 7) 1) ∧
      (be16 bs 12 ≠ 0x8808 → rimBytes rim + bs.length + 4 ≤ 65536 →
        Map.getD t.dev.rxq (s.dev.quadOf n) [] = rim ++ [⟨n, bs,
          s.dev.now40 - ago + BitVec.ofNat 40 (sext64 (s.dev.fld (Reg.TIM_PORT_LAT n) F.TIM_PORT_LAT_RX) 16).toNat⟩]) ∧
      (be16 bs 12 ≠ 0x8808 → 65536 < rimBytes rim + bs.length + 4 →
        t.dev.rxq = s.dev.rxq ∧ t.dev.reg (Reg.PRT_COUNT n 8) = s.dev.plus (Reg.PRT_COUNT n 8) 1))

/-- The oldest frame of the port whose turn it is at its ingress pipe takes a context that no packet held (R35): its words 0, 1 and 27 name the
port, its pipe, the generation, the length, the receive time and the context's own index, and every other word is zero; the turn is used; no other
packet and no register changes (R44). While the general pool is empty, or no port of the rim has its pipe's turn, the crossing takes no frame: it
stays in its rim (R35, R42). -/
def Obligations.Crossing : Prop :=
  (∀ (k : Nat) (f : RxFrame) (s : State), s.dev.running = true →
    (Map.getD s.dev.rxq k []).find? (fun g => s.dev.inTurn (pipeOfPort g.port) g.port) = some f →
    s.dev.poolFree = true → s.dev.lineUp (pipeOfPort f.port) = true → s.dev.pkts.length < 65536 → f.port < 130 → f.bytes.length + 4 < 16384 →
    ∃ t c p, exec (.crossing k) s = .next t ∧ c < 65536 ∧ s.dev.pkt c = none ∧ t.dev.pkt c = some p ∧ s.dev.pktsKept t.dev c ∧
      Map.getD t.dev.rxq k [] = (Map.getD s.dev.rxq k []).eraseP (fun g => g.port == f.port) ∧
      t.dev.turns = Map.put s.dev.turns (pipeOfPort f.port) f.port ∧ t.dev.regs = s.dev.regs ∧ t.host = s.host ∧
      p.stage = .crossed ∧ p.bytes = f.bytes ∧ p.get C.IN_PORT = f.port ∧ p.get C.IN_PIPE = pipeOfPort f.port ∧ p.get C.PASS = 0 ∧
      p.get C.FRAME_LEN = f.bytes.length + 4 ∧ p.get C.RX_TS_NS = f.ts.toNat / 256 ∧ p.get C.RX_TS_FRAC = f.ts.toNat % 256 ∧
      p.get C.ENERGY = 0 ∧ p.get C.ORIG_CTX = c ∧ p.get C.COPY = 0 ∧ (s.dev.flipping = false → p.get C.G = s.dev.activeG) ∧
      (∀ i, i ≠ 0 → i ≠ 1 → i ≠ 27 → p.word i = 0)) ∧
  (∀ (k : Nat) (s : State), s.dev.poolFree = false ∨ (∀ f ∈ Map.getD s.dev.rxq k [], s.dev.inTurn (pipeOfPort f.port) f.port = false) →
    exec (.crossing k) s = .next s)

/-- A parser pass writes what it found into word 3 and sets DISP and REASON by the table of R156; it counts the pass in PARSED and changes no
byte of the packet and no other packet. -/
def Obligations.ParseEnds : Prop :=
  ∀ (c : Nat) (p : Pkt) (s : State), s.dev.running = true → s.dev.pkt c = some p → p.stage = .crossed →
    s.dev.lineUp (p.get C.IN_PIPE) = true → p.words.length = 32 →
    let x := s.dev.parseOf p
    let pol := policyBody (s.dev.sec (p.get C.G) T.MALFORMED_POLICY 0)
    ∃ t q, exec (.parse c) s = .next t ∧ t.dev.pkt c = some q ∧ s.dev.pktsKept t.dev c ∧ t.host = s.host ∧
      q.bytes = p.bytes ∧ q.get C.MAL_REASON = x.mal % 256 ∧ q.get C.END_STATE = x.state % 512 ∧
      q.get C.PAYLOAD_OFS = x.payload % 512 ∧ q.get C.LAYERS = x.walk.offs.length % 32 ∧
      q.get C.IS_FRAG = x.walk.frag.toNat ∧ q.get C.FIRST_FRAG = x.walk.first.toNat ∧
      t.dev.reg (Reg.PRS_COUNT 0) = s.dev.plus (Reg.PRS_COUNT 0) 1 ∧
      (x.mal ≠ 0 → malAction pol x.mal ≠ 3 → q.get C.DISP = Disp.malformed ∧ q.get C.REASON = 0 ∧ q.stage = .merge) ∧
      (∀ r, (x.mal = 0 ∨ malAction pol x.mal = 3) → x.odd = some r →
        q.get C.DISP = (if punEn pol && punOdd pol then Disp.punt else Disp.engine) ∧ q.get C.REASON = r % 256 ∧ q.stage = .merge) ∧
      ((x.mal = 0 ∨ malAction pol x.mal = 3) → x.odd = none → (x.walk.frag && fragSteer pol) = true →
        q.get C.DISP = (if punEn pol && punFrag pol then Disp.punt else Disp.engine) ∧ q.get C.REASON = 0x10 ∧ q.stage = .merge) ∧
      ((x.mal = 0 ∨ malAction pol x.mal = 3) → x.odd = none → (x.walk.frag && fragSteer pol) = false →
        q.get C.DISP = Disp.forward ∧ q.get C.REASON = 0 ∧ (q.stage = .lookups ∨ q.stage = .merge))

/-- A lookup on a table of tiles, met without an error: the slot of an EXACT record shows the entry whose key equals the packet's, or a miss; an
INDEX record's slot shows the entry at its index when that is VALID; a COUNTER record leaves its place for the action unit (R181). A hit whose HIT
bit is 0 asks for the bit to be set (R193). Shown where no candidate place is poisoned (R207). The DRAM reads of a lookup that waits: each answer
is taken, charged and counted; while more are due the packet waits on; the last one writes the best prefix of the table, or a miss, into the slot
and the packet goes on (R188). A poisoned answer drops the packet with LPM_DRAM_ECC. With no answer there the packet waits. A Chamois search
charges its class, counts the search, and writes the lowest index that matches and whether more than one does, or a miss (R217, R218). -/
def Obligations.Lookups : Prop :=
  (∀ (c i : Nat) (p : Pkt) (b : List Byte) (s : State), s.dev.running = true → s.dev.pkt c = some p → p.stage = .lookups →
    s.dev.lineUp (p.get C.IN_PIPE) = true → p.words.length = 32 → s.dev.lookupWaits (p.get C.IN_PIPE) = false → s.dev.nextRec p = some i →
    let prog := s.dev.program p
    let tb := lrTable prog i
    let slot := 14 + lrSlot prog i
    s.dev.tblIn (p.get C.G) tb = .tile b → s.dev.tilesUp b = true →
    let p1 := (s.dev.charge { p with next := i + 1 } 1).2
    let m := s.dev.tbl tb
    let key := bytesWords (fitKey (lrKey prog i p1) (8 * (tmW b - 1)) (tmKeyBits b)) (tmW b - 1)
    let ix := lrIndex b prog i p1
    let word := fun pl => wordAt (m.image pl (tmW b)) (tmW b - 1)
    let clean := (exactPlaces b key).all fun pl => !m.poisoned pl
    (∀ pl, tmKind b = 0 → m.exactFind key = some pl → m.poisoned pl = false → clean = true →
      ∃ t q, exec (.lookup c .none) s = .next t ∧ t.dev.pkt c = some q ∧ s.dev.pktsKept t.dev c ∧ q.next = i + 1 ∧ q.bytes = p.bytes ∧
        q.word slot = slotOf tb true false false (word pl) ∧
        t.dev.hitSets = s.dev.hitSets ++ (if rwHit (word pl) then [] else [⟨tb, pl, key⟩])) ∧
    (tmKind b = 0 → m.exactFind key = none → clean = true →
      ∃ t q, exec (.lookup c .none) s = .next t ∧ t.dev.pkt c = some q ∧ s.dev.pktsKept t.dev c ∧ q.next = i + 1 ∧ q.bytes = p.bytes ∧
        q.word slot = slotOf tb false false false 0 ∧ t.dev.hitSets = s.dev.hitSets) ∧
    (tmKind b = 2 → m.poisoned ix = false →
      ∃ t q, exec (.lookup c .none) s = .next t ∧ t.dev.pkt c = some q ∧ s.dev.pktsKept t.dev c ∧ q.next = i + 1 ∧ q.bytes = p.bytes ∧
        q.word slot = slotOf tb (rwValid (word ix)) false false (word ix) ∧ t.dev.tables = s.dev.tables) ∧
    (tmKind b = 3 →
      ∃ t q, exec (.lookup c .none) s = .next t ∧ t.dev.pkt c = some q ∧ s.dev.pktsKept t.dev c ∧ q.next = i + 1 ∧ q.words = p.words ∧
        q.counts = p.counts ++ [(tb, lrIndex b prog i p)] ∧ t.dev.regs = s.dev.regs)) ∧
  (∀ (c : Nat) (p : Pkt) (w : DramWait) (b : List Byte) (s : State), s.dev.running = true → s.dev.pkt c = some p →
    p.stage = .dramWait → s.dev.lineUp (p.get C.IN_PIPE) = true → p.words.length = 32 → p.dram = some w → w.slot < 8 →
    (s.dev.answers.find? (·.owner == w.tag) = none → exec (.dramLpmRead c) s = .next s) ∧
    (∀ a, s.dev.answers.find? (·.owner == w.tag) = some a →
      ∃ t q, exec (.dramLpmRead c) s = .next t ∧ t.dev.pkt c = some q ∧ s.dev.pktsKept t.dev c ∧
        t.dev.answers = s.dev.answers.eraseP (·.owner == w.tag) ∧ t.dev.chans = s.dev.chans ∧
        t.dev.reg (Reg.TBL_COUNT 11) = s.dev.plus (Reg.TBL_COUNT 11) 1 ∧ t.dev.reg (Reg.ACT_CLASS_CNT 3) = s.dev.plus (Reg.ACT_CLASS_CNT 3) 1 ∧
        (a.bad ≠ 0 → q.get C.DISP = Disp.drop ∧ q.get C.REASON = 0x19) ∧
        (1 < w.reads → q.stage = .dramWait ∧ q.dram = some { w with reads := w.reads - 1 }) ∧
        (w.reads ≤ 1 → (q.stage = .lookups ∨ q.stage = .merge) ∧ q.dram = none) ∧
        (w.reads ≤ 1 → a.bad ≠ 0 → q.word (14 + w.slot) = slotOf w.table false false false 0) ∧
        (w.reads ≤ 1 → a.bad = 0 → ¬ (p.get C.DISP = Disp.drop ∧ p.get C.REASON = 0x19) → s.dev.tblIn (p.get C.G) w.table = .tile b →
          (lpmBest (s.dev.tbl w.table).lpm w.key = none → q.word (14 + w.slot) = slotOf w.table false false false 0) ∧
          (∀ e, lpmBest (s.dev.tbl w.table).lpm w.key = some e → e.poison = false →
            q.word (14 + w.slot) = slotOf w.table true false false e.result)))) ∧
  (∀ (c i : Nat) (p : Pkt) (b : List Byte) (s : State), s.dev.running = true → s.dev.pkt c = some p → p.stage = .lookups →
    s.dev.lineUp (p.get C.IN_PIPE) = true → p.words.length = 32 → s.dev.lookupWaits (p.get C.IN_PIPE) = false → s.dev.nextRec p = some i →
    let prog := s.dev.program p
    let tb := lrTable prog i
    s.dev.tblIn (p.get C.G) tb = .cham b → s.dev.segsUp b = true →
    let p1 := (s.dev.charge { p with next := i + 1 } 4).2
    let hits := s.dev.chMatches b (fitKey (lrKey prog i p1) (10 * ccK b) (ccKeyBits b))
    ∃ t q, exec (.chamoisSearch c) s = .next t ∧ t.dev.pkt c = some q ∧ s.dev.pktsKept t.dev c ∧ q.next = i + 1 ∧ q.bytes = p.bytes ∧
      t.dev.cham = s.dev.cham ∧ t.dev.reg (Reg.AAR_COUNT 0) = s.dev.plus (Reg.AAR_COUNT 0) 1 ∧
      (hits = [] → q.word (14 + lrSlot prog i) = slotOf tb false false false 0) ∧
      (∀ h r, hits = h :: r →
        q.word (14 + lrSlot prog i) = slotOf tb true (!r.isEmpty) false (BitVec.ofNat 64 (65536 * h)) ∧
        t.dev.reg (Reg.AAR_COUNT 1) = if r.isEmpty then s.dev.reg (Reg.AAR_COUNT 1) else s.dev.plus (Reg.AAR_COUNT 1) 1))

/-! ### Action unit, step 6 and the buffer -/

/-- The packet of context `c` is gone and the power manager's accumulators of its pipe and of the device have taken `pj` (R53). -/
def Sys2Proof.Machine.Dev.freedInto (d e : Dev) (c pipe pj : Nat) : Prop :=
  e.pkt c = none ∧ d.pktsKept e c ∧ e.reg (Reg.PWR_ACC pipe) = d.plus (Reg.PWR_ACC pipe) pj ∧ e.reg (Reg.PWR_ACC 8) = d.plus (Reg.PWR_ACC 8) pj

/-- The action unit takes a packet only in its order in the pipe. A FORWARD packet whose winning DEST word names a port is sent there, with the
merge's TC and COLOR, and goes on to step 6; a DROP word drops and frees it; with no DEST word, or a word of a bad type, it is dropped and
counted (R244 to R246). An uncorrectable context word discards the packet, counts that and reports line 98 (R43). -/
def Obligations.ActionMergeActs : Prop :=
  ∀ (c : Nat) (errs : List ReadErr) (p : Pkt) (s : State), s.dev.running = true → s.dev.pkt c = some p → p.stage = .merge →
    s.dev.lineUp 99 = true → p.words.length = 32 → p.counts = [] →
    let p1 := (s.dev.charge p 5).2
    let l := mergeList (s.dev.secOr0 (p.get C.G) T.ACTION_MERGE (p.get C.IN_PIPE)) p1
    let word := fun (type flag lo w : Nat) => match firstOf l.1 type flag with | some x => bitsOf x lo w | none => 0
    (s.dev.inOrder c p = false → exec (.actionMerge c false errs) s = .next s) ∧
    (s.dev.inOrder c p = true →
      (∃ t, exec (.actionMerge c true errs) s = .next t ∧ s.dev.freedInto t.dev c (p.get C.IN_PIPE) (p.get C.ENERGY - p.get C.FORECAST) ∧
        t.dev.flt.queue = s.dev.flt.queue ++ [⟨98, 2, false, false, s.dev.free⟩] ∧ t.dev.ctxDiscards = s.dev.ctxDiscards + 1) ∧
      (p.get C.DISP = Disp.forward →
        (∀ w, l.2 = false → firstOf l.1 1 0 = some w → awDop w = 0 → awDest w ≤ 129 → firstOf l.1 3 0 = none →
          ∃ t q, exec (.actionMerge c false errs) s = .next t ∧ t.dev.pkt c = some q ∧ s.dev.pktsKept t.dev c ∧ q.stage = .police ∧
            q.bytes = p.bytes ∧ q.get C.DISP = Disp.forward ∧ q.get C.DEST = awDest w ∧ q.get C.MCAST = 0 ∧ q.get C.TC = word 2 19 20 3 ∧
            q.get C.COLOR = word 2 23 24 2 ∧ q.get C.POLICER = word 2 26 28 16 ∧ q.get C.MIRROR = word 2 44 45 7 ∧
            t.dev.reg (Reg.ACT_COUNT 0) = s.dev.plus (Reg.ACT_COUNT 0) 1 ∧ t.dev.tables = s.dev.tables) ∧
        (∀ w, l.2 = false → firstOf l.1 1 0 = some w → awDop w = 3 → firstOf l.1 3 0 = none →
          ∃ t, exec (.actionMerge c false errs) s = .next t ∧
            s.dev.freedInto t.dev c (p.get C.IN_PIPE) (p1.get C.ENERGY - p.get C.FORECAST) ∧
            t.dev.reg (Reg.ACT_COUNT 0) = s.dev.plus (Reg.ACT_COUNT 0) 1) ∧
        (l.2 = false → firstOf l.1 1 0 = none →
          ∃ t, exec (.actionMerge c false errs) s = .next t ∧ t.dev.pkt c = none ∧ s.dev.pktsKept t.dev c ∧
            t.dev.reg (Reg.ACT_COUNT 9) = s.dev.plus (Reg.ACT_COUNT 9) 1) ∧
        (l.2 = true →
          ∃ t, exec (.actionMerge c false errs) s = .next t ∧ t.dev.pkt c = none ∧ s.dev.pktsKept t.dev c ∧
            t.dev.reg (Reg.ACT_COUNT 1) = s.dev.plus (Reg.ACT_COUNT 1) 1)))

/-- Step 6 for a packet in its order in the pipe, not spread and not multicast. A policer whose level covers the frame's cost takes it out and
passes the packet; one whose level does not drops it, counts it and keeps the level (R362). A packet that passes has its queue set to 8 ×
subscriber + TC and goes to admission, or is dropped when that subscriber is not below its port (R255). A PUNT packet at step 6 takes one packet
of the punt limiter's credit, or is dropped, counted and PUNT_DROPPED raised when less than one is left (R159). -/
def Obligations.PolicersAndPunts : Prop :=
  (∀ (c port : Nat) (p : Pkt) (s : State), s.dev.running = true → s.dev.pkt c = some p → p.stage = .police → s.dev.lineUp 99 = true →
    p.words.length = 32 → p.get C.DISP = Disp.forward → p.group = none → p.get C.MCAST = 0 → p.get C.DEST = port →
    let sub := p.sub.getD (s.dev.fld (Reg.ACT_PORT_SUB port) F.ACT_PORT_SUB_SUB)
    port ≤ 131 → sub < 16384 →
    let pol := p.get C.POLICER
    let w := s.dev.reg (Reg.SCH_POL pol)
    let p1 := (s.dev.charge p 6).2
    let cost : Int := if bkUNIT.of w = 0 then ((p.get C.FRAME_LEN * 8000000 : Nat) : Int) else (p1.get C.ENERGY : Int)
    (s.dev.inOrder c p = false → exec (.police c) s = .next s) ∧
    (s.dev.inOrder c p = true →
      (p.get C.POLICE_EN = 0 → s.dev.subPort sub = some port →
        ∃ t q, exec (.police c) s = .next t ∧ t = s.withDev { s.dev with pkts := t.dev.pkts } ∧ t.dev.pkt c = some q ∧ s.dev.pktsKept t.dev c ∧
          q.stage = .admission ∧ q.get C.QUEUE = (8 * sub + p.get C.TC) % 131072 ∧ q.get C.DEST = port ∧ q.bytes = p.bytes) ∧
      (p.get C.POLICE_EN = 0 → s.dev.subPort sub ≠ some port →
        ∃ t, exec (.police c) s = .next t ∧ s.dev.freedInto t.dev c (p.get C.IN_PIPE) (p.get C.ENERGY - p.get C.FORECAST) ∧
          t.dev.reg (Reg.ACT_COUNT 4) = s.dev.plus (Reg.ACT_COUNT 4) 1) ∧
      (p.get C.POLICE_EN = 1 → bkEN.of w = 1 → s.dev.levelNow 4 pol < cost →
        ∃ t, exec (.police c) s = .next t ∧ t.dev.pkt c = none ∧ s.dev.pktsKept t.dev c ∧ t.dev.levelNow 4 pol = s.dev.levelNow 4 pol ∧
          t.dev.reg (Reg.SCH_COUNT 4) = s.dev.plus (Reg.SCH_COUNT 4) 1 ∧ t.dev.reg (Reg.SCH_POL_DROP pol) = s.dev.plus (Reg.SCH_POL_DROP pol) 1) ∧
      (p.get C.POLICE_EN = 1 → bkEN.of w = 1 → cost ≤ s.dev.levelNow 4 pol → s.dev.subPort sub = some port →
        ∃ t q, exec (.police c) s = .next t ∧ t.dev.pkt c = some q ∧ s.dev.pktsKept t.dev c ∧ q.stage = .admission ∧
          t.dev.reg (Reg.SCH_COUNT 3) = s.dev.plus (Reg.SCH_COUNT 3) 1 ∧
          Map.find t.dev.buckets (bucketKey 4 pol) = some ⟨s.dev.levelNow 4 pol - cost, s.dev.free⟩))) ∧
  (∀ (c : Nat) (p : Pkt) (s : State), s.dev.running = true → s.dev.pkt c = some p → p.stage = .police → s.dev.lineUp 99 = true →
    p.words.length = 32 → p.get C.DISP = Disp.punt → p.get C.POLICE_EN = 0 → s.dev.inOrder c p = true →
    (1000000000 ≤ s.dev.puntCredit →
      ∃ t, exec (.police c) s = .next t ∧ t.dev.credit = s.dev.puntCredit - 1000000000 ∧ t.dev.creditAt = s.dev.free ∧
        t.dev.reg (Reg.PRS_COUNT 5) = s.dev.plus (Reg.PRS_COUNT 5) 1) ∧
    (s.dev.puntCredit < 1000000000 →
      ∃ t, exec (.police c) s = .next t ∧ t.dev.pkt c = none ∧ s.dev.pktsKept t.dev c ∧ t.dev.credit = s.dev.puntCredit ∧
        t.dev.reg (Reg.PRS_COUNT 6) = s.dev.plus (Reg.PRS_COUNT 6) 1 ∧ (t.dev.reg Reg.PRS_EVENT).getLsbD 1 = true))

/-- Admission of a unicast packet without a mirror session, in its order. An admitted packet's data takes its cells in the buffer, its record
joins its port's intake behind the records there when the port is ready, its ENERGY goes to the accumulators and its context is free (R319, R324,
R53). A packet that may spill keeps one cell on chip and is charged for the spill; its other cells go to free spill cells (R320). Any other
refused packet is discarded and takes no cell. Admission of a multicast packet without a mirror session stores its data once and begins the copies
of its group's list; a group that does not exist or an empty or overlong list drops the packet (R327, R328). One copy of a multicast packet: a
next entry of the list that is not skipped gives the copy its queue and port; the copy's record shares the packet's data and joins the intake of
its port when that is ready, or waits for the end of the list when it is not (R328, R329). With no entry left the context is freed. -/
def Obligations.Admission : Prop :=
  (∀ (c : Nat) (p : Pkt) (s : State), s.dev.running = true → s.dev.pkt c = some p → p.stage = .admission → s.dev.lineUp 80 = true →
    p.words.length = 32 → s.dev.inOrder c p = true → p.get C.MCAST = 0 → p.get C.MIRROR = 0 → s.dev.downDiscard (p.get C.DEST) = false →
    let n := dataCells p.bytes.length
    let port := p.get C.DEST
    (s.dev.refusal (p.get C.QUEUE) n (p.get C.COLOR) = none → s.dev.ready port = true →
      ∃ t r, exec (.admission c false) s = .next t ∧ s.dev.freedInto t.dev c (p.get C.IN_PIPE) (p.get C.ENERGY) ∧
        t.dev.intake port = s.dev.intake port ++ [r] ∧ (∀ k, k ≠ port → t.dev.intake k = s.dev.intake k) ∧
        t.dev.queues = s.dev.queues ∧ t.dev.residue = s.dev.residue ∧
        r.pid = p.pid ∧ r.queue = p.get C.QUEUE ∧ r.len = p.bytes.length ∧ r.cells = n ∧
        Map.find t.dev.data r.data = some ⟨p.bytes, 1, n, false, [], false⟩ ∧
        t.dev.reg (Reg.BUF_COUNT 0) = s.dev.plus (Reg.BUF_COUNT 0) 1) ∧
    (s.dev.refusal (p.get C.QUEUE) n (p.get C.COLOR) = some 0x38 → s.dev.maySpill (p.get C.QUEUE) n (p.get C.COLOR) = true →
      s.dev.ready port = true →
      let places := s.dev.spillPlaces (n - 1)
      ∃ t r, exec (.admission c false) s = .next t ∧
        s.dev.freedInto t.dev c (p.get C.IN_PIPE) (min (p.get C.ENERGY + s.dev.cost 9 (p.get C.FRAME_LEN)) energyMax) ∧
        t.dev.intake port = s.dev.intake port ++ [r] ∧ r.pid = p.pid ∧ r.queue = p.get C.QUEUE ∧ r.len = p.bytes.length ∧ r.cells = 1 ∧
        r.spill = places.length ∧ Map.find t.dev.data r.data = some ⟨p.bytes, 1, 1, false, places, false⟩ ∧
        t.dev.spillQ = s.dev.spillQ ++ spillCells p.bytes places ∧
        t.dev.reg (Reg.BUF_COUNT 0) = s.dev.plus (Reg.BUF_COUNT 0) 1 ∧ t.dev.reg (Reg.BUF_COUNT 10) = s.dev.plus (Reg.BUF_COUNT 10) 1) ∧
    (∀ why, s.dev.refusal (p.get C.QUEUE) n (p.get C.COLOR) = some why → s.dev.maySpill (p.get C.QUEUE) n (p.get C.COLOR) = false →
      ∃ t, exec (.admission c false) s = .next t ∧ s.dev.freedInto t.dev c (p.get C.IN_PIPE) (p.get C.ENERGY - p.get C.FORECAST) ∧
        t.dev.intakes = s.dev.intakes ∧ t.dev.queues = s.dev.queues ∧ t.dev.data = s.dev.data)) ∧
  (∀ (c : Nat) (p : Pkt) (s : State), s.dev.running = true → s.dev.pkt c = some p → p.stage = .admission → s.dev.lineUp 80 = true →
    p.words.length = 32 → s.dev.inOrder c p = true → p.get C.MCAST = 1 → p.get C.MIRROR = 0 →
    let g := p.get C.DEST
    let n := dataCells p.bytes.length
    let cnt := s.dev.fld (Reg.BUF_MCGROUP g) F.BUF_MCGROUP_COUNT
    let base := s.dev.fld (Reg.BUF_MCGROUP g) F.BUF_MCGROUP_BASE
    (g < 16384 → 0 < cnt → cnt ≤ 512 → s.dev.mcUsed + n ≤ s.dev.fld Reg.BUF_MC_LIMIT F.BUF_MC_LIMIT_LIMIT → n ≤ s.dev.freeCells →
      ∃ t q id, exec (.admission c false) s = .next t ∧ t.dev.pkt c = some q ∧ q.stage = .replicate ∧ s.dev.pktsKept t.dev c ∧
        t.dev.repls = s.dev.repls ++ [⟨c, id, base, base + cnt, 0, []⟩] ∧
        Map.find t.dev.data id = some ⟨p.bytes, 1, n, true, [], false⟩ ∧
        t.dev.reg (Reg.BUF_COUNT 0) = s.dev.plus (Reg.BUF_COUNT 0) 1 ∧ t.dev.intakes = s.dev.intakes ∧ t.dev.queues = s.dev.queues) ∧
    ((16384 ≤ g ∨ cnt = 0 ∨ 512 < cnt) →
      ∃ t, exec (.admission c false) s = .next t ∧ s.dev.freedInto t.dev c (p.get C.IN_PIPE) (p.get C.ENERGY - p.get C.FORECAST) ∧
        t.dev.reg (Reg.BUF_COUNT 4) = s.dev.plus (Reg.BUF_COUNT 4) 1 ∧ t.dev.data = s.dev.data ∧ t.dev.repls = s.dev.repls)) ∧
  (∀ (c q port : Nat) (p : Pkt) (r : Repl) (x : Data) (s : State), s.dev.running = true → s.dev.pkt c = some p → p.stage = .replicate →
    s.dev.lineUp 80 = true → p.words.length = 32 → s.dev.poolFree = true → (s.dev.repls.find? fun y => y.ctx = c) = some r → r.ctx = c →
    Map.find s.dev.data r.data = some x →
    (r.next + 1 < r.last → (s.dev.mcEntry p r.next).2 = some (q, port) → q < 131072 → port < 65536 → s.dev.ready port = true →
      ∃ t y, exec (.mcCopy c) s = .next t ∧ s.dev.pkts = t.dev.pkts ∧ t.dev.intake port = s.dev.intake port ++ [y] ∧
        (∀ k, k ≠ port → t.dev.intake k = s.dev.intake k) ∧ y.queue = q ∧ y.len = p.bytes.length ∧ y.data = r.data ∧ y.cells = 1 ∧
        Map.find t.dev.data r.data = some { x with refs := x.refs + 1 } ∧
        (t.dev.repls.find? fun y => y.ctx = c) = some { r with made := r.made + 1, next := r.next + 1 } ∧
        t.dev.reg (Reg.BUF_COUNT 1) = s.dev.plus (Reg.BUF_COUNT 1) 1) ∧
    (r.next + 1 < r.last → (s.dev.mcEntry p r.next).2 = some (q, port) → q < 131072 → port < 65536 → s.dev.ready port = false →
      ∃ t y, exec (.mcCopy c) s = .next t ∧ s.dev.pkts = t.dev.pkts ∧ t.dev.intakes = s.dev.intakes ∧ t.dev.residue = s.dev.residue ∧
        y.queue = q ∧ y.port = port ∧ y.data = r.data ∧ Map.find t.dev.data r.data = some { x with refs := x.refs + 1 } ∧
        (t.dev.repls.find? fun y => y.ctx = c) = some { r with made := r.made + 1, next := r.next + 1, notReady := r.notReady ++ [y] } ∧
        t.dev.reg (Reg.BUF_COUNT 1) = s.dev.plus (Reg.BUF_COUNT 1) 1) ∧
    (r.last ≤ r.next → r.notReady = [] →
      ∃ t, exec (.mcCopy c) s = .next t ∧ t.dev.pkt c = none ∧ s.dev.pktsKept t.dev c ∧ t.dev.intakes = s.dev.intakes ∧
        (t.dev.repls.find? fun y => y.ctx = c) = none ∧
        Map.find t.dev.data r.data = (if x.refs ≤ 1 then none else some { x with refs := x.refs - 1 })))

/-! ### Scheduler, egress and transmission -/

/-- The buffer's lists. RECORD_LINK moves the oldest record of a port's intake to the end of its queue; RESIDUE_MOVE moves the oldest record of
the port's residue list to its intake while that holds fewer than 64 and no copy admitted before it is still to join the list; neither changes
anything else. A head that has waited BUF_RESIDUE_LIMIT is discarded with RESIDUE_TIMEOUT instead, counted, and its data freed (R324 to R326,
R338). DEQUEUE refills the buckets that the port's pick uses; with no eligible queue that is all. Otherwise, when the queue that the tree picks
has a head that is not stale and the egress reserve has a free context, the record leaves its queue and takes a context that was free, with its
words, its bytes up to the stored length and its data; each enabled shaper above it pays its byte cost or its ENERGY, the deficits of the group
and the subscriber, and of a queue that is not strict, pay the byte cost, a node without records below it losing its deficit, and the three counts
of the scheduler grow (R350, R353, R356, R358, R47). -/
def Obligations.BufferAndDequeue : Prop :=
  (∀ (n : Nat) (r : Rec) (l : List Rec) (s : State), s.dev.running = true → s.dev.lineUp 80 = true →
    (s.dev.intake n = r :: l →
      ∃ t, exec (.recordLink n) s = .next t ∧ t = s.withDev { s.dev with queues := t.dev.queues, intakes := t.dev.intakes } ∧ t.dev.intake n = l ∧
        (∀ k, k ≠ n → t.dev.intake k = s.dev.intake k) ∧ t.dev.queue r.queue = headMark s.dev.free (s.dev.queue r.queue ++ [r]) ∧
        (∀ q, q ≠ r.queue → t.dev.queue q = s.dev.queue q)) ∧
    (s.dev.residueOf n = r :: l → s.dev.residueOld r = false → (s.dev.intake n).length < 64 → s.dev.copyBefore n r = false →
      ∃ t, exec (.residueMove n) s = .next t ∧ t = s.withDev { s.dev with intakes := t.dev.intakes, residue := t.dev.residue } ∧
        t.dev.residueOf n = l ∧ t.dev.intake n = s.dev.intake n ++ [r] ∧ (∀ k, k ≠ n → t.dev.intake k = s.dev.intake k) ∧
        (∀ k, k ≠ n → t.dev.residueOf k = s.dev.residueOf k)) ∧
    (s.dev.residueOf n = r :: l → s.dev.residueOld r = true →
      ∃ t, exec (.residueTimeout n) s = .next t ∧ t.dev.residueOf n = l ∧ t.dev.intakes = s.dev.intakes ∧ t.dev.queues = s.dev.queues ∧
        (∀ k, k ≠ n → t.dev.residueOf k = s.dev.residueOf k) ∧ s.dev.dataFreed t.dev r.data ∧ t.dev.discards = (r.pid, 0x3D) :: s.dev.discards ∧
        t.dev.reg (Reg.BUF_COUNT 9) = s.dev.plus (Reg.BUF_COUNT 9) 1 ∧ (t.dev.reg Reg.BUF_EVENT).getLsbD 2 = true ∧
        exec (.residueMove n) s = .next t)) ∧
  (∀ (n : Nat) (s : State), s.dev.running = true → s.dev.lineUp 80 = true → s.dev.lineUp 81 = true →
    let e := s.dev.refillUsed n
    (e.portElig n = false ∨ e.eligQueues n = [] → exec (.dequeue n .none) s = .next (s.withDev e)) ∧
    (∀ (r : Rec) (rest : List Rec) (x : Data), e.portElig n = true → e.eligQueues n ≠ [] →
      let k := (e.pickFrom n (e.eligQueues n)).1
      let f := (e.pickFrom n (e.eligQueues n)).2
      let b := s.dev.byteCost n r.len
      let pj := ctxGet r.words C.ENERGY
      k.queue < 131072 → s.dev.queue k.queue = r :: rest → s.dev.stale n k.queue r = false → s.dev.reserveFree (egressPipe n r) = true →
      Map.find s.dev.data r.data = some x → x.poison = false → r.words.length = 32 → s.dev.pkts.length < 65536 →
      ∃ t c p, exec (.dequeue n .none) s = .next t ∧ s.dev.pkt c = none ∧ t.dev.pkt c = some p ∧ s.dev.pktsKept t.dev c ∧
        t.dev.queue k.queue = headMark s.dev.free rest ∧ (∀ q, q ≠ k.queue → t.dev.queue q = s.dev.queue q) ∧
        p.stage = .egress n ∧ p.bytes = x.bytes.take r.len ∧ p.egressPool = true ∧ p.data = r.data ∧ p.pid = r.pid ∧
        p.get C.QUEUE = ctxGet r.words C.QUEUE ∧ p.get C.ENERGY = pj ∧ t.dev.data = s.dev.data ∧
        (∀ y, y ∈ [(0, k.queue), (1, k.sub), (2, k.group), (3, n)] →
          let w := s.dev.reg (bucketReg y.1 y.2)
          Map.find t.dev.buckets (bucketKey y.1 y.2) = (if bkEN.of w = 0 then Map.find e.buckets (bucketKey y.1 y.2)
            else some ⟨s.dev.levelNow y.1 y.2 - (if bkUNIT.of w = 0 then ((b * 8000000 : Nat) : Int) else (pj : Int)), s.dev.free⟩)) ∧
        (∀ y, y ∈ [(2, k.group), (1, k.sub)] ∨ k.strict = false ∧ y = (0, k.queue) →
          (t.dev.drrOf y.1 y.2).dc = (if t.dev.recordBelow y.1 y.2 then (f.drrOf y.1 y.2).dc - (b : Int) else 0)) ∧
        t.dev.reg (Reg.SCH_COUNT 0) = s.dev.plus (Reg.SCH_COUNT 0) 1 ∧
        t.dev.reg (Reg.SCH_COUNT 1) = s.dev.plus (Reg.SCH_COUNT 1) b ∧
        t.dev.reg (Reg.SCH_COUNT 2) = s.dev.plus (Reg.SCH_COUNT 2) pj))

/-- A frame in the rim of a port, after the frames of its queue before it: when the port is down it is discarded and counted; when it is up and
nothing preempts it, the port sends it, padded to 60 bytes without its FCS, counts it and its octets, and frees it with its record (R32, R122,
R262). A preemptable frame that may be cut stays as the remainder of a preempted frame, cut where the command says, or as soon as a fragment may
be when an express frame waits (R123, R403, R404). A frame that asked for a report (TS 1) queues one record while fewer than 1,024 wait; else the
report is lost, counted, and its event raised (R383). -/
def Obligations.FrameTransmit : Prop :=
  (∀ (c n : Nat) (dev : BitVec 40) (p : Pkt) (s : State), s.dev.running = true → s.dev.pkt c = some p → p.stage = .txRim n → n < 130 →
    let least := s.dev.minFrag n - 4
    (s.dev.portUp n = false →
      ∃ t, exec (.frameTx c dev none) s = .next t ∧ t.dev.pkt c = none ∧ s.dev.pktsKept t.dev c ∧ t.dev.wire = s.dev.wire ∧
        s.dev.dataFreed t.dev p.data ∧
        t.dev.reg (Reg.PRT_COUNT n 13) = s.dev.plus (Reg.PRT_COUNT n 13) 1 ∧ s.dev.regsKept t.dev [Reg.PRT_COUNT n 13]) ∧
    (s.dev.portUp n = true → s.dev.older p (fun g => g == .egress n || g == .txRim n || g == .preempted n) = false →
      (s.dev.preemptable n (p.queue % 8) = false → s.dev.gatesEn n = false → p.get C.TS = 0 →
        let bs := padFrame p.bytes
        ∃ t, exec (.frameTx c dev none) s = .next t ∧ t.dev.pkt c = none ∧ s.dev.pktsKept t.dev c ∧ t.dev.wire = ⟨n, bs, true⟩ :: s.dev.wire ∧
          t.dev.reg (Reg.PRT_COUNT n 9) = s.dev.plus (Reg.PRT_COUNT n 9) 1 ∧
          t.dev.reg (Reg.PRT_COUNT n 10) = s.dev.plus (Reg.PRT_COUNT n 10) bs.length ∧
          s.dev.regsKept t.dev ([9, 10, 11, 12].map (Reg.PRT_COUNT n)) ∧ t.dev.tim = s.dev.tim ∧ s.dev.dataFreed t.dev p.data) ∧
      (s.dev.remainder n = false → s.dev.bit (Reg.GAT_STATUS n) F.GAT_STATUS_HOLD = false →
        (∀ k, s.dev.mayCut n p k = true → s.dev.expressWaits n = false → s.dev.cutIn n (p.queue % 8) = none →
          ∃ t q, exec (.frameTx c dev (some k)) s = .next t ∧ t.dev.pkt c = some q ∧ s.dev.pktsKept t.dev c ∧ q.stage = .preempted n ∧
            q.sent = p.sent + k ∧ q.txStart = s.dev.txTime n dev ∧ q.bytes = p.bytes ∧ t.dev.wire = s.dev.wire ∧
            t.dev.reg (Reg.PRT_COUNT n 20) = s.dev.plus (Reg.PRT_COUNT n 20) 1) ∧
        (s.dev.expressWaits n = true → s.dev.mayCut n p least = true →
          ∃ t q, exec (.frameTx c dev none) s = .next t ∧ t.dev.pkt c = some q ∧ s.dev.pktsKept t.dev c ∧ q.stage = .preempted n ∧
            q.sent = p.sent + least ∧ q.bytes = p.bytes ∧ t.dev.wire = s.dev.wire ∧
            t.dev.reg (Reg.PRT_COUNT n 20) = s.dev.plus (Reg.PRT_COUNT n 20) 1)))) ∧
  (∀ (c n : Nat) (dev : BitVec 40) (p : Pkt) (s : State), s.dev.running = true → s.dev.pkt c = some p → p.stage = .txRim n → n < 130 →
    s.dev.portUp n = true → s.dev.older p (fun g => g == .egress n || g == .txRim n || g == .preempted n) = false →
    s.dev.preemptable n (p.queue % 8) = false → s.dev.gatesEn n = false → p.get C.TS = 1 →
    (s.dev.tim.tsq.length < 1024 →
      ∃ t, exec (.frameTx c dev none) s = .next t ∧ t.dev.tim = { s.dev.tim with tsq := s.dev.tim.tsq ++ [tsReport p n (s.dev.txTime n dev) false] }) ∧
    (1024 ≤ s.dev.tim.tsq.length →
      ∃ t, exec (.frameTx c dev none) s = .next t ∧ t.dev.tim = s.dev.tim ∧ t.dev.reg (Reg.TIM_COUNT 3) = s.dev.plus (Reg.TIM_COUNT 3) 1 ∧
        (t.dev.reg Reg.TIM_EVENT).getLsbD 6 = true))

/-- The egress rewrite: the edits that the merge chose give the frame its bytes, and with REWRITE_PTR the egress entry's edits after them; it is
padded to 64 bytes with its FCS and goes to its port's rim, to the delivery stage of port 130, or to the return of port 131, which count it. A
frame that the edits do not fit, that has no entry, or that is too long for its port is discarded with its record and its REASON and counted, and
so is one whose port is down (R125, R258 to R262, R269). A packet returns from port 131 when its turn comes at its pipe: its record is freed and
it takes a general-pool context with PASS one higher, its identity, receive time and metadata kept, its ENERGY charged for the pass, and every
other word zero; port 131 counts it (R35, R161). While the pool is empty, or another source has the turn, it waits (R35, R41). -/
def Obligations.EgressAndRecirculation : Prop :=
  (∀ (c n : Nat) (p : Pkt) (s : State), s.dev.running = true → s.dev.pkt c = some p → p.stage = .egress n → s.dev.lineUp (8 + p.epipe) = true →
    (p.get C.REWRITE_PTR = 0 ∨ s.dev.tableUp (s.dev.egTable p) = true) → s.dev.older p (· == .egress n) = false → p.spill = none →
    p.words.length = 32 →
    let ptr := p.get C.REWRITE_PTR
    let lay := s.dev.secOr0 (p.get C.G) T.REWRITE_LAYOUT 0
    let lost := fun (t : State) (why : Nat) => t.dev.pkt c = none ∧ s.dev.pktsKept t.dev c ∧ s.dev.dataFreed t.dev p.data ∧
      t.dev.discards = (p.pid, why) :: s.dev.discards ∧ t.dev.wire = s.dev.wire
    let sent := fun (t : State) (out : List Byte) => t = s.withDev { s.dev with pkts := t.dev.pkts } ∧ s.dev.pktsKept t.dev c ∧
      ∃ q, t.dev.pkt c = some q ∧ q.bytes = padFrame out ∧ q.stage = .txRim n ∧ q.data = p.data ∧ q.pid = p.pid
    (ingressEdits p = none →
      ∃ t, exec (.egressRewrite c .none .none) s = .next t ∧ lost t 0x21 ∧ t.dev.reg (Reg.ACT_COUNT 2) = s.dev.plus (Reg.ACT_COUNT 2) 1) ∧
    (∀ bs, ingressEdits p = some bs → ptr = 0 → s.dev.tooLong n (padFrame bs) = true →
      ∃ t, exec (.egressRewrite c .none .none) s = .next t ∧ lost t 0x27 ∧
        t.dev.reg (Reg.ACT_COUNT 8) = s.dev.plus (Reg.ACT_COUNT 8) 1 ∧ (t.dev.reg Reg.ACT_EVENT).getLsbD 4 = true) ∧
    (∀ bs, ingressEdits p = some bs → ptr = 0 → s.dev.tooLong n (padFrame bs) = false → s.dev.portUp n = false →
      ∃ t, exec (.egressRewrite c .none .none) s = .next t ∧ lost t 0 ∧ t.dev.reg (Reg.PRT_COUNT n 13) = s.dev.plus (Reg.PRT_COUNT n 13) 1) ∧
    (∀ bs, ingressEdits p = some bs → ptr = 0 → s.dev.tooLong n (padFrame bs) = false → s.dev.portUp n = true → n < 130 →
      ∃ t, exec (.egressRewrite c .none .none) s = .next t ∧ sent t bs) ∧
    (∀ bs, ingressEdits p = some bs → ptr = 0 → s.dev.tooLong n (padFrame bs) = false → n = 130 ∨ n = 131 →
      ∃ t q, exec (.egressRewrite c .none .none) s = .next t ∧ t.dev.pkt c = some q ∧ s.dev.pktsKept t.dev c ∧ q.bytes = padFrame bs ∧
        q.stage = (if n = 130 then .hostWait else .recirc) ∧ q.data = p.data ∧
        t.dev.reg (Reg.PRT_COUNT n 9) = s.dev.plus (Reg.PRT_COUNT n 9) 1 ∧
        t.dev.reg (Reg.PRT_COUNT n 10) = s.dev.plus (Reg.PRT_COUNT n 10) (padFrame bs).length) ∧
    (∀ bs b, ingressEdits p = some bs → ptr ≠ 0 → bodyFld lay 0 8 1 = 1 → s.dev.tblIn (p.get C.G) (bodyFld lay 0 0 8) = .tile b →
      let ws := (s.dev.tbl (bodyFld lay 0 0 8)).image ptr (tmW b)
      (tmPlaces b ≤ ptr →
        ∃ t, exec (.egressRewrite c .none .none) s = .next t ∧ lost t 0x25 ∧
          t.dev.reg (Reg.ACT_COUNT 7) = s.dev.plus (Reg.ACT_COUNT 7) 1 ∧ (t.dev.reg Reg.ACT_EVENT).getLsbD 2 = true) ∧
      (∀ out, ptr < tmPlaces b → (s.dev.tbl (bodyFld lay 0 0 8)).poisoned ptr = false → rwValid (wordAt ws (tmW b - 1)) = true →
        (egFld ws 23 1 = 0 ∧ form0 ws bs = some out ∨
          egFld ws 23 1 ≠ 0 ∧ egFld ws 44 20 = 0 ∧ ∃ t1, tplOf ws = some t1 ∧ form1 ws t1 (p.get C.HASH) bs = some out) →
        s.dev.tooLong n (padFrame out) = false → s.dev.portUp n = true → n < 130 →
        ∃ t, exec (.egressRewrite c .none .none) s = .next t ∧ sent t out))) ∧
  (∀ (c : Nat) (p : Pkt) (s : State), s.dev.running = true → s.dev.pkt c = some p → s.dev.mayReturn p = true → p.words.length = 32 →
    s.dev.pkts.length < 65536 →
    (s.dev.poolFree = false ∨ s.dev.inTurn (p.get C.IN_PIPE) 131 = false → exec (.recircReturn c) s = .next s) ∧
    (s.dev.poolFree = true → s.dev.inTurn (p.get C.IN_PIPE) 131 = true →
      ∃ t k q, exec (.recircReturn c) s = .next t ∧ (k = c ∨ s.dev.pkt k = none ∧ t.dev.pkt c = none) ∧ t.dev.pkt k = some q ∧
        (∀ j, j ≠ c → j ≠ k → t.dev.pkt j = s.dev.pkt j) ∧ q.stage = .crossed ∧ q.bytes = p.bytes ∧ q.pid = p.pid ∧ q.egressPool = false ∧
        q.get C.PASS = (p.get C.PASS + 1) % 8 ∧ q.get C.IN_PORT = p.get C.IN_PORT ∧ q.get C.G = p.get C.G ∧
        q.get C.FRAME_LEN = p.get C.FRAME_LEN ∧ q.get C.RX_TS_NS = p.get C.RX_TS_NS ∧ q.get C.RX_TS_FRAC = p.get C.RX_TS_FRAC ∧
        q.get C.ORIG_CTX = p.get C.ORIG_CTX ∧
        q.get C.ENERGY = min (p.get C.ENERGY + s.dev.cost 17 (p.get C.FRAME_LEN)) energyMax ∧
        (∀ i, 28 ≤ i → q.word i = p.word i) ∧ (∀ i, 2 ≤ i → i ≤ 25 → q.word i = 0) ∧ s.dev.dataFreed t.dev p.data ∧
        t.dev.turns = Map.put s.dev.turns (p.get C.IN_PIPE) 131 ∧
        t.dev.reg (Reg.PRT_COUNT 131 0) = s.dev.plus (Reg.PRT_COUNT 131 0) 1 ∧
        t.dev.reg (Reg.PRT_COUNT 131 1) = s.dev.plus (Reg.PRT_COUNT 131 1) p.bytes.length ∧
        t.dev.reg (Reg.ACT_CLASS_CNT 17) = s.dev.plus (Reg.ACT_CLASS_CNT 17) 1))

/-! ### Packets to and from the host, and records -/

/-- Host memory took the writes `w`: every byte outside them reads as before. -/
def Sys2Proof.Machine.State.hostTook (s t : State) (w : HostWrites) : Prop :=
  t.host = w.foldl (fun m x => Mem.writeAll m x.pa x.bytes) s.host ∧
  ∀ a, (∀ x ∈ w, a < x.pa ∨ x.pa + x.bytes.length ≤ a) → Mem.read t.host a = Mem.read s.host a

/-- A packet at port 130 goes to the receive ring that its subscriber's map and its HASH name; with none enabled and ACTIVE, or with 16 packets
already waiting for it, it is discarded with its record and its REASON, and counted (R503, R506). RX_ASSIGN. With no packet of the ring waiting
nothing happens. A packet that has its buffer is written into it, up to the buffer's length, and its completion then waits behind those that wait;
host memory changes only there (R504, R505). The packet that has waited longest takes the next posted buffer of an ACTIVE ring with room for it.
HOST_INJECT. The oldest packet read takes a free general-pool context with port 130, its entry's pipe, its metadata and TS; counts of port 130 and
of the host interface grow (R508). A packet that is not DIRECT needs its pipe's turn (R35) and then waits for its parser; a DIRECT one goes to
admission with its destination and queue, or is discarded when those are bad (R246, R255). While the pool is empty, or the turn is another
source's, the packet waits. -/
def Obligations.HostPackets : Prop :=
  (∀ (c : Nat) (p : Pkt) (s : State), s.dev.hifOn = true → s.dev.pkt c = some p → p.stage = .hostWait → s.dev.lineUp (8 + p.epipe) = true →
    let lost := fun (t : State) (why : Nat) => t.dev.pkt c = none ∧ s.dev.pktsKept t.dev c ∧ s.dev.dataFreed t.dev p.data ∧
      t.dev.discards = (p.pid, why) :: s.dev.discards ∧ t.dev.reg (Reg.HIF_COUNT 6) = s.dev.plus (Reg.HIF_COUNT 6) 1 ∧
      (t.dev.reg Reg.HIF_EVENT).getLsbD 5 = true
    (s.dev.rxRing p = none →
      ∃ t, exec (.hostDelivery c) s = .next t ∧ lost t 0x1A) ∧
    (∀ r, s.dev.rxRing p = some r →
      let waiting := (s.dev.pkts.filter fun e => e.2.stage == .delivery r).length
      (waiting < 16 → ∃ t q, exec (.hostDelivery c) s = .next t ∧ t.dev.pkt c = some q ∧ s.dev.pktsKept t.dev c ∧ q.stage = .delivery r ∧
        q.bytes = p.bytes ∧ t.dev.regs = s.dev.regs) ∧
      (16 ≤ waiting → ∃ t, exec (.hostDelivery c) s = .next t ∧ lost t 0x1B))) ∧
  (∀ (r : Nat) (s : State), s.dev.hifOn = true →
    (s.dev.assignedPkt r = none → s.dev.firstWaiting r = none → exec (.rxAssign r) s = .next s) ∧
    (∀ c p e w, s.dev.assignedPkt r = some (c, p, e) →
      let bs := p.bytes.take (bitsOf (e.w 2) 0 15)
      s.dev.hostWrites r (bitsOf (e.w 1) 0 48) bs (!e.fence) = some w →
      ∃ t q, exec (.rxAssign r) s = .next t ∧ s.hostTook t w ∧ t.dev.pkt c = some q ∧ s.dev.pktsKept t.dev c ∧ q.stage = .delivered r e.index ∧
        t.dev.hif.held = s.dev.hif.held ++ [⟨s.dev.subCq r, r, e.index, e.completion r 0 (rxWords p (bitsOf (e.w 2) 0 15)),
          !(e.fence || e.ordered)⟩] ∧
        t.dev.reg (Reg.HIF_COUNT 3) = s.dev.plus (Reg.HIF_COUNT 3) bs.length ∧ s.dev.regsKept t.dev [Reg.HIF_COUNT 3]) ∧
    (∀ c p e rest, Map.rising s.dev.pkts = true → s.dev.assignedPkt r = none → s.dev.firstWaiting r = some (c, p) → (s.dev.sub r).rx = e :: rest →
      s.dev.ringState r = rsActive → s.dev.inProgress r < 4 →
      ∃ t q, exec (.rxAssign r) s = .next t ∧ t.dev.pkt c = some q ∧ (q.stage = .assigned r e.index ∨ q.stage = .delivered r e.index) ∧
        (t.dev.sub r).rx = rest ∧ q.bytes = p.bytes)) ∧
  (∀ (j : Inject) (rest : List Inject) (s : State), s.dev.hifOn = true → s.dev.hif.injects = j :: rest →
    let w2 := (wordAt j.words 2).toNat
    let w3 := (wordAt j.words 3).toNat
    let pipe := bitsOf w2 16 3
    let dest := bitsOf w3 0 8
    let q := bitsOf w3 8 17
    (s.dev.poolFree = false ∨ s.dev.lineUp pipe = false ∨ bitOf w2 20 = false ∧ s.dev.inTurn pipe 130 = false → exec .hostInject s = .next s) ∧
    (s.dev.poolFree = true → s.dev.lineUp pipe = true → bitOf w2 20 = true → s.dev.pkts.length < 65536 → j.bytes.length + 4 < 16384 →
      (dest ≤ 129 → s.dev.subPort (q / 8) = some dest →
        ∃ t c p, exec .hostInject s = .next t ∧ s.dev.pkt c = none ∧ t.dev.pkt c = some p ∧ s.dev.pktsKept t.dev c ∧ t.dev.hif.injects = rest ∧
          p.stage = .admission ∧ p.bytes = j.bytes ∧ p.get C.DISP = Disp.forward ∧ p.get C.DEST = dest ∧ p.get C.MCAST = 0 ∧
          p.get C.QUEUE = q ∧ p.get C.TC = q % 8 ∧ p.get C.REWRITE_PTR = bitsOf w3 32 20 ∧ p.get C.TS = bitsOf w2 21 2 ∧ p.word 28 = wordAt j.words 4) ∧
      (129 < dest ∨ s.dev.subPort (q / 8) ≠ some dest →
        ∃ t, exec .hostInject s = .next t ∧ (∀ k, t.dev.pkt k = s.dev.pkt k) ∧ t.dev.hif.injects = rest ∧
          t.dev.discards = (s.dev.pidCtr + 1, if 129 < dest then 0x28 else 0x23) :: s.dev.discards)) ∧
    (s.dev.poolFree = true → s.dev.lineUp pipe = true → bitOf w2 20 = false → s.dev.inTurn pipe 130 = true → s.dev.pkts.length < 65536 →
      j.bytes.length + 4 < 16384 →
      ∃ t c p, exec .hostInject s = .next t ∧ s.dev.pkt c = none ∧ t.dev.pkt c = some p ∧ s.dev.pktsKept t.dev c ∧ t.dev.hif.injects = rest ∧
        p.stage = .crossed ∧ p.fromHost = true ∧ p.bytes = j.bytes ∧ p.get C.IN_PORT = 130 ∧ p.get C.IN_PIPE = pipe ∧ t.dev.turns = Map.put s.dev.turns pipe 130 ∧
        p.get C.FRAME_LEN = j.bytes.length + 4 ∧ p.get C.TS = bitsOf w2 21 2 ∧
        p.word 28 = wordAt j.words 4 ∧ p.word 29 = wordAt j.words 5 ∧ p.word 30 = wordAt j.words 6 ∧ p.word 31 = wordAt j.words 7 ∧
        t.dev.reg (Reg.HIF_COUNT 4) = s.dev.plus (Reg.HIF_COUNT 4) 1 ∧ t.dev.reg (Reg.PRT_COUNT 130 0) = s.dev.plus (Reg.PRT_COUNT 130 0) 1 ∧
        t.dev.reg (Reg.PRT_COUNT 130 1) = s.dev.plus (Reg.PRT_COUNT 130 1) j.bytes.length))

/-- An entry of `k` slots goes into a completion ring only when that is ACTIVE and has room for it with its PAD; without room, or with a page of
it untranslated, nothing is posted. The ring's PI then advances by the PAD and the entry; with WB_EN the new PI is written to RNG_WB.ADDR after
the entry, or is owed while that address has no cached translation (R480, R498, R501). The record commands. Each takes the oldest record of its
store, when its ring is enabled; when the completion ring takes it, host memory changes by that post alone, the record leaves its store, and
RECORDS and the block's own count of records count it; when the ring does not take it, or completions held for it come first, nothing changes
(R192, R291, R336, R383, R394, R412, R500, R517). A staged capture record is first read out of DRAM. COMPLETION_WRITE posts the first completion
of the ring that waits: it leaves the hold, its entry leaves the ring, a packet delivered under it leaves flight with its record, and host memory
changes by the post alone; without room for it in an ACTIVE completion ring an episode of stall starts, and with room but no translation the
completion waits (R491, R498, R499, R504). -/
def Obligations.CompletionsAndRecords : Prop :=
  (∀ (d : Dev) (c : Nat) (words : List Word) (ro : Bool), c < 32768 →
    let k := words.length / 4
    let n := d.ringSize (cqCtx c)
    let pi := d.fld (Reg.RNG_PI_C c) F.RNG_PI_C_PI
    let pad := padSlots n pi k
    let main := d.hostWrites (cqCtx c) (d.slotAddr (cqCtx c) ((pi % 65536 + pad) % n)) (wordsBytes words) ro
    (d.cqRoom c k = false ∨ main = none → d.post c words ro = none) ∧
    (d.cqRoom c k = true → pad = 0 → main.isSome = true → (d.post c words ro).isSome = true) ∧
    (∀ e w, d.post c words ro = some (e, w) → d.cqRoom c k = true ∧
      e.fld (Reg.RNG_PI_C c) F.RNG_PI_C_PI = idxAdvance n pi (pad + k) % 2 ^ 17 ∧ e.pkts = d.pkts ∧ e.tables = d.tables ∧
      (d.bit (Reg.RNG_CFG_C c) F.RNG_CFG_C_WB_EN = true →
        match d.hostWrites (cqCtx c) (d.fld (Reg.RNG_WB c) F.RNG_WB_ADDR * 8) (leBytes 8 (e.fld (Reg.RNG_PI_C c) F.RNG_PI_C_PI)) false with
        | some x => ∃ u, w = u ++ x
        | none => c ∈ e.hif.wbOwed) ∧
      ∀ b, b < 32768 → b ≠ c → e.fld (Reg.RNG_PI_C b) F.RNG_PI_C_PI = d.fld (Reg.RNG_PI_C b) F.RNG_PI_C_PI)) ∧
  (∀ (s : State), s.dev.hifOn = true →
    let acts := fun (cmd : Instr) (c op : Nat) (ws : List Word) (counts : List Nat) (left : Dev → State → Prop) =>
      let slots := toSlots (ws.set 0 (recHeader op ((ws.length + 3) / 4)))
      (c ∈ s.dev.hif.stalled ∧ s.dev.heldFor c = true → exec cmd s = .next s) ∧
      (s.dev.post c slots true = none → exec cmd s = .next s) ∧
      (∀ e w, c ∉ s.dev.hif.stalled ∨ s.dev.heldFor c = false → s.dev.post c slots true = some (e, w) →
        ∃ t, exec cmd s = .next t ∧ s.hostTook t w ∧ left e t ∧ (∀ a ∈ Reg.HIF_COUNT 1 :: counts, t.dev.reg a = e.plus a 1) ∧
          e.regsKept t.dev (Reg.HIF_COUNT 1 :: counts))
    (∀ r l, s.dev.captures = r :: l → r.asked = false →
      ∃ t, exec .captureRecordWrite s = .next t ∧ t.host = s.host ∧ t.dev.captures = { r with asked := true } :: l ∧ t.dev.pkts = s.dev.pkts) ∧
    (∀ r l, s.dev.captures = r :: l → r.asked = true → s.dev.dramWaits r.tag = true → exec .captureRecordWrite s = .next s) ∧
    (∀ r l, s.dev.captures = r :: l → r.asked = true → s.dev.dramWaits r.tag = false → 0 < r.len →
      (s.dev.answersOf r.tag).all (fun y => y.bad == 0) = true →
      let bs := r.atoms.flatMap fun a => match (s.dev.answersOf r.tag).find? (fun y => y.addr == a) with
        | some y => y.bytes
        | none => List.replicate 64 0
      acts .captureRecordWrite r.ring 0x82 (bytesWords bs r.len) [] fun _ t => t.dev.captures = l) ∧
    (∀ r l, s.dev.tim.tsq = r :: l →
      (s.dev.bit Reg.TIM_TS_RING F.TIM_TS_RING_EN = false → exec .tsReportWrite s = .next s) ∧
      (s.dev.bit Reg.TIM_TS_RING F.TIM_TS_RING_EN = true →
        acts .tsReportWrite (s.dev.fld Reg.TIM_TS_RING F.TIM_TS_RING_RING) 0x83 r.words [Reg.TIM_COUNT 0] fun _ t => t.dev.tim.tsq = l)) ∧
    (∀ r l, s.dev.tim.capq = r :: l →
      (s.dev.bit Reg.TIM_CAP_RING F.TIM_CAP_RING_EN = false → exec .capRecordWrite s = .next s) ∧
      (s.dev.bit Reg.TIM_CAP_RING F.TIM_CAP_RING_EN = true →
        acts .capRecordWrite (s.dev.fld Reg.TIM_CAP_RING F.TIM_CAP_RING_RING) 0x84 r.words [Reg.TIM_COUNT 4] fun _ t => t.dev.tim.capq = l)) ∧
    (∀ r l, s.dev.notes = r :: l →
      (s.dev.bit Reg.TBL_NOTIFY_RING F.TBL_NOTIFY_RING_EN = false → exec .notificationWrite s = .next s) ∧
      (s.dev.bit Reg.TBL_NOTIFY_RING F.TBL_NOTIFY_RING_EN = true →
        acts .notificationWrite (s.dev.fld Reg.TBL_NOTIFY_RING F.TBL_NOTIFY_RING_RING) 0x80 r.words [] fun _ t => t.dev.notes = l)) ∧
    (∀ n x m l, Map.find s.dev.engines n = some x → x.msgs = m :: l →
      (s.dev.bit Reg.ENG_MSG_RING F.ENG_MSG_RING_EN = false → exec (.engMsgWrite n) s = .next s) ∧
      (s.dev.bit Reg.ENG_MSG_RING F.ENG_MSG_RING_EN = true →
        acts (.engMsgWrite n) (s.dev.fld Reg.ENG_MSG_RING F.ENG_MSG_RING_RING) 0x81 (m.words n) [Reg.ENG_GCOUNT 5]
          fun _ t => Map.find t.dev.engines n = some { x with msgs := l })) ∧
    (∀ f x, (s.dev.hif.faults.find? fun x => x.func = f) = some x →
      (s.dev.bit (Reg.HIF_FUNC f) F.HIF_FUNC_FAULT_EN = false → exec (.faultRecordWrite f) s = .next s) ∧
      (s.dev.bit (Reg.HIF_FUNC f) F.HIF_FUNC_FAULT_EN = true →
        acts (.faultRecordWrite f) (s.dev.fld (Reg.HIF_FUNC f) F.HIF_FUNC_FAULT_RING) 0x85 x.words []
          fun e t => t.dev.hif.faults = e.hif.faults.erase x))) ∧
  (∀ (r : Nat) (h : Held) (s : State), s.dev.hifOn = true → (s.dev.hif.held.find? fun x => x.ring = r) = some h →
    h.cq ∉ s.dev.hif.stalled →
    (∀ e' w, s.dev.post h.cq h.words h.ro = some (e', w) →
      ∃ t, exec (.completionWrite r) s = .next t ∧ s.hostTook t w ∧ t.dev.hif.held = e'.hif.held.erase h ∧ t.dev.entry r h.index = none ∧
        t.dev.reg (Reg.HIF_COUNT 0) = e'.plus (Reg.HIF_COUNT 0) 1 ∧
        ((s.dev.pkts.find? fun e => e.2.stage == .delivered r h.index) = none → t.dev.pkts = s.dev.pkts) ∧
        ∀ c p, (s.dev.pkts.find? fun e => e.2.stage == .delivered r h.index) = some (c, p) →
          t.dev.pkt c = none ∧ s.dev.pktsKept t.dev c ∧ s.dev.dataFreed t.dev p.data ∧
          t.dev.reg (Reg.HIF_COUNT 5) = s.dev.plus (Reg.HIF_COUNT 5) 1) ∧
    (s.dev.post h.cq h.words h.ro = none → s.dev.ringState (cqCtx h.cq) = rsActive →
      (s.dev.cqRoom h.cq (h.words.length / 4) = false →
        ∃ t, exec (.completionWrite r) s = .next t ∧ t.host = s.host ∧ t.dev.hif.stalled = s.dev.hif.stalled ++ [h.cq] ∧
          t.dev.hif.held = s.dev.hif.held ∧ t.dev.reg (Reg.HIF_COUNT 9) = s.dev.plus (Reg.HIF_COUNT 9) 1) ∧
      (s.dev.cqRoom h.cq (h.words.length / 4) = true → exec (.completionWrite r) s = .next s)))

/-! ### Rings -/

/-- The entry `e` of ring `r` has finished with this status and VALUE: its completion waits behind those that wait, under its TAG and index. -/
def Sys2Proof.Machine.Dev.finishedAs (d e : Dev) (r : Nat) (x : Entry) (status : Nat) (value : Word) : Prop :=
  e.hif.held = d.hif.held ++ [⟨d.subCq r, r, x.index, x.completion r status (x.rest value), !(x.fence || x.ordered)⟩] ∧
  ∃ y, e.entry r x.index = some y ∧ y.finished = true ∧ y.status = status ∧ y.value = value ∧ y.words = x.words

/-- Doorbells and scans. A doorbell asks for a scan of its group, or for one more when one is under way; a scan takes each ACTIVE ring of the
group that has entries, and no other; nothing else changes (R488). ENTRY_FETCH on a ring whose turn it is: a good entry joins the entries in
progress, FETCH passes its slots and the bytes are counted; an aborted read, a bad header or a bad body puts the ring into ERROR with its code at
the entry's index, and counts it (R484, R487, R489). -/
def Obligations.DoorbellsAndFetches : Prop :=
  (∀ (g : Nat) (s : State), g < 512 →
    (s.dev.running = true → s.dev.accessOpen (doorbellAddr g) = true →
      ∃ t, exec (.doorbell g) s = .next t ∧ t = s.withDev { s.dev with hif := { s.dev.hif with scans := t.dev.hif.scans, rescans := t.dev.hif.rescans } } ∧
        (g ∉ s.dev.hif.scans → t.dev.hif.scans = s.dev.hif.scans ++ [g] ∧ t.dev.hif.rescans = s.dev.hif.rescans) ∧
        (g ∈ s.dev.hif.scans → t.dev.hif.scans = s.dev.hif.scans ∧ g ∈ t.dev.hif.rescans)) ∧
    (s.dev.hifOn = true → g ∈ s.dev.hif.scans →
      ∃ t, exec (.doorbellScan g) s = .next t ∧ t.dev.regs = s.dev.regs ∧ t = s.withDev { s.dev with hif := t.dev.hif } ∧
        (g ∉ s.dev.hif.rescans → g ∉ t.dev.hif.scans) ∧ (g ∈ s.dev.hif.rescans → g ∈ t.dev.hif.scans ∧ g ∉ t.dev.hif.rescans) ∧
        ∀ r, (t.dev.sub r).prog = (s.dev.sub r).prog ∧
          (t.dev.sub r).scan = ((s.dev.sub r).scan || (r / 64 == g && s.dev.ringState r == rsActive && s.dev.fetchIdx r != s.dev.subPi r)))) ∧
  (∀ (r : Nat) (s : State), s.dev.hifOn = true → r < 32768 → s.dev.fetchable r = true → s.dev.fetchTurn r = true →
    let n := s.dev.ringSize r
    let idx := s.dev.fetchIdx r
    let a := s.dev.slotAddr r (idx % 65536)
    s.dev.mayRead r a 32 = true →
    let inError := fun (t : State) (code : Nat) => t.dev.ringState r = rsError ∧ t.dev.fld (Reg.RNG_STATE r) F.RNG_STATE_ERR = code ∧
      t.dev.fld (Reg.RNG_ERR_INDEX r) F.RNG_ERR_INDEX_INDEX = idx ∧ t.dev.reg (Reg.HIF_COUNT 10) = s.dev.plus (Reg.HIF_COUNT 10) 1 ∧
      t.dev.fetchIdx r = idx
    (∃ t, exec (.entryFetch r none) s = .next t ∧ inError t 0x0B) ∧
    (∀ ws code, headerError n idx (wordAt ws 0).toNat = some code → ∃ t, exec (.entryFetch r (some ws)) s = .next t ∧ inError t code) ∧
    (∀ ws, headerError n idx (wordAt ws 0).toNat = none →
      let e := Entry.new idx ((List.range (4 * (bitsOf (wordAt ws 0).toNat 8 3 + 1))).map (wordAt ws))
      e.slots ≤ idxGap n idx (s.dev.subPi r) → s.dev.mayRead r a (32 * e.slots) = true → s.dev.entryRoom r e = true →
      (∀ code, bodyError e = some code → ∃ t, exec (.entryFetch r (some ws)) s = .next t ∧ inError t code) ∧
      (bodyError e = none → ∃ t, exec (.entryFetch r (some ws)) s = .next t ∧ (t.dev.sub r).prog = (s.dev.sub r).prog ++ [e] ∧ (t.dev.sub r).rx = (s.dev.sub r).rx ∧
        t.dev.fetchIdx r = idxAdvance n idx e.slots % 2 ^ 17 ∧ t.dev.reg (Reg.HIF_COUNT 2) = s.dev.plus (Reg.HIF_COUNT 2) (32 * e.slots) ∧
        s.dev.regsKept t.dev [Reg.RNG_FETCH r, Reg.HIF_COUNT 2] ∧ t = s.withDev { s.dev with regs := t.dev.regs, hif := t.dev.hif })))

/-- Entries of the host interface without data. PAD leaves without a completion; NOP finishes OK with VALUE 0; a posted RX_BUF joins its ring's
buffers in fetch order; XLT_INV drops exactly the translations it names, or finishes NOT_OWNED for another function's space, and finishes OK once
no old translation is in use (R482, R492, R504, R512). Jobs and packet reads. COPY and WRITE_INLINE with LEN 0 finish OK at once and start
otherwise, nothing written yet; the last chunk of an inline write to the host writes its bytes there and finishes the entry OK with VALUE its
length; a TX entry reads its packet, which then waits for injection, or finishes HOST_ABORT when the read was aborted (R494, R495, R507). -/
def Obligations.EntryDecodes : Prop :=
  (∀ (r i : Nat) (e : Entry) (s : State), s.dev.hifOn = true → s.dev.entry r i = some e → s.dev.canGo r e = true →
    (e.op = 0 → ∃ t, exec (.subPad r i) s = .next t ∧ t = s.withDev { s.dev with hif := t.dev.hif } ∧ t.dev.entry r i = none ∧
      (∀ j, j ≠ i → t.dev.entry r j = s.dev.entry r j) ∧ t.dev.hif.held = s.dev.hif.held) ∧
    (e.op = 1 → ∃ t, exec (.subNop r i) s = .next t ∧ t = s.withDev { s.dev with hif := t.dev.hif } ∧ s.dev.finishedAs t.dev r e 0 0) ∧
    (e.op = 5 → e.started = false → ((s.dev.sub r).prog.all fun x => x.op != 5 || x.started || s.dev.behind r x.index ≤ s.dev.behind r i) = true →
      ∃ t, exec (.subRxBuf r i) s = .next t ∧ t = s.withDev { s.dev with hif := t.dev.hif } ∧ t.dev.entry r i = none ∧
        (t.dev.sub r).rx = (s.dev.sub r).rx ++ [e]) ∧
    (e.op = 6 → e.started = false →
      let sp := bitsOf (e.w 1) 0 10
      (s.dev.fld (Reg.XLT_SPACE sp) F.XLT_SPACE_FUNC ≠ s.dev.ringFunc r →
        ∃ t, exec (.subXltInv r i) s = .next t ∧ s.dev.finishedAs t.dev r e 0x06 0 ∧ t.dev.hif.tlb = s.dev.hif.tlb) ∧
      (s.dev.fld (Reg.XLT_SPACE sp) F.XLT_SPACE_FUNC = s.dev.ringFunc r →
        ∃ t, exec (.subXltInv r i) s = .next t ∧ t = s.withDev { s.dev with hif := t.dev.hif } ∧ t.dev.hif.held = s.dev.hif.held ∧
          (∃ y, t.dev.entry r i = some y ∧ y.started = true) ∧
          ∀ x, x ∈ t.dev.hif.tlb ↔ x ∈ s.dev.hif.tlb ∧ ¬ (x.space = sp ∧
            (bitOf (e.w 1) 10 = true ∨ bitsOf (e.w 2) 12 36 ≤ x.page ∧ x.page < bitsOf (e.w 2) 12 36 + bitsOf (e.w 3) 0 32)))) ∧
    (e.op = 6 → e.started = true → ∃ t, exec (.xltInvDone r i) s = .next t ∧ s.dev.finishedAs t.dev r e 0 0)) ∧
  (∀ (r i : Nat) (e : Entry) (s : State), s.dev.hifOn = true → s.dev.entry r i = some e → s.dev.canGo r e = true →
    Map.rising s.dev.hif.subs = true → ((s.dev.sub r).prog.map Entry.index).Nodup →
    (∀ c, (e.op = 2 ∧ c = Instr.subCopy r i ∨ e.op = 3 ∧ c = Instr.subWriteInline r i) → e.started = false →
      (e.jobLen = 0 → ∃ t, exec c s = .next t ∧ t.host = s.host ∧ s.dev.finishedAs t.dev r e 0 0) ∧
      (e.jobLen ≠ 0 → ∃ t y, exec c s = .next t ∧ t = s.withDev { s.dev with hif := t.dev.hif } ∧ t.dev.entry r i = some y ∧ y.started = true ∧
        y.doneBytes = e.doneBytes ∧ y.words = e.words ∧ t.dev.hif.held = s.dev.hif.held)) ∧
    (∀ data w, e.op = 3 → e.job = true → e.dstDram = false → e.dram = none → e.jobLen ≤ e.doneBytes + e.chunk →
      s.dev.hostWrites r (e.jobDst + e.doneBytes) (slice (wordsBytes e.words) (16 + e.doneBytes) e.chunk) (!e.fence) = some w →
      ∃ t, exec (.dmaChunk r i data) s = .next t ∧ s.hostTook t w ∧
        t.dev.hif.held = s.dev.hif.held ++ [⟨s.dev.subCq r, r, i, e.completion r 0 [BitVec.ofNat 64 e.jobLen, 0], !(e.fence || e.ordered)⟩] ∧
        t.dev.reg (Reg.HIF_COUNT 3) = s.dev.plus (Reg.HIF_COUNT 3) e.chunk ∧ s.dev.regsKept t.dev [Reg.HIF_COUNT 3]) ∧
    (e.op = 4 → e.started = false →
      let n := bitsOf (e.w 2) 0 14
      s.dev.mayRead r (bitsOf (e.w 1) 0 48) n = true →
      (∃ t, exec (.subTx r i none) s = .next t ∧ s.dev.finishedAs t.dev r e 0x05 0) ∧
      (∀ bs, ∃ t, exec (.subTx r i (some bs)) s = .next t ∧ t.dev.hif.injects = s.dev.hif.injects ++ [⟨r, i, e.words, slice bs 0 n⟩] ∧
        t.dev.hif.held = s.dev.hif.held ∧ t.dev.reg (Reg.HIF_COUNT 2) = s.dev.plus (Reg.HIF_COUNT 2) n ∧
        s.dev.regsKept t.dev [Reg.HIF_COUNT 2] ∧ ∃ y, t.dev.entry r i = some y ∧ y.started = true)))

/-- Ring indexes. A write of PI stores it; on an ACTIVE or waiting ring an index outside the ring, or ahead of FETCH by more than its slots, puts
the ring into ERROR with code 5 (R490). A write of CI stores it; ARM stays 1 only while CI equals PI (R498, R502). The states of a submission ring
(R484, R486, R515). ENABLE makes a DISABLED ring ACTIVE with FETCH at PI when its configuration holds, else puts it into ERROR with code 6. RESET
makes it STOPPING; once nothing is in progress it is DISABLED with its indexes 0 and its unused buffers completed FLUSHED. RESUME makes a ring in
FAULT_WAIT ACTIVE again when nothing else is suspended; SKIP first finishes the suspended job with XLT_FAULT and VALUE the bytes done. -/
def Obligations.RingsAndIndices : Prop :=
  (∀ (r : Nat) (v : Word) (s : State), s.dev.running = true → r < 32768 →
    let pi := F.RNG_PI_S_PI.of v
    let n := s.dev.ringSize r
    let bad := n ≤ pi % 65536 ∨ n < idxGap n (s.dev.fetchIdx r) pi
    (s.dev.accessOpen (Reg.RNG_PI_S r) = true → ¬ ((s.dev.ringState r = rsActive ∨ s.dev.ringState r = rsFaultWait) ∧ bad) →
      exec (.ringPiWrite r v) s = .next (s.withDev (s.dev.setReg (Reg.RNG_PI_S r) (F.RNG_PI_S_PI.put (s.dev.reg (Reg.RNG_PI_S r)) pi)))) ∧
    (s.dev.accessOpen (Reg.RNG_PI_S r) = true → (s.dev.ringState r = rsActive ∨ s.dev.ringState r = rsFaultWait) → bad →
      ∃ t, exec (.ringPiWrite r v) s = .next t ∧ t.dev.subPi r = pi ∧ t.dev.ringState r = rsError ∧
        t.dev.fld (Reg.RNG_STATE r) F.RNG_STATE_ERR = 5 ∧ t.dev.reg (Reg.HIF_COUNT 10) = s.dev.plus (Reg.HIF_COUNT 10) 1) ∧
    (s.dev.accessOpen (Reg.RNG_CI r) = true →
      ∃ t, exec (.ringCiWrite r v) s = .next t ∧ t.dev.fld (Reg.RNG_CI r) F.RNG_CI_CI = F.RNG_CI_CI.of v ∧
        t.dev.fld (Reg.RNG_PI_C r) F.RNG_PI_C_PI = s.dev.fld (Reg.RNG_PI_C r) F.RNG_PI_C_PI ∧
        (t.dev.fld (Reg.RNG_CI r) F.RNG_CI_ARM = 1 → F.RNG_CI_CI.of v = s.dev.fld (Reg.RNG_PI_C r) F.RNG_PI_C_PI)) ∧
    (s.dev.accessOpen (Reg.RNG_CI r) = true →
      ∃ t, exec (.ringArm r) s = .next t ∧ t.dev.fld (Reg.RNG_CI r) F.RNG_CI_CI = s.dev.fld (Reg.RNG_CI r) F.RNG_CI_CI ∧
        t.dev.fld (Reg.RNG_CI r) F.RNG_CI_ARM =
          (if s.dev.fld (Reg.RNG_CI r) F.RNG_CI_CI = s.dev.fld (Reg.RNG_PI_C r) F.RNG_PI_C_PI then 1 else 0))) ∧
  (∀ (r : Nat) (s : State), r < 32768 →
    (s.dev.running = true → s.dev.accessOpen (Reg.RNG_CTRL r) = true →
      (s.dev.ringState r ≠ rsDisabled → exec (.ringEnable r) s = .next s) ∧
      (s.dev.ringState r = rsDisabled → s.dev.enableOk r = true →
        ∃ t, exec (.ringEnable r) s = .next t ∧ t.dev.ringState r = rsActive ∧ t.dev.fetchIdx r = s.dev.subPi r ∧
          s.dev.regsKept t.dev [Reg.RNG_STATE r, Reg.RNG_FETCH r] ∧ t = s.withDev { s.dev with regs := t.dev.regs }) ∧
      (s.dev.ringState r = rsDisabled → s.dev.enableOk r = false →
        ∃ t, exec (.ringEnable r) s = .next t ∧ t.dev.ringState r = rsError ∧ t.dev.fld (Reg.RNG_STATE r) F.RNG_STATE_ERR = 6) ∧
      (s.dev.ringState r = rsActive → (s.dev.sub r).susps = [] →
        ∃ t, exec (.ringReset r) s = .next t ∧ t.dev.ringState r = rsStopping ∧ t.dev.bit (Reg.RNG_CTRL r) F.RNG_CTRL_RESET = true ∧
          (t.dev.sub r).prog = (s.dev.sub r).prog ∧ t.dev.pkts = s.dev.pkts ∧ s.dev.regsKept t.dev [Reg.RNG_STATE r, Reg.RNG_CTRL r]) ∧
      (∀ x, s.dev.ringState r = rsFaultWait → (s.dev.sub r).susps = [x] →
        (∃ t, exec (.ringResume r) s = .next t ∧ t.dev.ringState r = rsActive ∧ (t.dev.sub r).susps = [] ∧ t.dev.hif.held = s.dev.hif.held) ∧
        (∀ e, x.kind = 1 → s.dev.entry r x.index = some e →
          ∃ t, exec (.ringSkip r) s = .next t ∧ t.dev.ringState r = rsActive ∧ (t.dev.sub r).susps = [] ∧
            s.dev.finishedAs t.dev r e 0x02 (BitVec.ofNat 64 (s.dev.fld (Reg.RNG_PROG r) F.RNG_PROG_DONE_BYTES))))) ∧
    (s.dev.hifOn = true → s.dev.ringState r = rsStopping → s.dev.inProgress r = 0 →
      ∃ t, exec (.ringStopped r) s = .next t ∧ t.dev.ringState r = rsDisabled ∧ t.dev.subPi r = 0 ∧ t.dev.fetchIdx r = 0 ∧
        t.dev.sub r = Sub.init ∧ t.dev.hif.held = s.dev.hif.held ++ ((s.dev.sub r).rx ++ (s.dev.sub r).prog.filter fun e => e.op = 5).map
          fun e => ⟨s.dev.subCq r, r, e.index, e.completion r 0x08 (e.rest 0), !(e.fence || e.ordered)⟩))

/-- A translation walk for an access of a job that waits. With the space off it faults with code 5 before any table is read; a walk from the
space's ROOT that finds a page the access may use caches it; a walk that ends in a fault suspends the access and puts an ACTIVE ring into
FAULT_WAIT with the fault's code (R510, R511, R513, R514); while a table entry has not been read the access waits on. -/
def Obligations.TranslationWalk : Prop :=
  ∀ (r i iova : Nat) (write : Bool) (es : List (Nat × Option Word)) (s : State), s.dev.hifOn = true → iova < 2 ^ 48 → r < 32768 →
    s.dev.accessWaits r 1 i iova write = true → s.dev.xlate r iova write = none →
    let waits := fun (t : State) (code : Nat) => t.dev.ringState r = rsFaultWait ∧ t.dev.fld (Reg.RNG_STATE r) F.RNG_STATE_ERR = code ∧
      (t.dev.sub r).susps = [⟨1, i, iova, write, code⟩] ∧ t.dev.reg (Reg.HIF_COUNT 8) = s.dev.plus (Reg.HIF_COUNT 8) 1 ∧ t.host = s.host
    (s.dev.spaceOn (s.dev.ringFunc r) (s.dev.ringSpace r) = false → s.dev.ringState r = rsActive →
      ∃ t, exec (.xltWalk r 1 i iova write es) s = .next t ∧ waits t 5 ∧ t.dev.reg (Reg.HIF_COUNT 7) = s.dev.reg (Reg.HIF_COUNT 7)) ∧
    (s.dev.spaceOn (s.dev.ringFunc r) (s.dev.ringSpace r) = true →
      let found := walk iova es true true 4 (s.dev.fld (Reg.XLT_SPACE (s.dev.ringSpace r)) F.XLT_SPACE_ROOT)
      (found = .open_ → exec (.xltWalk r 1 i iova write es) s = .next s) ∧
      (∀ c, walkFault found write = some c → s.dev.ringState r = rsActive →
        ∃ t, exec (.xltWalk r 1 i iova write es) s = .next t ∧ waits t c ∧ t.dev.reg (Reg.HIF_COUNT 7) = s.dev.plus (Reg.HIF_COUNT 7) 1) ∧
      (∀ pa rd wr, walkFault found write = none → found = .page pa rd wr →
        ∃ t, exec (.xltWalk r 1 i iova write es) s = .next t ∧ t.dev.xlate r iova write = some (pa * 4096 + iova % 4096) ∧
          t.dev.reg (Reg.HIF_COUNT 7) = s.dev.plus (Reg.HIF_COUNT 7) 1 ∧ s.dev.regsKept t.dev [Reg.HIF_COUNT 3, Reg.HIF_COUNT 7] ∧
          t.dev.hif.held = s.dev.hif.held ∧ t.dev.hif.subs = s.dev.hif.subs ∧ (s.dev.hif.wbOwed = [] → t.host = s.host)))

/-! ### Engines -/

/-- The instruction at the program counter of thread `t` of engine `x`. -/
def Sys2Proof.Machine.Dev.insnAt (d : Dev) (e t : Nat) (x : Engine) : Nat := epInsn (d.engProg e x) (x.thread t).pc

/-- Engine `e` is loaded and stands as `x`, its cluster runs, and it is thread `t`'s turn with an instruction of opcode `op` (R273, R279). -/
def Sys2Proof.Machine.Dev.hasTurn (d : Dev) (e t op : Nat) (x : Engine) : Prop :=
  e < 256 ∧ d.running = true ∧ d.clusterUp e = true ∧ Map.find d.engines e = some x ∧ x.threads.length = 8 ∧
  x.due (d.engProg e x) t = true ∧ iOp (d.insnAt e t x) = op

/-- The thread is within its step limit (R300). -/
def Sys2Proof.Machine.Dev.inSteps (d : Dev) (t : Nat) (x : Engine) : Prop :=
  d.fld Reg.ENG_LIMIT F.ENG_LIMIT_STEPS = 0 ∨ (x.thread t).steps < d.fld Reg.ENG_LIMIT F.ENG_LIMIT_STEPS

/-- Thread `t` of the loaded engine `e` may issue the instruction at its program counter, which has opcode `op`: it is its turn, it is within its
step limit, and no outstanding operation holds the instruction (R273, R279, R286, R300). -/
def Sys2Proof.Machine.Dev.canIssue (d : Dev) (e t op : Nat) (x : Engine) : Prop :=
  d.hasTurn e t op x ∧ d.inSteps t x ∧ mustStall x (x.thread t) (d.insnAt e t x) = false

/-- The device after an issued instruction that leaves thread `t` as `th`: INSTRUCTIONS and ISSUE_BEATS count it, and the thread is the one that
issued last. -/
def Sys2Proof.Machine.Dev.issuedAs (d : Dev) (e t : Nat) (x : Engine) (th : Thread) : Dev :=
  ((d.count (Reg.ENG_COUNT e 4) 1).count (Reg.ENG_COUNT e 5) 1).setEngine e ({ x with last := some t }.setThread t th)

/-- The same for a thread that goes on as `th` at `pc`: its step count grows, and it is in RUN. -/
def Sys2Proof.Machine.Dev.issuedTo (d : Dev) (e t pc : Nat) (x : Engine) (th : Thread) : Dev :=
  d.issuedAs e t x { th with pc := pc, steps := (x.thread t).steps + 1, st := .run }

/-- The trap of thread `t` with `code`, in `u`: the record with the thread and its program counter, the event and the count; its packet is
discarded (R299). -/
def Sys2Proof.Machine.Dev.trapped (d u : Dev) (e t code : Nat) (x : Engine) : Prop :=
  u.fld (Reg.ENG_TRAP_LAST e) F.ENG_TRAP_LAST_CODE = code ∧ u.fld (Reg.ENG_TRAP_LAST e) F.ENG_TRAP_LAST_THREAD = t ∧
  u.fld (Reg.ENG_TRAP_LAST e) F.ENG_TRAP_LAST_PC = (x.thread t).pc % 4096 ∧ u.fld (Reg.ENG_TRAP_LAST e) F.ENG_TRAP_LAST_VALID = 1 ∧
  (u.reg (Reg.ENG_EVENT e)).getLsbD 0 = true ∧ u.reg (Reg.ENG_COUNT e 3) = d.plus (Reg.ENG_COUNT e 3) 1 ∧
  ∀ c p, d.threadPkt (x.thread t) = some (c, p) → u.pkt c = none ∧ d.pktsKept u c

/-- The command that issues an instruction of opcode `op` in thread `t` of engine `e`, when the fetch meets `f` (R281). -/
def Sys2Proof.Machine.insnCmd (e t : Nat) (f : MemErr) (op : Nat) : Option Instr :=
  if op = 0x10 then some (.engSum e t f) else if op = 0x11 then some (.engDif e t f) else if op = 0x12 then some (.engMsk e t f)
  else if op = 0x13 then some (.engJoin e t f) else if op = 0x14 then some (.engFlip e t f) else if op = 0x15 then some (.engLsl e t f)
  else if op = 0x16 then some (.engLsr e t f) else if op = 0x17 then some (.engMull e t f) else if op = 0x18 then some (.engLess e t f)
  else if op = 0x20 then some (.engSumk e t f) else if op = 0x21 then some (.engMskk e t f) else if op = 0x22 then some (.engJoink e t f)
  else if op = 0x23 then some (.engFlipk e t f) else if op = 0x24 then some (.engLslk e t f) else if op = 0x25 then some (.engLsrk e t f)
  else if op = 0x26 then some (.engField e t f) else if op = 0x28 then some (.engSeth e t f) else if op = 0x29 then some (.engPuth e t f)
  else if op = 0x30 then some (.engDld e t f .none) else if op = 0x31 then some (.engDst e t f) else if op = 0x32 then some (.engPld e t f)
  else if op = 0x33 then some (.engPst e t f) else if op = 0x34 then some (.engCld e t f) else if op = 0x35 then some (.engCst e t f)
  else if op = 0x38 then some (.engIfeq e t f) else if op = 0x39 then some (.engIfne e t f) else if op = 0x3A then some (.engIflo e t f)
  else if op = 0x3B then some (.engIfhs e t f) else if op = 0x3C then some (.engIfz e t f) else if op = 0x3D then some (.engIfnz e t f)
  else if op = 0x3E then some (.engCall e t f) else if op = 0x3F then some (.engGoto e t f) else if op = 0x40 then some (.engTlk e t f)
  else if op = 0x41 then some (.engCnt e t f) else if op = 0x42 then some (.engFrag e t f) else if op = 0x43 then some (.engCrc e t f)
  else if op = 0x44 then some (.engWait e t f) else if op = 0x45 then some (.engMsg e t f) else if op = 0x46 then some (.engNewp e t f)
  else if op = 0x48 then some (.engTime e t f) else if op = 0x49 then some (.engSleep e t f) else if op = 0x4A then some (.engCharge e t f)
  else if op = 0x4B then some (.engHeadadj e t f) else if op = 0x4C then some (.engSend e t f) else if op = 0x4D then some (.engDrop e t f)
  else if op = 0x4F then some (.engTrap e t f) else none

/-- The instructions on two registers: each writes its result into register d, and the thread goes on behind it; nothing else of the thread, no
other thread and no packet changes. A corrected instruction word is reported besides (R281, R302). The instructions with a constant: SUMK
sign-extends it, the logic forms zero-extend it, LSLK, LSRK and FIELD take shift and length from it (length 0 means 64), SETH sets one half-word
and clears the rest, PUTH replaces one half-word; TIME gives the low 32 bits of nanoseconds and the fraction (R280, R281). -/
def Obligations.EngineArithmetic : Prop :=
  (∀ (e t : Nat) (x : Engine) (s : State),
    let th := x.thread t
    let w := s.dev.insnAt e t x
    let a := th.v (iA w)
    let b := th.v (iB w)
    let gives := fun (c : MemErr → Instr) (op : Nat) (v : Word) => s.dev.canIssue e t op x → th.pc + 1 < epCount (s.dev.engProg e x) →
      ∀ f, f ≠ .uncorr → exec (c f) s = .next (s.withDev ((s.dev.engCorr e f).issuedTo e t (th.pc + 1) x (th.setV (iD w) v)))
    gives (.engSum e t) 0x10 (BitVec.ofNat 64 (a.toNat + b.toNat)) ∧
    gives (.engDif e t) 0x11 (BitVec.ofNat 64 (a.toNat + 2 ^ 64 - b.toNat)) ∧
    gives (.engMsk e t) 0x12 (a &&& b) ∧ gives (.engJoin e t) 0x13 (a ||| b) ∧ gives (.engFlip e t) 0x14 (a ^^^ b) ∧
    gives (.engLsl e t) 0x15 (BitVec.ofNat 64 (a.toNat * 2 ^ (b.toNat % 64))) ∧
    gives (.engLsr e t) 0x16 (BitVec.ofNat 64 (a.toNat / 2 ^ (b.toNat % 64))) ∧
    gives (.engMull e t) 0x17 (BitVec.ofNat 64 (a.toNat * b.toNat)) ∧
    gives (.engLess e t) 0x18 (if a.toNat < b.toNat then 1 else 0)) ∧
  (∀ (e t : Nat) (x : Engine) (s : State),
    let th := x.thread t
    let w := s.dev.insnAt e t x
    let a := th.v (iA w)
    let k := iK w
    let sh := k % 64
    let len := if k / 64 % 64 = 0 then 64 else k / 64 % 64
    let q := 16 * iQ w
    let gives := fun (c : MemErr → Instr) (op : Nat) (v : Word) => s.dev.canIssue e t op x → th.pc + 1 < epCount (s.dev.engProg e x) →
      ∀ f, f ≠ .uncorr → exec (c f) s = .next (s.withDev ((s.dev.engCorr e f).issuedTo e t (th.pc + 1) x (th.setV (iD w) v)))
    gives (.engSumk e t) 0x20 (BitVec.ofNat 64 (a.toNat + k + if k < 2 ^ 13 then 0 else 2 ^ 64 - 2 ^ 14)) ∧
    gives (.engMskk e t) 0x21 (a &&& BitVec.ofNat 64 k) ∧ gives (.engJoink e t) 0x22 (a ||| BitVec.ofNat 64 k) ∧
    gives (.engFlipk e t) 0x23 (a ^^^ BitVec.ofNat 64 k) ∧
    gives (.engLslk e t) 0x24 (BitVec.ofNat 64 (a.toNat * 2 ^ sh)) ∧ gives (.engLsrk e t) 0x25 (BitVec.ofNat 64 (a.toNat / 2 ^ sh)) ∧
    gives (.engField e t) 0x26 (BitVec.ofNat 64 (a.toNat / 2 ^ sh % 2 ^ len)) ∧
    gives (.engSeth e t) 0x28 (BitVec.ofNat 64 (iImm w * 2 ^ q)) ∧
    gives (.engPuth e t) 0x29 (BitVec.ofNat 64 ((th.v (iD w)).toNat - (th.v (iD w)).toNat / 2 ^ q % 2 ^ 16 * 2 ^ q + iImm w * 2 ^ q)) ∧
    gives (.engTime e t) 0x48 (BitVec.ofNat 64 (s.dev.ns % 2 ^ 32 + s.dev.ns256 % 256 * 2 ^ 32)))

/-- Branches: a compare sends the thread to the next instruction plus its signed displacement when it holds, and to the next one otherwise; CALL
keeps the next instruction's address in register d; GOTO takes the low 12 bits of register a. A target at or beyond INSN_COUNT traps with
PC_RANGE at the branch (R280, R281, R299). -/
def Obligations.EngineBranches : Prop :=
  ∀ (e t : Nat) (x : Engine) (s : State),
    let th := x.thread t
    let w := s.dev.insnAt e t x
    let p := th.v (iD w)
    let q := th.v (iA w)
    let n := epCount (s.dev.engProg e x)
    let goes := fun (c : MemErr → Instr) (op : Nat) (hit : Prop) (dst : Int) (th' : Thread) => s.dev.canIssue e t op x → hit →
      ∀ f, f ≠ .uncorr →
        (0 ≤ dst → dst < n → exec (c f) s = .next (s.withDev ((s.dev.engCorr e f).issuedTo e t dst.toNat x th'))) ∧
        (dst < 0 ∨ (n : Int) ≤ dst → ∃ u, exec (c f) s = .next u ∧ s.dev.trapped u.dev e t 0x1 x)
    let next : Int := th.pc + 1
    let far : Int := th.pc + 1 + (if iK w < 2 ^ 13 then (iK w : Int) else (iK w : Int) - 2 ^ 14)
    let disp : Int := bitsOf w 0 19
    goes (.engIfeq e t) 0x38 (p = q) far th ∧ goes (.engIfeq e t) 0x38 (p ≠ q) next th ∧
    goes (.engIfne e t) 0x39 (p ≠ q) far th ∧ goes (.engIfne e t) 0x39 (p = q) next th ∧
    goes (.engIflo e t) 0x3A (p.toNat < q.toNat) far th ∧ goes (.engIflo e t) 0x3A (q.toNat ≤ p.toNat) next th ∧
    goes (.engIfhs e t) 0x3B (q.toNat ≤ p.toNat) far th ∧ goes (.engIfhs e t) 0x3B (p.toNat < q.toNat) next th ∧
    goes (.engIfz e t) 0x3C (p = 0) far th ∧ goes (.engIfz e t) 0x3C (p ≠ 0) next th ∧
    goes (.engIfnz e t) 0x3D (p ≠ 0) far th ∧ goes (.engIfnz e t) 0x3D (p = 0) next th ∧
    goes (.engCall e t) 0x3E True (th.pc + 1 + (if disp < 2 ^ 18 then disp else disp - 2 ^ 19)) (th.setV (iD w) (BitVec.ofNat 64 (th.pc + 1))) ∧
    goes (.engGoto e t) 0x3F True ((q.toNat % 4096 : Nat) : Int) th

/-- Memory instructions within their space and aligned: DLD and DST little-endian in data memory, PLD and PST big-endian in the packet window, CLD
and CST little-endian in the context of the thread's packet. A store changes its own bytes of data memory, at the address it computes, and no
other; one of a whole word makes the word good again, one of less leaves it as it was. A corrected word is reported besides (R281 to R284, R302).
An access beyond its space traps with DMEM_RANGE, WINDOW or CONTEXT, one that is not aligned with ALIGN, one to the packet without a packet with
NO_PACKET (R282, R283, R299); one that breaks both rules traps with one of the two codes (the spec names no order, log entry 6). No memory
changes. A load that meets an uncorrectable word traps with DMEM_ECC, raises DMEM_ECC and reports class U (R302). -/
def Obligations.EngineMemory : Prop :=
  (∀ (e t c : Nat) (f m : MemErr) (x : Engine) (p : Pkt) (s : State), f ≠ .uncorr → m ≠ .uncorr →
    let th := x.thread t
    let w := s.dev.insnAt e t x
    let a := if iZ w then iOff w else ((th.v (iA w)).toNat + iOff w) % 2 ^ 64
    let n := iS w
    let low := (th.v (iD w)).toNat % 2 ^ (8 * n)
    let d := s.dev.engCorr e f
    let ok := fun (op space : Nat) => s.dev.canIssue e t op x ∧ th.pc + 1 < epCount (s.dev.engProg e x) ∧ a % n = 0 ∧ a + n ≤ space
    let goes := fun (d : Dev) (th' : Thread) => d.issuedTo e t (th.pc + 1) x th'
    (ok 0x30 16384 → s.dev.engWordBad e a = false → exec (.engDld e t f m) s =
      .next (s.withDev (goes (d.engCorr e m) (th.setV (iD w) (BitVec.ofNat 64 (leNat (Mem.readAll (s.dev.engMem e) a n))))))) ∧
    (ok 0x31 16384 → ∃ u, exec (.engDst e t f) s = .next u ∧ u = s.withDev { goes d th with dmem := u.dev.dmem, dmemBad := u.dev.dmemBad } ∧
      leNat (Mem.readAll (u.dev.engMem e) a n) = low ∧
      (∀ b, b < a ∨ a + n ≤ b → Mem.read (u.dev.engMem e) b = Mem.read (s.dev.engMem e) b) ∧ (∀ k, k ≠ e → u.dev.engMem k = s.dev.engMem k) ∧
      (∀ k b, (k, b) ∈ u.dev.dmemBad ↔ (k, b) ∈ s.dev.dmemBad ∧ ¬ (k = e ∧ b = a ∧ n = 8))) ∧
    (ok 0x32 th.win.length → th.ctx.isSome → exec (.engPld e t f) s =
      .next (s.withDev (goes d (th.setV (iD w) (BitVec.ofNat 64 (beNat (slice th.win a n))))))) ∧
    (ok 0x33 th.win.length → th.ctx.isSome → exec (.engPst e t f) s =
      .next (s.withDev (goes d { th with win := th.win.take a ++ beBytes n low ++ th.win.drop (a + n) }))) ∧
    (ok 0x34 256 → s.dev.threadPkt th = some (c, p) → exec (.engCld e t f) s =
      .next (s.withDev (goes d (th.setV (iD w) (BitVec.ofNat 64 (leNat (p.ctxBytes a n))))))) ∧
    (ok 0x35 256 → s.dev.threadPkt th = some (c, p) → p.words.length = 32 → ∃ u q, exec (.engCst e t f) s = .next u ∧
      u = s.withDev { goes d th with pkts := u.dev.pkts } ∧ u.dev.pkt c = some q ∧ s.dev.pktsKept u.dev c ∧ q = { p with words := q.words } ∧
      ∀ i, (i ≠ a / 8 → q.word i = p.word i) ∧
        q.word i &&& ~~~ BitVec.ofNat 64 (cstMask i) = p.word i &&& ~~~ BitVec.ofNat 64 (cstMask i) ∧
        (i = a / 8 → n = 8 → q.word i &&& BitVec.ofNat 64 (cstMask i) = th.v (iD w) &&& BitVec.ofNat 64 (cstMask i)))) ∧
  (∀ (e t : Nat) (f m : MemErr) (x : Engine) (s : State), f ≠ .uncorr →
    let th := x.thread t
    let w := s.dev.insnAt e t x
    let a := if iZ w then iOff w else ((th.v (iA w)).toNat + iOff w) % 2 ^ 64
    let n := iS w
    let traps := fun (c : Instr) (code : Nat) => ∃ u, exec c s = .next u ∧ s.dev.trapped u.dev e t code x ∧ u.dev.dmem = s.dev.dmem
    let access := fun (c : Instr) (op space code : Nat) => s.dev.canIssue e t op x →
      (a % n = 0 → space < a + n → traps c code) ∧ (a % n ≠ 0 → a + n ≤ space → traps c 0x3) ∧
      (a % n ≠ 0 → space < a + n → traps c code ∨ traps c 0x3)
    access (.engDld e t f m) 0x30 16384 0x2 ∧ access (.engDst e t f) 0x31 16384 0x2 ∧
    (th.ctx.isSome → access (.engPld e t f) 0x32 th.win.length 0x4 ∧ access (.engPst e t f) 0x33 th.win.length 0x4) ∧
    ((s.dev.threadPkt th).isSome → access (.engCld e t f) 0x34 256 0x5 ∧ access (.engCst e t f) 0x35 256 0x5) ∧
    (th.ctx = none →
      (s.dev.canIssue e t 0x32 x → traps (.engPld e t f) 0x7) ∧ (s.dev.canIssue e t 0x33 x → traps (.engPst e t f) 0x7) ∧
      (s.dev.canIssue e t 0x34 x → traps (.engCld e t f) 0x7) ∧ (s.dev.canIssue e t 0x35 x → traps (.engCst e t f) 0x7)) ∧
    (s.dev.canIssue e t 0x30 x → a % n = 0 → a + n ≤ 16384 → m = .uncorr ∨ s.dev.engWordBad e a = true → ∃ u, exec (.engDld e t f m) s = .next u ∧
      s.dev.trapped u.dev e t 0xA x ∧ u.dev.dmem = s.dev.dmem ∧ u.dev.engWordBad e a = true ∧ (u.dev.reg (Reg.ENG_EVENT e)).getLsbD 1 = true ∧
      u.dev.flt.queue = (s.dev.engCorr e f).flt.queue ++ [⟨82 + e / 16, 2, false, false, s.dev.free⟩]))

/-- The thread `th` without its operation `i`, with the value in its register, and released from STALL when nothing holds it any more (R286). -/
def Sys2Proof.Machine.Dev.afterOp (d : Dev) (e t i : Nat) (x : Engine) (dst : Option Nat) (v : Word) : Engine :=
  let th := x.thread t
  let y : Thread := { th with ops := th.ops.eraseIdx i, regs := match dst with | some r => th.regs.set r v | none => th.regs }
  let go := th.st == .stall && !mustStall (x.setThread t y) y (epInsn (d.engProg e x) th.pc)
  x.setThread t (if go then { y with st := .run } else y)

/-- Instructions that start an operation with its operand bytes in data memory: it joins the thread's outstanding operations with the register it
will write, the packet it is issued for and those bytes as they stand, under a serial number of its own (the model's, log entry 6), and the thread
goes on. Operand bytes beyond data memory trap with DMEM_RANGE, a length out of its range with LENGTH (R286, R289, R291, R292, R299). Fragment
table operations take effect as one step and give register d their status word: LOOKUP finds value and total or answers MISS; INSERT adds an entry
while fewer than 4,096 stand, answers EXISTS for a key that stands, FULL else; ADD adds to the total, which saturates; DELETE removes the entry
(R293, R294). Only the table, its counts, the events and the thread change; a corrected operand word is reported besides (R302).
ASYNC_OP_COMPLETE: a CRC gives register d the CRC of its bytes of data memory; a MSG adds the message, with the time it was issued, to its
engine's messages, where a byte that the program has written since may be the old or the new one (R288); a NEWP makes a packet of its bytes with
DISP FORWARD and answers 0, or answers 1 while the pool is empty; a CNT adds to its counter; a TLK that lands on no DRAM marker gives register d
its slot word; each leaves the thread's outstanding operations (R286, R289, R291, R292). An uncorrectable operand word traps the thread with
DMEM_ECC (R302). -/
def Obligations.EngineAsync : Prop :=
  (∀ (e t : Nat) (f : MemErr) (x : Engine) (s : State), f ≠ .uncorr →
    let th := x.thread t
    let w := s.dev.insnAt e t x
    let a := (th.v (iA w)).toNat
    let b := (th.v (iB w)).toNat
    let dv := (th.v (iD w)).toNat
    let g := s.dev.threadG th
    let tb := iX w % 256
    let d := { s.dev.engCorr e f with pidCtr := s.dev.pidCtr + 1 }
    let op := fun (at_ n : Nat) (dst : Option Nat) (k : AsyncKind) => AsyncOp.mk dst k ((s.dev.threadPkt th).map (·.2.pid))
      (Mem.readAll (s.dev.engMem e) at_ n) (s.dev.pidCtr + 1) none false
    let traps := fun (c : Instr) (code : Nat) => ∃ u, exec c s = .next u ∧ s.dev.trapped u.dev e t code x
    let starts := fun (c : Instr) (code at_ n : Nat) (d : Dev) (dst : Option Nat) (k : AsyncKind) => s.dev.canIssue e t code x →
      (th.pc + 1 < epCount (s.dev.engProg e x) → n = 0 ∨ at_ + n ≤ 16384 →
        exec c s = .next (s.withDev (d.issuedTo e t (th.pc + 1) x { th with ops := th.ops ++ [op at_ n dst k] }))) ∧
      (n ≠ 0 → 16384 < at_ + n → traps c 0x2)
    starts (.engTlk e t f) 0x40 a (s.dev.tlkBytes g tb) d (some (iD w)) (.tlk g tb a b) ∧
    starts (.engCnt e t f) 0x41 0 0 d none (.cnt g tb a b dv) ∧
    starts (.engFrag e t f) 0x42 a 16 d (some (iD w)) (.frag (iX w % 4) a b) ∧
    (1 ≤ b → b ≤ 256 → starts (.engCrc e t f) 0x43 a b d (some (iD w)) (.crc (iX w % 2) a b (dv % 2 ^ 32))) ∧
    (8 ≤ b → b ≤ 240 → b % 8 = 0 → starts (.engMsg e t f) 0x45 a b d none (.msg a b (BitVec.ofNat 32 s.dev.ns))) ∧
    (60 ≤ b → b ≤ 256 → starts (.engNewp e t f) 0x46 a b (d.count (Reg.ENG_COUNT e 7) 1) (some (iD w)) (.newp a b)) ∧
    (b < 1 ∨ 256 < b → s.dev.canIssue e t 0x43 x → traps (.engCrc e t f) 0x9) ∧
    (b < 8 ∨ 240 < b ∨ b % 8 ≠ 0 → s.dev.canIssue e t 0x45 x → traps (.engMsg e t f) 0x9) ∧
    (b < 60 ∨ 256 < b → s.dev.canIssue e t 0x46 x → traps (.engNewp e t f) 0x9)) ∧
  (∀ (e t i a b : Nat) (m : MemErr) (o : AsyncOp) (x : Engine) (s : State), s.dev.running = true → s.dev.clusterUp e = true →
    Map.find s.dev.engines e = some x → m ≠ .uncorr →
    let th := x.thread t
    let key := Mem.readAll (s.dev.engMem e) a 16
    let dev := s.dev.engCorr e m
    let found := s.dev.frags.find? fun f => f.key = key
    let ready := fun (op : Nat) => th.ops[i]? = some o ∧ o.kind = .frag op a b ∧ o.seen = key ∧ o.reads = none ∧
      s.dev.opWaits e th i o = false ∧ s.dev.engRangeBad e a 16 = false
    let gives := fun (c : MemErr → Instr) (d : Dev) (v : Word) =>
      exec (c m) s = .next (s.withDev (d.setEngine e (s.dev.afterOp e t i x o.dst v)))
    (ready 0 → (∀ f, found = some f → gives (.fragLookup e t i) dev (fragWord 0 f.value.toNat f.acc.toNat)) ∧
      (found = none → gives (.fragLookup e t i) dev (fragWord 1 0 0))) ∧
    (ready 1 → (∀ f, found = some f → gives (.fragInsert e t i) dev (fragWord 3 f.value.toNat f.acc.toNat)) ∧
      (found = none → s.dev.frags.length < 4096 → gives (.fragInsert e t i)
        (Dev.count { dev with frags := s.dev.frags ++ [⟨key, BitVec.ofNat 32 b, 0, s.dev.free⟩] } (Reg.ENG_GCOUNT 2) 1) (fragWord 0 (b % 2 ^ 32) 0)) ∧
      (found = none → 4096 ≤ s.dev.frags.length → gives (.fragInsert e t i) ((dev.count (Reg.ENG_GCOUNT 3) 1).raise 5 2) (fragWord 2 0 0))) ∧
    (ready 2 → (∀ f, found = some f →
        let acc := min (f.acc.toNat + b % 2 ^ 24) (2 ^ 24 - 1)
        gives (.fragAdd e t i)
          { dev with frags := s.dev.frags.map fun y => if y.key = key then (⟨f.key, f.value, BitVec.ofNat 24 acc, s.dev.free⟩ : FragEntry) else y }
          (fragWord 0 f.value.toNat acc)) ∧
      (found = none → gives (.fragAdd e t i) dev (fragWord 1 0 0))) ∧
    (ready 3 → (∀ f, found = some f → gives (.fragDelete e t i) { dev with frags := s.dev.frags.filter fun y => y.key != key }
        (fragWord 0 f.value.toNat f.acc.toNat)) ∧
      (found = none → gives (.fragDelete e t i) dev (fragWord 1 0 0)))) ∧
  (∀ (e t i a n : Nat) (o : AsyncOp) (x : Engine) (s : State), s.dev.running = true → s.dev.clusterUp e = true →
    Map.find s.dev.engines e = some x → s.dev.engRangeBad e a n = false →
    let th := x.thread t
    let bs := Mem.readAll (s.dev.engMem e) a n
    th.ops[i]? = some o → o.reads = none → o.seen.length = n →
    (∀ poly init, o.kind = .crc poly a n init → o.seen = bs →
      exec (.asyncOpComplete e t i .none .none) s = .next (s.withDev (s.dev.setEngine e (s.dev.afterOp e t i x o.dst
        (BitVec.ofNat 64 (crcRun (if poly = 0 then 0x82F63B78 else 0xEDB88320) init bs)))))) ∧
    (∀ time, t < x.threads.length → o.dst = none → o.kind = .msg a n time → s.dev.opWaits e th i o = false →
      ∃ (u : State) (y : Engine) (ms : List Byte), exec (.asyncOpComplete e t i .none .none) s = .next u ∧ Map.find u.dev.engines e = some y ∧ y.msgs = x.msgs ++ [⟨t, time, ms⟩] ∧
        ms.length = n ∧ (∀ j : Nat, ms[j]? = o.seen[j]? ∨ ms[j]? = bs[j]?) ∧ (o.seen = bs → ms = bs) ∧
        (y.thread t).ops = th.ops.eraseIdx i ∧ u = s.withDev { s.dev with engines := u.dev.engines, freeCtr := u.dev.freeCtr }) ∧
    (∀ r, t < x.threads.length → r < th.regs.length → o.dst = some r → o.kind = .newp a n → o.seen = bs → s.dev.lineUp (e / 16 % 8) = true →
      (s.dev.poolFree = false → ∃ u y, exec (.asyncOpComplete e t i .none .none) s = .next u ∧ Map.find u.dev.engines e = some y ∧
        (y.thread t).v r = 1 ∧ (y.thread t).ops = th.ops.eraseIdx i ∧ u.dev.pkts = s.dev.pkts ∧
        u.dev.reg (Reg.ENG_GCOUNT 7) = s.dev.plus (Reg.ENG_GCOUNT 7) 1) ∧
      (s.dev.poolFree = true → s.dev.pkts.length < 65536 → n + 4 < 16384 →
        ∃ u y c p, exec (.asyncOpComplete e t i .none .none) s = .next u ∧ Map.find u.dev.engines e = some y ∧ (y.thread t).v r = 0 ∧
          (y.thread t).ops = th.ops.eraseIdx i ∧ s.dev.pkt c = none ∧ u.dev.pkt c = some p ∧ s.dev.pktsKept u.dev c ∧ p.bytes = bs ∧
          p.fromEngine = true ∧ p.stage = .crossed ∧ p.get C.FRAME_LEN = n + 4 ∧ p.get C.DISP = Disp.forward ∧
          u.dev.reg (Reg.ENG_GCOUNT 6) = s.dev.plus (Reg.ENG_GCOUNT 6) 1)) ∧
    (∀ g tb idx bytes pj b err, o.kind = .cnt g tb idx bytes pj → n = 0 → s.dev.tableUp tb = true → s.dev.tblIn g tb = .tile b →
      exec (.asyncOpComplete e t i .none err) s = .next (s.withDev
        ((s.dev.counterAdd tb b (idx % max 1 (tmPlaces b)) bytes pj err).setEngine e (s.dev.afterOp e t i x o.dst 0)))) ∧
    (∀ g tb idx err, o.kind = .tlk g tb a idx → o.seen = bs → s.dev.tableUp tb = true → s.dev.tlkMarker o.kind bs = none →
      ∃ u, exec (.asyncOpComplete e t i .none err) s = .next u ∧
        u.dev.engines = (s.dev.setEngine e (s.dev.afterOp e t i x o.dst (s.dev.engLook g tb bs idx err).1.2.slot)).engines) ∧
    (∀ poly init err, o.kind = .crc poly a n init → 0 < n → e < 256 → t < 8 → th.st ≠ .free →
      ∃ u, exec (.asyncOpComplete e t i .uncorr err) s = .next u ∧ s.dev.trapped u.dev e t 0xA x))

/-- A thread whose turn it is not, or whose instruction has another opcode, issues nothing, whatever the opcode (R273). One at its step limit
traps with STEP_LIMIT (R300). One that must wait for an outstanding operation goes to STALL, with its program counter as it was; a MSG that finds
the message queue full raises an event as it does so (R279, R286, R291). An uncorrectable instruction word discards the packets of all threads,
stops them, and reports class U as LOGIC (R302). WAIT goes on once no operation of the thread is outstanding and stays until then; SLEEP sleeps
until a target ahead of the clock, going on at once otherwise, and a resident thread counts its steps anew; SLEEP_WAKE ends the sleep (R286, R300,
R301). CHARGE adds register a's low 24 bits to the packet's ENERGY and to class ENGINE, and does nothing without a packet (R298). HEADADJ takes
bytes from the head of the window or prepends zeros, within its limits, and traps with HEADADJ outside them (R285). THREAD_TAKE gives the head of
the inbound queue to a FREE packet thread, charged for class ENGINE and counted, with the packet's words 0, 2 and 3, its length and its first
bytes; the other registers are 0 (R275, R278, R283). DROP discards the packet and counts it; TRAP discards it and records SOFT with its code; SEND
hands the window and the bytes behind it on to admission (R296, R297, R299). A thread so ended is stopped; a resident thread that ends starts anew
at RESIDENT_ENTRY while its program is held by the ACTIVE generation (R272, R304). A fragment entry older than ENG_FRAG_TIMEOUT is removed and
counted, a younger one stays; a flush empties the table (R295). ENG_TRAP_LAST is returned and cleared; a read returns the word at ENG_MEM_ADDR, of
data memory or of the program, a write stores it in data memory there and nowhere else, and a write to instruction memory has no effect (R282,
R299). A read of an uncorrectable data word raises DMEM_ECC and reports class U (R302). -/
def Obligations.EngineThreads : Prop :=
  (∀ (e t op : Nat) (f : MemErr) (c : Instr) (x : Engine) (s : State), insnCmd e t f op = some c →
    let th := x.thread t
    let w := s.dev.insnAt e t x
    let d := s.dev.engCorr e f
    (Map.find s.dev.engines e = some x → x.due (s.dev.engProg e x) t = false ∨ iOp w ≠ op → exec c s = .next s) ∧
    (s.dev.hasTurn e t op x →
      (f ≠ .uncorr → ¬ s.dev.inSteps t x → ∃ u, exec c s = .next u ∧ s.dev.trapped u.dev e t 0x6 x) ∧
      (f ≠ .uncorr → s.dev.inSteps t x → mustStall x th w = true → 
        let stalled := d.setEngine e (x.setThread t { th with st := .stall })
        (¬ (op = 0x45 ∧ th.st = .run ∧ 4 ≤ x.msgCount) → exec c s = .next (s.withDev stalled)) ∧
        (op = 0x45 → th.st = .run → 4 ≤ x.msgCount → ∃ u, exec c s = .next u ∧ u.dev.engines = stalled.engines ∧
          (u.dev.reg Reg.ENG_GEVENT).getLsbD 3 = true)) ∧
      (f = .uncorr → ∃ u y, exec c s = .next u ∧ Map.find u.dev.engines e = some y ∧ y.threads = x.threads.map Thread.stopped ∧
        u.dev.flt.queue = s.dev.flt.queue ++ [⟨82 + e / 16, 2, true, false, s.dev.free⟩] ∧
        ∀ v, v ∈ x.threads → ∀ k, v.ctx = some k → u.dev.pkt k = none))) ∧
  (∀ (e t : Nat) (f : MemErr) (x : Engine) (s : State), f ≠ .uncorr →
    let th := x.thread t
    let w := s.dev.insnAt e t x
    let a := th.v (iA w)
    let d := s.dev.engCorr e f
    let target := a.toNat % 2 ^ 32
    let ahead := ahead32 (s.dev.ns % 2 ^ 32) target
    let steps := if th.ctx = none then 0 else th.steps + 1
    (th.pc + 1 < epCount (s.dev.engProg e x) →
      (s.dev.canIssue e t 0x44 x → exec (.engWait e t f) s = .next (s.withDev (d.issuedTo e t (th.pc + 1) x th))) ∧
      (s.dev.canIssue e t 0x49 x → 0 < ahead → ahead < 2 ^ 31 → exec (.engSleep e t f) s = .next (s.withDev (d.issuedAs e t x
        { th with st := .sleep, target := BitVec.ofNat 32 target, pc := th.pc + 1, steps := steps }))) ∧
      (s.dev.canIssue e t 0x49 x → ahead = 0 ∨ 2 ^ 31 ≤ ahead → exec (.engSleep e t f) s = .next (s.withDev (d.issuedAs e t x
        { th with st := .run, pc := th.pc + 1, steps := steps }))) ∧
      (s.dev.canIssue e t 0x4A x → s.dev.threadPkt th = none →
        exec (.engCharge e t f) s = .next (s.withDev (d.issuedTo e t (th.pc + 1) x th))) ∧
      (∀ c p, s.dev.canIssue e t 0x4A x → s.dev.threadPkt th = some (c, p) → p.words.length = 32 →
        let got := min (a.toNat % 2 ^ 24) (energyMax - p.get C.ENERGY)
        ∃ u q, exec (.engCharge e t f) s = .next u ∧ u.dev.pkt c = some q ∧ s.dev.pktsKept u.dev c ∧ q.get C.ENERGY = p.get C.ENERGY + got ∧
          q.bytes = p.bytes ∧ u.dev.engines = (d.issuedTo e t (th.pc + 1) x th).engines ∧
          u.dev.reg (Reg.ACT_CLASS_PJ 16) = s.dev.plus (Reg.ACT_CLASS_PJ 16) got ∧
          u.dev.reg (Reg.ACT_CLASS_CNT 16) = s.dev.reg (Reg.ACT_CLASS_CNT 16)) ∧
      (s.dev.canIssue e t 0x4B x → th.ctx.isSome → 1 ≤ (th.win.length : Int) - a.toInt → th.prepended - a.toInt ≤ 64 →
        let win := if 0 ≤ a.toInt then th.win.drop a.toInt.toNat else List.replicate (-a.toInt).toNat 0 ++ th.win
        exec (.engHeadadj e t f) s = .next (s.withDev (d.issuedTo e t (th.pc + 1) x { th with win := win, prepended := th.prepended - a.toInt })))) ∧
    (Map.find s.dev.engines e = some x → iOp w = 0x44 → th.ops ≠ [] → exec (.engWait e t f) s = .next s) ∧
    (s.dev.canIssue e t 0x4B x → th.ctx.isSome → (th.win.length : Int) - a.toInt < 1 ∨ 64 < th.prepended - a.toInt →
      ∃ u, exec (.engHeadadj e t f) s = .next u ∧ s.dev.trapped u.dev e t 0x8 x) ∧
    (s.dev.running = true → s.dev.clusterUp e = true → Map.find s.dev.engines e = some x → th.st = .sleep →
      (atOrAfter32 th.target.toNat (s.dev.ns % 2 ^ 32) = true →
        exec (.sleepWake e t) s = .next (s.withDev (s.dev.setEngine e (x.setThread t { th with st := .run })))) ∧
      (atOrAfter32 th.target.toNat (s.dev.ns % 2 ^ 32) = false → exec (.sleepWake e t) s = .next s))) ∧
  (∀ (e t c : Nat) (f : MemErr) (x : Engine) (p : Pkt) (s : State), p.words.length = 32 → f ≠ .uncorr →
    let th := x.thread t
    let w := s.dev.insnAt e t x
    let ends := fun (u : State) (th' : Thread) => ∃ y, Map.find u.dev.engines e = some y ∧ y.thread t = th' ∧
      ∀ k, k ≠ t → y.thread k = x.thread k
    (∀ l, s.dev.running = true → s.dev.clusterUp e = true → e < 256 → Map.find s.dev.engines e = some x → x.threads.length = 8 → x.inq = c :: l →
      s.dev.pkt c = some p → s.dev.freeThreads e x ≠ [] →
      ∃ u y k q, exec (.threadTake e) s = .next u ∧ Map.find u.dev.engines e = some y ∧ y.inq = l ∧ k ∈ s.dev.freeThreads e x ∧
        (y.thread k).st = .run ∧ (y.thread k).pc = epEntry (s.dev.engProg e x) ∧ (y.thread k).ctx = some c ∧ (y.thread k).win = p.bytes.take 256 ∧
        (y.thread k).rest = p.bytes.drop 256 ∧
        (y.thread k).regs = [0, q.word 0, q.word 2, q.word 3, BitVec.ofNat 64 p.bytes.length, BitVec.ofNat 64 (64 * k), BitVec.ofNat 64 e] ++
          List.replicate 25 0 ∧
        (∀ j, j ≠ k → y.thread j = x.thread j) ∧ u.dev.pkt c = some q ∧ s.dev.pktsKept u.dev c ∧ q.stage = .engine e k ∧ q.bytes = p.bytes ∧
        u.dev.reg (Reg.ENG_COUNT e 0) = s.dev.plus (Reg.ENG_COUNT e 0) 1 ∧
        u.dev.reg (Reg.ACT_CLASS_CNT 16) = s.dev.plus (Reg.ACT_CLASS_CNT 16) 1) ∧
    (s.dev.threadPkt th = some (c, p) →
      (s.dev.canIssue e t 0x4D x → ∃ u, exec (.engDrop e t f) s = .next u ∧ ends u Thread.free ∧
        s.dev.freedInto u.dev c (p.get C.IN_PIPE) (p.get C.ENERGY - p.get C.FORECAST) ∧
        u.dev.reg (Reg.ENG_COUNT e 2) = s.dev.plus (Reg.ENG_COUNT e 2) 1) ∧
      (s.dev.canIssue e t 0x4F x → epResident (s.dev.engProg e x) ≤ t → ∃ u, exec (.engTrap e t f) s = .next u ∧ ends u th.stopped ∧
        s.dev.freedInto u.dev c (p.get C.IN_PIPE) (p.get C.ENERGY - p.get C.FORECAST) ∧ s.dev.trapped u.dev e t 0xF x ∧
        u.dev.fld (Reg.ENG_TRAP_LAST e) F.ENG_TRAP_LAST_SOFT_CODE = iX w % 256) ∧
      (s.dev.canIssue e t 0x4C x → p.get C.DISP = Disp.forward → p.get C.MCAST = 0 → p.get C.DEST ≤ 129 → p.get C.POLICE_EN = 0 →
        s.dev.subPort (p.get C.QUEUE / 8) = some (p.get C.DEST) →
        ∃ u q, exec (.engSend e t f) s = .next u ∧ ends u Thread.free ∧ u.dev.pkt c = some q ∧ s.dev.pktsKept u.dev c ∧ q.stage = .admission ∧
          q.bytes = th.win ++ th.rest ∧ q.get C.DEST = p.get C.DEST ∧ q.get C.QUEUE = p.get C.QUEUE ∧
          u.dev.reg (Reg.ENG_COUNT e 1) = s.dev.plus (Reg.ENG_COUNT e 1) 1)) ∧
    (th.ctx = none → s.dev.canIssue e t 0x4F x → t < epResident (s.dev.engProg e x) → s.dev.engActive e = true →
      ∃ u, exec (.engTrap e t f) s = .next u ∧ ends u (th.resident e t (epResEntry (s.dev.engProg e x))) ∧ s.dev.trapped u.dev e t 0xF x ∧
        u.dev.fld (Reg.ENG_TRAP_LAST e) F.ENG_TRAP_LAST_SOFT_CODE = iX w % 256)) ∧
  (∀ (e i : Nat) (s : State), s.dev.running = true →
    (∀ f, s.dev.frags[i]? = some f →
      let old := f.time + 1000000 * max 1 (s.dev.fld Reg.ENG_FRAG_TIMEOUT F.ENG_FRAG_TIMEOUT_TIMEOUT) ≤ s.dev.free
      (old → exec (.fragExpired i) s = .next (s.withDev ({ s.dev with frags := s.dev.frags.eraseIdx i }.count (Reg.ENG_GCOUNT 4) 1))) ∧
      (¬ old → exec (.fragExpired i) s = .next s)) ∧
    (s.dev.accessOpen Reg.ENG_FRAG_FLUSH = true → exec .engFragFlush s = .next (s.withDev { s.dev with frags := [] })) ∧
    (e < 256 → s.dev.accessOpen (Reg.ENG_TRAP_LAST e) = true →
      exec (.engTrapLastRead e) s = .next (s.withDev { s.dev.setReg (Reg.ENG_TRAP_LAST e) 0 with bus := s.dev.reg (Reg.ENG_TRAP_LAST e) })) ∧
    (e < 256 → s.dev.accessOpen (Reg.ENG_MEM_DATA e) = true →
      let a := s.dev.fld (Reg.ENG_MEM_ADDR e) F.ENG_MEM_ADDR_ADDR / 8 * 8
      (s.dev.bit (Reg.ENG_MEM_ADDR e) F.ENG_MEM_ADDR_SPACE = false → s.dev.engWordBad e a = false →
        ∀ m, m ≠ .uncorr → exec (.engMemAccess e none m) s =
          .next (s.withDev { s.dev.engCorr e m with bus := BitVec.ofNat 64 (leNat (Mem.readAll (s.dev.engMem e) a 8)) })) ∧
      (s.dev.bit (Reg.ENG_MEM_ADDR e) F.ENG_MEM_ADDR_SPACE = false → ∃ u, exec (.engMemAccess e none .uncorr) s = .next u ∧
        (u.dev.reg (Reg.ENG_EVENT e)).getLsbD 1 = true ∧ u.dev.dmem = s.dev.dmem ∧
        u.dev.flt.queue = s.dev.flt.queue ++ [⟨82 + e / 16, 2, false, false, s.dev.free⟩]) ∧
      (∀ x m, m ≠ .uncorr → s.dev.bit (Reg.ENG_MEM_ADDR e) F.ENG_MEM_ADDR_SPACE = true → Map.find s.dev.engines e = some x → s.dev.engHeld e = true →
        exec (.engMemAccess e none m) s =
          .next (s.withDev { s.dev.engCorr e m with bus := BitVec.ofNat 64 (word64 (s.dev.engProg e x) (64 + a)) })) ∧
      (∀ v m, s.dev.bit (Reg.ENG_MEM_ADDR e) F.ENG_MEM_ADDR_SPACE = false →
        ∃ u, exec (.engMemAccess e (some v) m) s = .next u ∧ u = s.withDev { s.dev with dmem := u.dev.dmem, dmemBad := u.dev.dmemBad } ∧
          BitVec.ofNat 64 (leNat (Mem.readAll (u.dev.engMem e) a 8)) = v ∧ u.dev.engWordBad e a = false ∧
          (∀ b, b < a ∨ a + 8 ≤ b → Mem.read (u.dev.engMem e) b = Mem.read (s.dev.engMem e) b) ∧ ∀ k, k ≠ e → u.dev.engMem k = s.dev.engMem k) ∧
      (∀ v m, s.dev.bit (Reg.ENG_MEM_ADDR e) F.ENG_MEM_ADDR_SPACE = true → exec (.engMemAccess e (some v) m) s = .next s)))

/-! ### Tables -/

/-- Entry `i` of ring `r` is a table command of opcode `op` that may take effect now on the table of tiles that it names, and its operands pass
the checks for the table's kind (R55, R196, R200, R493). -/
def Sys2Proof.Machine.Dev.tabReady (d : Dev) (r i op : Nat) (e : Entry) (b : List Byte) : Prop :=
  d.hifOn = true ∧ d.entry r i = some e ∧ d.canGo r e = true ∧ e.op = op ∧ e.records = [] ∧ e.started = false ∧
  d.tableTurn r e (some e.tTable) = true ∧ d.tableEn r = true ∧ d.tblDef e.tTable = .tile b ∧ d.tilesUp b = true ∧
  tileWrongKind b op e.tMode = false ∧ e.tHolds (tileNeeds b op) = true ∧ tileBadWords b e = false ∧
  (op = 0x10 ∨ op = 0x11 ∨ op = 0x12 → cmdIndexBad e b = false ∧ cmdKeyBad e b = false)

/-- Every table but `n` is in `e` as in `d`. -/
def Sys2Proof.Machine.Dev.tblsKept (d e : Dev) (n : Nat) : Prop := ∀ k, k ≠ n → e.tbl k = d.tbl k

/-- INSERT into an INDEX table. ADD to a place without an entry, and REPLACE of an entry, store the image there and finish OK with VALUE the
place; ADD over an entry finishes EXISTS, REPLACE without one NOT_FOUND, and the table stays (R172, R197, R200). A poisoned place holds no entry
for ADD and ADD_OR_REPLACE, which rewrite it; REPLACE of it finishes POISONED (R201, R207). INSERT into an EXACT table without a poisoned place. A
key that no place holds finishes OK with the place where it now stands, or FULL, which is counted and comes only at an occupancy of 80 % or more;
REPLACE of such a key finishes NOT_FOUND; a key that stands at a place is replaced there, and ADD of it finishes EXISTS; an INSERT that finishes
OK frees the key's Fawn entry (R172, R173, R190, R197). -/
def Obligations.Inserts : Prop :=
  (∀ (r i : Nat) (e : Entry) (b : List Byte) (s : State), s.dev.tabReady r i 0x10 e b → tmKind b = 2 → imageBad e b = false →
    let m := s.dev.tbl e.tTable
    let p := e.tArg
    let full := imageValid 2 (m.image p (tmW b))
    let bad := m.poisoned p
    (bad = false ∧ e.tMode = 0 ∧ full = false ∨ bad = false ∧ e.tMode = 1 ∧ full = true ∨ bad = true ∧ e.tMode = 0 ∨ e.tMode = 2 →
      ∃ t, exec (.tabInsert r i) s = .next t ∧ t.host = s.host ∧ s.dev.finishedAs t.dev r e St.ok (BitVec.ofNat 64 p) ∧
        (t.dev.tbl e.tTable).image p (tmW b) = e.tWords (tmW b) ∧ (t.dev.tbl e.tTable).poisoned p = false ∧
        (∀ k, k ≠ p → (t.dev.tbl e.tTable).image k (tmW b) = m.image k (tmW b)) ∧ s.dev.tblsKept t.dev e.tTable ∧ t.dev.regs = s.dev.regs) ∧
    (bad = false → e.tMode = 0 → full = true →
      ∃ t, exec (.tabInsert r i) s = .next t ∧ s.dev.finishedAs t.dev r e St.exists_ 0 ∧ t.dev.tables = s.dev.tables) ∧
    (bad = false → e.tMode = 1 → full = false →
      ∃ t, exec (.tabInsert r i) s = .next t ∧ s.dev.finishedAs t.dev r e St.notFound 0 ∧ t.dev.tables = s.dev.tables) ∧
    (bad = true → e.tMode = 1 → ∃ t, exec (.tabInsert r i) s = .next t ∧ s.dev.finishedAs t.dev r e St.poisoned 0)) ∧
  (∀ (r i : Nat) (e : Entry) (b : List Byte) (s : State), s.dev.tabReady r i 0x10 e b → tmKind b = 0 → imageBad e b = false → 0 < tmPlaces b →
    let m := s.dev.tbl e.tTable
    let key := e.tWords (tmW b - 1)
    m.poison = [] →
    (m.exactFind key = none → e.tMode ≠ 1 →
      ∃ t, exec (.tabInsert r i) s = .next t ∧ t.host = s.host ∧ s.dev.tblsKept t.dev e.tTable ∧
        ((∃ p, s.dev.finishedAs t.dev r e St.ok (BitVec.ofNat 64 p) ∧ Map.find (t.dev.tbl e.tTable).places p = some (e.tWords (tmW b)) ∧
            t.dev.fawnOf e.tTable (e.tWord 0) = none) ∨
         (s.dev.finishedAs t.dev r e St.full 0 ∧ 4 * tmPlaces b ≤ 5 * m.occupancy ∧ t.dev.reg (Reg.TBL_COUNT 12) = s.dev.plus (Reg.TBL_COUNT 12) 1))) ∧
    (m.exactFind key = none → e.tMode = 1 →
      ∃ t, exec (.tabInsert r i) s = .next t ∧ s.dev.finishedAs t.dev r e St.notFound 0 ∧ t.dev.tables = s.dev.tables) ∧
    (∀ p, m.exactFind key = some p → e.tMode ≠ 0 →
      ∃ t, exec (.tabInsert r i) s = .next t ∧ s.dev.finishedAs t.dev r e St.ok (BitVec.ofNat 64 p) ∧ s.dev.tblsKept t.dev e.tTable ∧
        Map.find (t.dev.tbl e.tTable).places p = some (e.tWords (tmW b)) ∧
        (∀ k, k ≠ p → Map.find (t.dev.tbl e.tTable).places k = Map.find m.places k) ∧ t.dev.fawnOf e.tTable (e.tWord 0) = none) ∧
    (∀ p, m.exactFind key = some p → e.tMode = 0 →
      ∃ t, exec (.tabInsert r i) s = .next t ∧ s.dev.finishedAs t.dev r e St.exists_ 0 ∧ t.dev.tables = s.dev.tables))

/-- DELETE and SEARCH. DELETE of an EXACT key empties its place and no other, frees the key's Fawn entry and finishes OK with the place, or
finishes NOT_FOUND with the table unchanged; SEARCH of an INDEX place that holds an entry writes its record to RESULT_ADDR and finishes OK, and
changes no table (R197, R198). NEXT, FLUSH_PORT and FLOW on tables without a poisoned place. NEXT writes the entries from its cursor on, at most
MAX, in ascending place, with the cursor behind the last, and finishes END with the end mark (the model's value, log entry 17) when none is left;
given the end mark it writes no entry and finishes END; FLUSH_PORT removes the port's entries, static ones only with ALL, and finishes with how
many; FLOW writes the images of its range, and READ_AND_CLEAR leaves them zero but VALID (R197 to R199). -/
def Obligations.SearchesAndRanges : Prop :=
  (∀ (r i : Nat) (e : Entry) (b : List Byte) (s : State),
    let m := s.dev.tbl e.tTable
    (s.dev.tabReady r i 0x11 e b → tmKind b = 0 → m.poison = [] →
      (∀ p, m.exactFind (e.tWords (tmW b - 1)) = some p →
        ∃ t, exec (.tabDelete r i) s = .next t ∧ t.host = s.host ∧ s.dev.finishedAs t.dev r e St.ok (BitVec.ofNat 64 p) ∧
          Map.find (t.dev.tbl e.tTable).places p = none ∧
          (∀ k, k ≠ p → Map.find (t.dev.tbl e.tTable).places k = Map.find m.places k) ∧ s.dev.tblsKept t.dev e.tTable ∧
          t.dev.fawnOf e.tTable (e.tWord 0) = none) ∧
      (m.exactFind (e.tWords (tmW b - 1)) = none →
        ∃ t, exec (.tabDelete r i) s = .next t ∧ s.dev.finishedAs t.dev r e St.notFound 0 ∧ t.dev.tables = s.dev.tables)) ∧
    (s.dev.tabReady r i 0x12 e b → tmKind b = 2 → m.poisoned e.tArg = false →
      let data := wordBytes (recordWord e.tArg 0 false) ++ wordsBytes (m.image e.tArg (tmW b))
      (∀ w, imageValid 2 (m.image e.tArg (tmW b)) = true → s.dev.hostWrites r (bitsOf (e.w 2) 0 48) data (!e.fence) = some w →
        ∃ t, exec (.tabSearch r i .none) s = .next t ∧ s.hostTook t w ∧ s.dev.finishedAs t.dev r e St.ok (BitVec.ofNat 64 e.tArg) ∧
          t.dev.tables = s.dev.tables ∧ t.dev.reg (Reg.HIF_COUNT 3) = s.dev.plus (Reg.HIF_COUNT 3) data.length) ∧
      (imageValid 2 (m.image e.tArg (tmW b)) = false →
        ∃ t, exec (.tabSearch r i .none) s = .next t ∧ t.host = s.host ∧ s.dev.finishedAs t.dev r e St.notFound 0 ∧ t.dev.tables = s.dev.tables))) ∧
  (∀ (r i : Nat) (e : Entry) (b : List Byte) (w : HostWrites) (s : State),
    let m := s.dev.tbl e.tTable
    let n := (e.tWord 0).toNat
    m.poison = [] →
    (s.dev.tabReady r i 0x13 e b → e.tArg = cursorEnd → 1 ≤ n → n ≤ 256 →
      s.dev.hostWrites r (bitsOf (e.w 2) 0 48) (nextHeader cursorEnd 0) (!e.fence) = some w →
      ∃ t, exec (.tabNext r i .none) s = .next t ∧ s.hostTook t w ∧ t.dev.tables = s.dev.tables ∧ s.dev.finishedAs t.dev r e St.end_ 0) ∧
    (s.dev.tabReady r i 0x13 e b → tmKind b ≠ 1 → 1 ≤ n → n ≤ 256 → e.tArg ≤ cmdPlaces b → e.tArg ≠ cursorEnd →
      let left := (m.held (tmKind b)).filter fun p => e.tArg ≤ p
      let got := left.take n
      let cursor := if left.length ≤ n then cursorEnd else got.getLastD 0 + 1
      s.dev.hostWrites r (bitsOf (e.w 2) 0 48) (nextHeader cursor got.length ++ got.flatMap (s.dev.tileRecord e.tTable b)) (!e.fence) = some w →
      ∃ t, exec (.tabNext r i .none) s = .next t ∧ s.hostTook t w ∧ t.dev.tables = s.dev.tables ∧
        s.dev.finishedAs t.dev r e (if left.length ≤ n then St.end_ else St.ok) (BitVec.ofNat 64 got.length)) ∧
    (s.dev.tabReady r i 0x14 e b → e.tArg ≤ 255 →
      let goes := fun (x : Nat × List Word) => decide (x.1 < tmPlaces b) && rwValid (wordAt x.2 (x.2.length - 1)) &&
        rwPort (wordAt x.2 (x.2.length - 1)) == e.tArg && (e.tMode = 1 || !rwStatic (wordAt x.2 (x.2.length - 1)))
      ∃ t, exec (.tabFlushPort r i) s = .next t ∧ t.host = s.host ∧ (t.dev.tbl e.tTable).places = m.places.filter (fun x => !goes x) ∧
        s.dev.tblsKept t.dev e.tTable ∧ s.dev.finishedAs t.dev r e St.ok (BitVec.ofNat 64 (m.places.filter goes).length)) ∧
    (s.dev.tabReady r i 0x17 e b → 1 ≤ n → n ≤ 256 → e.tArg + n ≤ tmPlaces b →
      s.dev.hostWrites r (bitsOf (e.w 2) 0 48) (((List.range n).map (e.tArg + ·)).flatMap fun p => wordsBytes (m.image p 4)) (!e.fence) = some w →
      ∃ t, exec (.tabFlow r i .none) s = .next t ∧ s.hostTook t w ∧ s.dev.tblsKept t.dev e.tTable ∧
        s.dev.finishedAs t.dev r e St.ok (BitVec.ofNat 64 n) ∧
        (e.tMode = 0 → t.dev.tables = s.dev.tables) ∧
        (e.tMode = 1 → ∀ p, e.tArg ≤ p → p < e.tArg + n → (t.dev.tbl e.tTable).image p 4 =
          [0, 0, 0, if imageValid 3 (m.image p 4) then BitVec.ofNat 64 (2 ^ 36) else 0])))

/-- AGE_SCAN begins a scan of its range, or finishes at once when the range is empty. Each aging test looks at the next place: an entry whose HIT
bit is 1 keeps standing with HIT 0; one whose HIT bit is 0 is removed, with a notification AGED where the table asks for one, and the test waits
while the notification queue is full; places without an entry and static entries stay; behind the last place the scan finishes with how many it
removed (R194, R195). -/
def Obligations.AgeScans : Prop :=
  ∀ (r i : Nat) (e : Entry) (b : List Byte) (s : State),
    (s.dev.tabReady r i 0x15 e b → e.tArg < tmPlaces b → e.tArg + bitsOf (e.w 2) 0 32 ≤ tmPlaces b →
      (bitsOf (e.w 2) 0 32 = 0 → ∃ t, exec (.tabAgeScan r i) s = .next t ∧ s.dev.finishedAs t.dev r e St.ok 0) ∧
      (bitsOf (e.w 2) 0 32 ≠ 0 → ∃ t y, exec (.tabAgeScan r i) s = .next t ∧ t = s.withDev { s.dev with hif := t.dev.hif } ∧
        t.dev.entry r i = some y ∧ y.started = true ∧ y.progress = 0 ∧ y.value = 0)) ∧
    (s.dev.hifOn = true → s.dev.entry r i = some e → e.op = 0x15 → e.started = true → e.finished = false → s.dev.tblDef e.tTable = .tile b →
      s.dev.tilesUp b = true → tmKind b = 0 →
      let p := e.tArg + e.progress
      let m := s.dev.tbl e.tTable
      let w := wordAt (m.image p (tmW b)) (tmW b - 1)
      m.poisoned p = false →
      let went := fun (t : State) (k : Nat) =>
        (e.progress + 1 = bitsOf (e.w 2) 0 32 → s.dev.finishedAs t.dev r e St.ok (e.value + BitVec.ofNat 64 k)) ∧
        (e.progress + 1 ≠ bitsOf (e.w 2) 0 32 → ∃ y, t.dev.entry r i = some y ∧ y.progress = e.progress + 1 ∧ y.value = e.value + BitVec.ofNat 64 k)
      (rwValid w = false ∨ rwStatic w = true → ∃ t, exec (.agingTest r i .none) s = .next t ∧ went t 0 ∧ t.dev.tables = s.dev.tables) ∧
      (rwValid w = true → rwStatic w = false → rwHit w = true → ∃ t, exec (.agingTest r i .none) s = .next t ∧ went t 0 ∧
        t.dev.tbl e.tTable = m.setWord p (tmW b) (tmW b - 1) (w &&& ~~~2#64) ∧ s.dev.tblsKept t.dev e.tTable ∧
        t.dev.reg (Reg.TBL_COUNT 7) = s.dev.plus (Reg.TBL_COUNT 7) 1) ∧
      (rwValid w = true → rwStatic w = false → rwHit w = false → tmNotifyAged b = true → 256 ≤ s.dev.notes.length →
        exec (.agingTest r i .none) s = .next s) ∧
      (rwValid w = true → rwStatic w = false → rwHit w = false → tmNotifyAged b = false ∨ s.dev.notes.length < 256 → ∃ t, exec (.agingTest r i .none) s = .next t ∧ went t 1 ∧
        Map.find (t.dev.tbl e.tTable).places p = none ∧
        (∀ k, k ≠ p → Map.find (t.dev.tbl e.tTable).places k = Map.find m.places k) ∧ s.dev.tblsKept t.dev e.tTable ∧
        t.dev.reg (Reg.TBL_COUNT 8) = s.dev.plus (Reg.TBL_COUNT 8) 1 ∧
        t.dev.notes = s.dev.notes ++ (if tmNotifyAged b then
          [⟨noteWords 3 e.tTable 0 0 (if tmPortField b then rwPort w else 0) false (wordAt (m.image p (tmW b)) 0) s.dev.ns p⟩] else [])))

/-- FENCE finishes OK at once when no context it names is pending and otherwise waits, with its deadline: at STAGE LOOKUP for a packet that waits for
DRAM reads of the table; at ACTION for one that has read the table and has not left the action unit, or is with an engine thread; at EGRESS for one
in flight that has read it. A waiting fence finishes OK once none is pending, and FENCE_TIMEOUT, with how many still are, at its deadline; before
either nothing happens (R203, R204). -/
def Obligations.Fences : Prop :=
  ∀ (r i : Nat) (e : Entry) (s : State), s.dev.hifOn = true → s.dev.entry r i = some e →
    let named := fun n => e.tAll = true ∨ n = e.tTable
    let waits := fun (t : State) (f : FenceWait) => exec (.tabFence r i) s = .next t ∧ t.dev.fences = s.dev.fences ++ [f] ∧ f.ring = r ∧ f.index = i ∧
      f.deadline = (if e.tArg = 0 then none else some (s.dev.free + 1000 * e.tArg)) ∧ t.dev.hif.held = s.dev.hif.held
    (s.dev.canGo r e = true → e.op = 0x16 → e.records = [] → e.started = false → s.dev.tableTurn r e none = true → s.dev.tableEn r = true →
      e.tReserved = false → e.tPlen = 0 → e.tMode ≤ 2 → e.tWord2Bad = false →
      e.tAll = true ∨ (s.dev.tblDef e.tTable ≠ .none ∧ s.dev.tblDef e.tTable ≠ .loading) →
      (s.dev.pkts = [] → s.dev.allRecs = [] → s.dev.engWaits (fun _ => true) = [] →
        ∃ t, exec (.tabFence r i) s = .next t ∧ s.dev.finishedAs t.dev r e St.ok 0) ∧
      (∀ c p x, s.dev.pkt c = some p → e.tMode = 0 → p.stage = .dramWait → p.dram = some x → named x.table → s.dev.isEgress x.table = false →
        ∃ t f, waits t f ∧ ∃ k, (p.seq, k) ∈ f.waits ∧ p.fenceHeld k = true) ∧
      (∀ c p n, s.dev.pkt c = some p → e.tMode = 1 → p.stage.inAction = true → n ∈ p.reads → named n → s.dev.isEgress n = false →
        ∃ t f, waits t f ∧ ∃ k, (p.seq, k) ∈ f.waits ∧ p.fenceHeld k = true) ∧
      (∀ c p n, s.dev.pkt c = some p → e.tMode = 2 → n ∈ p.flight → named n → ∃ t f, waits t f ∧ p.pid ∈ f.flights)) ∧
    (∀ f, (s.dev.fences.find? fun x => x.ring = r ∧ x.index = i) = some f →
      (s.dev.fencePending f = 0 → ∃ t, exec (.fenceDone r i) s = .next t ∧ s.dev.finishedAs t.dev r e St.ok 0 ∧
        ∀ x ∈ t.dev.fences, ¬ (x.ring = r ∧ x.index = i)) ∧
      (s.dev.fencePending f ≠ 0 → exec (.fenceDone r i) s = .next s) ∧
      (∀ late, f.deadline = some late → s.dev.fencePending f ≠ 0 →
        (late ≤ s.dev.free → ∃ t, exec (.fenceTimeout r i) s = .next t ∧
          s.dev.finishedAs t.dev r e St.fenceTimeout (BitVec.ofNat 64 (s.dev.fencePending f))) ∧
        (s.dev.free < late → exec (.fenceTimeout r i) s = .next s)))

/-- Learning. A NEW or MOVE candidate whose key has no Fawn entry makes one and queues its notification; one from the port that the entry names,
or on an entry in CONFLICT, is only counted; one from another port makes it a CONFLICT; with the cache or the notification queue full the
candidate is lost and counted; an entry older than TBL_FAWN_TIMEOUT is freed (R190, R192). Writes on their way to the tile arbiter. HIT_BIT_SET
sets the HIT bit of the place it names when that still holds a valid entry with the key read, not poisoned, and changes nothing of the tables
otherwise (R193); a correction write-back leaves every entry as it reads (R206); while a region of the table restarts both wait. -/
def Obligations.LearningAndArbiter : Prop :=
  (∀ (c : Candidate) (l : List Candidate) (i : Nat) (s : State), s.dev.running = true →
    (s.dev.cands = c :: l → s.dev.fawnOf c.table c.key = none →
      (s.dev.fawn.length < 4096 → s.dev.notes.length < 256 →
        let type := if c.move.isSome then 1 else 0
        ∃ t, exec .learnCandidate s = .next t ∧ t.dev.cands = l ∧
          t.dev.notes = s.dev.notes ++ [⟨noteWords type c.table c.port 0 (c.move.getD 0) c.g c.key s.dev.ns 0⟩] ∧
          t.dev.fawn = s.dev.fawn ++ [⟨c.table, c.key, c.port, none, c.g, s.dev.ns % 2 ^ 32, s.dev.free⟩] ∧
          t.dev.reg (Reg.TBL_COUNT type) = s.dev.plus (Reg.TBL_COUNT type) 1 ∧ t.dev.tables = s.dev.tables) ∧
      (4096 ≤ s.dev.fawn.length → ∃ t, exec .learnCandidate s = .next t ∧ t.dev.cands = l ∧ t.dev.notes = s.dev.notes ∧ t.dev.fawn = s.dev.fawn ∧
        t.dev.reg (Reg.TBL_COUNT 4) = s.dev.plus (Reg.TBL_COUNT 4) 1 ∧ (t.dev.reg Reg.TBL_EVENT).getLsbD 1 = true) ∧
      (s.dev.fawn.length < 4096 → 256 ≤ s.dev.notes.length → ∃ t, exec .learnCandidate s = .next t ∧ t.dev.notes = s.dev.notes ∧
        t.dev.fawn = s.dev.fawn ∧ t.dev.reg (Reg.TBL_COUNT 5) = s.dev.plus (Reg.TBL_COUNT 5) 1)) ∧
    (∀ f, s.dev.cands = c :: l → s.dev.fawnOf c.table c.key = some f → f.portB.isSome ∨ f.portA = c.port →
      exec .learnCandidate s = .next (s.withDev ({ s.dev with cands := l }.count (Reg.TBL_COUNT 3) 1))) ∧
    (∀ f, s.dev.cands = c :: l → s.dev.fawnOf c.table c.key = some f → f.portB = none → f.portA ≠ c.port → s.dev.notes.length < 256 →
      ∃ t, exec .learnCandidate s = .next t ∧ t.dev.cands = l ∧
        t.dev.notes = s.dev.notes ++ [⟨noteWords 2 f.table f.portA c.port 0 f.g f.key f.ns 0⟩] ∧
        { f with portB := some c.port } ∈ t.dev.fawn ∧ t.dev.reg (Reg.TBL_COUNT 2) = s.dev.plus (Reg.TBL_COUNT 2) 1) ∧
    (∀ f, s.dev.cands = c :: l → s.dev.fawnOf c.table c.key = some f → f.portB = none → f.portA ≠ c.port → 256 ≤ s.dev.notes.length →
      exec .learnCandidate s = .next (s.withDev ({ s.dev with cands := l }.count (Reg.TBL_COUNT 5) 1))) ∧
    (∀ f, s.dev.fawn[i]? = some f →
      let old := f.since + 1000000 * max 1 (s.dev.fld Reg.TBL_FAWN_TIMEOUT F.TBL_FAWN_TIMEOUT_TIMEOUT) ≤ s.dev.free
      (old → exec (.fawnExpired i) s = .next (s.withDev ({ s.dev with fawn := s.dev.fawn.eraseIdx i }.count (Reg.TBL_COUNT 6) 1))) ∧
      (¬ old → exec (.fawnExpired i) s = .next s))) ∧
  (∀ (s : State), s.dev.running = true →
    (∀ h l, s.dev.hitSets = h :: l →
      let m := s.dev.tbl h.table
      (s.dev.tableUp h.table = false → exec .hitBitSet s = .next s) ∧
      (∀ ws, s.dev.tableUp h.table = true → Map.find m.places h.place = some ws → ws.take (ws.length - 1) = h.key →
        rwValid (wordAt ws (ws.length - 1)) = true → m.poisoned h.place = false →
        ∃ t, exec .hitBitSet s = .next t ∧ t = s.withDev { s.dev with hitSets := l, tables := t.dev.tables } ∧
          Map.find (t.dev.tbl h.table).places h.place = some (ws.set (ws.length - 1) (wordAt ws (ws.length - 1) ||| 2)) ∧
          (∀ k, k ≠ h.place → Map.find (t.dev.tbl h.table).places k = Map.find m.places k) ∧ s.dev.tblsKept t.dev h.table) ∧
      (s.dev.tableUp h.table = true →
        (∀ ws, Map.find m.places h.place = some ws → ws.take (ws.length - 1) = h.key → rwValid (wordAt ws (ws.length - 1)) = true →
          m.poisoned h.place = true) →
        exec .hitBitSet s = .next (s.withDev { s.dev with hitSets := l }))) ∧
    (∀ x l, s.dev.writeBacks = x :: l →
      (s.dev.tableUp x.1 = true → exec .correctionWriteBack s = .next (s.withDev { s.dev with writeBacks := l })) ∧
      (s.dev.tableUp x.1 = false → exec .correctionWriteBack s = .next s)))

/-! ### Chamois arrays -/

/-- INSERT and DELETE on a Chamois table with a good image and index queue their update in the index's group while it has room, and start; while
it is full the command waits, counted once with an event (R224, R226). INSERT ADD of an index that will be valid finishes EXISTS, REPLACE and
DELETE of one that will not be finish NOT_FOUND, and nothing is queued (R226). CHAMOIS_UPDATE writes the oldest update of its group into the rows
of the index's chain and no others, counts one that a command caused, and finishes the command OK with VALUE the index; an update whose command is
gone finishes nothing (R223, R229, R240). The comparer. With EN 0 it does nothing. At a new index it begins to fetch the shadow record, under the
table's AAR_SHADOW as it stands. A record that arrives from host memory is compared: one that agrees counts the index compared; one that differs
counts it and is fetched again; one that still differs when read again counts the mismatch, records table and index, raises MISMATCH, and is
reported as class U, or with REPAIR is queued as an update, counted and reported as class C. An index for which a command update was accepted
meanwhile is only counted as skipped, and the compare waits while a command update is queued for its group. A shadow that cannot be read turns its
table's EN off, is counted and recorded. The array itself changes in none of these. CMP_RESTART begins a new sweep over all compared tables (R224,
R231 to R235, R237). -/
def Obligations.ChamoisArrays : Prop :=
  (∀ (r i k m : Nat) (e : Entry) (b : List Byte) (s : State), s.dev.hifOn = true → s.dev.entry r i = some e → s.dev.canGo r e = true →
    e.records = [] → e.started = false → s.dev.tableTurn r e (some e.tTable) = true → s.dev.tableEn r = true →
    s.dev.tblDef e.tTable = .cham b → s.dev.segsUp b = true → e.tHolds (chNeeds e.op e.tMode (ccKW b)) = true →
    (e.tReserved || e.tAll || e.tWord2Bad || e.tPlen != 0 || e.tMode > modeMax e.op) = false → e.tArg < ccCapacity b →
    let q := s.dev.chQueue (chGroup b e.tArg)
    let will := s.dev.chWillBe e.tTable b e.tArg
    let takes := fun (c : Instr) (u : ChUpdate) =>
      (q.length < 32 → ∃ t y, exec c s = .next t ∧ t.host = s.host ∧ t.dev.chQueue (chGroup b e.tArg) = q ++ [u] ∧ t.dev.cham = s.dev.cham ∧
        t.dev.entry r i = some y ∧ y.started = true ∧ t.dev.hif.held = s.dev.hif.held ∧ t.dev.regs = s.dev.regs) ∧
      (32 ≤ q.length → e.progress = 0 → ∃ t y, exec c s = .next t ∧ t.dev.chQueues = s.dev.chQueues ∧
        t.dev.reg (Reg.AAR_COUNT 3) = s.dev.plus (Reg.AAR_COUNT 3) 1 ∧ (t.dev.reg Reg.AAR_EVENT).getLsbD 3 = true ∧
        t.dev.entry r i = some y ∧ y.started = false ∧ y.progress = 1) ∧
      (32 ≤ q.length → e.progress ≠ 0 → exec c s = .next s)
    let stops := fun (c : Instr) (status : Nat) => ∃ t, exec c s = .next t ∧ s.dev.finishedAs t.dev r e status 0 ∧ t.dev.chQueues = s.dev.chQueues
    (e.op = 0x10 → chImage b (e.tWords (ccKW b)) (some ((List.range (ccKW b)).map fun j => e.tWord (ccKW b + j))) = some (k, m) →
      ((e.tMode = 0 → will = false) → (e.tMode = 1 → will = true) →
        takes (.tabInsert r i) ⟨e.tTable, e.tArg, true, k, m, some (r, i), true⟩) ∧
      (e.tMode = 0 → will = true → stops (.tabInsert r i) St.exists_) ∧ (e.tMode = 1 → will = false → stops (.tabInsert r i) St.notFound)) ∧
    (e.op = 0x11 →
      (will = true → takes (.tabDelete r i) ⟨e.tTable, e.tArg, false, 0, 0, some (r, i), true⟩) ∧
      (will = false → stops (.tabDelete r i) St.notFound))) ∧
  (∀ (g : Nat) (u : ChUpdate) (l : List ChUpdate) (b : List Byte) (s : State), s.dev.running = true →
    s.dev.lineUp (64 + 2 * g) = true → s.dev.lineUp (65 + 2 * g) = true → s.dev.chQueue g = u :: l → s.dev.tblDef u.table = .cham b →
    ∃ t, exec (.chamoisUpdate g) s = .next t ∧ t.dev.chQueue g = l ∧ (∀ k, k ≠ g → t.dev.chQueue k = s.dev.chQueue k) ∧
      t.dev.cham = (s.dev.chWrite b u.index u.valid (cutParts b u.key) (cutParts b u.mask)).cham ∧
      (∀ k, (∀ x ∈ chainSegs b (u.index / 4096), k ≠ 4096 * x + u.index % 4096) → Map.find t.dev.cham k = Map.find s.dev.cham k) ∧
      (∀ r i e, u.cmd = some (r, i) → s.dev.entry r i = some e → s.dev.finishedAs t.dev r e St.ok (BitVec.ofNat 64 u.index)) ∧
      (u.cmd = none → t.dev.hif = s.dev.hif) ∧
      t.dev.reg (Reg.AAR_COUNT 2) = (if u.byCmd then s.dev.plus (Reg.AAR_COUNT 2) 1 else s.dev.reg (Reg.AAR_COUNT 2)) ∧
      s.dev.regsKept t.dev [Reg.AAR_COUNT 2]) ∧
  (∀ (entries : List (Nat × Option Word)) (data : Option (List Word)) (s : State), s.dev.running = true →
    let runs := fun (t : State) => exec (.compareIndex entries data) s = .next t ∧ t.dev.cham = s.dev.cham
    (s.dev.bit Reg.AAR_CMP_CTRL F.AAR_CMP_CTRL_EN = false → exec (.compareIndex entries data) s = .next s) ∧
    (∀ n l b, s.dev.bit Reg.AAR_CMP_CTRL F.AAR_CMP_CTRL_EN = true → s.dev.cmp.running = true → s.dev.cmp.tables = n :: l → n < 256 →
      s.dev.chDef n = some b → s.dev.segsUp b = true → s.dev.cmp.index < ccCapacity b →
      let i := s.dev.cmp.index
      let q := s.dev.chQueue (chGroup b i)
      let last := fun (t : State) (kind : Nat) => t.dev.fld Reg.AAR_CMP_LAST F.AAR_CMP_LAST_TABLE = n ∧
        t.dev.fld Reg.AAR_CMP_LAST F.AAR_CMP_LAST_INDEX = i % 2 ^ F.AAR_CMP_LAST_INDEX.w ∧
        t.dev.fld Reg.AAR_CMP_LAST F.AAR_CMP_LAST_KIND = kind ∧ t.dev.fld Reg.AAR_CMP_LAST F.AAR_CMP_LAST_VALID = 1
      (s.dev.cmp.fetch = none → s.dev.bit (Reg.AAR_SHADOW n) F.AAR_SHADOW_EN = true → ∃ t, runs t ∧
        t.dev.cmp = { s.dev.cmp with fetch := some ⟨s.dev.reg (Reg.AAR_SHADOW n), false, s.dev.pidCtr + 1, false⟩ } ∧ t.dev.chQueues = s.dev.chQueues) ∧
      (∀ f, s.dev.cmp.fetch = some f → F.AAR_SHADOW_LOC.of f.shadow = 0 →
        let pages := (s.dev.shadowPages (F.AAR_SHADOW_SPACE.of f.shadow) (shadowAddr f b i) (shadowSize b) entries).1
        ((q.any (·.byCmd)) = true → ∃ t, runs t ∧ t.dev.cmp = s.dev.cmp ∧ t.dev.chQueues = s.dev.chQueues ∧
          t.dev.reg (Reg.AAR_COUNT 4) = s.dev.reg (Reg.AAR_COUNT 4)) ∧
        ((q.any (·.byCmd)) = false → q.length < 32 →
          (∀ ws, pages = some true → data = some ws →
            let differs := s.dev.shadowDiffers b i (shadowOf b ws)
            (f.raced = true → ∃ t, runs t ∧ t.dev.reg (Reg.AAR_COUNT 5) = s.dev.plus (Reg.AAR_COUNT 5) 1 ∧
              t.dev.reg (Reg.AAR_COUNT 4) = s.dev.reg (Reg.AAR_COUNT 4) ∧ t.dev.flt.queue = s.dev.flt.queue ∧ t.dev.chQueues = s.dev.chQueues) ∧
            (f.raced = false → f.again = false → differs = false → ∃ t, runs t ∧ t.dev.chQueues = s.dev.chQueues ∧
              t.dev.reg (Reg.AAR_COUNT 4) = s.dev.plus (Reg.AAR_COUNT 4) 1 ∧ t.dev.flt.queue = s.dev.flt.queue) ∧
            (f.raced = false → f.again = false → differs = true → ∃ t g, runs t ∧ t.dev.chQueues = s.dev.chQueues ∧
              t.dev.reg (Reg.AAR_COUNT 4) = s.dev.plus (Reg.AAR_COUNT 4) 1 ∧ t.dev.flt.queue = s.dev.flt.queue ∧
              t.dev.cmp = { s.dev.cmp with fetch := some g } ∧ g.shadow = f.shadow ∧ g.again = true ∧ g.raced = false) ∧
            (f.raced = false → f.again = true → differs = true → s.dev.bit Reg.AAR_CMP_CTRL F.AAR_CMP_CTRL_REPAIR = false → ∃ t, runs t ∧
              t.dev.chQueues = s.dev.chQueues ∧ t.dev.reg (Reg.AAR_COUNT 6) = s.dev.plus (Reg.AAR_COUNT 6) 1 ∧ last t 0 ∧
              (t.dev.reg Reg.AAR_EVENT).getLsbD 0 = true ∧
              t.dev.flt.queue = s.dev.flt.queue ++ [⟨64 + (chainSegs b (i / 4096)).headD 0 / 4, 2, false, false, s.dev.free⟩]) ∧
            (f.raced = false → f.again = true → differs = true → s.dev.bit Reg.AAR_CMP_CTRL F.AAR_CMP_CTRL_REPAIR = true → ∃ t, runs t ∧
              t.dev.chQueue (chGroup b i) = q ++ [⟨n, i, (shadowOf b ws).valid, (shadowOf b ws).key, (shadowOf b ws).mask, none, false⟩] ∧
              t.dev.reg (Reg.AAR_COUNT 6) = s.dev.plus (Reg.AAR_COUNT 6) 1 ∧ t.dev.reg (Reg.AAR_COUNT 7) = s.dev.plus (Reg.AAR_COUNT 7) 1 ∧ last t 1 ∧
              t.dev.flt.queue = s.dev.flt.queue ++ [⟨64 + (chainSegs b (i / 4096)).headD 0 / 4, 1, false, false, s.dev.free⟩])) ∧
          (pages = some false ∨ pages = some true ∧ data = none → ∃ t, runs t ∧ t.dev.bit (Reg.AAR_SHADOW n) F.AAR_SHADOW_EN = false ∧
            t.dev.reg (Reg.AAR_COUNT 8) = s.dev.plus (Reg.AAR_COUNT 8) 1 ∧ last t 2 ∧ (t.dev.reg Reg.AAR_EVENT).getLsbD 2 = true)))) ∧
    (s.dev.accessOpen Reg.AAR_CMP_CTRL = true →
      (s.dev.bit Reg.AAR_CMP_CTRL F.AAR_CMP_CTRL_EN = false → exec .cmpRestart s = .next s) ∧
      (s.dev.bit Reg.AAR_CMP_CTRL F.AAR_CMP_CTRL_EN = true →
        ∃ t, exec .cmpRestart s = .next t ∧ t.dev.cmp = ⟨true, (List.range 256).filter s.dev.cmpOn, 0, s.dev.free, none⟩ ∧ t.dev.cham = s.dev.cham ∧
          s.dev.regsKept t.dev [Reg.AAR_CMP_STATUS])))

/-! ### Register accesses that do more than store a value -/

/-- Records that a read clears: the read returns the record and the register is 0 afterwards; no other register changes (R16, R163, R207, R233, R394,
R454, R478). -/
def Obligations.LastRecordReads : Prop :=
  ∀ (k : Nat) (s : State), s.dev.running = true →
    let reads := fun (c : Instr) (a : Nat) => s.dev.accessOpen a = true → exec c s = .next (s.withDev { s.dev.setReg a 0 with bus := s.dev.reg a })
    reads .prsMalLastRead Reg.PRS_MAL_LAST ∧ reads .tblEccLastRead Reg.TBL_ECC_LAST ∧ reads .aarCmpLastRead Reg.AAR_CMP_LAST ∧
    reads .hifAccessLogRead Reg.HIF_ACCESS_LOG ∧ reads .dmcEccLastRead Reg.DMC_ECC_LAST ∧
    (k < 16 → reads (.timCapLastRead k) (Reg.TIM_CAP_LAST k))

/-- Writes of the core blocks. PRS_PUNT_RATE restarts the credit full, BURST 0 taken as 1 (R163); CAL_EN 0 returns a class's live costs to the
reference (R265); a spill region in use takes no move, and an event says so (R322); a session's write restarts its SEQ at 0 and its countdown at N
(R337); a shaper keeps its level up to the new DEPTH, and a policer's becomes the new DEPTH (R351). SCH_FLUSH with GO removes every record of the
queue it names, in queues, intakes and residue lists alike, and no other, with REASON SCH_FLUSHED, counts them, and GO reads 1 until FLUSH_DONE,
which raises its event; a write while GO reads 1 is ignored (R361, R367). -/
def Obligations.CoreRegisters : Prop :=
  (∀ (k n p : Nat) (v : Word) (s : State), s.dev.running = true →
    let plain := fun (a : Nat) (x : Word) => s.dev.plainWrite a x
    (s.dev.accessOpen Reg.PRS_PUNT_RATE = true →
      let d := plain Reg.PRS_PUNT_RATE (minOne F.PRS_PUNT_RATE_BURST v)
      exec (.puntRateWrite v) s =
        .next (s.withDev { d with credit := d.fld Reg.PRS_PUNT_RATE F.PRS_PUNT_RATE_BURST * 10 ^ 9, creditAt := s.dev.free })) ∧
    (k < 32 → s.dev.accessOpen (Reg.ACT_COST k) = true →
      ∃ t, exec (.costCalDisable k) s = .next t ∧ t = s.withDev { s.dev with regs := t.dev.regs } ∧ s.dev.regsKept t.dev [Reg.ACT_COST k] ∧
        t.dev.fld (Reg.ACT_COST k) F.ACT_COST_A = s.dev.fld (Reg.ACT_COST_REF k) F.ACT_COST_REF_A_REF ∧
        t.dev.fld (Reg.ACT_COST k) F.ACT_COST_B = s.dev.fld (Reg.ACT_COST_REF k) F.ACT_COST_REF_B_REF ∧
        t.dev.fld (Reg.ACT_COST k) F.ACT_COST_CAL_EN = 0) ∧
    (s.dev.accessOpen Reg.BUF_SPILL_CTRL = true →
      (s.dev.spillUsed ≠ 0 → s.dev.spillMoves v = true → exec (.spillCtrlWrite v) s = .next (s.withDev (s.dev.raise 6 8))) ∧
      (s.dev.spillUsed = 0 → exec (.spillCtrlWrite v) s = .next (s.withDev (plain Reg.BUF_SPILL_CTRL v)))) ∧
    (0 < n → n < 128 → s.dev.accessOpen (Reg.BUF_MSESS_A n) = true →
      ∃ t, exec (.msessAWrite n v) s = .next t ∧ Map.getD t.dev.seqs n 0 = 0 ∧ Map.find t.dev.countdown n = some (s.dev.fld (Reg.BUF_MSESS_B n) F.BUF_MSESS_B_N) ∧
        (∀ j, j ≠ n → Map.find t.dev.seqs j = Map.find s.dev.seqs j ∧ Map.find t.dev.countdown j = Map.find s.dev.countdown j) ∧
        s.dev.regsKept t.dev [Reg.BUF_MSESS_A n] ∧ t.dev.reg (Reg.BUF_MSESS_A n) = (plain (Reg.BUF_MSESS_A n) v).reg (Reg.BUF_MSESS_A n)) ∧
    (k < 4 → n < bucketCount k → s.dev.accessOpen (bucketReg k n) = true →
      ∃ t, exec (.shaperWrite k n v) s = .next t ∧ s.dev.regsKept t.dev [bucketReg k n] ∧
        Map.find t.dev.buckets (bucketKey k n) = some ⟨min (s.dev.levelNow k n) (depthOf (t.dev.reg (bucketReg k n))), s.dev.free⟩ ∧
        (∀ j, j ≠ bucketKey k n → Map.find t.dev.buckets j = Map.find s.dev.buckets j)) ∧
    (p < 65536 → s.dev.accessOpen (Reg.SCH_POL p) = true →
      ∃ t, exec (.policerWrite p v) s = .next t ∧ s.dev.regsKept t.dev [Reg.SCH_POL p] ∧ t.dev.levelNow 4 p = depthOf (t.dev.reg (Reg.SCH_POL p)) ∧
        (∀ j, j ≠ bucketKey 4 p → Map.find t.dev.buckets j = Map.find s.dev.buckets j))) ∧
  (∀ (v : Word) (s : State), s.dev.running = true →
    let q := F.SCH_FLUSH_QUEUE.of v
    let go := s.dev.bit Reg.SCH_FLUSH F.SCH_FLUSH_GO
    (s.dev.accessOpen Reg.SCH_FLUSH = true → go = true → exec (.schFlush v) s = .next s) ∧
    (s.dev.accessOpen Reg.SCH_FLUSH = true → go = false → F.SCH_FLUSH_GO.of v = 1 →
      let gone := (s.dev.recs.filter fun r => r.queue == q).length
      ∃ t, exec (.schFlush v) s = .next t ∧ (∀ r ∈ t.dev.recs, r.queue ≠ q) ∧
        (∀ r ∈ s.dev.recs, r.queue = q → (r.pid, 0x16) ∈ t.dev.discards) ∧
        t.dev.intakes.flatMap (·.2) = (s.dev.intakes.flatMap (·.2)).filter (fun r => r.queue != q) ∧
        t.dev.residue.flatMap (·.2) = (s.dev.residue.flatMap (·.2)).filter (fun r => r.queue != q) ∧
        (t.dev.queues.flatMap (·.2)).map (·.data) = ((s.dev.queues.flatMap (·.2)).filter (fun r => r.queue != q)).map (·.data) ∧
        t.dev.fld Reg.SCH_FLUSH F.SCH_FLUSH_QUEUE = q ∧ t.dev.bit Reg.SCH_FLUSH F.SCH_FLUSH_GO = true ∧
        t.dev.reg (Reg.SCH_COUNT 6) = s.dev.plus (Reg.SCH_COUNT 6) gone ∧ s.dev.regsKept t.dev [Reg.SCH_FLUSH, Reg.SCH_COUNT 6] ∧
        t.dev.pkts = s.dev.pkts) ∧
    (s.dev.lineUp 81 = true → go = true →
      exec .flushDone s = .next (s.withDev ((s.dev.setFld Reg.SCH_FLUSH F.SCH_FLUSH_GO 0).raise 7 2))) ∧
    (go = false → exec .flushDone s = .next s))

/-! ### Configuration streams, key fuses and generations -/

/-- Loads of an overlay in RUN. START makes the idle generation a copy of the active one in LOADING; it changes nothing but SRC while a load is in
progress, and gives BUSY during a drain or a flip; ABORT, a failed flash read and a failing check leave the idle generation EMPTY with STATE
FAILED and the error, and raise LOAD_ERROR; bytes that pass their checks are taken; LOAD_DONE makes the generation READY (R69, R81 to R86). No
load touches the active generation or a packet. Key fuses (R77, R99). FUSE_PROGRAM and FUSE_REVOKE store SLOT and OP, and start an operation only
with UNLOCK A5C3 and none in progress. At its end a slot that does not exist or is not as the operation needs, or a supply missing at GO (a free
value), gives its RESULT and leaves every slot; else the slot is PROGRAMMED with the digest, REVOKED, or after a failed program BAD; no other slot
changes. That of several RESULTs the first of these stands, and that a REVOKE which fails leaves its slot, is the model's choice (log entry 33).
-/
def Obligations.StreamAndKeys : Prop :=
  (∀ (v : Word) (s : State), s.dev.running = true → s.dev.gens.length = 2 →
    let o := s.dev.activeG
    let g := 1 - o
    let src := s.dev.loader.src
    let bytes := s.dev.loader.bytes
    let kept := fun (t : State) => t.dev.gen o = s.dev.gen o ∧ t.dev.pkts = s.dev.pkts ∧ t.host = s.host
    let shows := fun (t : State) (st err : Nat) => t.dev.fld Reg.STR_LOAD_STATUS F.STR_LOAD_STATUS_STATE = st ∧
      t.dev.fld Reg.STR_LOAD_STATUS F.STR_LOAD_STATUS_ERR = err
    let failed := fun (c : Instr) (err : Nat) => ∃ t, exec c s = .next t ∧ kept t ∧ t.dev.gen g = Gen.none ∧ t.dev.loader.src = .none ∧
      shows t 4 err ∧ (t.dev.reg Reg.STR_EVENT).getLsbD 1 = true
    (s.dev.accessOpen Reg.STR_LOAD_CTRL = true →
      (F.STR_LOAD_CTRL_START.of v = 1 → F.STR_LOAD_CTRL_SRC.of v < 2 →
        (src ≠ .none → exec (.strLoadStart v) s =
          .next (s.withDev (s.dev.setFld Reg.STR_LOAD_CTRL F.STR_LOAD_CTRL_SRC (F.STR_LOAD_CTRL_SRC.of v)))) ∧
        (src = .none → (s.dev.gen g).st ≠ .draining → s.dev.flipping = false →
          ∃ t, exec (.strLoadStart v) s = .next t ∧ kept t ∧ t.dev.gen g = ⟨.loading, 0, (s.dev.gen o).secs, []⟩ ∧ t.dev.loader.bytes = [] ∧
            t.dev.loader.src = (if F.STR_LOAD_CTRL_SRC.of v = 1 then .flash else .host) ∧
            t.dev.fld Reg.STR_LOAD_STATUS F.STR_LOAD_STATUS_STATE = 1) ∧
        (src = .none → (s.dev.gen g).st = .draining ∨ s.dev.flipping = true →
          ∃ t, exec (.strLoadStart v) s = .next t ∧ kept t ∧ t.dev.gens = s.dev.gens ∧ t.dev.loader = s.dev.loader ∧ shows t 4 0x0C ∧
            (t.dev.reg Reg.STR_EVENT).getLsbD 1 = true)) ∧
      (src = .host ∨ src = .flash → failed .strLoadAbort 0x0D) ∧
      (src ≠ .host → src ≠ .flash → exec .strLoadAbort s = .next s)) ∧
    (s.dev.accessOpen Reg.STR_LOAD_DATA = true →
      (src = .host → s.dev.receiving = true → exec (.strLoadData v) s = .next (s.withDev (s.dev.loadFeed (wordBytes v)))) ∧
      (src ≠ .host ∨ s.dev.receiving = false →
        exec (.strLoadData v) s = .next (s.withDev (s.dev.setFld Reg.STR_LOAD_STATUS F.STR_LOAD_STATUS_STRAY 1)))) ∧
    (src = .flash → s.dev.receiving = true → failed (.strFlashRead none) 0x0E ∧
      ∀ bs, exec (.strFlashRead (some bs)) s = .next (s.withDev (s.dev.loadFeed bs))) ∧
    (∀ bs, src = .host ∨ src = .flash → 64 ≤ bytes.length → (bytes ++ bs).length ≤ stTotal (bytes ++ bs) →
      let b := bytes ++ bs
      arriveErrs true (s.dev.reg Reg.STR_BASE_ID).toNat (s.dev.gen o).secs b bytes.length = [] →
      let d := s.dev.loadFeed bs
      d.loader.bytes = b ∧ d.gen g = (s.dev.gen g).decode b (arrived b bytes.length) ∧ kept (s.withDev d) ∧ d.tables = s.dev.tables ∧
        s.dev.regsKept d [Reg.STR_LOAD_STATUS] ∧ (stTotal b = b.length → d.fld Reg.STR_LOAD_STATUS F.STR_LOAD_STATUS_STATE = 2)) ∧
    (src = .host ∨ src = .flash → s.dev.receiving = false →
      (s.dev.verifyErrs true g = [] →
        ∃ t, exec .loadDone s = .next t ∧ kept t ∧ t.dev.loader.src = .none ∧ shows t 3 0 ∧ (t.dev.reg Reg.STR_EVENT).getLsbD 0 = true ∧
          t.dev.tables = s.dev.tables ∧ t.dev.gen g = { s.dev.gen g with st := .ready, id := BitVec.ofNat 64 (stId bytes) }) ∧
      (∀ e, s.dev.verifyErrs true g = [e] → e.err < 256 → failed .loadDone e.err))) ∧
  (∀ (v : Word) (ok : Bool) (s : State), s.dev.running = true →
    (∀ c op, c = Instr.fuseProgram v ∧ op = 1 ∨ c = Instr.fuseRevoke v ∧ op = 2 → s.dev.accessOpen Reg.STR_FUSE_CMD = true →
      F.STR_FUSE_CMD_OP.of v = op →
      let stored := fun (t : State) => s.dev.regsKept t.dev [Reg.STR_FUSE_CMD] ∧
        t.dev.fld Reg.STR_FUSE_CMD F.STR_FUSE_CMD_SLOT = F.STR_FUSE_CMD_SLOT.of v ∧ t.dev.fld Reg.STR_FUSE_CMD F.STR_FUSE_CMD_OP = op
      (s.dev.loader.fuse = none → F.STR_FUSE_CMD_GO.of v = 1 → F.STR_FUSE_CMD_UNLOCK.of v = 0xA5C3 → ∃ t, exec c s = .next t ∧ stored t ∧
        t.dev.bit Reg.STR_FUSE_CMD F.STR_FUSE_CMD_GO = true ∧
        t.dev.loader = { s.dev.loader with
          fuse := some (BitVec.ofNat 2 op, BitVec.ofNat 3 (F.STR_FUSE_CMD_SLOT.of v)), fuseSupply := t.dev.loader.fuseSupply }) ∧
      (s.dev.loader.fuse.isSome ∨ F.STR_FUSE_CMD_GO.of v = 0 ∨ F.STR_FUSE_CMD_UNLOCK.of v ≠ 0xA5C3 → ∃ t, exec c s = .next t ∧ stored t ∧
        t = s.withDev { s.dev with regs := t.dev.regs } ∧
        t.dev.fld Reg.STR_FUSE_CMD F.STR_FUSE_CMD_GO = s.dev.fld Reg.STR_FUSE_CMD F.STR_FUSE_CMD_GO)) ∧
    (∀ op slot, s.dev.loader.fuse = some (op, slot) → s.dev.loader.slots.length = 4 →
      let k := slot.toNat
      let st := (s.dev.keySlot k).1
      let old := (s.dev.keySlot k).2
      let ends := fun (r : Nat) (x : BitVec 2 × List Byte) => ∃ t, exec (.fuseOpDone ok) s = .next t ∧ t.dev.loader.fuse = none ∧
        t.dev.fld Reg.STR_FUSE_CMD F.STR_FUSE_CMD_RESULT = r ∧ t.dev.bit Reg.STR_FUSE_CMD F.STR_FUSE_CMD_GO = false ∧
        t.dev.keySlot k = x ∧ ∀ j, j ≠ k → t.dev.keySlot j = s.dev.keySlot j
      (4 ≤ k → ends 1 (st, old)) ∧
      (k < 4 →
        (op = 1 → st ≠ 0 → ends 2 (st, old)) ∧ (op = 2 → st ≠ 1 → st ≠ 3 → ends 3 (st, old)) ∧
        (op = 1 ∧ st = 0 ∨ op = 2 ∧ (st = 1 ∨ st = 3) → s.dev.loader.fuseSupply = false → ends 4 (st, old)) ∧
        (s.dev.loader.fuseSupply = true →
          (op = 1 → st = 0 → ends (if ok then 0 else 5) (if ok then (1, s.dev.fuseDigest) else (3, old))) ∧
          (op = 2 → st = 1 ∨ st = 3 → ends (if ok then 0 else 5) (if ok then (2, old) else (st, old)))))))

/-- Flips and drains. A refused FLIP gives its CODE, raises FLIP_REFUSED and changes no generation; an accepted one counts and reads 1 until
FLIP_DONE, which makes the new generation ACTIVE and the old one DRAINING. The old one becomes EMPTY only once none of its packets is in
flight; STR_FORCE discards its packets but those whose DMA has begun, and does nothing while FORCE reads 1; DRAIN_SLOW is raised at STR_DRAIN_LIMIT, once (R86 to R88, R94). -/
def Obligations.GenerationFlips : Prop :=
  ∀ (s : State), s.dev.running = true → s.dev.gens.length = 2 →
    let o := s.dev.activeG
    let n := 1 - o
    (s.dev.accessOpen Reg.STR_FLIP = true → s.dev.bit Reg.STR_FLIP F.STR_FLIP_FLIP = false →
      ((s.dev.gen n).st ≠ .ready → s.dev.flipCode = 1) ∧
      (s.dev.flipCode ≠ 0 → ∃ t, exec .strFlip s = .next t ∧ t.dev.fld Reg.STR_FLIP_STATUS F.STR_FLIP_STATUS_CODE = s.dev.flipCode ∧
        t.dev.gens = s.dev.gens ∧ t.dev.flipping = s.dev.flipping ∧ (t.dev.reg Reg.STR_EVENT).getLsbD 3 = true) ∧
      (s.dev.flipCode = 0 → s.dev.flipSecs = [] → ∃ t, exec .strFlip s = .next t ∧ t.dev.fld Reg.STR_FLIP_STATUS F.STR_FLIP_STATUS_CODE = 0 ∧
        t.dev.fld Reg.STR_FLIP_STATUS F.STR_FLIP_STATUS_FLIPS = (s.dev.fld Reg.STR_FLIP_STATUS F.STR_FLIP_STATUS_FLIPS + 1) % 2 ^ 32 ∧
        t.dev.bit Reg.STR_FLIP F.STR_FLIP_FLIP = true ∧ s.dev.regsKept t.dev [Reg.STR_FLIP, Reg.STR_FLIP_STATUS] ∧
        t = s.withDev { s.dev with regs := t.dev.regs, flipping := true, flipped := [] })) ∧
    (s.dev.flipping = true → ∃ t, exec .flipDone s = .next t ∧ t.dev.activeG = n ∧ t.dev.flipping = false ∧
      t.dev.bit Reg.STR_FLIP F.STR_FLIP_FLIP = false ∧ t.dev.gen o = { s.dev.gen o with st := .draining } ∧
      t.dev.gen n = { s.dev.gen n with st := .active, flipSecs := [] } ∧ t.dev.drainFrom = some s.dev.free ∧
      (t.dev.reg Reg.STR_EVENT).getLsbD 2 = true ∧ t.dev.pkts = s.dev.pkts ∧ t.dev.tables = s.dev.tables) ∧
    (s.dev.flipping = false → exec .flipDone s = .next s) ∧
    (∀ g, s.dev.drainG = some g →
      (s.dev.flightOf g = 0 → ∃ t, exec .drainDone s = .next t ∧ t.dev.gen g = Gen.none ∧ (∀ k, k ≠ g → t.dev.gen k = s.dev.gen k) ∧
        (t.dev.reg Reg.STR_EVENT).getLsbD 5 = true ∧ t.dev.pkts = s.dev.pkts) ∧
      (s.dev.flightOf g ≠ 0 → exec .drainDone s = .next s ∧
        (let lim := s.dev.fld Reg.STR_DRAIN_LIMIT F.STR_DRAIN_LIMIT_LIMIT
         (lim ≠ 0 → s.dev.drainSlow = false → lim ≤ s.dev.drainUs →
           exec .drainSlow s = .next (s.withDev (({ s.dev with drainSlow := true } : Dev).raise 0 4))) ∧
         (lim = 0 ∨ s.dev.drainSlow = true ∨ s.dev.drainUs < lim → exec .drainSlow s = .next s)) ∧
        (s.dev.accessOpen Reg.STR_FORCE = true → s.dev.bit Reg.STR_FORCE F.STR_FORCE_FORCE = true → exec .strForce s = .next s) ∧
        (s.dev.accessOpen Reg.STR_FORCE = true → s.dev.bit Reg.STR_FORCE F.STR_FORCE_FORCE = false → ∃ t, exec .strForce s = .next t ∧ t.dev.bit Reg.STR_FORCE F.STR_FORCE_FORCE = true ∧
          t.dev.gens = s.dev.gens ∧ (∀ r ∈ t.dev.recs, ctxGet r.words C.G ≠ g) ∧
          ∀ c q, t.dev.pkt c = some q → q.get C.G = g → ∃ p, s.dev.pkt c = some p ∧ s.dev.dmaBegun p = true)))

/-! ### Bring-up and the sideband -/

/-- Cold starts and the host's resets of the link. COLD_RST_N low leads to POWER, its rise and a right COLD_REQ to FUSE with the straps latched; each
leaves every register at its reset value, nothing in flight and no table, and keeps the fuses; a boot source of 2 or 3 halts the device. From the
sideband a cold start request works only with SB_COLD_EN (R557 to R559). PERST_N low takes the link and
every ring away (R520, R562). -/
def Obligations.ColdStarts : Prop :=
  ∀ (straps : BitVec 4) (v : Word) (s : State),
    let wiped := fun (t : State) => t.dev.pkts = [] ∧ t.dev.queues = [] ∧ t.dev.tables = [] ∧ t.dev.engines = [] ∧ t.dev.flt = Dev.reset.flt ∧
      t.dev.loader.slots = s.dev.loader.slots ∧ t.dev.wire = s.dev.wire ∧ t.host = s.host
    let fused := fun (t : State) (b : Nat) => wiped t ∧ (b < 2 → t.dev.stage = 1 ∧ ∀ a, t.dev.reg a = regReset a) ∧
      (2 ≤ b → t.dev.stage = 14 ∧ t.dev.fld Reg.SYS_REASON F.SYS_REASON_CODE = 7 ∧ t.dev.fld Reg.SYS_REASON F.SYS_REASON_DETAIL = b)
    (s.dev.pins.coldRst = true → ∃ t, exec .coldReset s = .next t ∧ wiped t ∧ t.dev.stage = 0 ∧ t.dev.pins.coldRst = false ∧
      ∀ a, a ≠ Reg.SYS_STAGE → t.dev.reg a = regReset a) ∧
    (s.dev.pins.coldRst = false → exec .coldReset s = .next s ∧
      ∃ t, exec (.coldStart straps) s = .next t ∧ fused t (straps.toNat % 4) ∧ t.dev.pins.coldRst = true ∧ t.dev.pins.straps = straps) ∧
    (s.dev.pins.coldRst = true → exec (.coldStart straps) s = .next s) ∧
    (∀ sb, s.dev.stage ≠ 0 →
      (asksCold v = true → sb = false ∨ s.dev.bit Reg.SYS_CTRL F.SYS_CTRL_SB_COLD_EN = true →
        ∃ t, exec (.coldReq v sb) s = .next t ∧ fused t s.dev.bootSrc ∧ t.dev.pins.straps = s.dev.pins.straps) ∧
      (asksCold v = false → exec (.coldReq v false) s =
        .next (s.withDev (s.dev.setFld Reg.SYS_CTRL F.SYS_CTRL_SB_COLD_EN (F.SYS_CTRL_SB_COLD_EN.of v)))) ∧
      (asksCold v = false ∨ s.dev.bit Reg.SYS_CTRL F.SYS_CTRL_SB_COLD_EN = false → exec (.coldReq v true) s = .next s)) ∧
    (s.dev.pins.perst = false →
      exec (.perst true) s = .next (s.withDev { s.dev with pins := { s.dev.pins with perst := true } }) ∧ exec (.perst false) s = .next s) ∧
    (s.dev.pins.perst = true → ∃ t, exec (.perst false) s = .next t ∧ t.dev.pins.perst = false ∧ t.dev.hif.linkUp = false ∧
      t.dev.hif.subs = [] ∧ t.dev.hif.held = [] ∧ t.dev.hif.tlb = [])

/-- The stages of bring-up. A stage that ends well enters the next one, changing no register but SYS_STAGE beside what the stage itself does: FUSE
shows the keys, RIMS starts the time counter and the loader, STREAM makes generation 0 ACTIVE with its STREAM_ID, RETAIN counts, RELEASE
begins RUN; one that fails halts with its code and what was found (R560, R566, R574). A copy that fails gives way to the other one (R79). -/
def Obligations.BringUpStages : Prop :=
  ∀ (x n : Nat) (rails : List Nat) (v : Word) (s : State),
    let stage := s.dev.stage
    let halts := fun (c : Instr) (code : Nat) => ∃ t, exec c s = .next t ∧ t.dev.stage = 14 ∧ t.dev.fld Reg.SYS_REASON F.SYS_REASON_CODE = code ∧
      t.dev.fld Reg.SYS_REASON F.SYS_REASON_DETAIL = x % 2 ^ 24 ∧ t.dev.fld Reg.SYS_REASON F.SYS_REASON_STAGE = stage ∧ t.dev.pkts = s.dev.pkts
    (stage = 1 → halts (.fuseStageDone (some x)) 1 ∧
      ∃ t, exec (.fuseStageDone none) s = .next t ∧ t.dev.stage = 2 ∧ s.dev.regsKept t.dev [Reg.STR_KEY_STATE, Reg.SYS_STAGE] ∧
        t.dev.bit Reg.STR_KEY_STATE F.STR_KEY_STATE_OPEN = s.dev.openMode) ∧
    (stage = 2 → halts (.selftestDone (some x)) 2 ∧
      ∃ t, exec (.selftestDone none) s = .next t ∧ t.dev.stage = 3 ∧ s.dev.regsKept t.dev [Reg.SYS_STAGE] ∧
        t = s.withDev { s.dev with regs := t.dev.regs }) ∧
    (stage = 3 → s.dev.gens.length = 2 → halts (.rimsDone (some x)) 3 ∧
      ∃ t, exec (.rimsDone none) s = .next t ∧ t.dev.stage = 4 ∧ t.dev.tim.locked = true ∧ t.dev.gen 0 = ⟨.loading, 0, [], []⟩ ∧
        t.dev.loader.src = (if s.dev.bootSrc = 0 then .bootFlash else .bootHost) ∧ s.dev.regsKept t.dev [Reg.SYS_LOAD_STATUS, Reg.SYS_STAGE]) ∧
    (stage = 4 → s.dev.gens.length = 2 →
      (∀ b, s.dev.loader.src = .bootHost → s.dev.receiving = true → b = 8 →
        exec (.sysLoadData v 0 b) s = .next (s.withDev (s.dev.loadFeed (wordBytes v)))) ∧
      (∀ f b, s.dev.loader.src ≠ .bootHost ∨ f ≠ 0 ∨ b ≠ 8 ∨ s.dev.receiving = false →
        exec (.sysLoadData v f b) s = .next (s.withDev (s.dev.setFld Reg.SYS_LOAD_STATUS F.SYS_LOAD_STATUS_STRAY 1))) ∧
      (s.dev.loader.src ≠ .none → s.dev.receiving = false →
        (s.dev.verifyErrs false 0 = [] → exec .streamStageDone s = .next (s.withDev s.dev.streamLoaded) ∧ s.dev.streamLoaded.stage = 5 ∧
          ((s.dev.gen 0).flipSecs = [] → (s.dev.streamLoaded.gen 0).st = .active ∧
            s.dev.streamLoaded.reg Reg.STR_BASE_ID = BitVec.ofNat 64 (stId s.dev.loader.bytes))) ∧
        (∀ e, s.dev.verifyErrs false 0 = [e] → s.dev.loader.src = .bootFlash → s.dev.loader.copyErr = [] →
          ∃ t, exec .streamStageDone s = .next t ∧ t.dev.stage = 4 ∧ t.dev.loader.bytes = [] ∧ t.dev.loader.flashAt = 0x02000000 ∧
            t.dev.gen 0 = Gen.none) ∧
        (∀ e c, s.dev.verifyErrs false 0 = [e] → s.dev.loader.src = .bootFlash → s.dev.loader.copyErr = [c] →
          ∃ t, exec .streamStageDone s = .next t ∧ t.dev.stage = 14 ∧ t.dev.fld Reg.SYS_REASON F.SYS_REASON_CODE = 4) ∧
        (∀ e, s.dev.verifyErrs false 0 = [e] → s.dev.loader.src = .bootHost →
          ∃ t, exec .streamStageDone s = .next t ∧ t.dev.stage = 14 ∧ t.dev.fld Reg.SYS_REASON F.SYS_REASON_CODE = 4))) ∧
    (stage = 5 → halts (.retainDone (some x) n) 5 ∧
      ∃ t, exec (.retainDone none n) s = .next t ∧ t.dev.stage = 6 ∧ s.dev.regsKept t.dev [Reg.FLT_COUNT 9, Reg.SYS_STAGE] ∧
        t.dev.reg (Reg.FLT_COUNT 9) = s.dev.plus (Reg.FLT_COUNT 9) n ∧ t = s.withDev { s.dev with regs := t.dev.regs }) ∧
    (stage = 6 → s.dev.flt.warm = none → halts (.releaseDone (some x) rails) 6 ∧
      ((∃ k, k < 4 ∧ s.dev.chanState k = 1) → exec (.releaseDone none rails) s = .next s) ∧
      ((∀ k, k < 4 → s.dev.chanState k ≠ 1) → exec (.releaseDone none rails) s = .next (s.withDev (s.dev.enterRun rails)) ∧
        (s.dev.enterRun rails).running = true ∧ (s.dev.enterRun rails).buckets = []))

/-- The sideband outside POWER. A bad offset is counted in NACKS, a write that may not be made in DENIED; a write of SYS_SB_SCRATCH stores its half;
the cold start request works when SB_COLD_EN allows it and has no effect otherwise; a read of one register gives its bytes and changes no register; reading
SYS_SB_STATUS clears it (R571, R572). -/
def Obligations.SidebandTransactions : Prop :=
  ∀ (off n : Nat) (data : List Byte) (s : State), s.dev.stage ≠ 0 →
    let a := off / 8 * 8
    let w := BitVec.ofNat 64 (leNat data)
    let counted := fun (c : Instr) (d : Dev) (f : Fld) => exec c s = .next (s.withDev (d.satCount Reg.SYS_SB_STATUS f 1))
    (off % 4 ≠ 0 ∨ 0x80 ≤ off →
      counted (.sbWrite off data) s.dev F.SYS_SB_STATUS_NACKS ∧ counted (.sbRead off n) s.dev F.SYS_SB_STATUS_NACKS) ∧
    (off % 4 = 0 → off < 0x80 →
      (data.length ≠ 4 → counted (.sbWrite off data) s.dev F.SYS_SB_STATUS_DENIED) ∧
      (data.length = 4 →
        (a = Reg.SYS_SB_SCRATCH → ∃ t, exec (.sbWrite off data) s = .next t ∧ t = s.withDev { s.dev with regs := t.dev.regs } ∧
          s.dev.regsKept t.dev [a] ∧ (t.dev.reg a).toNat / 2 ^ (8 * (off % 8)) % 2 ^ 32 = leNat data ∧
          (t.dev.reg a).toNat / 2 ^ (32 - 8 * (off % 8)) % 2 ^ 32 = (s.dev.reg a).toNat / 2 ^ (32 - 8 * (off % 8)) % 2 ^ 32) ∧
        (off = Reg.SYS_CTRL → asksCold w = true → s.dev.bit Reg.SYS_CTRL F.SYS_CTRL_SB_COLD_EN = true →
          exec (.sbWrite off data) s = .next (s.withDev s.dev.coldStart)) ∧
        (off = Reg.SYS_CTRL → asksCold w = true → s.dev.bit Reg.SYS_CTRL F.SYS_CTRL_SB_COLD_EN = false → exec (.sbWrite off data) s = .next s) ∧
        (a = Reg.SYS_LOAD_DATA →
          counted (.sbWrite off data) (s.dev.setFld Reg.SYS_LOAD_STATUS F.SYS_LOAD_STATUS_STRAY 1) F.SYS_SB_STATUS_DENIED) ∧
        (a ≠ Reg.SYS_SB_SCRATCH → a ≠ Reg.SYS_LOAD_DATA → ¬ (off = Reg.SYS_CTRL ∧ asksCold w = true) →
          counted (.sbWrite off data) s.dev F.SYS_SB_STATUS_DENIED)) ∧
      (1 ≤ n → off % 8 + n ≤ 8 → a ≠ Reg.SYS_SB_STATUS →
        exec (.sbRead off n) s = .next (s.withDev { s.dev with sbOut := ((wordBytes (s.dev.view a)).drop (off % 8)).take n })) ∧
      (1 ≤ n → off % 8 + n ≤ 8 → a = Reg.SYS_SB_STATUS →
        exec (.sbRead off n) s = .next (s.withDev { s.dev.setReg a 0 with sbOut := ((wordBytes (s.dev.view a)).drop (off % 8)).take n }))) ∧
    counted .sbTimeout s.dev F.SYS_SB_STATUS_TIMEOUTS ∧
    exec .sbStatusRead s = .next (s.withDev { s.dev.setReg Reg.SYS_SB_STATUS 0 with bus := s.dev.reg Reg.SYS_SB_STATUS })

/-! ### Ports -/

/-- Port `n` begins acquisition with its registers as they stand: AN when its PRT_MODE asks for it, else ALIGN, with nothing resolved (R111, R114,
R136). -/
def Sys2Proof.Machine.Dev.acquiredAs (d e : Dev) (n : Nat) : Prop :=
  let m := d.reg (Reg.PRT_MODE n)
  e.portState n = (if F.PRT_MODE_AN_EN.of m = 1 ∧ (n < 128 ∨ F.PRT_MODE_MODE.of m = 1) then stAn else stAlign) ∧
  e.fld (Reg.PRT_STATUS n) F.PRT_STATUS_RES_RANK = 0 ∧ (e.port n).mode = m ∧ ∀ k, k ≠ n → k < 130 → e.portState k = d.portState k ∧ e.port k = d.port k

/-- Acquisition of a port. ADMIN_UP starts it on a bound port in ADMIN_DOWN, RESTART, a failed training and 500 ms in ALIGN start it anew, ADMIN_DOWN
ends it with the port's queues flushed; the exchange of base pages resolves the common mode or starts anew; training leads to ALIGN (R111,
R114 to R118, R130). No other port changes. -/
def Obligations.PortAcquisition : Prop :=
  ∀ (n : Nat) (lp : Word) (s : State), s.dev.up = true → n < 130 →
    let st := s.dev.portState n
    let link := fun (t : State) => t.dev.fld (Reg.PRT_STATUS n) F.PRT_STATUS_LINK
    let anew := fun (c : Instr) => ∃ t, exec c s = .next t ∧ s.dev.acquiredAs t.dev n
    let failed := fun (c : Instr) (k b : Nat) => ∃ t, exec c s = .next t ∧ s.dev.acquiredAs t.dev n ∧
      t.dev.reg (Reg.PRT_COUNT n k) = s.dev.plus (Reg.PRT_COUNT n k) 1 ∧ (t.dev.reg (Reg.PRT_EVENT n)).getLsbD b = true
    (s.dev.accessOpen (Reg.PRT_CTRL n) = true →
      (st = stAdminDown → s.dev.bound n = true → (s.dev.port n).forcedDown = false →
        ∃ t, exec (.portAdminUp n) s = .next t ∧ s.dev.acquiredAs t.dev n ∧ t.dev.bit (Reg.PRT_CTRL n) F.PRT_CTRL_ADMIN_UP = true ∧
          t.dev.queues = s.dev.queues ∧ t.dev.pkts = s.dev.pkts) ∧
      (s.dev.bit (Reg.PRT_CTRL n) F.PRT_CTRL_ADMIN_UP = true →
        ∃ t, exec (.portAdminDown n) s = .next t ∧ t.dev.portState n = stAdminDown ∧ link t = 0 ∧ (t.dev.port n).discard = true ∧
          t.dev.bit (Reg.PRT_CTRL n) F.PRT_CTRL_ADMIN_UP = false ∧ (∀ r ∈ t.dev.recs, r.port ≠ n) ∧
          (t.dev.reg (Reg.PRT_EVENT n)).getLsbD 4 = (s.dev.reg (Reg.PRT_EVENT n)).getLsbD 4 ∧
          ∀ k, k ≠ n → k < 130 → t.dev.portState k = s.dev.portState k) ∧
      (s.dev.bit (Reg.PRT_CTRL n) F.PRT_CTRL_ADMIN_UP = false → exec (.portAdminDown n) s = .next s) ∧
      (st ≠ stAdminDown → ∃ t, exec (.portRestart n) s = .next t ∧ s.dev.acquiredAs t.dev n ∧ link t = 0) ∧
      (st = stAdminDown → exec (.portRestart n) s = .next s)) ∧
    (st = stAn → n < 128 →
      (∀ rank mode fec, resolve (s.dev.port n).mode (s.dev.port n).adv lp = some (rank, mode, fec) →
        ∃ t, exec (.basePageExchange n lp) s = .next t ∧ t.dev.portState n = (if rank = 10 then stAlign else stTrain) ∧
          t.dev.fld (Reg.PRT_STATUS n) F.PRT_STATUS_RES_MODE = mode ∧ t.dev.fld (Reg.PRT_STATUS n) F.PRT_STATUS_RES_FEC = fec ∧
          t.dev.fld (Reg.PRT_STATUS n) F.PRT_STATUS_RES_RANK = rank ∧
          t.dev.fld (Reg.PRT_AN_LP n) F.PRT_AN_LP_ABIL = F.PRT_AN_LP_ABIL.of lp ∧ t.dev.bit (Reg.PRT_AN_LP n) F.PRT_AN_LP_VALID = true) ∧
      (resolve (s.dev.port n).mode (s.dev.port n).adv lp = none → failed (.basePageExchange n lp) 26 2)) ∧
    (st = stAn → 128 ≤ n → ∃ t, exec (.basePageExchange n lp) s = .next t ∧ t.dev.portState n = stAlign ∧
      t.dev.fld (Reg.PRT_STATUS n) F.PRT_STATUS_RES_MODE = 1) ∧
    (st = stTrain → failed (.trainFail n) 27 3 ∧
      ∃ t, exec (.trainDone n) s = .next t ∧ t.dev.portState n = stAlign ∧ s.dev.regsKept t.dev [Reg.PRT_STATUS n, Reg.PRT_MM_STATUS n]) ∧
    (st = stAlign → (s.dev.port n).since + 500000000 ≤ s.dev.free → anew (.alignTimeout n)) ∧
    (st = stAlign → s.dev.free < (s.dev.port n).since + 500000000 → exec (.alignTimeout n) s = .next s) ∧
    (st ≠ stAn → exec (.basePageExchange n lp) s = .next s) ∧
    (st ≠ stTrain → exec (.trainDone n) s = .next s ∧ exec (.trainFail n) s = .next s) ∧
    (st ≠ stAlign → exec (.alignTimeout n) s = .next s)

/-- A link up and down. LINK_UP on a port that has been in ALIGN for UP_DEBOUNCE and whose PCS runs brings it up, its held queues released, and
starts the verify process; LINK_DOWN of a port that has been in UP for DOWN_DEBOUNCE, and remote fault, take it down: counted, its event raised,
the frames in its rim discarded, its queues held for the hold time, whose end flushes them; LINK_DOWN sets LF (R111, R112, R125, R128, R129,
R136). A port that becomes unbound as it goes down is flushed at once (R106, R130). The verify process sends up to three frames, VERIFY_TIME
apart, and ends SUCCEEDED or FAILED (R124). Recovered clocks. RCLK_SELECT stores the lane, the enable and the divider; in every output SQUELCHED
says that its source lane has no signal or no lock, and the output is held low while it is squelched or not enabled and runs otherwise. The loss
of a source's lock squelches the output and raises its event; its return ends that without one (R126, R127). -/
def Obligations.PortStatesAndClocks : Prop :=
  (∀ (n : Nat) (s : State), s.dev.up = true → n < 130 →
    let st := s.dev.portState n
    let link := fun (t : State) => t.dev.fld (Reg.PRT_STATUS n) F.PRT_STATUS_LINK
    let event := fun (t : State) (b : Nat) => (t.dev.reg (Reg.PRT_EVENT n)).getLsbD b = true
    let mm := fun (t : State) (v a : Nat) => t.dev.fld (Reg.PRT_MM_STATUS n) F.PRT_MM_STATUS_VERIFY = v ∧
      t.dev.fld (Reg.PRT_MM_STATUS n) F.PRT_MM_STATUS_ACTIVE = a
    let m := s.dev.reg (Reg.PRT_MODE n)
    let unbinds := 128 ≤ n ∧ F.PRT_MODE_AN_EN.of m = 0 ∧ F.PRT_MODE_MODE.of m = 0
    let timer := fun (f : Fld) => 1000 * s.dev.fld (Reg.PRT_LINK_TIMER n) f
    let held := fun (t : State) =>
      let hold := s.dev.fld (Reg.PRT_HOLD n) F.PRT_HOLD_HOLD
      (hold ≠ 0 → (t.dev.port n).holdEnd = some (s.dev.free + 1000 * hold) ∧ (t.dev.port n).discard = false) ∧
      (hold = 0 → (t.dev.port n).discard = true ∧ event t 4)
    let downs := fun (t : State) => link t = 0 ∧ (s.dev.portUp n = true →
      t.dev.reg (Reg.PRT_COUNT n 28) = s.dev.plus (Reg.PRT_COUNT n 28) 1 ∧ event t 1 ∧
      ∀ c p, t.dev.pkt c = some p → p.stage ≠ .txRim n ∧ p.stage ≠ .preempted n)
    let aligned := st = stAlign ∧ (s.dev.port n).pcs = true ∧ (s.dev.port n).since + timer F.PRT_LINK_TIMER_UP_DEBOUNCE ≤ s.dev.free
    let lasting := st = stUp ∧ (s.dev.port n).since + timer F.PRT_LINK_TIMER_DOWN_DEBOUNCE ≤ s.dev.free
    (aligned →
      ∃ t, exec (.linkUp n) s = .next t ∧ t.dev.portState n = stUp ∧ link t = 1 ∧ event t 0 ∧ (t.dev.port n).holdEnd = none ∧
        (t.dev.port n).discard = false ∧ t.dev.queues = s.dev.queues ∧ t.dev.pkts = s.dev.pkts ∧
        (n < 128 → s.dev.mmEn n = false → mm t 0 0) ∧ (n < 128 → s.dev.mmEn n = true → s.dev.mmNoVerify n = true → mm t 0 1) ∧
        (n < 128 → s.dev.mmEn n = true → s.dev.mmNoVerify n = false → mm t 1 0 ∧ (t.dev.port n).verifyTries = 0 ∧
          (t.dev.port n).verifyAt = s.dev.free)) ∧
    (¬ aligned → exec (.linkUp n) s = .next s) ∧
    (lasting → ∃ t, exec (.linkDown n) s = .next t ∧ downs t ∧ s.dev.acquiredAs t.dev n ∧
      t.dev.bit (Reg.PRT_STATUS n) F.PRT_STATUS_LF = true ∧ (s.dev.portUp n = true → ¬ unbinds → held t) ∧
      (unbinds → (t.dev.port n).holdEnd = none ∧ (t.dev.port n).discard = true ∧ ∀ r ∈ t.dev.recs, r.port ≠ n)) ∧
    (¬ lasting → exec (.linkDown n) s = .next s) ∧
    (∀ rf, st = stUp → rf ≠ s.dev.bit (Reg.PRT_STATUS n) F.PRT_STATUS_RF →
      ∃ t, exec (.remoteFault n rf) s = .next t ∧ t.dev.portState n = stUp ∧ t.dev.bit (Reg.PRT_STATUS n) F.PRT_STATUS_RF = rf ∧
        (rf = true → downs t ∧ (s.dev.portUp n = true → held t)) ∧ (rf = false → link t = 1 ∧ event t 0 ∧ (t.dev.port n).holdEnd = none)) ∧
    (∀ e, (s.dev.port n).holdEnd = some e →
      (e ≤ s.dev.free → s.dev.portUp n = false → ∃ t, exec (.holdExpired n) s = .next t ∧ event t 4 ∧ (t.dev.port n).holdEnd = none ∧
        (t.dev.port n).discard = true ∧ (∀ r ∈ t.dev.recs, r.port ≠ n) ∧ t.dev.pkts = s.dev.pkts) ∧
      (s.dev.free < e ∨ s.dev.portUp n = true → exec (.holdExpired n) s = .next s)) ∧
    (n < 128 → st = stUp →
      (s.dev.verifyState n = 1 ∨ s.dev.verifyState n = 2 →
        (s.dev.free < (s.dev.port n).verifyAt → exec (.mmVerifySend n) s = .next s) ∧
        ((s.dev.port n).verifyAt ≤ s.dev.free → (s.dev.port n).verifyTries < 3 → ∃ t, exec (.mmVerifySend n) s = .next t ∧ mm t 2 0 ∧
          (t.dev.port n).verifyTries = (s.dev.port n).verifyTries + 1 ∧
          (t.dev.port n).verifyAt = s.dev.free + 1000000 * F.PRT_MM_CTRL_VERIFY_TIME.of (s.dev.port n).mm ∧ s.dev.regsKept t.dev [Reg.PRT_MM_STATUS n]) ∧
        ((s.dev.port n).verifyAt ≤ s.dev.free → 3 ≤ (s.dev.port n).verifyTries → ∃ t, exec (.mmVerifySend n) s = .next t ∧ mm t 4 0 ∧ event t 6)) ∧
      (s.dev.verifyState n = 2 → ∃ t, exec (.mmVerifyResponse n) s = .next t ∧ mm t 3 1 ∧ event t 5 ∧ t.dev.ports = s.dev.ports) ∧
      (s.dev.verifyState n ≠ 2 → exec (.mmVerifyResponse n) s = .next s))) ∧
  (∀ (k : Nat) (v : Word) (s : State), s.dev.up = true → k < 4 →
    let squelched := fun (t : State) => ∀ j, j < 4 →
      t.dev.bit (Reg.PRT_RCLK j) F.PRT_RCLK_SQUELCHED = !t.dev.laneLocked (t.dev.rclkLane j) ∧
      let runs := t.dev.bit (Reg.PRT_RCLK j) F.PRT_RCLK_EN && !t.dev.bit (Reg.PRT_RCLK j) F.PRT_RCLK_SQUELCHED
      (s.dev.pins.rclk.length = 4 → ∃ o, t.dev.pins.rclk[j]? = some o ∧ o.isSome = runs)
    (s.dev.accessOpen (Reg.PRT_RCLK k) = true → ∃ t, exec (.rclkSelect k v) s = .next t ∧ squelched t ∧
      t = s.withDev { s.dev with regs := t.dev.regs, pins := t.dev.pins } ∧ s.dev.regsKept t.dev ((List.range 4).map Reg.PRT_RCLK) ∧
      t.dev.rclkLane k = F.PRT_RCLK_LANE.of v ∧ t.dev.fld (Reg.PRT_RCLK k) F.PRT_RCLK_EN = F.PRT_RCLK_EN.of v ∧
      t.dev.fld (Reg.PRT_RCLK k) F.PRT_RCLK_DIV = F.PRT_RCLK_DIV.of v) ∧
    (s.dev.laneLocked (s.dev.rclkLane k) = true → s.dev.bit (Reg.PRT_RCLK k) F.PRT_RCLK_SQUELCHED = false →
      ∃ t, exec (.rclkSquelch k) s = .next t ∧ squelched t ∧ t.dev.bit (Reg.PRT_RCLK k) F.PRT_RCLK_SQUELCHED = true ∧
        (t.dev.reg Reg.PRT_RCLK_EVENT).getLsbD k = true ∧ t.dev.rclkLane k = s.dev.rclkLane k) ∧
    (s.dev.laneLocked (s.dev.rclkLane k) = false → exec (.rclkSquelch k) s = .next s) ∧
    (s.dev.rclkLane k < 98 → s.dev.pins.mgmtLock.length = 2 →
      ∃ t, exec (.sourceLaneLock k) s = .next t ∧ squelched t ∧ t.dev.bit (Reg.PRT_RCLK k) F.PRT_RCLK_SQUELCHED = false ∧
        t = s.withDev { s.dev with regs := t.dev.regs, pins := t.dev.pins }))

/-! ### The time base and the gate lists -/

/-- The counter, Hart and the references. A read of TIM_TIME gives the counter and latches TIM_FREE; a phase step of less than 2^38 units moves the
counter alone and compares every armed target anew, a larger one is ignored; Hart steps the phase or sets INTEG and ADJ by its formula,
within 1,000 ppm; a reference change loses the lock; of the 1PPS edges in a slot the first gives a sample and further ones are EXTRA, a level that
does not change is no edge, and each slot leads to the next when it closes, one tick behind EXPECT + 500,000,000 (R372 to R379, R393, R408). -/
def Obligations.TimeAndServo : Prop :=
  ∀ (v : Word) (s : State), s.dev.up = true →
    let src := s.dev.fld Reg.TIM_HART_CTRL F.TIM_HART_CTRL_SRC
    let event := fun (t : State) (b : Nat) => (t.dev.reg Reg.TIM_EVENT).getLsbD b = true
    let steps := fun (t : State) (e : Int) => t.dev.tim.cnt = s.dev.tim.cnt + (BitVec.ofInt 72 e <<< 32) ∧ t.dev.tim.free = s.dev.tim.free ∧
      t.dev.reg (Reg.TIM_COUNT 9) = s.dev.plus (Reg.TIM_COUNT 9) 1 ∧
      ∀ k x, k < 16 → s.dev.tim.trigs.length = 16 → (s.dev.trig k).armed = some x →
        (t.dev.trig k).armed = some { x with late := t.dev.targetBehind x.target }
    let far := fun (e : Int) => e ≤ -(2 ^ 38) ∨ 2 ^ 38 ≤ e
    (s.dev.accessOpen Reg.TIM_TIME = true → ∃ t, exec .timTimeRead s = .next t ∧ t.dev.reg Reg.TIM_FREE_LATCH = s.dev.tim.free ∧
      t.dev.bus.toNat = s.dev.ns * 2 ^ 32 + s.dev.tim.cnt.toNat / 2 ^ 8 % 2 ^ 32 ∧ s.dev.regsKept t.dev [Reg.TIM_FREE_LATCH] ∧
      t = s.withDev { s.dev with regs := t.dev.regs, bus := t.dev.bus }) ∧
    (s.dev.accessOpen Reg.TIM_STEP = true → let e := sgn (F.TIM_STEP_OFFSET.of v) 40
      (far e → exec (.timStep v) s = .next (s.withDev (s.dev.raise 8 1))) ∧
      (¬ far e → ∃ t, exec (.timStep v) s = .next t ∧ steps t e ∧ t.dev.reg Reg.TIM_RATE = s.dev.reg Reg.TIM_RATE)) ∧
    (s.dev.accessOpen Reg.TIM_HART_SAMPLE = true → let e := sgn (F.TIM_HART_SAMPLE_OFFSET.of v) 40
      let en := s.dev.bit Reg.TIM_HART_CTRL F.TIM_HART_CTRL_STEP_EN
      let limit : Int := s.dev.fld Reg.TIM_HART_STEP F.TIM_HART_STEP_STEP_NS * 256
      (src ≠ 1 → exec (.hartSample v) s = .next s) ∧
      (src = 1 → far e → exec (.hartSample v) s = .next (s.withDev (s.dev.raise 8 1))) ∧
      (src = 1 → ¬ far e → en = true ∧ (limit ≤ e ∨ limit ≤ -e) →
        ∃ t, exec (.hartSample v) s = .next t ∧ steps t (-e) ∧ event t 0 ∧ t.dev.reg Reg.TIM_RATE = s.dev.reg Reg.TIM_RATE) ∧
      (src = 1 → ¬ far e → ¬ (en = true ∧ (limit ≤ e ∨ limit ≤ -e)) →
        let old := sgn (s.dev.fld Reg.TIM_HART_STATE F.TIM_HART_STATE_INTEG) 32
        let x := e * s.dev.fld Reg.TIM_HART_GAIN F.TIM_HART_GAIN_KI / 2 ^ s.dev.fld Reg.TIM_HART_CTRL F.TIM_HART_CTRL_KI_SHIFT
        let y := e * s.dev.fld Reg.TIM_HART_GAIN F.TIM_HART_GAIN_KP / 2 ^ s.dev.fld Reg.TIM_HART_CTRL F.TIM_HART_CTRL_KP_SHIFT
        let integ := max (-1099511627) (min 1099511627 (old + x))
        let adj := max (-1099511627) (min 1099511627 (-(y + integ)))
        ∃ t, exec (.hartSample v) s = .next t ∧ t = s.withDev { s.dev with regs := t.dev.regs } ∧
          s.dev.regsKept t.dev [Reg.TIM_HART_STATE, Reg.TIM_RATE] ∧ sgn (t.dev.fld Reg.TIM_HART_STATE F.TIM_HART_STATE_INTEG) 32 = integ ∧
          sgn (t.dev.fld Reg.TIM_RATE F.TIM_RATE_ADJ) 32 = adj)) ∧
    (s.dev.accessOpen Reg.TIM_HART_CTRL = true →
      exec .hartClear s = .next (s.withDev (s.dev.setFld Reg.TIM_HART_STATE F.TIM_HART_STATE_INTEG 0))) ∧
    (let refs := fun (t : State) (r l : Nat) => t.dev.fld Reg.TIM_CTRL F.TIM_CTRL_REF_SEL = r ∧ t.dev.fld Reg.TIM_CTRL F.TIM_CTRL_LOCKED = l ∧
        t.dev.tim = s.dev.tim
     let sel := s.dev.fld Reg.TIM_CTRL F.TIM_CTRL_REF_SEL
     (∀ b : Bool, s.dev.accessOpen Reg.TIM_CTRL = true →
        (b.toNat = sel → exec (.refSelect b) s = .next s) ∧
        (b.toNat ≠ sel → ∃ t, exec (.refSelect b) s = .next t ∧ refs t b.toNat 0 ∧ s.dev.regsKept t.dev [Reg.TIM_CTRL])) ∧
      (∃ t, exec .pllRelock s = .next t ∧ refs t sel 1 ∧ s.dev.regsKept t.dev [Reg.TIM_CTRL]) ∧
      (sel = 0 → exec .refLost s = .next s) ∧ (sel = 1 → ∃ t, exec .refLost s = .next t ∧ refs t 0 0 ∧ event t 5)) ∧
    (s.dev.accessOpen Reg.TIM_PPS_IN = true → ∃ t, exec (.ppsExpectWrite v) s = .next t ∧ t.dev.tim = { s.dev.tim with ppsDone := false } ∧
      s.dev.regsKept t.dev [Reg.TIM_PPS_IN] ∧ t.dev.ppsExpect = F.TIM_PPS_IN_EXPECT.of v ∧
      t.dev.fld Reg.TIM_PPS_IN F.TIM_PPS_IN_FALLING = F.TIM_PPS_IN_FALLING.of v) ∧
    (∀ (rising : Bool) (dev : BitVec 40),
      let c := s.dev.tim.ppsIn
      let ts := s.dev.edgeTime dev
      let now := sgn (s.dev.ns + 2 ^ 32 - s.dev.ppsExpect) 32
      let wanted := src = 2 ∧ rising ≠ s.dev.bit Reg.TIM_PPS_IN F.TIM_PPS_IN_FALLING ∧ s.dev.tooSoon c = false
      src ≠ 2 ∨ atOrAfter32 ((s.dev.ppsExpect + 500000001) % 2 ^ 32) s.dev.ns = false →
      (rising = c.level → exec (.ppsEdge rising dev) s = .next s) ∧
      (rising ≠ c.level → ¬ wanted → exec (.ppsEdge rising dev) s =
        .next (s.withDev { s.dev with tim := { s.dev.tim with ppsIn := { c with level := rising } } })) ∧
      (rising ≠ c.level → wanted → now < -500000000 ∨ 500000000 < now → exec (.ppsEdge rising dev) s =
        .next (s.withDev { s.dev with tim := { s.dev.tim with ppsIn := { c with level := rising, lastEdge := some s.dev.free } } })) ∧
      (rising ≠ c.level → wanted → -500000000 ≤ now → now ≤ 500000000 → ∃ t, exec (.ppsEdge rising dev) s = .next t ∧ t.dev.tim.ppsDone = true ∧
        t.dev.tim.ppsIn = { c with level := rising, lastEdge := some s.dev.free } ∧
        (s.dev.tim.ppsDone = false → t.dev.reg (Reg.TIM_COUNT 6) = s.dev.plus (Reg.TIM_COUNT 6) 1 ∧ event t 2 ∧
          t.dev.fld Reg.TIM_HART_STATE F.TIM_HART_STATE_LAST_E =
            unsgn (Int.tdiv (sgn ((ts >>> 8).toNat + 2 ^ 32 - s.dev.ppsExpect) 32 * 256 + (ts.toNat % 256 : Nat)) 256) 32) ∧
        (s.dev.tim.ppsDone = true → t.dev.reg (Reg.TIM_COUNT 8) = s.dev.plus (Reg.TIM_COUNT 8) 1 ∧ event t 4 ∧
          t.dev.tim.cnt = s.dev.tim.cnt ∧ t.dev.reg Reg.TIM_RATE = s.dev.reg Reg.TIM_RATE))) ∧
    (src = 2 →
      (atOrAfter32 ((s.dev.ppsExpect + 500000001) % 2 ^ 32) s.dev.ns = true → ∃ t, exec .ppsSlotEnd s = .next t ∧
        t.dev.ppsExpect = (s.dev.ppsExpect + 1000000000) % 2 ^ 32 ∧ t.dev.tim = { s.dev.tim with ppsDone := false } ∧
        (s.dev.tim.ppsDone = false → t.dev.reg (Reg.TIM_COUNT 7) = s.dev.plus (Reg.TIM_COUNT 7) 1 ∧ event t 3) ∧
        (s.dev.tim.ppsDone = true → s.dev.regsKept t.dev [Reg.TIM_PPS_IN])) ∧
      (atOrAfter32 ((s.dev.ppsExpect + 500000001) % 2 ^ 32) s.dev.ns = false → exec .ppsSlotEnd s = .next s))

/-- Triggers and captures. ARM takes target, mode and limits of width and period, late when the target is behind; DISARM takes it back; an output
fires at its target, or at once when late, and not before; a periodic one is armed again at its next period still ahead; a pulse ends
at its width (R387 to R391). A capture input records its edges, at most one in 100 ns, with the time of the edge; a level that does not change is no
edge (R393, R394). -/
def Obligations.TriggersAndCaptures : Prop :=
  ∀ (k : Nat) (v : Word) (s : State), s.dev.up = true → k < 16 → s.dev.tim.trigs.length = 16 → s.dev.tim.caps.length = 16 →
    let ctl := Reg.TIM_TRIG_CTRL k
    let o := s.dev.trig k
    let others := fun (t : State) => ∀ j, j ≠ k → t.dev.trig j = s.dev.trig j
    (s.dev.accessOpen ctl = true →
      (F.TIM_TRIG_CTRL_ARM.of v = 1 → F.TIM_TRIG_CTRL_DISARM.of v = 0 →
        let p := F.TIM_TRIG_CTRL_PERIOD.of v
        let period := if p ≠ 0 ∧ p < 100 then 100 else p
        let w := max 10 (F.TIM_TRIG_CTRL_WIDTH.of v)
        let target := BitVec.ofNat 40
          (s.dev.fld (Reg.TIM_TRIG_TARGET k) F.TIM_TRIG_TARGET_NS * 256 + s.dev.fld (Reg.TIM_TRIG_TARGET k) F.TIM_TRIG_TARGET_FRAC)
        ∃ t, exec (.triggerArm k v) s = .next t ∧ s.dev.regsKept t.dev [ctl] ∧ others t ∧ t.dev.fld ctl F.TIM_TRIG_CTRL_ARMED = 1 ∧
          t.dev.fld ctl F.TIM_TRIG_CTRL_LATE = 0 ∧ t.dev.trig k = { o with armed := some ⟨target, s.dev.targetBehind target,
            BitVec.ofNat 2 (F.TIM_TRIG_CTRL_MODE.of v), F.TIM_TRIG_CTRL_INVERT.of v = 1, if period = 0 then w else min w (period / 2), period⟩ }) ∧
      (∃ t, exec (.triggerDisarm k) s = .next t ∧ s.dev.regsKept t.dev [ctl] ∧ others t ∧ t.dev.fld ctl F.TIM_TRIG_CTRL_ARMED = 0 ∧
        t.dev.trig k = { o with armed := none })) ∧
    (o.armed = none → exec (.triggerFire k) s = .next s) ∧
    (∀ x, o.armed = some x →
      (x.late = false → s.dev.targetReached x.target = false → exec (.triggerFire k) s = .next s) ∧
      (x.late = true ∨ s.dev.targetReached x.target = true →
        ∃ t, exec (.triggerFire k) s = .next t ∧ others t ∧ (t.dev.reg Reg.TIM_TRIG_EVENT).getLsbD k = true ∧
          t.dev.fld ctl F.TIM_TRIG_CTRL_LATE = x.late.toNat ∧
          (x.mode = 0 → (t.dev.trig k).level = !x.invert ∧ (t.dev.trig k).pulseEnd = some (s.dev.free + x.width)) ∧
          (x.mode = 1 → (t.dev.trig k).level = !o.level) ∧ (x.mode = 2 → (t.dev.trig k).level = true) ∧ (x.mode = 3 → (t.dev.trig k).level = false) ∧
          (x.period = 0 → (t.dev.trig k).armed = none ∧ t.dev.fld ctl F.TIM_TRIG_CTRL_ARMED = 0) ∧
          (x.period ≠ 0 → (t.dev.trig k).armed =
              some { x with target := x.target + BitVec.ofNat 40 (256 * x.period * s.dev.periodsOn x), late := false } ∧
            t.dev.reg (Reg.TIM_COUNT 11) = s.dev.plus (Reg.TIM_COUNT 11) (s.dev.periodsOn x - 1)) ∧
          (x.late = true → t.dev.reg (Reg.TIM_COUNT 10) = s.dev.plus (Reg.TIM_COUNT 10) 1))) ∧
    (∀ e, o.pulseEnd = some e →
      (e ≤ s.dev.free → ∃ t, exec (.triggerPulseEnd k) s = .next t ∧ t = s.withDev { s.dev with tim := t.dev.tim } ∧ others t ∧
        t.dev.trig k = { o with level := !o.level, pulseEnd := none }) ∧
      (s.dev.free < e → exec (.triggerPulseEnd k) s = .next s)) ∧
    (s.dev.accessOpen Reg.TIM_PPS_OUT = true → F.TIM_PPS_OUT_EN.of v = 1 →
      let w := max 1 (F.TIM_PPS_OUT_WIDTH.of v)
      let target := BitVec.ofNat 40 (F.TIM_PPS_OUT_NEXT.of v * 256)
      ∃ t, exec (.ppsOutEnable v) s = .next t ∧ s.dev.regsKept t.dev [Reg.TIM_PPS_OUT] ∧
        t.dev.tim = { s.dev.tim with ppsOut := { s.dev.tim.ppsOut with
          armed := some ⟨target, s.dev.targetBehind target, 0, false, 1000 * w, 1000000000⟩ } }) ∧
    (∀ (rising : Bool) (dev : BitVec 40),
      let c := s.dev.cap k
      let ts := s.dev.edgeTime dev
      let e := s.dev.fld (Reg.TIM_CAP_CTRL k) F.TIM_CAP_CTRL_EDGE
      let wanted := rising ≠ c.level ∧ s.dev.bit (Reg.TIM_CAP_CTRL k) F.TIM_CAP_CTRL_EN = true ∧
        (e = 2 ∨ e = 0 ∧ rising = true ∨ e = 1 ∧ rising = false)
      let record := s.dev.bit (Reg.TIM_CAP_CTRL k) F.TIM_CAP_CTRL_RECORD
      (rising = c.level → exec (.captureEdge k rising dev) s = .next s) ∧
      (¬ wanted → ∃ t, exec (.captureEdge k rising dev) s = .next t ∧ t = s.withDev { s.dev with tim := t.dev.tim } ∧
        t.dev.cap k = { c with level := rising } ∧ t.dev.tim.capq = s.dev.tim.capq) ∧
      (wanted → s.dev.tooSoon c = true → ∃ t, exec (.captureEdge k rising dev) s = .next t ∧
        t.dev.cap k = { c with level := rising, ovr := min 255 (c.ovr + 1) } ∧ t.dev.tim.capq = s.dev.tim.capq ∧
        t.dev.reg (Reg.TIM_CAP_OVR k) = s.dev.plus (Reg.TIM_CAP_OVR k) 1 ∧ (t.dev.reg Reg.TIM_CAP_EVENT).getLsbD (16 + k) = true) ∧
      (wanted → s.dev.tooSoon c = false → ∃ t, exec (.captureEdge k rising dev) s = .next t ∧
        t.dev.fld (Reg.TIM_CAP_LAST k) F.TIM_CAP_LAST_NS = ts.toNat / 256 ∧ t.dev.fld (Reg.TIM_CAP_LAST k) F.TIM_CAP_LAST_FRAC = ts.toNat % 256 ∧
        t.dev.fld (Reg.TIM_CAP_LAST k) F.TIM_CAP_LAST_RISING = rising.toNat ∧ t.dev.fld (Reg.TIM_CAP_LAST k) F.TIM_CAP_LAST_VALID = 1 ∧
        (t.dev.reg Reg.TIM_CAP_EVENT).getLsbD k = true ∧ (t.dev.cap k).lastEdge = some s.dev.free ∧ (t.dev.cap k).seq = c.seq + 1 ∧
        (record = false → t.dev.tim.capq = s.dev.tim.capq) ∧
        (record = true → s.dev.tim.capq.length < 256 → (t.dev.cap k).ovr = 0 ∧
          t.dev.tim.capq = s.dev.tim.capq ++ [capRecordOf k rising ts c.ovr s.dev.free c.seq.toNat]) ∧
        (record = true → 256 ≤ s.dev.tim.capq.length → t.dev.tim.capq = s.dev.tim.capq ∧
          t.dev.reg (Reg.TIM_COUNT 5) = s.dev.plus (Reg.TIM_COUNT 5) 1 ∧ (t.dev.reg Reg.TIM_EVENT).getLsbD 7 = true)))

/-- Entry `i` of the operational list of port `n`, with the word `w`, is in force since `at_`; an active MAC Merge holds and releases (R403). -/
def Sys2Proof.Machine.Dev.entryInForce (d e : Dev) (n i : Nat) (w : Word) (at_ : BitVec 32) : Prop :=
  e.fld (Reg.GAT_STATUS n) F.GAT_STATUS_CUR_ENTRY = i ∧ e.fld (Reg.GAT_STATUS n) F.GAT_STATUS_GATES = geGates w ∧
  (e.gate n).entryEnd = addNs at_ (geInterval w) ∧
  (d.mmActive n = true → geOp w = 1 → e.fld (Reg.GAT_STATUS n) F.GAT_STATUS_HOLD = 1 ∧ e.reg (Reg.PRT_COUNT n 21) = d.plus (Reg.PRT_COUNT n 21) 1) ∧
  (d.mmActive n = true → geOp w = 2 → e.fld (Reg.GAT_STATUS n) F.GAT_STATUS_HOLD = 0) ∧ ∀ k, k ≠ n → e.gate k = d.gate k

/-- Gate lists. A request with a failing check sets ERR, raises CHANGE_ERROR and leaves the lists as they were; a good one is pending at its change
time, at which the administrative list becomes operational; cycles and entries begin at their times and not before; CANCEL and EN 0 take the request
back, EN 0 opens every gate; a head that can never fit is discarded with REASON GATE_OVERSIZE and counted (R397 to R405, R410). -/
def Obligations.GateLists : Prop :=
  ∀ (n : Nat) (v : Word) (s : State), s.dev.up = true → n < 128 →
    let st := Reg.GAT_STATUS n
    let g := s.dev.gate n
    let cyc := s.dev.fld (Reg.GAT_ADMIN_CYCLE n) F.GAT_ADMIN_CYCLE_CYCLE
    let pending := fun (t : State) => t.dev.gatePending n
    (s.dev.accessOpen (Reg.GAT_CTRL n) = true →
      (F.GAT_CTRL_CFG_CHANGE.of v = 1 → F.GAT_CTRL_EN.of v = 1 → F.GAT_CTRL_CANCEL.of v = 0 →
        (s.dev.gatePending n = false → s.dev.gateCheck n ≠ 0 →
          ∃ t, exec (.cfgChange n v) s = .next t ∧ t.dev.fld st F.GAT_STATUS_ERR = s.dev.gateCheck n ∧ pending t = false ∧
            (t.dev.reg (Reg.GAT_EVENT n)).getLsbD 1 = true ∧ t.dev.gates = s.dev.gates) ∧
        (s.dev.gatePending n = false → s.dev.gateCheck n = 0 →
          ∃ t, exec (.cfgChange n v) s = .next t ∧ pending t = true ∧ t = s.withDev { s.dev with regs := t.dev.regs } ∧
            s.dev.regsKept t.dev [Reg.GAT_CTRL n, st] ∧ t.dev.fld st F.GAT_STATUS_CHANGE_TIME =
              changeTime s.dev.ns (s.dev.fld (Reg.GAT_ADMIN_BASE n) F.GAT_ADMIN_BASE_BASE) cyc % 2 ^ 32) ∧
        (s.dev.gatePending n = true → ∃ t, exec (.cfgChange n v) s = .next t ∧ s.dev.regsKept t.dev [Reg.GAT_CTRL n])) ∧
      (F.GAT_CTRL_EN.of v = 0 → F.GAT_CTRL_CFG_CHANGE.of v = 0 → ∃ t, exec (.gateDisable n v) s = .next t ∧ pending t = false ∧
        t.dev.gateRunning n = false ∧ t.dev.gatesNow n = 255 ∧ t.dev.fld st F.GAT_STATUS_HOLD = 0 ∧ t.dev.gate n = { g with ran := false } ∧
        s.dev.regsKept t.dev [Reg.GAT_CTRL n, st]) ∧
      (F.GAT_CTRL_EN.of v = 0 → F.GAT_CTRL_CFG_CHANGE.of v = 1 → s.dev.gatePending n = false → s.dev.gateCheck n ≠ 0 →
        ∃ t, exec (.cfgChange n v) s = .next t ∧ t.dev.fld st F.GAT_STATUS_ERR = s.dev.gateCheck n ∧ pending t = false ∧
          (t.dev.reg (Reg.GAT_EVENT n)).getLsbD 1 = true ∧ t.dev.gateRunning n = false ∧ t.dev.gatesNow n = 255) ∧
      (s.dev.bit (Reg.GAT_CTRL n) F.GAT_CTRL_EN = true →
        ∃ t, exec (.gateCancel n) s = .next t ∧ pending t = false ∧ t.dev.gates = s.dev.gates ∧ s.dev.regsKept t.dev [Reg.GAT_CTRL n, st])) ∧
    (let reached := atOrAfter32 (s.dev.fld st F.GAT_STATUS_CHANGE_TIME) s.dev.ns
     let len := s.dev.fld (Reg.GAT_ADMIN_BASE n) F.GAT_ADMIN_BASE_LIST_LEN
     (s.dev.gatePending n = false ∨ reached = false → exec (.gateChange n) s = .next s) ∧
     (s.dev.gatePending n = true → reached = true → Map.rising g.admin = true → 0 < len →
       let at_ := BitVec.ofNat 32 (s.dev.fld st F.GAT_STATUS_CHANGE_TIME)
       ∃ t, exec (.gateChange n) s = .next t ∧ pending t = false ∧ t.dev.gateRunning n = true ∧ t.dev.operList n = s.dev.adminList n ∧
         t.dev.operCycle n = cyc ∧ (t.dev.gate n).cycleStart = at_ ∧ s.dev.entryInForce t.dev n 0 (Map.getD g.admin 0 0) at_ ∧
         t.dev.reg (Reg.GAT_CHANGES n) = s.dev.plus (Reg.GAT_CHANGES n) 1 ∧ (t.dev.reg (Reg.GAT_EVENT n)).getLsbD 0 = true)) ∧
    (let at_ := addNs g.cycleStart (s.dev.operCycle n)
     (s.dev.gateRunning n = true → atOrAfter32 at_.toNat s.dev.ns = true → s.dev.cycleMayBegin n at_.toNat = true →
       ∃ t, exec (.gateCycleStart n) s = .next t ∧ s.dev.entryInForce t.dev n 0 (Map.getD g.oper 0 0) at_ ∧ (t.dev.gate n).cycleStart = at_) ∧
     (s.dev.gateRunning n = false ∨ atOrAfter32 at_.toNat s.dev.ns = false ∨ s.dev.cycleMayBegin n at_.toNat = false →
       exec (.gateCycleStart n) s = .next s)) ∧
    (let i := s.dev.fld st F.GAT_STATUS_CUR_ENTRY + 1
     s.dev.gateRunning n = true → i < 1024 →
     (i < s.dev.fld (Reg.GAT_OPER_BASE n) F.GAT_OPER_BASE_LIST_LEN → atOrAfter32 g.entryEnd.toNat s.dev.ns = true →
       ahead32 g.cycleStart.toNat g.entryEnd.toNat < s.dev.operCycle n →
       ∃ t, exec (.gateEntry n) s = .next t ∧ s.dev.entryInForce t.dev n i (Map.getD g.oper i 0) g.entryEnd ∧
         (t.dev.gate n).cycleStart = g.cycleStart) ∧
     (atOrAfter32 g.entryEnd.toNat s.dev.ns = false → exec (.gateEntry n) s = .next s)) ∧
    (∀ (q : Nat) (r : Rec) (rest : List Rec) (h : Nat), s.dev.running = true → s.dev.lineUp 80 = true → s.dev.lineUp 81 = true →
      s.dev.subPort (q / 8) = some n → s.dev.queue q = r :: rest → r.headAt = some h →
      let due := (s.dev.gatesEn n && s.dev.gateRunning n && s.dev.neverFits n (q % 8) r.len && s.dev.passed (max h g.lastChange) (s.dev.operCycle n))
      (due = true → ∃ t, exec (.gateOversize q) s = .next t ∧ t.dev.queue q = headMark s.dev.free rest ∧
        (∀ j, j ≠ q → t.dev.queue j = s.dev.queue j) ∧ t.dev.reg (Reg.GAT_OVERSIZE n) = s.dev.plus (Reg.GAT_OVERSIZE n) 1 ∧
        (r.pid, 0x2C) ∈ t.dev.discards ∧ (t.dev.reg (Reg.GAT_EVENT n)).getLsbD 2 = true ∧ t.dev.intakes = s.dev.intakes) ∧
      (due = false → exec (.gateOversize q) s = .next s))

/-! ### The power manager -/

/-- LEVEL went from what it was in `d` to `n`: unchanged, or with the rungs below `n` in force, the time of the step kept and each rung counted
(R432). -/
def Sys2Proof.Machine.Dev.levelWent (d e : Dev) (n : Nat) : Prop :=
  e.level = n ∧ (n ≠ d.level → e.fld Reg.PWR_LADDER F.PWR_LADDER_IN_FORCE = (2 ^ n - 1) % 2 ^ 16 ∧ e.pwr.lastStep = some d.free) ∧
  (d.level < n → e.reg (Reg.PWR_COUNT 0) = d.plus (Reg.PWR_COUNT 0) (n - d.level) ∧ (e.reg Reg.PWR_EVENT).getLsbD 0 = true) ∧
  (n < d.level → e.reg (Reg.PWR_COUNT 1) = d.plus (Reg.PWR_COUNT 1) (d.level - n) ∧ (e.reg Reg.PWR_EVENT).getLsbD 1 = true)

/-- The fault collector has one more report from the power manager: class U, kind LOGIC. -/
def Sys2Proof.Machine.Dev.pwrFault (d e : Dev) : Prop := e.flt.queue = d.flt.queue ++ [⟨107, 2, true, false, d.free⟩]

/-- Sensors, feed and forecast. A reading stores every temperature; WARN has its hysteresis; above CRIT the ladder, with EN 1, goes to its top and a fault
is reported, or before RUN the device halts with THERMAL (R423, R428, R561). A valid ADC frame gives code, power and breach; the third bad one
in a row sets STALE (R424, R425). The forecast adds energy per window, fixed power and leakage, and its breach has its hysteresis (R427). -/
def Obligations.SensorsAndFeed : Prop :=
  ∀ (temps : List (BitVec 12)) (vc ic : BitVec 16) (s : State), temps.length = 64 →
    let event := fun (t : State) (b : Nat) => (t.dev.reg Reg.PWR_EVENT).getLsbD b = true
    let hot := fun (x : Int) => ∃ y ∈ temps, x < y.toInt
    let stored := fun (t : State) => ∀ i, i < 64 → t.dev.temp i = (temps[i]?.getD 0).toInt ∧ t.dev.tempValid i = true
    (s.dev.up = true → ∃ t, exec (.sensorRead temps) s = .next t ∧ stored t ∧
      (hot s.dev.warnAt → t.dev.pwr.warn = true) ∧ (¬ hot (s.dev.warnAt - 8) → t.dev.pwr.warn = false) ∧
      (hot s.dev.critAt → event t 6 ∧ (s.dev.ladderEn = true → t.dev.level = 16) ∧ ⟨107, 2, true, false, s.dev.free⟩ ∈ t.dev.flt.queue)) ∧
    (s.dev.up = false → 2 ≤ s.dev.stage → s.dev.stage ≤ 6 → ∃ t, exec (.sensorRead temps) s = .next t ∧ stored t ∧
      (hot s.dev.critAt → t.dev.stage = 14 ∧ t.dev.fld Reg.SYS_REASON F.SYS_REASON_CODE = 8) ∧ (¬ hot s.dev.critAt → t.dev.stage = s.dev.stage)) ∧
    (s.dev.up = true → s.dev.bit Reg.PWR_FEED_CFG F.PWR_FEED_CFG_EN = false → exec (.feedFrame vc ic) s = .next s) ∧
    (s.dev.up = true → s.dev.bit Reg.PWR_FEED_CFG F.PWR_FEED_CFG_EN = true →
      let bad := vc = 0 ∧ ic = 0 ∨ vc = 0xFFFF ∧ ic = 0xFFFF
      let mv := vc.toNat * s.dev.fld Reg.PWR_FEED_SCALE F.PWR_FEED_SCALE_V_LSB_UV / 1000
      let ma := ic.toNat * s.dev.fld Reg.PWR_FEED_SCALE F.PWR_FEED_SCALE_I_LSB_UA / 1000
      let mw := min (2 ^ 24 - 1) (mv * ma / 1000)
      let lim := s.dev.fld Reg.PWR_FEED_LIMIT F.PWR_FEED_LIMIT_PLIMIT_MW
      let vmin := s.dev.fld Reg.PWR_FEED_LIMIT F.PWR_FEED_LIMIT_VMIN_MV
      (¬ bad → ∃ t, exec (.feedFrame vc ic) s = .next t ∧ t.dev.fld Reg.PWR_FEED F.PWR_FEED_V_CODE = vc.toNat ∧
        t.dev.fld Reg.PWR_FEED F.PWR_FEED_I_CODE = ic.toNat ∧ t.dev.fld Reg.PWR_FEED F.PWR_FEED_P_MW = mw ∧
        t.dev.fld Reg.PWR_FEED F.PWR_FEED_STALE = 0 ∧ t.dev.pwr.badFrames = 0 ∧
        (s.dev.feedOn = false → lim < mw ∨ mv < vmin → t.dev.feedOn = true ∧ event t 2 ∧
          t.dev.reg (Reg.PWR_COUNT 3) = s.dev.plus (Reg.PWR_COUNT 3) 1) ∧
        (s.dev.feedOn = false → mw ≤ lim → vmin ≤ mv → t.dev.feedOn = false ∧ t.dev.level = s.dev.level) ∧
        (s.dev.feedOn = true → mw + s.dev.fld Reg.PWR_FEED_LIMIT F.PWR_FEED_LIMIT_HYST_MW ≤ lim → vmin ≤ mv → t.dev.feedOn = false)) ∧
      (bad → ∃ t, exec (.feedFrame vc ic) s = .next t ∧ t.dev.pwr.badFrames = min 3 (s.dev.pwr.badFrames + 1) ∧ t.dev.feedOn = s.dev.feedOn ∧
        t.dev.fld Reg.PWR_FEED F.PWR_FEED_P_MW = s.dev.fld Reg.PWR_FEED F.PWR_FEED_P_MW ∧
        (2 ≤ s.dev.pwr.badFrames → s.dev.fld Reg.PWR_FEED F.PWR_FEED_STALE = 0 →
          t.dev.fld Reg.PWR_FEED F.PWR_FEED_STALE = 1 ∧ event t 3 ∧ s.dev.pwrFault t.dev))) ∧
    (s.dev.up = true →
      let w := max 1 (s.dev.fld Reg.PWR_FC_CFG F.PWR_FC_CFG_WINDOW_US)
      let acc := (s.dev.reg (Reg.PWR_ACC 8)).toNat
      let dyn := (acc + 2 ^ 48 - (s.dev.pwr.accHist[w - 1]?).getD 0) % 2 ^ 48 / (1000 * w)
      let leak := s.dev.fld (Reg.PWR_RAIL 0) F.PWR_RAIL_LEAK + s.dev.fld (Reg.PWR_RAIL 1) F.PWR_RAIL_LEAK +
        s.dev.fld (Reg.PWR_RAIL 2) F.PWR_RAIL_LEAK + s.dev.fld (Reg.PWR_RAIL 3) F.PWR_RAIL_LEAK +
        s.dev.fld (Reg.PWR_RAIL 4) F.PWR_RAIL_LEAK + s.dev.fld (Reg.PWR_RAIL 5) F.PWR_RAIL_LEAK
      let mw := min (2 ^ 24 - 1) (dyn + s.dev.fld Reg.PWR_FC_CFG F.PWR_FC_CFG_FIXED_MW + 16 * leak)
      let lim := s.dev.fld Reg.PWR_FC_LIMIT F.PWR_FC_LIMIT_LIMIT_MW
      let en := s.dev.bit Reg.PWR_FC_LIMIT F.PWR_FC_LIMIT_EN
      ∃ t, exec .forecastTick s = .next t ∧ t.dev.fld Reg.PWR_FC F.PWR_FC_P_MW = mw ∧ t.dev.pwr.accHist = (acc :: s.dev.pwr.accHist).take 2048 ∧
        (dyn < 2 ^ 24 → t.dev.fld Reg.PWR_FC F.PWR_FC_DYN_MW = dyn) ∧
        (s.dev.forecastOn = false → en = true → lim < mw → t.dev.forecastOn = true ∧ event t 4) ∧
        (s.dev.forecastOn = false → en = false ∨ mw ≤ lim → t.dev.forecastOn = false ∧ t.dev.level = s.dev.level) ∧
        (s.dev.forecastOn = true → mw + s.dev.fld Reg.PWR_FC_LIMIT F.PWR_FC_LIMIT_HYST_MW ≤ lim → t.dev.forecastOn = false))

/-- The Duiker ladder. FEED_ALERT_N takes LEVEL to ALERT_LEVEL at once; a step, at most one in STEP_US, raises it by one while a trigger or a request
asks for it; a relax lowers it by one, no lower than FLOOR; FLOOR is reached at once; EN 0 releases every rung; alarms count, raise and
request by their masks, at most one in 100 ns; a request at the instant of a step adds none (R429 to R432, R436, R443). -/
def Obligations.DuikerLadder : Prop :=
  ∀ (k : Nat) (v : Word) (s : State), s.dev.up = true →
    let en := s.dev.ladderEn
    let most := s.dev.fld Reg.PWR_CTRL F.PWR_CTRL_ALERT_MAX
    let other := (s.dev.pwr.request || s.dev.feedOn || s.dev.forecastOn || s.dev.pwr.warn)
    (s.dev.pwr.alertLow = true → exec .fastAlert s = .next (s.withDev (s.dev.alertPin false))) ∧
    (s.dev.pwr.alertLow = false → ∃ t, exec .fastAlert s = .next t ∧ t.dev.pwr.alertLow = true ∧ t.dev.pins.alertN = false ∧
      t.dev.reg (Reg.PWR_COUNT 2) = s.dev.plus (Reg.PWR_COUNT 2) 1 ∧
      s.dev.levelWent t.dev (if en then max s.dev.level (min 16 (min (s.dev.fld Reg.PWR_CTRL F.PWR_CTRL_ALERT_LEVEL) most)) else s.dev.level)) ∧
    (s.dev.pwr.alertLow = false → exec .fastAlertRearm s = .next (s.withDev (s.dev.alertPin true))) ∧
    (s.dev.pwr.alertLow = true → ∃ t, exec .fastAlertRearm s = .next t ∧ t = s.withDev { s.dev.alertPin true with pwr := t.dev.pwr } ∧
      t.dev.pwr.alertLow = false ∧ (s.dev.feedOn = false → s.dev.forecastOn = false → s.dev.pwr.warn = false →
        t.dev.pwr.relaxFrom = s.dev.free - 1000)) ∧
    (en = false ∨ s.dev.stepDue = false → exec .ladderStep s = .next s) ∧
    (en = true → s.dev.stepDue = true →
      (other = true → ∃ t, exec .ladderStep s = .next t ∧ s.dev.levelWent t.dev (min (s.dev.level + 1) 16) ∧ t.dev.pwr.request = false) ∧
      (other = false → s.dev.pwr.alertLow = true →
        ∃ t, exec .ladderStep s = .next t ∧ s.dev.levelWent t.dev (max s.dev.level (min 16 (min (s.dev.level + 1) most)))) ∧
      (other = false → s.dev.pwr.alertLow = false → exec .ladderStep s = .next s)) ∧
    (let due := en && !s.dev.anyTrigger && s.dev.passed s.dev.pwr.relaxFrom (1000000 * max 1 (s.dev.fld Reg.PWR_CTRL F.PWR_CTRL_RELAX_MS))
     (due = false → exec .ladderRelax s = .next s) ∧
     (due = true → ∃ t, exec .ladderRelax s = .next t ∧ t.dev.pwr.relaxFrom = s.dev.free ∧
       s.dev.levelWent t.dev (if s.dev.floorLevel < s.dev.level then s.dev.level - 1 else s.dev.level))) ∧
    (s.dev.accessOpen Reg.PWR_CTRL = true →
      (∃ t, exec (.floorWrite v) s = .next t ∧ t.dev.reg Reg.PWR_CTRL = (s.dev.plainWrite Reg.PWR_CTRL v).reg Reg.PWR_CTRL ∧
        s.dev.levelWent t.dev (if F.PWR_CTRL_EN.of v = 1 then max s.dev.level (min 16 (F.PWR_CTRL_FLOOR.of v)) else 0)) ∧
      (∃ t, exec (.ladderDisable v) s = .next t ∧ t.dev.ladderEn = false ∧ s.dev.levelWent t.dev 0)) ∧
    (k < 16 → s.dev.accessOpen (Reg.PWR_RUNG k) = true → ∃ t, exec (.rungWrite k v) s = .next t ∧ t.dev.level = s.dev.level ∧
      t.dev.reg (Reg.PWR_RUNG k) = (s.dev.plainWrite (Reg.PWR_RUNG k) v).reg (Reg.PWR_RUNG k) ∧
      (s.dev.rungOn k = false → s.dev.regsKept t.dev [Reg.PWR_RUNG k]) ∧
      (s.dev.rungOn k = true → t.dev.fld Reg.SCH_ESCALE F.SCH_ESCALE_SCALE = t.dev.scaleNow)) ∧
    (∀ rising : Bool, k < 16 →
      let asserts := rising ≠ (s.dev.fld Reg.PWR_ALARM F.PWR_ALARM_POL).testBit k ∧
        rising ≠ (s.dev.fld Reg.PWR_ALARM F.PWR_ALARM_LEVEL).testBit k
      let soon := ∃ t, Map.find s.dev.pwr.alarmAt k = some t ∧ s.dev.free < t + 100
      let masked := (s.dev.fld Reg.PWR_ALARM F.PWR_ALARM_EN).testBit k
      let asks := (s.dev.fld Reg.PWR_ALARM F.PWR_ALARM_STEP).testBit k
      (¬ asserts → ∃ t, exec (.alarmEdge k rising) s = .next t ∧ t = s.withDev { s.dev.alarmPin k rising with regs := t.dev.regs } ∧
        s.dev.regsKept t.dev [Reg.PWR_ALARM] ∧ (t.dev.fld Reg.PWR_ALARM F.PWR_ALARM_LEVEL).testBit k = rising) ∧
      (asserts → soon → ∃ t, exec (.alarmEdge k rising) s = .next t ∧ t.dev.pwr = s.dev.pwr ∧ (t.dev.reg Reg.PWR_EVENT).getLsbD 9 = true ∧
        t.dev.reg (Reg.PWR_ALARM_OVR k) = s.dev.plus (Reg.PWR_ALARM_OVR k) 1) ∧
      (asserts → ¬ soon → ∃ t, exec (.alarmEdge k rising) s = .next t ∧ Map.find t.dev.pwr.alarmAt k = some s.dev.free ∧
        t.dev.reg (Reg.PWR_COUNT 5) = s.dev.plus (Reg.PWR_COUNT 5) 1 ∧ (masked = true → (t.dev.reg Reg.PWR_EVENT).getLsbD 8 = true) ∧
        s.dev.levelWent t.dev (if masked && asks && en && s.dev.stepDue then min (s.dev.level + 1) 16 else s.dev.level) ∧
        (masked && asks && en && !s.dev.stepDue → (t.dev.pwr.request = true ↔ s.dev.pwr.request = true ∨ s.dev.pwr.lastStep ≠ some s.dev.free))))

/-- Pace and supplies. A pace reading is stored; one at or above LR_PACE changes nothing else; the second low one of a guarded region raises its
trim by a step. A trim moves by one step, and where it changes it ends within ±60 mV and within 120 mV of every neighbour; a rail moves at most 10
mV once it has settled, where R422's limits leave that step as it is; a failed bus transaction is counted, and the third in a row holds the rail
until PWR_RAIL is written (R416 to R422, R437, R438). RECALIBRATION. Without CAL_EN nothing happens; a period in which a rail moved is skipped
whole; else a new period begins, is counted, and each class with CAL_EN 1 whose rails give a factor takes its live costs times the factor, within
SPAN of the reference; no other live cost changes (R440, R441, R265). -/
def Obligations.PaceAndRecalibration : Prop :=
  (∀ (g k : Nat) (s : State), s.dev.up = true → g < 288 → k < 6 → s.dev.pwr.railCmd.length = 6 → s.dev.pwr.railAt.length = 6 →
    let r := Reg.PWR_REGION g
    let t0 := s.dev.trim g
    let fails := Map.getD s.dev.pwr.railFails k 0
    let pm := s.dev.bit (Reg.PWR_RAIL k) F.PWR_RAIL_BUS
    let fair := fun (e : Dev) => e.trim g = t0 ∨ (-24 ≤ e.trim g ∧ e.trim g ≤ 24 ∧
      ∀ b ∈ neighbours g, e.veff2 g ≤ e.veff2 b + 240 ∧ e.veff2 b ≤ e.veff2 g + 240)
    let busError := fun (c : Instr) => ∃ t, exec c s = .next t ∧ t.dev.reg (Reg.PWR_COUNT 8) = s.dev.plus (Reg.PWR_COUNT 8) 1 ∧
      (t.dev.reg Reg.PWR_EVENT).getLsbD 13 = true ∧ t.dev.pwr.railCmd = s.dev.pwr.railCmd ∧
      (2 ≤ fails → s.dev.railHeld k = false → t.dev.railHeld k = true ∧ s.dev.pwrFault t.dev) ∧
      (fails < 2 → t.dev.railHeld k = s.dev.railHeld k ∧ Map.getD t.dev.pwr.railFails k 0 = fails + 1)
    (∀ pace, ∃ t, exec (.paceMeasure g pace) s = .next t ∧ t.dev.fld r F.PWR_REGION_PACE = min pace 4095 ∧
      (lrPaceOf g ≤ pace → t = s.withDev { s.dev with regs := t.dev.regs, pwr := t.dev.pwr } ∧ s.dev.regsKept t.dev [r] ∧ t.dev.trim g = t0) ∧
      (lrPaceOf g / 4 ≤ pace → pace < lrPaceOf g → 1 ≤ Map.getD s.dev.pwr.lowReads g 0 → s.dev.guarded g = true →
        s.dev.bit Reg.PWR_CTRL F.PWR_CTRL_GUARD_EN = true → s.dev.belowLr g = false → 0 ≤ s.dev.rungTrim (railOf g) false →
        0 ≤ s.dev.rungRail (railOf g) false →
        (t0 < 24 → s.dev.trimLimits g (t0 + 1) = (t0 + 1, false) → t.dev.trim g = t0 + 1 ∧ t.dev.reg (Reg.PWR_COUNT 6) = s.dev.plus (Reg.PWR_COUNT 6) 1) ∧
        (24 ≤ t0 → t.dev.trim g = t0 ∧ (t.dev.reg Reg.PWR_EVENT).getLsbD 10 = true))) ∧
    (let x := s.dev.trimTarget g
     (x = t0 → exec (.trimStep g) s = .next s) ∧
     (∃ t, exec (.trimStep g) s = .next t ∧ fair t.dev) ∧
     (t0 < x → s.dev.trimLimits g (t0 + 1) = (t0 + 1, false) → t0 + 1 ≤ 127 →
       ∃ t, exec (.trimStep g) s = .next t ∧ t.dev.trim g = t0 + 1 ∧ s.dev.regsKept t.dev [r] ∧ t = s.withDev { s.dev with regs := t.dev.regs }) ∧
     (x < t0 → s.dev.guarded g = false ∨ s.dev.slow g = false ∨ s.dev.trimTop g < t0 → s.dev.trimLimits g (t0 - 1) = (t0 - 1, false) →
       -128 ≤ t0 - 1 →
       ∃ t, exec (.trimStep g) s = .next t ∧ t.dev.trim g = t0 - 1 ∧ s.dev.regsKept t.dev [r] ∧ t = s.withDev { s.dev with regs := t.dev.regs })) ∧
    (Map.find s.dev.pwr.railTo k = none → ∀ ok, exec (.railStep k ok) s = .next s) ∧
    (∀ v, Map.find s.dev.pwr.railTo k = some v →
      let c := s.dev.railMv k
      let x : Nat := if c < v then min v (c + 10) else max v (c - 10)
      (s.dev.railHeld k = true ∨ s.dev.railSettled k = false → ∀ ok, exec (.railStep k ok) s = .next s) ∧
      (s.dev.railHeld k = false → s.dev.railSettled k = true → c < v ∨ s.dev.railSlow k = false →
        busError (.railStep k false) ∧
        (s.dev.railLimits k x = ((x : Int), false) → ∃ t, exec (.railStep k true) s = .next t ∧ t = s.withDev { s.dev with pwr := t.dev.pwr } ∧
          t.dev.railMv k = x ∧ (x = v → Map.find t.dev.pwr.railTo k = none) ∧ t.dev.pwr.railAt = s.dev.pwr.railAt.set k s.dev.free))) ∧
    busError (.railTelemetry k .failed) ∧
    (∀ (m : BitVec 8) v i, pm = true → 32 ≤ m.toNat → busError (.railTelemetry k (.pmbus m v i))) ∧
    (let read := fun (r : RailRead) (mv ma : Nat) => ∃ t, exec (.railTelemetry k r) s = .next t ∧ s.dev.regsKept t.dev [Reg.PWR_RAIL_STAT k] ∧
      t.dev.fld (Reg.PWR_RAIL_STAT k) F.PWR_RAIL_STAT_V_MV = mv % 2 ^ 12 ∧ t.dev.fld (Reg.PWR_RAIL_STAT k) F.PWR_RAIL_STAT_I_MA = ma % 2 ^ 20 ∧
      Map.getD t.dev.pwr.railFails k 0 = 0
     (∀ v i, pm = false → read (.avs v i) v (10 * i)) ∧
     (∀ (m : BitVec 8) (v i : BitVec 16), pm = true → m.toNat < 32 →
       read (.pmbus m v i) (ofUlinear v.toNat (voutExp m.toNat)) (ofLinear11 i.toNat)) ∧
     (∀ (m : BitVec 8) v i, pm = false → exec (.railTelemetry k (.pmbus m v i)) s = .next s) ∧
     (∀ v i, pm = true → exec (.railTelemetry k (.avs v i)) s = .next s)) ∧
    (∀ v ok, s.dev.accessOpen (Reg.PWR_RAIL k) = true → ∃ t, exec (.railWrite k v ok) s = .next t ∧ t.dev.railHeld k = false ∧
      t.dev.reg (Reg.PWR_RAIL k) = (s.dev.plainWrite (Reg.PWR_RAIL k) v).reg (Reg.PWR_RAIL k))) ∧
  (∀ s : State, s.dev.up = true →
    (s.dev.bit Reg.PWR_CTRL F.PWR_CTRL_CAL_EN = false → exec .recalibration s = .next s) ∧
    (s.dev.bit Reg.PWR_CTRL F.PWR_CTRL_CAL_EN = true → s.dev.pwr.calSkip = true →
      ∃ t, exec .recalibration s = .next t ∧ t = s.withDev { s.dev with pwr := t.dev.pwr } ∧ t.dev.pwr.calSkip = false) ∧
    (s.dev.bit Reg.PWR_CTRL F.PWR_CTRL_CAL_EN = true → s.dev.pwr.calSkip = false →
      ∃ t, exec .recalibration s = .next t ∧ t.dev.reg (Reg.PWR_COUNT 10) = s.dev.plus (Reg.PWR_COUNT 10) 1 ∧
        (t.dev.reg Reg.PWR_EVENT).getLsbD 14 = true ∧ t.dev.pwr.calEnergy = List.replicate 6 0 ∧
        ∀ k, k < 32 →
          let live := fun (d : Dev) (f : Fld) => d.fld (Reg.ACT_COST k) f
          let within := fun (new old ref span f : Nat) =>
            new = max (ref * (256 - span) / 256) (min (old * f / 256) (min 65535 (ref * (256 + span) / 256)))
          (∀ f, k < 21 → s.dev.bit (Reg.ACT_COST k) F.ACT_COST_CAL_EN = true →
            calFactor (s.dev.calRails (1000000 * max 10 (s.dev.fld Reg.PWR_CAL F.PWR_CAL_PERIOD_MS))).2 k = some f →
            let span := s.dev.fld (Reg.ACT_COST_REF k) F.ACT_COST_REF_SPAN
            within (live t.dev F.ACT_COST_A) (live s.dev F.ACT_COST_A) (s.dev.fld (Reg.ACT_COST_REF k) F.ACT_COST_REF_A_REF) span f ∧
            within (live t.dev F.ACT_COST_B) (live s.dev F.ACT_COST_B) (s.dev.fld (Reg.ACT_COST_REF k) F.ACT_COST_REF_B_REF) span f) ∧
          (21 ≤ k ∨ s.dev.bit (Reg.ACT_COST k) F.ACT_COST_CAL_EN = false ∨
            calFactor (s.dev.calRails (1000000 * max 10 (s.dev.fld Reg.PWR_CAL F.PWR_CAL_PERIOD_MS))).2 k = none → t.dev.reg (Reg.ACT_COST k) = s.dev.reg (Reg.ACT_COST k))))

/-! ### External memory -/

/-- DRAM requests. One outside its range or on a channel that does not work is refused, counted and raises ACCESS_ERROR; one without a place waits at
its port, and none is accepted there while an older one of its class waits; a read is queued behind every buffered write to its atom, a
write in the buffer or, of class CAPTURE, in the bank queues (R452, R453, R456, R457). A command slot serves the request that the pick
gives, after refresh that is due (R455, R461); a served write stores its atom and no other byte, a served read changes none, answers its
client and reports its error (R454). -/
def Obligations.DramRequests : Prop :=
  ∀ (n sub : Nat) (err : ReadErr) (s : State), n < 4 → s.dev.chans.length = 4 →
    (∀ (cls a : Nat) (data : Option (List Byte)), s.dev.running = true → cls ≤ 3 → ¬ (cls = 0 ∧ data.isSome) → dramChan a = n →
      let atom := dramOfs a / 64
      let c := s.dev.chan n
      let r : DReq := ⟨cls, atom, data.isSome, slice (data.getD []) 0 64, 0, 0⟩
      let others := fun (t : State) => t = s.withDev { s.dev with regs := t.dev.regs, chans := t.dev.chans } ∧
        (∀ k, k ≠ n → t.dev.chan k = s.dev.chan k) ∧ (t.dev.chan n).mem = c.mem
      (s.dev.dramOk cls a = false → exec (.dramRequest cls a data) s =
        .next (s.withDev ((s.dev.count (Reg.DMC_COUNT n 7) 1).raise 12 2))) ∧
      (s.dev.dramOk cls a = true → ∃ t, exec (.dramRequest cls a data) s = .next t ∧ others t ∧
        (r ∉ (t.dev.chan n).port → ∀ x ∈ (t.dev.chan n).port, x.cls ≠ cls) ∧
        (t.dev.chan n).port.length + (t.dev.chan n).reqs.length + (t.dev.chan n).wbuf.length = c.port.length + c.reqs.length + c.wbuf.length + 1) ∧
      (s.dev.dramOk cls a = true → c.port = [] → s.dev.placeFor n r = false →
        exec (.dramRequest cls a data) s = .next (s.withDev (s.dev.setChan n { c with port := [r] }))) ∧
      (s.dev.dramOk cls a = true → c.port = [] → s.dev.placeFor n r = true → ∃ t, exec (.dramRequest cls a data) s = .next t ∧
        (t.dev.chan n).port = [] ∧ r ∈ (t.dev.chan n).reqs ++ (t.dev.chan n).wbuf ∧
        (data = none → r ∈ (t.dev.chan n).reqs ∧ ∀ x ∈ (t.dev.chan n).wbuf, x ∈ c.wbuf ∧ x.atom ≠ atom) ∧
        (data.isSome → cls = 2 → r ∈ (t.dev.chan n).reqs) ∧ ∀ x ∈ c.reqs, x ∈ (t.dev.chan n).reqs)) ∧
    (s.dev.up = true → s.dev.chanLive n = true → sub ≤ 1 →
      let d := ((s.dev.refresh n).pullIn n).showDebt n
      let c := d.chan n
      let first := (c.nextBank[sub]?).getD 0
      let pick := (List.range 16).findSome? fun i =>
        match chooseReq (c.bank (16 * sub + (first + i) % 16)).row (c.bankQ sub ((first + i) % 16)) with
        | some r => if c.phase = .quiesce ∧ r.cls ≠ 2 then none else some ((first + i) % 16, r)
        | none => none
      (c.train.isSome ∨ c.phase = .switch → exec (.dramCommand n sub err) s = .next (s.withDev d)) ∧
      (c.train = none → c.phase ≠ .switch → pick = none → exec (.dramCommand n sub err) s = .next (s.withDev d)) ∧
      (∀ b r, c.train = none → c.phase ≠ .switch → pick = some (b, r) → exec (.dramCommand n sub err) s = .next (s.withDev (d.serve n sub b r err)))) ∧
    (∀ b r, r ∈ (s.dev.chan n).reqs →
      let d := s.dev
      let e := d.serve n sub b r err
      let held := fun (c : Chan) => c.port.length + c.reqs.length + c.wbuf.length
      let bad := (d.chan n).poison.contains r.atom
      held (e.chan n) + 1 = held (d.chan n) ∧
      (∀ k, k ≠ n → e.chan k = d.chan k) ∧
      (r.write = true → r.data.length = 64 → Mem.readAll (e.chan n).mem (64 * r.atom) 64 = r.data ∧
        (∀ x, x < 64 * r.atom ∨ 64 * r.atom + 64 ≤ x → Mem.read (e.chan n).mem x = Mem.read (d.chan n).mem x) ∧
        r.atom ∉ (e.chan n).poison ∧ e.reg (Reg.DMC_COUNT n 1) = d.plus (Reg.DMC_COUNT n 1) 1) ∧
      (r.write = false → (e.chan n).mem = (d.chan n).mem ∧ e.reg (Reg.DMC_COUNT n 0) = d.plus (Reg.DMC_COUNT n 0) 1 ∧
        (r.owner ≠ 0 → ∃ a ∈ e.answers, a.owner = r.owner ∧ a.chan = n ∧ a.atom = r.atom ∧ a.bytes = Mem.readAll (d.chan n).mem (64 * r.atom) 64 ∧
          (a.bad = 1 ↔ bad = true ∨ ∃ w, err = .uncorr w)) ∧
        (err = .none → bad = false → e.flt = d.flt) ∧
        (∀ w, err = .corr w → bad = false → e.flt.queue = d.flt.queue ++ [⟨102 + n, 1, false, false, d.free⟩] ∧
          e.reg (Reg.DMC_COUNT n 5) = d.plus (Reg.DMC_COUNT n 5) 1 ∧ (e.reg Reg.DMC_EVENT).getLsbD 0 = true) ∧
        (bad = true ∨ (∃ w, err = .uncorr w) → e.flt.queue = d.flt.queue ++ [⟨102 + n, 2, false, false, d.free⟩] ∧
          e.reg (Reg.DMC_COUNT n 6) = d.plus (Reg.DMC_COUNT n 6) 1 ∧ (e.reg Reg.DMC_EVENT).getLsbD 1 = true ∧
          e.fld Reg.DMC_ECC_LAST F.DMC_ECC_LAST_ATOM = r.atom % 2 ^ 28 ∧ e.fld Reg.DMC_ECC_LAST F.DMC_ECC_LAST_CHANNEL = n)))

/-- Refresh, rows and temperature. An interval adds one to the debt of every rank; refresh takes the debt back to 0, but for a CAPTURE burst, which may
postpone it up to a debt of 8, where one interval is refreshed and POSTPONE_MAX raised; an idle channel pulls in to a debt of −8; a row open
for OPEN_NS closes; MR4, read every MR4_MS ms, gives RR, and too hot a report (R459 to R461); every PERIOD_MS ms each rank's drift beyond
THRESH_PS counts one retraining (R466). -/
def Obligations.DramUpkeep : Prop :=
  ∀ (n k : Nat) (s : State), s.dev.chans.length = 4 →
    let c := s.dev.chan n
    let b := c.bank k
    let closes := n < 4 ∧ b.row.isSome ∧ b.lastUse + s.dev.fld Reg.DMC_CTRL F.DMC_CTRL_OPEN_NS ≤ s.dev.free
    let sum : Nat := (c.owed + 1).toNat
    let post := c.burst && s.dev.bit Reg.DMC_REFRESH F.DMC_REFRESH_POSTPONE_EN
    let idle := c.reqs.isEmpty && c.wbuf.isEmpty && c.port.isEmpty && s.dev.bit Reg.DMC_REFRESH F.DMC_REFRESH_PULLIN_EN
    let mr4 := match c.mr4At with
      | none => true
      | some x => decide (x + 1000000 * max 1 (s.dev.fld Reg.DMC_REFRESH F.DMC_REFRESH_MR4_MS) ≤ s.dev.free)
    let osc := s.dev.fld Reg.DMC_RETRAIN F.DMC_RETRAIN_PERIOD_MS ≠ 0 ∧
      ∀ x, c.oscAt = some x → x + 1000000 * s.dev.fld Reg.DMC_RETRAIN F.DMC_RETRAIN_PERIOD_MS ≤ s.dev.free
    (closes → ∃ t, exec (.rowClose n k) s = .next t ∧ t = s.withDev { s.dev with chans := t.dev.chans } ∧
      (t.dev.chan n).bank k = { b with row := none } ∧ (∀ j, j ≠ k → (t.dev.chan n).bank j = c.bank j) ∧ (t.dev.chan n).mem = c.mem) ∧
    (¬ closes → exec (.rowClose n k) s = .next s) ∧
    (s.dev.chanLive n = false → exec (.refreshInterval n) s = .next s ∧ (∀ rr hot, exec (.mr4Read n rr hot) s = .next s) ∧
      ∀ l, exec (.dqsOscRead n l) s = .next s) ∧
    (s.dev.chanLive n = true → c.debt ≠ [] →
      (post = false → idle = false → ∃ t, exec (.refreshInterval n) s = .next t ∧
        (t.dev.chan n).debt = c.debt.map (fun x => x + 1 - (sum : Int)) ∧ (8 ≤ sum → (t.dev.reg Reg.DMC_EVENT).getLsbD 6 = true) ∧
        (0 < sum → t.dev.reg (Reg.DMC_COUNT n 8) = s.dev.plus (Reg.DMC_COUNT n 8) sum ∧
          (t.dev.chan n).refPb = s.dev.bit Reg.DMC_REFRESH F.DMC_REFRESH_PER_BANK) ∧ (t.dev.chan n).reqs = c.reqs ∧ (t.dev.chan n).mem = c.mem) ∧
      (post = true → 0 < sum → sum < 8 → ∃ t, exec (.refreshInterval n) s = .next t ∧ (t.dev.chan n).debt = c.debt.map (· + 1) ∧
        t.dev.reg (Reg.DMC_COUNT n 9) = s.dev.plus (Reg.DMC_COUNT n 9) 1 ∧ t.dev.reg (Reg.DMC_COUNT n 8) = s.dev.reg (Reg.DMC_COUNT n 8)) ∧
      (post = true → 8 ≤ sum → ∃ t, exec (.refreshInterval n) s = .next t ∧ (t.dev.chan n).debt = c.debt ∧
        t.dev.reg (Reg.DMC_COUNT n 9) = s.dev.plus (Reg.DMC_COUNT n 9) 1 ∧ t.dev.reg (Reg.DMC_COUNT n 8) = s.dev.plus (Reg.DMC_COUNT n 8) 1 ∧
        (t.dev.reg Reg.DMC_EVENT).getLsbD 6 = true) ∧
      (idle = true → ∃ t, exec (.refreshInterval n) s = .next t ∧ (t.dev.chan n).owed = min (c.owed + 1) (-8) ∧
        t.dev.reg (Reg.DMC_COUNT n 10) = s.dev.plus (Reg.DMC_COUNT n 10) (min (c.owed + 1) 0 + 8).toNat) ∧
      (∀ rr : BitVec 5, (mr4 = false → ∀ hot, exec (.mr4Read n rr hot) s = .next s) ∧ (mr4 = true →
        (∃ t, exec (.mr4Read n rr false) s = .next t ∧ t.dev.fld (Reg.DMC_CHAN_STATUS n) F.DMC_CHAN_STATUS_RR = rr.toNat ∧
          (t.dev.chan n).mr4At = some s.dev.free ∧
          t = s.withDev { s.dev with regs := t.dev.regs, chans := t.dev.chans } ∧ s.dev.regsKept t.dev [Reg.DMC_CHAN_STATUS n]) ∧
        ∃ t, exec (.mr4Read n rr true) s = .next t ∧ t.dev.fld (Reg.DMC_CHAN_STATUS n) F.DMC_CHAN_STATUS_RR = rr.toNat ∧
          (t.dev.reg Reg.DMC_EVENT).getLsbD 5 = true ∧ t.dev.flt.queue = s.dev.flt.queue ++ [⟨102 + n, 2, true, false, s.dev.free⟩])) ∧
      ∀ drifts : List Nat, drifts.length = c.debt.length →
        let far := (drifts.filter (s.dev.fld Reg.DMC_RETRAIN F.DMC_RETRAIN_THRESH_PS < ·)).length
        (¬ osc → exec (.dqsOscRead n drifts) s = .next s) ∧
        (osc → ∃ t, exec (.dqsOscRead n drifts) s = .next t ∧ (t.dev.chan n).oscAt = some s.dev.free ∧
          (far = 0 → t.dev.regs = s.dev.regs) ∧ (0 < far → t.dev.reg (Reg.DMC_COUNT n 12) = s.dev.plus (Reg.DMC_COUNT n 12) far)))

/-- Set points and training. A request takes its target and sends every channel that runs another one to change: program, quiesce, switch, after which
it runs the target; a set point is written only while no channel uses it; training ends after five steps with the channel UP, or with its change of
set point begun, or FAILED with a report unless it trained another set point on command; reserves beyond 2,048 places are refused (R462 to R469). -/
def Obligations.DramSetPoints : Prop :=
  ∀ (n : Nat) (v : Word) (s : State), s.dev.up = true → n < 4 → s.dev.chans.length = 4 →
    let c := s.dev.chan n
    let st := Reg.DMC_CHAN_STATUS n
    let event := fun (t : State) (b : Nat) => (t.dev.reg Reg.DMC_EVENT).getLsbD b = true
    (s.dev.accessOpen Reg.DMC_SP_CTRL = true → ∃ t, exec (.spRequest v) s = .next t ∧
      t.dev.fld Reg.DMC_SP_CTRL F.DMC_SP_CTRL_REQ = F.DMC_SP_CTRL_REQ.of v ∧ t.dev.fld Reg.DMC_SP_CTRL F.DMC_SP_CTRL_TARGET = t.dev.spTarget ∧
      (s.dev.chanState n = 2 → s.dev.chanSp n ≠ t.dev.spTarget → c.train = none → t.dev.chanState n = 3 ∧
        (t.dev.chan n).target = t.dev.spTarget ∧ (if s.dev.trained n t.dev.spTarget then (t.dev.chan n).phase = .program
          else (t.dev.chan n).train = some (t.dev.spTarget, 0))) ∧
      (s.dev.chanState n ≠ 2 ∨ s.dev.chanSp n = t.dev.spTarget ∨ c.train.isSome → t.dev.chan n = c ∧ t.dev.chanState n = s.dev.chanState n)) ∧
    (c.phase = .none → exec (.spPhaseDone n) s = .next s) ∧
    (c.phase = .program → ∃ t, exec (.spPhaseDone n) s = .next t ∧ t.dev.chan n = { c with phase := .quiesce } ∧ t.dev.regs = s.dev.regs) ∧
    (c.phase = .quiesce → (c.burst = true → exec (.spPhaseDone n) s = .next s) ∧
      (c.burst = false → ∃ t, exec (.spPhaseDone n) s = .next t ∧ (t.dev.chan n).phase = .switch ∧ (t.dev.chan n).mem = c.mem ∧
        (∀ x ∈ (t.dev.chan n).banks, x.2.row = none) ∧ (t.dev.chan n).owed ≤ 0)) ∧
    (c.phase = .switch → c.target = s.dev.spTarget → ∃ t, exec (.spPhaseDone n) s = .next t ∧ t.dev.chanSp n = c.target ∧ t.dev.chanState n = 2 ∧
      (t.dev.chan n).phase = .none ∧ t.dev.fld st F.DMC_CHAN_STATUS_FSP = 1 - s.dev.fld st F.DMC_CHAN_STATUS_FSP ∧
      t.dev.reg (Reg.DMC_COUNT n 11) = s.dev.plus (Reg.DMC_COUNT n 11) 1 ∧ (t.dev.spAll = true → event t 4)) ∧
    (c.train = none → ∀ ok, exec (.trainStepDone n ok) s = .next s) ∧
    (∀ sp k, c.train = some (sp, k) → sp < 4 →
      (k < 4 → ¬ (s.dev.chanState n = 2 ∧ s.dev.chanSp n ≠ s.dev.spTarget) →
        exec (.trainStepDone n true) s = .next (s.withDev (s.dev.setChan n { c with train := some (sp, k + 1) }))) ∧
      (k < 4 → s.dev.chanState n = 2 → s.dev.chanSp n ≠ s.dev.spTarget → ∃ t, exec (.trainStepDone n true) s = .next t ∧
        t.dev.chanState n = 3 ∧ (t.dev.chan n).target = s.dev.spTarget ∧ (t.dev.chan n).trainCmd = some (sp, k + 1)) ∧
      (4 ≤ k → s.dev.chanState n = 1 → ∃ t, exec (.trainStepDone n true) s = .next t ∧ t.dev.chanSp n = sp ∧ t.dev.trained n sp = true ∧
        t.dev.chanState n = (if sp = s.dev.spTarget then 2 else 3)) ∧
      (4 ≤ k → s.dev.chanState n = 2 → ∃ t, exec (.trainStepDone n true) s = .next t ∧ t.dev.trained n sp = true ∧
        (t.dev.chan n).trainCmd = none) ∧
      (4 ≤ k → s.dev.chanState n = 3 → ∃ t, exec (.trainStepDone n true) s = .next t ∧ (t.dev.chan n).phase = .program ∧ t.dev.trained n sp = true) ∧
      (let byCmd := c.trainCmd.isSome ∧ s.dev.chanState n = 2 ∧ s.dev.chanSp n ≠ sp
       (¬ byCmd → ∃ t, exec (.trainStepDone n false) s = .next t ∧ t.dev.chanState n = 4 ∧ event t 3 ∧
         t.dev.flt.queue = s.dev.flt.queue ++ [⟨102 + n, 2, true, false, s.dev.free⟩]) ∧
       (byCmd → ∃ t, exec (.trainStepDone n false) s = .next t ∧ t.dev.trained n sp = false ∧ event t 3 ∧ t.dev.flt = s.dev.flt ∧
         t.dev.chanState n ≠ 4 ∧ (t.dev.fld Reg.DMC_TRAIN F.DMC_TRAIN_FAILED).testBit n = true))) ∧
    (s.dev.accessOpen Reg.DMC_TRAIN = true → ∃ t, exec (.dmcTrainGo v) s = .next t ∧
      t.dev.fld Reg.DMC_TRAIN F.DMC_TRAIN_CHANNELS = F.DMC_TRAIN_CHANNELS.of v ∧ t.dev.fld Reg.DMC_TRAIN F.DMC_TRAIN_SP = F.DMC_TRAIN_SP.of v ∧
      s.dev.regsKept t.dev [Reg.DMC_TRAIN] ∧ (F.DMC_TRAIN_GO.of v = 0 ∨ s.dev.bit Reg.DMC_TRAIN F.DMC_TRAIN_GO = true → t.dev.chans = s.dev.chans) ∧
      (F.DMC_TRAIN_GO.of v = 1 → s.dev.bit Reg.DMC_TRAIN F.DMC_TRAIN_GO = false → t.dev.fld Reg.DMC_TRAIN F.DMC_TRAIN_FAILED = 0 ∧
        ((F.DMC_TRAIN_CHANNELS.of v).testBit n = true → s.dev.chanLive n = true → (t.dev.chan n).trainCmd = some (F.DMC_TRAIN_SP.of v, 0)) ∧
        ((F.DMC_TRAIN_CHANNELS.of v).testBit n = false ∨ s.dev.chanLive n = false → (t.dev.chan n).trainCmd = c.trainCmd))) ∧
    (∀ k, s.dev.accessOpen (Reg.DMC_SP k) = true →
      (3 < k ∨ s.dev.spInUse k = true → exec (.spRateWrite k v) s = .next s) ∧
      (k ≤ 3 → s.dev.spInUse k = false → ∃ t, exec (.spRateWrite k v) s = .next t ∧ s.dev.regsKept t.dev [Reg.DMC_SP k] ∧
        t.dev.fld (Reg.DMC_SP k) F.DMC_SP_RATE = F.DMC_SP_RATE.of v ∧ t.dev.fld (Reg.DMC_SP k) F.DMC_SP_TRAINED = 0)) ∧
    (s.dev.accessOpen Reg.DMC_RESERVE = true →
      let sum := F.DMC_RESERVE_RESERVE0.of v + F.DMC_RESERVE_RESERVE1.of v + F.DMC_RESERVE_RESERVE2.of v + F.DMC_RESERVE_RESERVE3.of v
      (2048 < sum → exec (.reserveWrite v) s = .next (s.withDev (s.dev.raise 12 7))) ∧
      (sum ≤ 2048 → ∃ t, exec (.reserveWrite v) s = .next t ∧ t = s.withDev { s.dev with regs := t.dev.regs, chans := t.dev.chans } ∧
        s.dev.regsKept t.dev (Reg.DMC_RESERVE :: (List.range 4).map fun k => Reg.DMC_COUNT k 4) ∧ (∀ k, (t.dev.chan k).mem = (s.dev.chan k).mem) ∧
        ∀ k, k < 4 → reserveOf (t.dev.reg Reg.DMC_RESERVE) k = reserveOf v k))

/-! ### Host link, faults and performance counters -/

/-- The host's link. A trained link shows its speed and width; a link down, a hot reset and a VF's FLR return the rings in question, with every command
and completion of theirs, to reset and free the packets that wait for them, and leave every other packet (R472, R520, R562). An access that
breaks R11 is logged, and a read of it gives all ones (R478); a read of SYS that keeps it gives the register or its
lower half. A write of an event register that leaves its source pending sends the message
again (R521). -/
def Obligations.HostLink : Prop :=
  ∀ (s : State), Map.rising s.dev.pkts = true →
    let toHost := fun (p : Pkt) (gone : Nat → Prop) => ∃ r, gone r ∧ (p.stage = .delivery r ∨ (∃ i, p.stage = .assigned r i) ∨ ∃ i, p.stage = .delivered r i)
    let resets := fun (t : State) (gone : Nat → Prop) =>
      (∀ r, gone r → t.dev.sub r = Sub.init ∧ (r < 32768 → t.dev.ringState r = rsDisabled ∧ t.dev.subPi r = 0 ∧ t.dev.fetchIdx r = 0)) ∧
      (∀ x ∈ t.dev.hif.held, ¬ gone x.ring) ∧ (∀ x ∈ t.dev.fences, ¬ gone x.ring) ∧ (∀ x ∈ t.dev.hif.injects, ¬ gone x.ring) ∧
      (∀ c p, t.dev.pkt c = some p ↔ s.dev.pkt c = some p ∧ ¬ toHost p gone) ∧ t.dev.tables = s.dev.tables ∧ t.dev.tim = s.dev.tim ∧ t.host = s.host
    (∀ (speed width : Nat), 1 ≤ speed → speed ≤ 5 → width ∈ [1, 2, 4, 8] →
      (s.dev.pins.perst = true → s.dev.rimsBegun = true → ∃ t, exec (.pcieLinkChange speed width) s = .next t ∧ t.dev.hif.linkUp = true ∧
        t.dev.fld Reg.HIF_LINK F.HIF_LINK_SPEED = speed ∧ t.dev.fld Reg.HIF_LINK F.HIF_LINK_WIDTH = width ∧
        (t.dev.reg Reg.HIF_EVENT).getLsbD 6 = true ∧ t.dev.pkts = s.dev.pkts ∧ t.dev.hif.subs = s.dev.hif.subs) ∧
      (s.dev.pins.perst = false ∨ s.dev.rimsBegun = false → exec (.pcieLinkChange speed width) s = .next s)) ∧
    (∃ t, exec (.pcieLinkChange 0 0) s = .next t ∧ t.dev.hif.linkUp = false ∧ resets t (fun _ => True)) ∧
    (∃ t, exec .hostReset s = .next t ∧ resets t (fun _ => True) ∧ t.dev.hif.tlb = [] ∧ t.dev.hif.scans = [] ∧ t.dev.hif.vfMsix = [] ∧
      t.dev.reg Reg.HIF_LINK = s.dev.reg Reg.HIF_LINK ∧ (s.dev.loader.src = .bootHost → t.dev.loader.bytes = [])) ∧
    (∀ f, (f = 0 ∨ 15 < f → exec (.vfFlr f) s = .next s) ∧
      (1 ≤ f → f ≤ 15 → ∃ t, exec (.vfFlr f) s = .next t ∧ resets t (fun r => s.dev.ringFunc r = f) ∧
        ∀ r, s.dev.ringFunc r ≠ f → t.dev.sub r = s.dev.sub r ∧ (r < 32768 → t.dev.reg (Reg.RNG_STATE r) = s.dev.reg (Reg.RNG_STATE r)))) ∧
    (∀ (f a size : Nat) (write : Bool), s.dev.running = true →
      let good := size = 8 ∧ a % 8 = 0 ∨ size = 4 ∧ a % 4 = 0 ∧ (f = 0 ∧ a < 0x1000 ∨ f ≠ 0 ∧ 0x7F0 ≤ a ∧ a < 0x1000)
      (good → write = true → exec (.badAccess f a size write) s = .next s) ∧
      (good → write = false → ∃ t, exec (.badAccess f a size write) s = .next t ∧
        (f = 0 → a < 0x1000 → size = 8 → (∀ m, regFam a = some m → ∀ y ∈ m.fields, y.acc ≠ .rc) →
          t = s.withDev { s.dev with bus := s.dev.view a }) ∧
        (f = 0 → a < 0x1000 → size = 4 → a % 8 = 0 → t.dev.bus = BitVec.ofNat 64 (getHalf (s.dev.view a) 0) ∧
          Map.find t.dev.hif.halves a = some (getHalf (s.dev.view a) 1))) ∧
      (¬ good → ∃ t, exec (.badAccess f a size write) s = .next t ∧ t.dev.fld Reg.HIF_ACCESS_LOG F.HIF_ACCESS_LOG_ADDR = a % 2 ^ 28 ∧
        t.dev.fld Reg.HIF_ACCESS_LOG F.HIF_ACCESS_LOG_FUNC = f % 16 ∧ t.dev.fld Reg.HIF_ACCESS_LOG F.HIF_ACCESS_LOG_WRITE = write.toNat ∧
        t.dev.fld Reg.HIF_ACCESS_LOG F.HIF_ACCESS_LOG_VALID = 1 ∧ (t.dev.reg Reg.HIF_EVENT).getLsbD 0 = true ∧
        (write = false → t.dev.bus = BitVec.allOnes 64) ∧ (write = true → t.dev.bus = s.dev.bus))) ∧
    (∀ (src a : Nat) (mask : Bool) (v : Word), evtReg src = some a → s.dev.up = true →
      let reg := if mask then a + 8 else a
      s.dev.accessOpen reg = true →
      let d := s.dev.plainWrite reg v
      (d.pendingEvt src = false → exec (.eventWrite src mask v) s = .next (s.withDev d)) ∧
      (d.pendingEvt src = true → exec (.eventWrite src mask v) s = .next (s.withDev (d.sendEvt src))))

/-- The collector takes the earliest fault. On a line that restarts it is an echo: logged, counted and no more. Else it sets its line's bit, is
escalated by one class when the line already has one of its class pending, is counted and logged under the next number, and has the reaction of
its class: none for C, for U of kind LOGIC a restart of the line's block or of Eland, for F a warm restart (R525, R527 to R530, R538, R539,
R547). -/
def Obligations.FaultTaken : Prop :=
  ∀ (f : FaultRep) (s : State), f.line ≤ 135 → 1 ≤ f.cls → f.cls ≤ 3 →
    let n := f.line
    let i := s.dev.fld Reg.FLT_LOG_PTR F.FLT_LOG_PTR_NEXT
    let logged := fun (t : State) (x : Taken) => t.dev.reg (Reg.FLT_LOG i) = logWord x s.dev.flt.seq.toNat s.dev.ns ∧
      t.dev.flt.seq = s.dev.flt.seq + 1 ∧ t.dev.fld Reg.FLT_LOG_PTR F.FLT_LOG_PTR_NEXT = (i + 1) % 64
    (s.dev.stage = 0 ∨ s.dev.stage = 14 ∨ s.dev.flt.queue = [] → exec .fault s = .next s) ∧
    (s.dev.stage ≠ 0 → s.dev.stage ≠ 14 → firstFault s.dev.flt.queue = some f →
      (s.dev.lineUp n = false → ∃ t, exec .fault s = .next t ∧ logged t ⟨f, f.cls, f.logic, true, .none⟩ ∧
        t.dev.flt.queue = s.dev.flt.queue.erase f ∧ t.dev.flt.blocks = s.dev.flt.blocks ∧ t.dev.pkts = s.dev.pkts ∧
        (t.dev.reg (Reg.FLT_ECHO (n / 64))).getLsbD (n % 64) = true ∧ t.dev.linePending n = s.dev.linePending n ∧
        t.dev.reg (Reg.FLT_COUNT 4) = s.dev.plus (Reg.FLT_COUNT 4) 1 ∧ (t.dev.reg Reg.FLT_EVENT).getLsbD 3 = true) ∧
      (s.dev.flt.blocks = [] → s.dev.flt.warm = none →
        let esc := s.dev.linePending n && s.dev.fld (Reg.FLT_LINE n) F.FLT_LINE_CLASS == f.cls && f.cls != 3
        let k := if esc then f.cls + 1 else f.cls
        let logic := esc || f.logic
        let re : Reaction := if s.dev.up = false then .none else if k = 3 then .warm else if k = 1 then .none else if n = 109 then .eland
          else if n = 81 ∨ n = 99 ∨ n = 100 ∨ logic = true ∧ n < 98 then .block else .none
        s.dev.flt.eland = none →
        ∃ t, exec .fault s = .next t ∧ logged t ⟨f, k, logic, false, re⟩ ∧ t.dev.linePending n = true ∧
          t.dev.fld (Reg.FLT_LINE n) F.FLT_LINE_CLASS = max (s.dev.fld (Reg.FLT_LINE n) F.FLT_LINE_CLASS) k ∧
          t.dev.reg (Reg.FLT_COUNT (k - 1)) = s.dev.plus (Reg.FLT_COUNT (k - 1)) 1 ∧ (t.dev.reg Reg.FLT_EVENT).getLsbD (k - 1) = true ∧
          (esc = true → t.dev.reg (Reg.FLT_COUNT 3) = s.dev.plus (Reg.FLT_COUNT 3) 1) ∧
          (re = .none → t.dev.flt.blocks = [] ∧ t.dev.flt.warm = none ∧ t.dev.stage = s.dev.stage ∧ t.dev.pkts = s.dev.pkts ∧
            t.dev.tables = s.dev.tables ∧ t.dev.flt.queue = s.dev.flt.queue.erase f) ∧
          (re = .block → Map.find t.dev.flt.blocks n = some s.dev.free ∧ (∀ j, j ≠ n → t.dev.lineUp j = true) ∧ t.dev.stage = s.dev.stage ∧
            t.dev.fld Reg.FLT_RESTART F.FLT_RESTART_LINE = n) ∧
          (re = .eland → t.dev.flt.eland = some s.dev.free ∧ t.dev.pkts = s.dev.pkts ∧ t.dev.fld Reg.FLT_RESTART F.FLT_RESTART_LINE = n) ∧
          (re = .warm → t.dev.flt.warm = some s.dev.free ∧ t.dev.stage = 5 ∧ t.dev.recs = [] ∧
            (∀ c p, t.dev.pkt c = some p → ∃ r j, p.stage = .delivered r j) ∧ t.dev.reg (Reg.FLT_COUNT 6) = s.dev.plus (Reg.FLT_COUNT 6) 1)))

/-- Fault commands and ends of restarts. An acknowledgement clears its lines' bits and classes; an injection, a violation, a stall and a watchdog
become reports; a tile repair finds no table, no poisoned place, or wipes the place; a scrub reports what it read, and ends a
pass no earlier than PERIOD allows; a restart's end releases
its block, or RUN, or Eland, and raises its event; a warm restart that fails halts (R526, R529, R531, R535, R537, R541 to R543). -/
def Obligations.FaultCommands : Prop :=
  ∀ (k n x : Nat) (v : Word) (s : State), s.dev.up = true →
    let reported := fun (c : Instr) (r : FaultRep) => ∃ t, exec c s = .next t ∧ t = s.withDev { s.dev with flt := { s.dev.flt with queue := s.dev.flt.queue ++ [r] } }
    let event := fun (t : State) (b : Nat) => (t.dev.reg Reg.FLT_EVENT).getLsbD b = true
    (k < 3 → ∃ t, exec (.faultAck k v) s = .next t ∧ t.dev.reg (Reg.FLT_STATUS k) = (s.dev.plainWrite (Reg.FLT_STATUS k) v).reg (Reg.FLT_STATUS k) ∧
      t = s.withDev { s.dev with regs := t.dev.regs } ∧ (∀ j, j < 64 → v.getLsbD j = true → t.dev.linePending (64 * k + j) = false ∧
        t.dev.fld (Reg.FLT_LINE (64 * k + j)) F.FLT_LINE_CLASS = 0) ∧
      s.dev.regsKept t.dev (Reg.FLT_STATUS k :: ((List.range 64).filter fun j => v.getLsbD j).map fun j => Reg.FLT_LINE (64 * k + j))) ∧
    (let line := F.FLT_INJECT_LINE.of v
     let cls := F.FLT_INJECT_CLASS.of v
     let stored := s.dev.plainWrite Reg.FLT_INJECT v
     (F.FLT_INJECT_GO.of v = 0 ∨ 135 < line ∨ cls = 0 → exec (.fltInject v) s = .next (s.withDev stored)) ∧
     (F.FLT_INJECT_GO.of v = 1 → line ≤ 135 → cls ≠ 0 → ∃ t, exec (.fltInject v) s = .next t ∧ t.dev.regs = stored.regs ∧
       t.dev.flt = { s.dev.flt with queue := s.dev.flt.queue ++ [⟨line, cls, F.FLT_INJECT_KIND.of v = 1, true, s.dev.free⟩] })) ∧
    (F.FLT_TREPAIR_GO.of v = 1 →
      let tile := F.FLT_TREPAIR_TILE.of v
      let w := F.FLT_TREPAIR_WORD.of v
      let gives := fun (t : State) (r : Nat) => exec (.tileRepair v) s = .next t ∧ t.dev.fld Reg.FLT_TREPAIR F.FLT_TREPAIR_RESULT = r ∧
        s.dev.regsKept t.dev [Reg.FLT_TREPAIR]
      (s.dev.tileOwner tile = none → ∃ t, gives t 2 ∧ t.dev.tables = s.dev.tables) ∧
      (∀ tb b, s.dev.tileOwner tile = some (tb, b) →
        (s.dev.poisonAt tb b tile w = none → ∃ t, gives t 1 ∧ t.dev.tables = s.dev.tables) ∧
        (∀ p, s.dev.poisonAt tb b tile w = some p → tmKind b ≠ 1 → ∃ t, gives t 0 ∧ Map.find (t.dev.tbl tb).places p = none ∧
          (t.dev.tbl tb).poisoned p = false ∧ s.dev.tblsKept t.dev tb ∧
          ∀ j, j ≠ p → Map.find (t.dev.tbl tb).places j = Map.find (s.dev.tbl tb).places j) ∧
        (∀ p, s.dev.poisonAt tb b tile w = some p → tmKind b = 1 → ∃ t, gives t 0 ∧ s.dev.tblsKept t.dev tb ∧
          (t.dev.tbl tb).lpm = (s.dev.tbl tb).lpm.filter fun e => e.handle != p))) ∧
    (s.dev.running = true → exec (.scrubWord .clean) s = .next s ∧ reported (.scrubWord .retainedBoth) ⟨108, 3, false, false, s.dev.free⟩ ∧
      exec (.scrubWord .retainedOne) s = .next (s.withDev (s.dev.count (Reg.FLT_COUNT 9) 1)) ∧
      (s.dev.passDue = true → exec (.scrubWord .passDone) s =
        .next (s.withDev ({ s.dev with flt := { s.dev.flt with scrubAt := some s.dev.free } }.raise 15 6))) ∧
      (s.dev.passDue = false → exec (.scrubWord .passDone) s = .next s) ∧
      (∀ tb b p i, s.dev.tblDef tb = .tile b → tmKind b ≠ 1 → p < tmPlaces b → i < tmW b → s.dev.tilesUp b = true →
        (∃ t, exec (.scrubWord (.tileCorr tb p i)) s = .next t ∧ t.dev.tables = s.dev.tables ∧
          t.dev.reg (Reg.FLT_COUNT 8) = s.dev.plus (Reg.FLT_COUNT 8) 1 ∧ t.dev.reg (Reg.TBL_COUNT 9) = s.dev.plus (Reg.TBL_COUNT 9) 1 ∧
          t.dev.writeBacks = s.dev.writeBacks ++ [(tb, p, i)]) ∧
        ∃ t, exec (.scrubWord (.tileUncorr tb p i)) s = .next t ∧ (t.dev.tbl tb).poisoned p = true ∧
          (t.dev.tbl tb).places = (s.dev.tbl tb).places ∧ s.dev.tblsKept t.dev tb ∧ (t.dev.reg Reg.TBL_EVENT).getLsbD 2 = true)) ∧
    (n < 288 → reported (.protocolViolation n) ⟨regionLine n, 2, true, false, s.dev.free⟩ ∧
      (let stalls := !s.dev.paceLow n && s.dev.regionBusy n && s.dev.regionFree n
       (stalls = true → reported (.regionStall n) ⟨regionLine n, 2, true, false, s.dev.free⟩) ∧
       (stalls = false → exec (.regionStall n) s = .next s))) ∧
    (s.dev.flt.eland = none → reported .elandWatchdog ⟨109, 2, true, false, s.dev.free⟩ ∧ exec .elandRestartDone s = .next s) ∧
    (s.dev.flt.held = [] →
      (∀ t0, Map.find s.dev.flt.blocks n = some t0 → n < 64 ∨ 80 ≤ n →
        ∃ t, exec (.blockRestartDone n) s = .next t ∧ t.dev.lineUp n = true ∧ (∀ j, j ≠ n → t.dev.lineUp j = s.dev.lineUp j) ∧ event t 4 ∧
          t.dev.fld Reg.FLT_RESTART F.FLT_RESTART_LAST_US = min ((s.dev.free - t0) / 1000) 65535 ∧ t.dev.pkts = s.dev.pkts ∧ t.dev.tables = s.dev.tables) ∧
      (∀ t0, s.dev.flt.warm = some t0 →
        (s.dev.stage ≠ 6 → exec (.warmRestartDone none) s = .next s) ∧
        (s.dev.stage = 6 → ∃ t, exec (.warmRestartDone none) s = .next t ∧ t.dev.flt.warm = none ∧ t.dev.stage = 15 ∧ event t 5 ∧ t.dev.tables = s.dev.tables ∧
          t.dev.pkts = s.dev.pkts) ∧
        (s.dev.stage = 5 ∨ s.dev.stage = 6 → ∃ t, exec (.warmRestartDone (some x)) s = .next t ∧ t.dev.stage = 14 ∧ t.dev.flt.warm = none ∧
          t.dev.fld Reg.SYS_REASON F.SYS_REASON_CODE = s.dev.stage ∧ t.dev.fld Reg.SYS_REASON F.SYS_REASON_DETAIL = x % 2 ^ 24)) ∧
      (∀ t0, s.dev.flt.eland = some t0 → s.dev.hif.pend = [] → ∃ t, exec .elandRestartDone s = .next t ∧ t.dev.flt.eland = none ∧ event t 4 ∧
        t.dev.pkts = s.dev.pkts)) ∧
    (Map.find s.dev.flt.blocks n = none → exec (.blockRestartDone n) s = .next s) ∧
    (s.dev.flt.warm = none → ∀ bad, exec (.warmRestartDone bad) s = .next s)

/-- Performance counters. An event that finds a running counter at 2^48 − 1 gives it RELOAD or 0, sets its OVF bit and event, and takes the snapshot and the freeze that
its group asks for; a snapshot copies the eight counts and TIM_FREE; CLEAR makes them 0; a write of a counter stands; FROZEN clears by a
write (R552 to R556). -/
def Obligations.PerformanceCounters : Prop :=
  ∀ (c : Nat) (v : Word) (s : State), s.dev.up = true → c < 256 →
    let g := c / 8
    let cnt := Reg.PMC_CNT c
    let bit := fun (f : Fld) => s.dev.bit (Reg.PMC_GCTRL g) f
    let due := s.dev.pmcRuns c && s.dev.pmcMay c && s.dev.fld cnt F.PMC_CNT_COUNT == pmcMax
    (due = false → exec (.pmcOverflow c) s = .next s) ∧
    (due = true → ∃ t, exec (.pmcOverflow c) s = .next t ∧
      t.dev.fld cnt F.PMC_CNT_COUNT = (if s.dev.bit (Reg.PMC_RELOAD c) F.PMC_RELOAD_EN then s.dev.fld (Reg.PMC_RELOAD c) F.PMC_RELOAD_VALUE else 0) ∧
      (t.dev.fld (Reg.PMC_GSTAT g) F.PMC_GSTAT_OVF).testBit (c % 8) = true ∧ (t.dev.reg Reg.PMC_EVENT).getLsbD g = true ∧
      (∀ j, j < 256 → j ≠ c → t.dev.reg (Reg.PMC_CNT j) = s.dev.reg (Reg.PMC_CNT j)) ∧
      (bit F.PMC_GCTRL_FREEZE_ON_OVF = true → t.dev.bit (Reg.PMC_GSTAT g) F.PMC_GSTAT_FROZEN = true) ∧
      (bit F.PMC_GCTRL_SNAP_ON_OVF = true → t.dev.reg (Reg.PMC_SNAP_TIME g) = s.dev.tim.free ∧ t.dev.reg (Reg.PMC_SNAPV c) = t.dev.reg cnt)) ∧
    (s.dev.accessOpen (Reg.PMC_GCTRL g) = true →
      (∃ t, exec (.pmcSnap g) s = .next t ∧ (∀ j, j / 8 = g → t.dev.reg (Reg.PMC_SNAPV j) = s.dev.reg (Reg.PMC_CNT j)) ∧
        t.dev.reg (Reg.PMC_SNAP_TIME g) = s.dev.tim.free ∧ (t.dev.reg Reg.PMC_EVENT).getLsbD 32 = true ∧
        ∀ j, j < 256 → t.dev.reg (Reg.PMC_CNT j) = s.dev.reg (Reg.PMC_CNT j)) ∧
      (∃ t, exec (.pmcClear g) s = .next t ∧ t = s.withDev { s.dev with regs := t.dev.regs } ∧
        (∀ j, j / 8 = g → t.dev.fld (Reg.PMC_CNT j) F.PMC_CNT_COUNT = 0) ∧
        s.dev.regsKept t.dev ((List.range 8).map fun j => Reg.PMC_CNT (8 * g + j)))) ∧
    (s.dev.accessOpen cnt = true →
      exec (.pmcCntWrite c v false) s = .next (s.withDev (s.dev.plainWrite cnt v)) ∧
      ∃ t, exec (.pmcCntWrite c v true) s = .next t ∧ t.dev.reg cnt = (s.dev.plainWrite cnt v).reg cnt ∧
        (due = true → t.dev.bit (Reg.PMC_GSTAT g) F.PMC_GSTAT_OVF_PENDING = true ∧
          (t.dev.reg Reg.PMC_EVENT).getLsbD g = true)) ∧
    (s.dev.accessOpen (Reg.PMC_GSTAT g) = true →
      exec (.pmcUnfreeze g) s = .next (s.withDev (s.dev.setFld (Reg.PMC_GSTAT g) F.PMC_GSTAT_FROZEN 0)))

/-! ### Rules stated whole -/

/-- R20: two 32-bit times are compared only modulo 2^32. With d = (B − A) mod 2^32 below 2^31, B is at or after A, by d ns; otherwise B is before
A, by 2^32 − d ns. -/
def Obligations.TimesCompareModulo : Prop :=
  ∀ a b : BitVec 32,
    let d := (b - a).toNat
    (d < 2 ^ 31 → atOrAfter32 a.toNat b.toNat = true ∧ ahead32 a.toNat b.toNat = d) ∧
    (2 ^ 31 ≤ d → atOrAfter32 a.toNat b.toNat = false ∧ ahead32 b.toNat a.toNat = 2 ^ 32 - d)

/-- R116: among the ranks that both sides advertise and the width allows, the lowest whose FEC FEC_ALLOW allows is resolved; with none, no mode is
(NO_HCD). RS is run at ranks 1 to 7, BASE-R at 8 and 9 when negotiated (R115, R117). -/
def Obligations.ResolutionOrder : Prop :=
  ∀ m adv lp : Word,
    let widthMask := match F.PRT_MODE_WIDTH.of m with | 1 => 0b1111001000 | 2 => 0b0000010010 | 3 => 0b0000100101 | _ => 0
    let common := F.PRT_AN_ADV_ABIL.of adv &&& F.PRT_AN_LP_ABIL.of lp &&& widthMask
    let negotiated := (fecAllow m).testBit 1 ∧ F.PRT_AN_LP_FEC_ABLE.of lp = 1 ∧
      (F.PRT_AN_ADV_FEC_REQ.of adv = 1 ∨ F.PRT_AN_LP_FEC_REQ.of lp = 1)
    let runs := fun (r f : Nat) => 1 ≤ r ∧ r ≤ 10 ∧ common.testBit (r - 1) = true ∧ (fecAllow m).testBit f = true ∧
      ((r ≤ 7 ∧ f = 2) ∨ ((r = 8 ∨ r = 9) ∧ negotiated ∧ f = 1) ∨ ((r = 8 ∨ r = 9) ∧ ¬ negotiated ∧ f = 0) ∨ (r = 10 ∧ f = 0))
    (∀ r k f, resolve m adv lp = some (r, k, f) → runs r f ∧ k = [0xA, 8, 9, 5, 6, 7, 4, 3, 2, 1].getD (r - 1) 0 ∧
      ∀ q g, q < r → ¬ runs q g) ∧
    (resolve m adv lp = none → ∀ r f, ¬ runs r f)

/-- R398: a CFG_CHANGE that passes its checks sets the change time. With x = (t_req + 1000 − BASE) mod 2^32 at or above 2^31 it is BASE; otherwise it
is (BASE + n · CYCLE) mod 2^32 for the smallest n with n · CYCLE at least x. PENDING reads 1 (R397). -/
def Obligations.ChangeTime : Prop :=
  ∀ (n : Nat) (v : Word) (s : State), n < 128 → s.dev.up = true → s.dev.accessOpen (Reg.GAT_CTRL n) = true → F.GAT_CTRL_CFG_CHANGE.of v = 1 →
    F.GAT_CTRL_EN.of v = 1 → s.dev.gatePending n = false → s.dev.gateCheck n = 0 →
    let base := s.dev.fld (Reg.GAT_ADMIN_BASE n) F.GAT_ADMIN_BASE_BASE
    let cycle := s.dev.fld (Reg.GAT_ADMIN_CYCLE n) F.GAT_ADMIN_CYCLE_CYCLE
    let x := (BitVec.ofNat 32 s.dev.ns + 1000#32 - BitVec.ofNat 32 base).toNat
    ∃ t, exec (.cfgChange n v) s = .next t ∧ t.dev.bit (Reg.GAT_STATUS n) F.GAT_STATUS_PENDING = true ∧
      s.dev.regsKept t.dev [Reg.GAT_CTRL n, Reg.GAT_STATUS n] ∧
      let change := t.dev.fld (Reg.GAT_STATUS n) F.GAT_STATUS_CHANGE_TIME
      (2 ^ 31 ≤ x → change = base) ∧
      (x < 2 ^ 31 → ∃ k, change = (base + k * cycle) % 2 ^ 32 ∧ x ≤ k * cycle ∧ ∀ j, x ≤ j * cycle → k ≤ j)

/-- R550: a counter that gains n wraps modulo 2^48, and nothing else changes: no flag, no other register. -/
def Obligations.CountersWrap : Prop :=
  ∀ (d : Dev) (a n : Nat), ((d.count a n).reg a).toNat = ((d.reg a).toNat + n) % 2 ^ 48 ∧ d.regsKept (d.count a n) [a] ∧
    d.count a n = { d with regs := (d.count a n).regs }
end

