-- ==== Sys2Proof/Laws/Map.lean ====
section
/-! SUPPORT. Sparse maps, byte memories, fields and registers: a read after a write, and the canonical forms. -/

namespace Sys2Proof.Machine

/-! ### Sparse maps -/

@[simp] theorem Map.find_put_same {α : Type} (m : List (Nat × α)) (k : Nat) (v : α) : Map.find (Map.put m k v) k = some v := by
  induction m with
  | nil => simp [Map.put, Map.find]
  | cons e r ih =>
    obtain ⟨j, w⟩ := e
    simp only [Map.put]
    split
    · simp [Map.find]
    · split
      · simp [Map.find]
      · rename_i h1 h2
        have : j ≠ k := fun h => h2 h.symm
        simp [Map.find, this, ih]

theorem Map.find_put_other {α : Type} (m : List (Nat × α)) (k j : Nat) (v : α) (h : j ≠ k) :
    Map.find (Map.put m k v) j = Map.find m j := by
  induction m with
  | nil => simp [Map.put, Map.find, h.symm]
  | cons e r ih =>
    obtain ⟨i, w⟩ := e
    simp only [Map.put]
    split
    · simp [Map.find, h.symm]
    · split
      · rename_i h1 h2
        subst h2
        simp [Map.find, h.symm]
      · simp only [Map.find, ih]

/-- All keys of a rising map that starts above `k` differ from `k`. -/
theorem Map.find_none_of_lt {α : Type} (m : List (Nat × α)) (k : Nat) (h : ∀ e ∈ m, k < e.1) : Map.find m k = none := by
  induction m with
  | nil => rfl
  | cons e r ih =>
    obtain ⟨j, w⟩ := e
    have h1 : k < j := h (j, w) (by simp)
    have h2 : j ≠ k := by omega
    simp only [Map.find, h2, if_false]
    exact ih fun e he => h e (by simp [he])

theorem Map.rising_cons {α : Type} (j : Nat) (w : α) (r : List (Nat × α)) :
    Map.rising ((j, w) :: r) = true ↔ (∀ e ∈ r, j < e.1) ∧ Map.rising r = true := by
  induction r generalizing j w with
  | nil => simp [Map.rising]
  | cons e r ih =>
    obtain ⟨k, u⟩ := e
    have hk := ih k u
    simp only [Map.rising, Bool.and_eq_true, decide_eq_true_eq, List.mem_cons, forall_eq_or_imp]
    constructor
    · rintro ⟨h1, h2⟩
      refine ⟨⟨h1, fun e he => ?_⟩, h2⟩
      have := (hk.mp h2).1 e he
      omega
    · rintro ⟨⟨h1, _⟩, h2⟩
      exact ⟨h1, h2⟩

theorem Map.mem_put {α : Type} {m : List (Nat × α)} {k : Nat} {v : α} {e : Nat × α} (h : e ∈ Map.put m k v) : e = (k, v) ∨ e ∈ m := by
  induction m with
  | nil => simpa [Map.put] using h
  | cons x r ih =>
    obtain ⟨j, w⟩ := x
    simp only [Map.put] at h
    split at h
    · simpa using h
    · split at h
      · simp only [List.mem_cons] at h ⊢
        tauto
      · simp only [List.mem_cons] at h ⊢
        rcases h with h | h
        · tauto
        · rcases ih h with h | h <;> tauto

theorem Map.mem_del {α : Type} {m : List (Nat × α)} {k : Nat} {e : Nat × α} (h : e ∈ Map.del m k) : e ∈ m := by
  induction m with
  | nil => simp [Map.del] at h
  | cons x r ih =>
    obtain ⟨j, w⟩ := x
    simp only [Map.del] at h
    split at h
    · simp [ih h]
    · simp only [List.mem_cons] at h ⊢
      rcases h with h | h
      · tauto
      · exact Or.inr (ih h)

theorem Map.rising_put {α : Type} (m : List (Nat × α)) (k : Nat) (v : α) (h : Map.rising m = true) : Map.rising (Map.put m k v) = true := by
  induction m with
  | nil => rfl
  | cons x r ih =>
    obtain ⟨j, w⟩ := x
    have hr := (Map.rising_cons j w r).mp h
    simp only [Map.put]
    split
    · rename_i hk
      refine (Map.rising_cons _ _ _).mpr ⟨fun e he => ?_, h⟩
      simp only [List.mem_cons] at he
      rcases he with rfl | he
      · exact hk
      · have := hr.1 e he
        omega
    · split
      · rename_i hk
        subst hk
        exact (Map.rising_cons _ _ _).mpr ⟨hr.1, hr.2⟩
      · refine (Map.rising_cons _ _ _).mpr ⟨fun e he => ?_, ih hr.2⟩
        rcases Map.mem_put he with rfl | he
        · simp only
          omega
        · exact hr.1 e he

theorem Map.rising_del {α : Type} (m : List (Nat × α)) (k : Nat) (h : Map.rising m = true) : Map.rising (Map.del m k) = true := by
  induction m with
  | nil => rfl
  | cons x r ih =>
    obtain ⟨j, w⟩ := x
    have hr := (Map.rising_cons j w r).mp h
    simp only [Map.del]
    split
    · exact ih hr.2
    · exact (Map.rising_cons _ _ _).mpr ⟨fun e he => hr.1 e (Map.mem_del he), ih hr.2⟩

@[simp] theorem Map.find_del_same {α : Type} (m : List (Nat × α)) (k : Nat) : Map.find (Map.del m k) k = none := by
  induction m with
  | nil => rfl
  | cons x r ih =>
    obtain ⟨j, w⟩ := x
    simp only [Map.del]
    split
    · exact ih
    · rename_i hk
      simp only [Map.find, hk, if_false]
      exact ih

theorem Map.find_del_other {α : Type} (m : List (Nat × α)) (k j : Nat) (h : j ≠ k) : Map.find (Map.del m k) j = Map.find m j := by
  induction m with
  | nil => rfl
  | cons x r ih =>
    obtain ⟨i, w⟩ := x
    simp only [Map.del]
    split
    · rename_i hk
      subst hk
      simp [Map.find, h.symm, ih]
    · simp only [Map.find, ih]

/-! ### Byte memories -/

theorem Mem.wf_write (m : List Host.Cell) (a : Nat) (b : Byte) (h : Mem.wf m = true) : Mem.wf (Mem.write m a b) = true := by
  simp only [Mem.wf, Bool.and_eq_true, List.all_eq_true] at h ⊢
  unfold Mem.write
  split
  · exact ⟨Map.rising_del m a h.1, fun c hc => h.2 c (Map.mem_del hc)⟩
  · rename_i hb
    refine ⟨Map.rising_put m a b h.1, fun c hc => ?_⟩
    rcases Map.mem_put hc with rfl | hc
    · simpa using hb
    · exact h.2 c hc

theorem Mem.wf_writeAll (bs : List Byte) (m : List Host.Cell) (a : Nat) (h : Mem.wf m = true) : Mem.wf (Mem.writeAll m a bs) = true := by
  induction bs generalizing m a with
  | nil => exact h
  | cons b r ih => exact ih _ _ (Mem.wf_write m a b h)

@[simp] theorem Mem.read_write_same (m : List Host.Cell) (a : Nat) (b : Byte) : Mem.read (Mem.write m a b) a = b := by
  unfold Mem.write Mem.read Map.getD
  split
  · rename_i hb
    subst hb
    simp
  · simp

theorem Mem.read_write_other (m : List Host.Cell) (a c : Nat) (b : Byte) (h : c ≠ a) : Mem.read (Mem.write m a b) c = Mem.read m c := by
  unfold Mem.write Mem.read Map.getD
  split
  · rw [Map.find_del_other m a c h]
  · rw [Map.find_put_other m a c b h]

theorem Mem.read_writeAll_other (bs : List Byte) (m : List Host.Cell) (a c : Nat) (h : c < a ∨ a + bs.length ≤ c) :
    Mem.read (Mem.writeAll m a bs) c = Mem.read m c := by
  induction bs generalizing m a with
  | nil => rfl
  | cons b r ih =>
    simp only [List.length_cons] at h
    simp only [Mem.writeAll]
    rw [ih (Mem.write m a b) (a + 1) (by omega), Mem.read_write_other m a c b (by omega)]

/-- Every step's writes keep host memory in canonical form. -/
theorem State.wf_wrote (s : State) (x : Dev × HostWrites) (h : Mem.wf s.host = true) : Mem.wf (s.wrote x).host = true := by
  have key : ∀ (l : HostWrites) (m : List Host.Cell), Mem.wf m = true →
      Mem.wf (l.foldl (fun m w => Mem.writeAll m w.1 w.2) m) = true := by
    intro l
    induction l with
    | nil => intro m hm; exact hm
    | cons w r ih => intro m hm; exact ih _ (Mem.wf_writeAll w.2 m w.1 hm)
  exact key x.2 s.host h

/-! ### Registers -/

@[simp] theorem Dev.reg_setReg_same (d : Dev) (a : Nat) (v : Word) : (d.setReg a v).reg a = v := by
  unfold Dev.setReg Dev.reg
  by_cases hv : v = regReset a
  · simp [hv]
  · simp [hv]

theorem Dev.reg_setReg_other (d : Dev) (a b : Nat) (v : Word) (h : b ≠ a) : (d.setReg a v).reg b = d.reg b := by
  unfold Dev.setReg Dev.reg
  by_cases hv : v = regReset a
  · simp [hv, Map.find_del_other d.regs a b h]
  · simp [hv, Map.find_put_other d.regs a b v h]

theorem Dev.regsOk_setReg (d : Dev) (a : Nat) (v : Word) (h : d.regsOk = true) : (d.setReg a v).regsOk = true := by
  simp only [Dev.regsOk, Bool.and_eq_true, List.all_eq_true] at h ⊢
  unfold Dev.setReg
  by_cases hv : v = regReset a
  · simp only [hv, if_true]
    exact ⟨Map.rising_del d.regs a h.1, fun e he => h.2 e (Map.mem_del he)⟩
  · simp only [hv, if_false]
    refine ⟨Map.rising_put d.regs a v h.1, fun e he => ?_⟩
    rcases Map.mem_put he with rfl | he
    · simpa using hv
    · exact h.2 e he

end Sys2Proof.Machine
end

