-- ==== Sys2Proof/Laws/Fields.lean ====
section
/-! SUPPORT. Fields of words and registers: a field reads what was written to it, and other fields are left alone. -/

namespace Sys2Proof.Machine

theorem Fld.testBit_of (f : Fld) (x : Word) (i : Nat) : (f.of x).testBit i = (decide (i < f.w) && x.toNat.testBit (f.lo + i)) := by
  unfold Fld.of
  rw [Nat.testBit_mod_two_pow, Nat.testBit_shiftRight]

/-- Bit `i` of a word with a field written. -/
theorem Fld.getLsbD_put (f : Fld) (x : Word) (v i : Nat) (hi : i < 64) :
    (f.put x v).getLsbD i = if f.lo ≤ i ∧ i < f.lo + f.w then v.testBit (i - f.lo) else x.getLsbD i := by
  unfold Fld.put Fld.mask
  simp only [BitVec.getLsbD_or, BitVec.getLsbD_and, BitVec.getLsbD_not, BitVec.getLsbD_ofNat, hi, decide_true, Bool.true_and,
    Nat.testBit_shiftLeft, Nat.testBit_mod_two_pow, Nat.testBit_two_pow_sub_one]
  by_cases h1 : f.lo ≤ i
  · by_cases h2 : i < f.lo + f.w
    · have : i - f.lo < f.w := by omega
      simp [h1, h2, this]
    · have : ¬ i - f.lo < f.w := by omega
      simp [h1, h2, this]
  · have h3 : ¬ i ≥ f.lo := h1
    simp [h1]

@[simp] theorem Fld.of_put_same (f : Fld) (x : Word) (v : Nat) (h : f.lo + f.w ≤ 64) : f.of (f.put x v) = v % 2 ^ f.w := by
  apply Nat.eq_of_testBit_eq
  intro i
  rw [Fld.testBit_of, Nat.testBit_mod_two_pow]
  by_cases hi : i < f.w
  · have h64 : f.lo + i < 64 := by omega
    have := Fld.getLsbD_put f x v (f.lo + i) h64
    rw [BitVec.getLsbD] at this
    rw [this]
    simp [hi]
  · simp [hi]

/-- A field that does not overlap the one written keeps its value. -/
theorem Fld.of_put_other (f g : Fld) (x : Word) (v : Nat) (hg : g.lo + g.w ≤ 64) (h : g.lo + g.w ≤ f.lo ∨ f.lo + f.w ≤ g.lo) :
    g.of (f.put x v) = g.of x := by
  apply Nat.eq_of_testBit_eq
  intro i
  rw [Fld.testBit_of, Fld.testBit_of]
  by_cases hi : i < g.w
  · have h64 : g.lo + i < 64 := by omega
    have := Fld.getLsbD_put f x v (g.lo + i) h64
    rw [BitVec.getLsbD] at this
    rw [this]
    have hn : ¬ (f.lo ≤ g.lo + i ∧ g.lo + i < f.lo + f.w) := by omega
    simp [hn, BitVec.getLsbD]
  · simp [hi]

@[simp] theorem Dev.reg_setFld_same (d : Dev) (a : Nat) (f : Fld) (v : Nat) : (d.setFld a f v).reg a = f.put (d.reg a) v := by
  simp [Dev.setFld]

theorem Dev.reg_setFld_other (d : Dev) (a b : Nat) (f : Fld) (v : Nat) (h : b ≠ a) : (d.setFld a f v).reg b = d.reg b := by
  simp [Dev.setFld, Dev.reg_setReg_other _ _ _ _ h]

@[simp] theorem Dev.reg_count_same (d : Dev) (a n : Nat) : (d.count a n).reg a = BitVec.ofNat 64 (((d.reg a).toNat + n) % 281474976710656) := by
  simp [Dev.count]

theorem Dev.reg_count_other (d : Dev) (a b n : Nat) (h : b ≠ a) : (d.count a n).reg b = d.reg b := by
  simp [Dev.count, Dev.reg_setReg_other _ _ _ _ h]

end Sys2Proof.Machine
end

