-- ==== Sys2Proof/Laws/State.lean ====
section
/-! SUPPORT. Fields of the device after each update: one lemma per field that an update leaves alone. -/

namespace Sys2Proof.Machine

@[simp] theorem Dev.setReg_pins (d : Dev) (a : Nat) (v : Word) : (d.setReg a v).pins = d.pins := rfl
@[simp] theorem Dev.setReg_ports (d : Dev) (a : Nat) (v : Word) : (d.setReg a v).ports = d.ports := rfl
@[simp] theorem Dev.setReg_rxq (d : Dev) (a : Nat) (v : Word) : (d.setReg a v).rxq = d.rxq := rfl
@[simp] theorem Dev.setReg_pkts (d : Dev) (a : Nat) (v : Word) : (d.setReg a v).pkts = d.pkts := rfl
@[simp] theorem Dev.setReg_turns (d : Dev) (a : Nat) (v : Word) : (d.setReg a v).turns = d.turns := rfl
@[simp] theorem Dev.setReg_discards (d : Dev) (a : Nat) (v : Word) : (d.setReg a v).discards = d.discards := rfl
@[simp] theorem Dev.setReg_credit (d : Dev) (a : Nat) (v : Word) : (d.setReg a v).credit = d.credit := rfl
@[simp] theorem Dev.setReg_creditAt (d : Dev) (a : Nat) (v : Word) : (d.setReg a v).creditAt = d.creditAt := rfl
@[simp] theorem Dev.setReg_data (d : Dev) (a : Nat) (v : Word) : (d.setReg a v).data = d.data := rfl
@[simp] theorem Dev.setReg_queues (d : Dev) (a : Nat) (v : Word) : (d.setReg a v).queues = d.queues := rfl
@[simp] theorem Dev.setReg_intakes (d : Dev) (a : Nat) (v : Word) : (d.setReg a v).intakes = d.intakes := rfl
@[simp] theorem Dev.setReg_residue (d : Dev) (a : Nat) (v : Word) : (d.setReg a v).residue = d.residue := rfl
@[simp] theorem Dev.setReg_repls (d : Dev) (a : Nat) (v : Word) : (d.setReg a v).repls = d.repls := rfl
@[simp] theorem Dev.setReg_spillQ (d : Dev) (a : Nat) (v : Word) : (d.setReg a v).spillQ = d.spillQ := rfl
@[simp] theorem Dev.setReg_recircAt (d : Dev) (a : Nat) (v : Word) : (d.setReg a v).recircAt = d.recircAt := rfl
@[simp] theorem Dev.setReg_countdown (d : Dev) (a : Nat) (v : Word) : (d.setReg a v).countdown = d.countdown := rfl
@[simp] theorem Dev.setReg_seqs (d : Dev) (a : Nat) (v : Word) : (d.setReg a v).seqs = d.seqs := rfl
@[simp] theorem Dev.setReg_captures (d : Dev) (a : Nat) (v : Word) : (d.setReg a v).captures = d.captures := rfl
@[simp] theorem Dev.setReg_buckets (d : Dev) (a : Nat) (v : Word) : (d.setReg a v).buckets = d.buckets := rfl
@[simp] theorem Dev.setReg_drr (d : Dev) (a : Nat) (v : Word) : (d.setReg a v).drr = d.drr := rfl
@[simp] theorem Dev.setReg_tables (d : Dev) (a : Nat) (v : Word) : (d.setReg a v).tables = d.tables := rfl
@[simp] theorem Dev.setReg_hitSets (d : Dev) (a : Nat) (v : Word) : (d.setReg a v).hitSets = d.hitSets := rfl
@[simp] theorem Dev.setReg_writeBacks (d : Dev) (a : Nat) (v : Word) : (d.setReg a v).writeBacks = d.writeBacks := rfl
@[simp] theorem Dev.setReg_fawn (d : Dev) (a : Nat) (v : Word) : (d.setReg a v).fawn = d.fawn := rfl
@[simp] theorem Dev.setReg_cands (d : Dev) (a : Nat) (v : Word) : (d.setReg a v).cands = d.cands := rfl
@[simp] theorem Dev.setReg_notes (d : Dev) (a : Nat) (v : Word) : (d.setReg a v).notes = d.notes := rfl
@[simp] theorem Dev.setReg_fences (d : Dev) (a : Nat) (v : Word) : (d.setReg a v).fences = d.fences := rfl
@[simp] theorem Dev.setReg_cham (d : Dev) (a : Nat) (v : Word) : (d.setReg a v).cham = d.cham := rfl
@[simp] theorem Dev.setReg_chQueues (d : Dev) (a : Nat) (v : Word) : (d.setReg a v).chQueues = d.chQueues := rfl
@[simp] theorem Dev.setReg_cmp (d : Dev) (a : Nat) (v : Word) : (d.setReg a v).cmp = d.cmp := rfl
@[simp] theorem Dev.setReg_engines (d : Dev) (a : Nat) (v : Word) : (d.setReg a v).engines = d.engines := rfl
@[simp] theorem Dev.setReg_dmem (d : Dev) (a : Nat) (v : Word) : (d.setReg a v).dmem = d.dmem := rfl
@[simp] theorem Dev.setReg_dmemBad (d : Dev) (a : Nat) (v : Word) : (d.setReg a v).dmemBad = d.dmemBad := rfl
@[simp] theorem Dev.setReg_frags (d : Dev) (a : Nat) (v : Word) : (d.setReg a v).frags = d.frags := rfl
@[simp] theorem Dev.setReg_gens (d : Dev) (a : Nat) (v : Word) : (d.setReg a v).gens = d.gens := rfl
@[simp] theorem Dev.setReg_flipping (d : Dev) (a : Nat) (v : Word) : (d.setReg a v).flipping = d.flipping := rfl
@[simp] theorem Dev.setReg_flipped (d : Dev) (a : Nat) (v : Word) : (d.setReg a v).flipped = d.flipped := rfl
@[simp] theorem Dev.setReg_drainFrom (d : Dev) (a : Nat) (v : Word) : (d.setReg a v).drainFrom = d.drainFrom := rfl
@[simp] theorem Dev.setReg_drainSlow (d : Dev) (a : Nat) (v : Word) : (d.setReg a v).drainSlow = d.drainSlow := rfl
@[simp] theorem Dev.setReg_loader (d : Dev) (a : Nat) (v : Word) : (d.setReg a v).loader = d.loader := rfl
@[simp] theorem Dev.setReg_tim (d : Dev) (a : Nat) (v : Word) : (d.setReg a v).tim = d.tim := rfl
@[simp] theorem Dev.setReg_gates (d : Dev) (a : Nat) (v : Word) : (d.setReg a v).gates = d.gates := rfl
@[simp] theorem Dev.setReg_pwr (d : Dev) (a : Nat) (v : Word) : (d.setReg a v).pwr = d.pwr := rfl
@[simp] theorem Dev.setReg_chans (d : Dev) (a : Nat) (v : Word) : (d.setReg a v).chans = d.chans := rfl
@[simp] theorem Dev.setReg_answers (d : Dev) (a : Nat) (v : Word) : (d.setReg a v).answers = d.answers := rfl
@[simp] theorem Dev.setReg_hif (d : Dev) (a : Nat) (v : Word) : (d.setReg a v).hif = d.hif := rfl
@[simp] theorem Dev.setReg_flt (d : Dev) (a : Nat) (v : Word) : (d.setReg a v).flt = d.flt := rfl
@[simp] theorem Dev.setReg_elapsed (d : Dev) (a : Nat) (v : Word) : (d.setReg a v).elapsed = d.elapsed := rfl
@[simp] theorem Dev.setReg_wire (d : Dev) (a : Nat) (v : Word) : (d.setReg a v).wire = d.wire := rfl
@[simp] theorem Dev.setReg_bus (d : Dev) (a : Nat) (v : Word) : (d.setReg a v).bus = d.bus := rfl
@[simp] theorem Dev.setReg_sbOut (d : Dev) (a : Nat) (v : Word) : (d.setReg a v).sbOut = d.sbOut := rfl
@[simp] theorem Dev.setReg_ctxDiscards (d : Dev) (a : Nat) (v : Word) : (d.setReg a v).ctxDiscards = d.ctxDiscards := rfl
@[simp] theorem Dev.setReg_freeCtr (d : Dev) (a : Nat) (v : Word) : (d.setReg a v).freeCtr = d.freeCtr := rfl
@[simp] theorem Dev.setReg_pidCtr (d : Dev) (a : Nat) (v : Word) : (d.setReg a v).pidCtr = d.pidCtr := rfl

@[simp] theorem Dev.setFld_pins (d : Dev) (a : Nat) (f : Fld) (v : Nat) : (d.setFld a f v).pins = d.pins := rfl
@[simp] theorem Dev.setFld_ports (d : Dev) (a : Nat) (f : Fld) (v : Nat) : (d.setFld a f v).ports = d.ports := rfl
@[simp] theorem Dev.setFld_rxq (d : Dev) (a : Nat) (f : Fld) (v : Nat) : (d.setFld a f v).rxq = d.rxq := rfl
@[simp] theorem Dev.setFld_pkts (d : Dev) (a : Nat) (f : Fld) (v : Nat) : (d.setFld a f v).pkts = d.pkts := rfl
@[simp] theorem Dev.setFld_turns (d : Dev) (a : Nat) (f : Fld) (v : Nat) : (d.setFld a f v).turns = d.turns := rfl
@[simp] theorem Dev.setFld_discards (d : Dev) (a : Nat) (f : Fld) (v : Nat) : (d.setFld a f v).discards = d.discards := rfl
@[simp] theorem Dev.setFld_credit (d : Dev) (a : Nat) (f : Fld) (v : Nat) : (d.setFld a f v).credit = d.credit := rfl
@[simp] theorem Dev.setFld_creditAt (d : Dev) (a : Nat) (f : Fld) (v : Nat) : (d.setFld a f v).creditAt = d.creditAt := rfl
@[simp] theorem Dev.setFld_data (d : Dev) (a : Nat) (f : Fld) (v : Nat) : (d.setFld a f v).data = d.data := rfl
@[simp] theorem Dev.setFld_queues (d : Dev) (a : Nat) (f : Fld) (v : Nat) : (d.setFld a f v).queues = d.queues := rfl
@[simp] theorem Dev.setFld_intakes (d : Dev) (a : Nat) (f : Fld) (v : Nat) : (d.setFld a f v).intakes = d.intakes := rfl
@[simp] theorem Dev.setFld_residue (d : Dev) (a : Nat) (f : Fld) (v : Nat) : (d.setFld a f v).residue = d.residue := rfl
@[simp] theorem Dev.setFld_repls (d : Dev) (a : Nat) (f : Fld) (v : Nat) : (d.setFld a f v).repls = d.repls := rfl
@[simp] theorem Dev.setFld_spillQ (d : Dev) (a : Nat) (f : Fld) (v : Nat) : (d.setFld a f v).spillQ = d.spillQ := rfl
@[simp] theorem Dev.setFld_recircAt (d : Dev) (a : Nat) (f : Fld) (v : Nat) : (d.setFld a f v).recircAt = d.recircAt := rfl
@[simp] theorem Dev.setFld_countdown (d : Dev) (a : Nat) (f : Fld) (v : Nat) : (d.setFld a f v).countdown = d.countdown := rfl
@[simp] theorem Dev.setFld_seqs (d : Dev) (a : Nat) (f : Fld) (v : Nat) : (d.setFld a f v).seqs = d.seqs := rfl
@[simp] theorem Dev.setFld_captures (d : Dev) (a : Nat) (f : Fld) (v : Nat) : (d.setFld a f v).captures = d.captures := rfl
@[simp] theorem Dev.setFld_buckets (d : Dev) (a : Nat) (f : Fld) (v : Nat) : (d.setFld a f v).buckets = d.buckets := rfl
@[simp] theorem Dev.setFld_drr (d : Dev) (a : Nat) (f : Fld) (v : Nat) : (d.setFld a f v).drr = d.drr := rfl
@[simp] theorem Dev.setFld_tables (d : Dev) (a : Nat) (f : Fld) (v : Nat) : (d.setFld a f v).tables = d.tables := rfl
@[simp] theorem Dev.setFld_hitSets (d : Dev) (a : Nat) (f : Fld) (v : Nat) : (d.setFld a f v).hitSets = d.hitSets := rfl
@[simp] theorem Dev.setFld_writeBacks (d : Dev) (a : Nat) (f : Fld) (v : Nat) : (d.setFld a f v).writeBacks = d.writeBacks := rfl
@[simp] theorem Dev.setFld_fawn (d : Dev) (a : Nat) (f : Fld) (v : Nat) : (d.setFld a f v).fawn = d.fawn := rfl
@[simp] theorem Dev.setFld_cands (d : Dev) (a : Nat) (f : Fld) (v : Nat) : (d.setFld a f v).cands = d.cands := rfl
@[simp] theorem Dev.setFld_notes (d : Dev) (a : Nat) (f : Fld) (v : Nat) : (d.setFld a f v).notes = d.notes := rfl
@[simp] theorem Dev.setFld_fences (d : Dev) (a : Nat) (f : Fld) (v : Nat) : (d.setFld a f v).fences = d.fences := rfl
@[simp] theorem Dev.setFld_cham (d : Dev) (a : Nat) (f : Fld) (v : Nat) : (d.setFld a f v).cham = d.cham := rfl
@[simp] theorem Dev.setFld_chQueues (d : Dev) (a : Nat) (f : Fld) (v : Nat) : (d.setFld a f v).chQueues = d.chQueues := rfl
@[simp] theorem Dev.setFld_cmp (d : Dev) (a : Nat) (f : Fld) (v : Nat) : (d.setFld a f v).cmp = d.cmp := rfl
@[simp] theorem Dev.setFld_engines (d : Dev) (a : Nat) (f : Fld) (v : Nat) : (d.setFld a f v).engines = d.engines := rfl
@[simp] theorem Dev.setFld_dmem (d : Dev) (a : Nat) (f : Fld) (v : Nat) : (d.setFld a f v).dmem = d.dmem := rfl
@[simp] theorem Dev.setFld_dmemBad (d : Dev) (a : Nat) (f : Fld) (v : Nat) : (d.setFld a f v).dmemBad = d.dmemBad := rfl
@[simp] theorem Dev.setFld_frags (d : Dev) (a : Nat) (f : Fld) (v : Nat) : (d.setFld a f v).frags = d.frags := rfl
@[simp] theorem Dev.setFld_gens (d : Dev) (a : Nat) (f : Fld) (v : Nat) : (d.setFld a f v).gens = d.gens := rfl
@[simp] theorem Dev.setFld_flipping (d : Dev) (a : Nat) (f : Fld) (v : Nat) : (d.setFld a f v).flipping = d.flipping := rfl
@[simp] theorem Dev.setFld_flipped (d : Dev) (a : Nat) (f : Fld) (v : Nat) : (d.setFld a f v).flipped = d.flipped := rfl
@[simp] theorem Dev.setFld_drainFrom (d : Dev) (a : Nat) (f : Fld) (v : Nat) : (d.setFld a f v).drainFrom = d.drainFrom := rfl
@[simp] theorem Dev.setFld_drainSlow (d : Dev) (a : Nat) (f : Fld) (v : Nat) : (d.setFld a f v).drainSlow = d.drainSlow := rfl
@[simp] theorem Dev.setFld_loader (d : Dev) (a : Nat) (f : Fld) (v : Nat) : (d.setFld a f v).loader = d.loader := rfl
@[simp] theorem Dev.setFld_tim (d : Dev) (a : Nat) (f : Fld) (v : Nat) : (d.setFld a f v).tim = d.tim := rfl
@[simp] theorem Dev.setFld_gates (d : Dev) (a : Nat) (f : Fld) (v : Nat) : (d.setFld a f v).gates = d.gates := rfl
@[simp] theorem Dev.setFld_pwr (d : Dev) (a : Nat) (f : Fld) (v : Nat) : (d.setFld a f v).pwr = d.pwr := rfl
@[simp] theorem Dev.setFld_chans (d : Dev) (a : Nat) (f : Fld) (v : Nat) : (d.setFld a f v).chans = d.chans := rfl
@[simp] theorem Dev.setFld_answers (d : Dev) (a : Nat) (f : Fld) (v : Nat) : (d.setFld a f v).answers = d.answers := rfl
@[simp] theorem Dev.setFld_hif (d : Dev) (a : Nat) (f : Fld) (v : Nat) : (d.setFld a f v).hif = d.hif := rfl
@[simp] theorem Dev.setFld_flt (d : Dev) (a : Nat) (f : Fld) (v : Nat) : (d.setFld a f v).flt = d.flt := rfl
@[simp] theorem Dev.setFld_elapsed (d : Dev) (a : Nat) (f : Fld) (v : Nat) : (d.setFld a f v).elapsed = d.elapsed := rfl
@[simp] theorem Dev.setFld_wire (d : Dev) (a : Nat) (f : Fld) (v : Nat) : (d.setFld a f v).wire = d.wire := rfl
@[simp] theorem Dev.setFld_bus (d : Dev) (a : Nat) (f : Fld) (v : Nat) : (d.setFld a f v).bus = d.bus := rfl
@[simp] theorem Dev.setFld_sbOut (d : Dev) (a : Nat) (f : Fld) (v : Nat) : (d.setFld a f v).sbOut = d.sbOut := rfl
@[simp] theorem Dev.setFld_ctxDiscards (d : Dev) (a : Nat) (f : Fld) (v : Nat) : (d.setFld a f v).ctxDiscards = d.ctxDiscards := rfl
@[simp] theorem Dev.setFld_freeCtr (d : Dev) (a : Nat) (f : Fld) (v : Nat) : (d.setFld a f v).freeCtr = d.freeCtr := rfl
@[simp] theorem Dev.setFld_pidCtr (d : Dev) (a : Nat) (f : Fld) (v : Nat) : (d.setFld a f v).pidCtr = d.pidCtr := rfl

@[simp] theorem Dev.count_pins (d : Dev) (a n : Nat) : (d.count a n).pins = d.pins := rfl
@[simp] theorem Dev.count_ports (d : Dev) (a n : Nat) : (d.count a n).ports = d.ports := rfl
@[simp] theorem Dev.count_rxq (d : Dev) (a n : Nat) : (d.count a n).rxq = d.rxq := rfl
@[simp] theorem Dev.count_pkts (d : Dev) (a n : Nat) : (d.count a n).pkts = d.pkts := rfl
@[simp] theorem Dev.count_turns (d : Dev) (a n : Nat) : (d.count a n).turns = d.turns := rfl
@[simp] theorem Dev.count_discards (d : Dev) (a n : Nat) : (d.count a n).discards = d.discards := rfl
@[simp] theorem Dev.count_credit (d : Dev) (a n : Nat) : (d.count a n).credit = d.credit := rfl
@[simp] theorem Dev.count_creditAt (d : Dev) (a n : Nat) : (d.count a n).creditAt = d.creditAt := rfl
@[simp] theorem Dev.count_data (d : Dev) (a n : Nat) : (d.count a n).data = d.data := rfl
@[simp] theorem Dev.count_queues (d : Dev) (a n : Nat) : (d.count a n).queues = d.queues := rfl
@[simp] theorem Dev.count_intakes (d : Dev) (a n : Nat) : (d.count a n).intakes = d.intakes := rfl
@[simp] theorem Dev.count_residue (d : Dev) (a n : Nat) : (d.count a n).residue = d.residue := rfl
@[simp] theorem Dev.count_repls (d : Dev) (a n : Nat) : (d.count a n).repls = d.repls := rfl
@[simp] theorem Dev.count_spillQ (d : Dev) (a n : Nat) : (d.count a n).spillQ = d.spillQ := rfl
@[simp] theorem Dev.count_recircAt (d : Dev) (a n : Nat) : (d.count a n).recircAt = d.recircAt := rfl
@[simp] theorem Dev.count_countdown (d : Dev) (a n : Nat) : (d.count a n).countdown = d.countdown := rfl
@[simp] theorem Dev.count_seqs (d : Dev) (a n : Nat) : (d.count a n).seqs = d.seqs := rfl
@[simp] theorem Dev.count_captures (d : Dev) (a n : Nat) : (d.count a n).captures = d.captures := rfl
@[simp] theorem Dev.count_buckets (d : Dev) (a n : Nat) : (d.count a n).buckets = d.buckets := rfl
@[simp] theorem Dev.count_drr (d : Dev) (a n : Nat) : (d.count a n).drr = d.drr := rfl
@[simp] theorem Dev.count_tables (d : Dev) (a n : Nat) : (d.count a n).tables = d.tables := rfl
@[simp] theorem Dev.count_hitSets (d : Dev) (a n : Nat) : (d.count a n).hitSets = d.hitSets := rfl
@[simp] theorem Dev.count_writeBacks (d : Dev) (a n : Nat) : (d.count a n).writeBacks = d.writeBacks := rfl
@[simp] theorem Dev.count_fawn (d : Dev) (a n : Nat) : (d.count a n).fawn = d.fawn := rfl
@[simp] theorem Dev.count_cands (d : Dev) (a n : Nat) : (d.count a n).cands = d.cands := rfl
@[simp] theorem Dev.count_notes (d : Dev) (a n : Nat) : (d.count a n).notes = d.notes := rfl
@[simp] theorem Dev.count_fences (d : Dev) (a n : Nat) : (d.count a n).fences = d.fences := rfl
@[simp] theorem Dev.count_cham (d : Dev) (a n : Nat) : (d.count a n).cham = d.cham := rfl
@[simp] theorem Dev.count_chQueues (d : Dev) (a n : Nat) : (d.count a n).chQueues = d.chQueues := rfl
@[simp] theorem Dev.count_cmp (d : Dev) (a n : Nat) : (d.count a n).cmp = d.cmp := rfl
@[simp] theorem Dev.count_engines (d : Dev) (a n : Nat) : (d.count a n).engines = d.engines := rfl
@[simp] theorem Dev.count_dmem (d : Dev) (a n : Nat) : (d.count a n).dmem = d.dmem := rfl
@[simp] theorem Dev.count_dmemBad (d : Dev) (a n : Nat) : (d.count a n).dmemBad = d.dmemBad := rfl
@[simp] theorem Dev.count_frags (d : Dev) (a n : Nat) : (d.count a n).frags = d.frags := rfl
@[simp] theorem Dev.count_gens (d : Dev) (a n : Nat) : (d.count a n).gens = d.gens := rfl
@[simp] theorem Dev.count_flipping (d : Dev) (a n : Nat) : (d.count a n).flipping = d.flipping := rfl
@[simp] theorem Dev.count_flipped (d : Dev) (a n : Nat) : (d.count a n).flipped = d.flipped := rfl
@[simp] theorem Dev.count_drainFrom (d : Dev) (a n : Nat) : (d.count a n).drainFrom = d.drainFrom := rfl
@[simp] theorem Dev.count_drainSlow (d : Dev) (a n : Nat) : (d.count a n).drainSlow = d.drainSlow := rfl
@[simp] theorem Dev.count_loader (d : Dev) (a n : Nat) : (d.count a n).loader = d.loader := rfl
@[simp] theorem Dev.count_tim (d : Dev) (a n : Nat) : (d.count a n).tim = d.tim := rfl
@[simp] theorem Dev.count_gates (d : Dev) (a n : Nat) : (d.count a n).gates = d.gates := rfl
@[simp] theorem Dev.count_pwr (d : Dev) (a n : Nat) : (d.count a n).pwr = d.pwr := rfl
@[simp] theorem Dev.count_chans (d : Dev) (a n : Nat) : (d.count a n).chans = d.chans := rfl
@[simp] theorem Dev.count_answers (d : Dev) (a n : Nat) : (d.count a n).answers = d.answers := rfl
@[simp] theorem Dev.count_hif (d : Dev) (a n : Nat) : (d.count a n).hif = d.hif := rfl
@[simp] theorem Dev.count_flt (d : Dev) (a n : Nat) : (d.count a n).flt = d.flt := rfl
@[simp] theorem Dev.count_elapsed (d : Dev) (a n : Nat) : (d.count a n).elapsed = d.elapsed := rfl
@[simp] theorem Dev.count_wire (d : Dev) (a n : Nat) : (d.count a n).wire = d.wire := rfl
@[simp] theorem Dev.count_bus (d : Dev) (a n : Nat) : (d.count a n).bus = d.bus := rfl
@[simp] theorem Dev.count_sbOut (d : Dev) (a n : Nat) : (d.count a n).sbOut = d.sbOut := rfl
@[simp] theorem Dev.count_ctxDiscards (d : Dev) (a n : Nat) : (d.count a n).ctxDiscards = d.ctxDiscards := rfl
@[simp] theorem Dev.count_freeCtr (d : Dev) (a n : Nat) : (d.count a n).freeCtr = d.freeCtr := rfl
@[simp] theorem Dev.count_pidCtr (d : Dev) (a n : Nat) : (d.count a n).pidCtr = d.pidCtr := rfl

@[simp] theorem Dev.setPkt_regs (d : Dev) (c : Nat) (p : Pkt) : (d.setPkt c p).regs = d.regs := rfl
@[simp] theorem Dev.setPkt_pins (d : Dev) (c : Nat) (p : Pkt) : (d.setPkt c p).pins = d.pins := rfl
@[simp] theorem Dev.setPkt_ports (d : Dev) (c : Nat) (p : Pkt) : (d.setPkt c p).ports = d.ports := rfl
@[simp] theorem Dev.setPkt_rxq (d : Dev) (c : Nat) (p : Pkt) : (d.setPkt c p).rxq = d.rxq := rfl
@[simp] theorem Dev.setPkt_turns (d : Dev) (c : Nat) (p : Pkt) : (d.setPkt c p).turns = d.turns := rfl
@[simp] theorem Dev.setPkt_discards (d : Dev) (c : Nat) (p : Pkt) : (d.setPkt c p).discards = d.discards := rfl
@[simp] theorem Dev.setPkt_credit (d : Dev) (c : Nat) (p : Pkt) : (d.setPkt c p).credit = d.credit := rfl
@[simp] theorem Dev.setPkt_creditAt (d : Dev) (c : Nat) (p : Pkt) : (d.setPkt c p).creditAt = d.creditAt := rfl
@[simp] theorem Dev.setPkt_data (d : Dev) (c : Nat) (p : Pkt) : (d.setPkt c p).data = d.data := rfl
@[simp] theorem Dev.setPkt_queues (d : Dev) (c : Nat) (p : Pkt) : (d.setPkt c p).queues = d.queues := rfl
@[simp] theorem Dev.setPkt_intakes (d : Dev) (c : Nat) (p : Pkt) : (d.setPkt c p).intakes = d.intakes := rfl
@[simp] theorem Dev.setPkt_residue (d : Dev) (c : Nat) (p : Pkt) : (d.setPkt c p).residue = d.residue := rfl
@[simp] theorem Dev.setPkt_repls (d : Dev) (c : Nat) (p : Pkt) : (d.setPkt c p).repls = d.repls := rfl
@[simp] theorem Dev.setPkt_spillQ (d : Dev) (c : Nat) (p : Pkt) : (d.setPkt c p).spillQ = d.spillQ := rfl
@[simp] theorem Dev.setPkt_recircAt (d : Dev) (c : Nat) (p : Pkt) : (d.setPkt c p).recircAt = d.recircAt := rfl
@[simp] theorem Dev.setPkt_countdown (d : Dev) (c : Nat) (p : Pkt) : (d.setPkt c p).countdown = d.countdown := rfl
@[simp] theorem Dev.setPkt_seqs (d : Dev) (c : Nat) (p : Pkt) : (d.setPkt c p).seqs = d.seqs := rfl
@[simp] theorem Dev.setPkt_captures (d : Dev) (c : Nat) (p : Pkt) : (d.setPkt c p).captures = d.captures := rfl
@[simp] theorem Dev.setPkt_buckets (d : Dev) (c : Nat) (p : Pkt) : (d.setPkt c p).buckets = d.buckets := rfl
@[simp] theorem Dev.setPkt_drr (d : Dev) (c : Nat) (p : Pkt) : (d.setPkt c p).drr = d.drr := rfl
@[simp] theorem Dev.setPkt_tables (d : Dev) (c : Nat) (p : Pkt) : (d.setPkt c p).tables = d.tables := rfl
@[simp] theorem Dev.setPkt_hitSets (d : Dev) (c : Nat) (p : Pkt) : (d.setPkt c p).hitSets = d.hitSets := rfl
@[simp] theorem Dev.setPkt_writeBacks (d : Dev) (c : Nat) (p : Pkt) : (d.setPkt c p).writeBacks = d.writeBacks := rfl
@[simp] theorem Dev.setPkt_fawn (d : Dev) (c : Nat) (p : Pkt) : (d.setPkt c p).fawn = d.fawn := rfl
@[simp] theorem Dev.setPkt_cands (d : Dev) (c : Nat) (p : Pkt) : (d.setPkt c p).cands = d.cands := rfl
@[simp] theorem Dev.setPkt_notes (d : Dev) (c : Nat) (p : Pkt) : (d.setPkt c p).notes = d.notes := rfl
@[simp] theorem Dev.setPkt_fences (d : Dev) (c : Nat) (p : Pkt) : (d.setPkt c p).fences = d.fences := rfl
@[simp] theorem Dev.setPkt_cham (d : Dev) (c : Nat) (p : Pkt) : (d.setPkt c p).cham = d.cham := rfl
@[simp] theorem Dev.setPkt_chQueues (d : Dev) (c : Nat) (p : Pkt) : (d.setPkt c p).chQueues = d.chQueues := rfl
@[simp] theorem Dev.setPkt_cmp (d : Dev) (c : Nat) (p : Pkt) : (d.setPkt c p).cmp = d.cmp := rfl
@[simp] theorem Dev.setPkt_engines (d : Dev) (c : Nat) (p : Pkt) : (d.setPkt c p).engines = d.engines := rfl
@[simp] theorem Dev.setPkt_dmem (d : Dev) (c : Nat) (p : Pkt) : (d.setPkt c p).dmem = d.dmem := rfl
@[simp] theorem Dev.setPkt_dmemBad (d : Dev) (c : Nat) (p : Pkt) : (d.setPkt c p).dmemBad = d.dmemBad := rfl
@[simp] theorem Dev.setPkt_frags (d : Dev) (c : Nat) (p : Pkt) : (d.setPkt c p).frags = d.frags := rfl
@[simp] theorem Dev.setPkt_gens (d : Dev) (c : Nat) (p : Pkt) : (d.setPkt c p).gens = d.gens := rfl
@[simp] theorem Dev.setPkt_flipping (d : Dev) (c : Nat) (p : Pkt) : (d.setPkt c p).flipping = d.flipping := rfl
@[simp] theorem Dev.setPkt_flipped (d : Dev) (c : Nat) (p : Pkt) : (d.setPkt c p).flipped = d.flipped := rfl
@[simp] theorem Dev.setPkt_drainFrom (d : Dev) (c : Nat) (p : Pkt) : (d.setPkt c p).drainFrom = d.drainFrom := rfl
@[simp] theorem Dev.setPkt_drainSlow (d : Dev) (c : Nat) (p : Pkt) : (d.setPkt c p).drainSlow = d.drainSlow := rfl
@[simp] theorem Dev.setPkt_loader (d : Dev) (c : Nat) (p : Pkt) : (d.setPkt c p).loader = d.loader := rfl
@[simp] theorem Dev.setPkt_tim (d : Dev) (c : Nat) (p : Pkt) : (d.setPkt c p).tim = d.tim := rfl
@[simp] theorem Dev.setPkt_gates (d : Dev) (c : Nat) (p : Pkt) : (d.setPkt c p).gates = d.gates := rfl
@[simp] theorem Dev.setPkt_pwr (d : Dev) (c : Nat) (p : Pkt) : (d.setPkt c p).pwr = d.pwr := rfl
@[simp] theorem Dev.setPkt_chans (d : Dev) (c : Nat) (p : Pkt) : (d.setPkt c p).chans = d.chans := rfl
@[simp] theorem Dev.setPkt_answers (d : Dev) (c : Nat) (p : Pkt) : (d.setPkt c p).answers = d.answers := rfl
@[simp] theorem Dev.setPkt_hif (d : Dev) (c : Nat) (p : Pkt) : (d.setPkt c p).hif = d.hif := rfl
@[simp] theorem Dev.setPkt_flt (d : Dev) (c : Nat) (p : Pkt) : (d.setPkt c p).flt = d.flt := rfl
@[simp] theorem Dev.setPkt_elapsed (d : Dev) (c : Nat) (p : Pkt) : (d.setPkt c p).elapsed = d.elapsed := rfl
@[simp] theorem Dev.setPkt_wire (d : Dev) (c : Nat) (p : Pkt) : (d.setPkt c p).wire = d.wire := rfl
@[simp] theorem Dev.setPkt_bus (d : Dev) (c : Nat) (p : Pkt) : (d.setPkt c p).bus = d.bus := rfl
@[simp] theorem Dev.setPkt_sbOut (d : Dev) (c : Nat) (p : Pkt) : (d.setPkt c p).sbOut = d.sbOut := rfl
@[simp] theorem Dev.setPkt_ctxDiscards (d : Dev) (c : Nat) (p : Pkt) : (d.setPkt c p).ctxDiscards = d.ctxDiscards := rfl
@[simp] theorem Dev.setPkt_freeCtr (d : Dev) (c : Nat) (p : Pkt) : (d.setPkt c p).freeCtr = d.freeCtr := rfl
@[simp] theorem Dev.setPkt_pidCtr (d : Dev) (c : Nat) (p : Pkt) : (d.setPkt c p).pidCtr = d.pidCtr := rfl

@[simp] theorem Dev.dropPkt_regs (d : Dev) (c : Nat) : (d.dropPkt c).regs = d.regs := rfl
@[simp] theorem Dev.dropPkt_pins (d : Dev) (c : Nat) : (d.dropPkt c).pins = d.pins := rfl
@[simp] theorem Dev.dropPkt_ports (d : Dev) (c : Nat) : (d.dropPkt c).ports = d.ports := rfl
@[simp] theorem Dev.dropPkt_rxq (d : Dev) (c : Nat) : (d.dropPkt c).rxq = d.rxq := rfl
@[simp] theorem Dev.dropPkt_turns (d : Dev) (c : Nat) : (d.dropPkt c).turns = d.turns := rfl
@[simp] theorem Dev.dropPkt_discards (d : Dev) (c : Nat) : (d.dropPkt c).discards = d.discards := rfl
@[simp] theorem Dev.dropPkt_credit (d : Dev) (c : Nat) : (d.dropPkt c).credit = d.credit := rfl
@[simp] theorem Dev.dropPkt_creditAt (d : Dev) (c : Nat) : (d.dropPkt c).creditAt = d.creditAt := rfl
@[simp] theorem Dev.dropPkt_data (d : Dev) (c : Nat) : (d.dropPkt c).data = d.data := rfl
@[simp] theorem Dev.dropPkt_queues (d : Dev) (c : Nat) : (d.dropPkt c).queues = d.queues := rfl
@[simp] theorem Dev.dropPkt_intakes (d : Dev) (c : Nat) : (d.dropPkt c).intakes = d.intakes := rfl
@[simp] theorem Dev.dropPkt_residue (d : Dev) (c : Nat) : (d.dropPkt c).residue = d.residue := rfl
@[simp] theorem Dev.dropPkt_repls (d : Dev) (c : Nat) : (d.dropPkt c).repls = d.repls := rfl
@[simp] theorem Dev.dropPkt_spillQ (d : Dev) (c : Nat) : (d.dropPkt c).spillQ = d.spillQ := rfl
@[simp] theorem Dev.dropPkt_recircAt (d : Dev) (c : Nat) : (d.dropPkt c).recircAt = d.recircAt := rfl
@[simp] theorem Dev.dropPkt_countdown (d : Dev) (c : Nat) : (d.dropPkt c).countdown = d.countdown := rfl
@[simp] theorem Dev.dropPkt_seqs (d : Dev) (c : Nat) : (d.dropPkt c).seqs = d.seqs := rfl
@[simp] theorem Dev.dropPkt_captures (d : Dev) (c : Nat) : (d.dropPkt c).captures = d.captures := rfl
@[simp] theorem Dev.dropPkt_buckets (d : Dev) (c : Nat) : (d.dropPkt c).buckets = d.buckets := rfl
@[simp] theorem Dev.dropPkt_drr (d : Dev) (c : Nat) : (d.dropPkt c).drr = d.drr := rfl
@[simp] theorem Dev.dropPkt_tables (d : Dev) (c : Nat) : (d.dropPkt c).tables = d.tables := rfl
@[simp] theorem Dev.dropPkt_hitSets (d : Dev) (c : Nat) : (d.dropPkt c).hitSets = d.hitSets := rfl
@[simp] theorem Dev.dropPkt_writeBacks (d : Dev) (c : Nat) : (d.dropPkt c).writeBacks = d.writeBacks := rfl
@[simp] theorem Dev.dropPkt_fawn (d : Dev) (c : Nat) : (d.dropPkt c).fawn = d.fawn := rfl
@[simp] theorem Dev.dropPkt_cands (d : Dev) (c : Nat) : (d.dropPkt c).cands = d.cands := rfl
@[simp] theorem Dev.dropPkt_notes (d : Dev) (c : Nat) : (d.dropPkt c).notes = d.notes := rfl
@[simp] theorem Dev.dropPkt_fences (d : Dev) (c : Nat) : (d.dropPkt c).fences = d.fences := rfl
@[simp] theorem Dev.dropPkt_cham (d : Dev) (c : Nat) : (d.dropPkt c).cham = d.cham := rfl
@[simp] theorem Dev.dropPkt_chQueues (d : Dev) (c : Nat) : (d.dropPkt c).chQueues = d.chQueues := rfl
@[simp] theorem Dev.dropPkt_cmp (d : Dev) (c : Nat) : (d.dropPkt c).cmp = d.cmp := rfl
@[simp] theorem Dev.dropPkt_engines (d : Dev) (c : Nat) : (d.dropPkt c).engines = d.engines := rfl
@[simp] theorem Dev.dropPkt_dmem (d : Dev) (c : Nat) : (d.dropPkt c).dmem = d.dmem := rfl
@[simp] theorem Dev.dropPkt_dmemBad (d : Dev) (c : Nat) : (d.dropPkt c).dmemBad = d.dmemBad := rfl
@[simp] theorem Dev.dropPkt_frags (d : Dev) (c : Nat) : (d.dropPkt c).frags = d.frags := rfl
@[simp] theorem Dev.dropPkt_gens (d : Dev) (c : Nat) : (d.dropPkt c).gens = d.gens := rfl
@[simp] theorem Dev.dropPkt_flipping (d : Dev) (c : Nat) : (d.dropPkt c).flipping = d.flipping := rfl
@[simp] theorem Dev.dropPkt_flipped (d : Dev) (c : Nat) : (d.dropPkt c).flipped = d.flipped := rfl
@[simp] theorem Dev.dropPkt_drainFrom (d : Dev) (c : Nat) : (d.dropPkt c).drainFrom = d.drainFrom := rfl
@[simp] theorem Dev.dropPkt_drainSlow (d : Dev) (c : Nat) : (d.dropPkt c).drainSlow = d.drainSlow := rfl
@[simp] theorem Dev.dropPkt_loader (d : Dev) (c : Nat) : (d.dropPkt c).loader = d.loader := rfl
@[simp] theorem Dev.dropPkt_tim (d : Dev) (c : Nat) : (d.dropPkt c).tim = d.tim := rfl
@[simp] theorem Dev.dropPkt_gates (d : Dev) (c : Nat) : (d.dropPkt c).gates = d.gates := rfl
@[simp] theorem Dev.dropPkt_pwr (d : Dev) (c : Nat) : (d.dropPkt c).pwr = d.pwr := rfl
@[simp] theorem Dev.dropPkt_chans (d : Dev) (c : Nat) : (d.dropPkt c).chans = d.chans := rfl
@[simp] theorem Dev.dropPkt_answers (d : Dev) (c : Nat) : (d.dropPkt c).answers = d.answers := rfl
@[simp] theorem Dev.dropPkt_hif (d : Dev) (c : Nat) : (d.dropPkt c).hif = d.hif := rfl
@[simp] theorem Dev.dropPkt_flt (d : Dev) (c : Nat) : (d.dropPkt c).flt = d.flt := rfl
@[simp] theorem Dev.dropPkt_elapsed (d : Dev) (c : Nat) : (d.dropPkt c).elapsed = d.elapsed := rfl
@[simp] theorem Dev.dropPkt_wire (d : Dev) (c : Nat) : (d.dropPkt c).wire = d.wire := rfl
@[simp] theorem Dev.dropPkt_bus (d : Dev) (c : Nat) : (d.dropPkt c).bus = d.bus := rfl
@[simp] theorem Dev.dropPkt_sbOut (d : Dev) (c : Nat) : (d.dropPkt c).sbOut = d.sbOut := rfl
@[simp] theorem Dev.dropPkt_ctxDiscards (d : Dev) (c : Nat) : (d.dropPkt c).ctxDiscards = d.ctxDiscards := rfl
@[simp] theorem Dev.dropPkt_freeCtr (d : Dev) (c : Nat) : (d.dropPkt c).freeCtr = d.freeCtr := rfl
@[simp] theorem Dev.dropPkt_pidCtr (d : Dev) (c : Nat) : (d.dropPkt c).pidCtr = d.pidCtr := rfl

@[simp] theorem Dev.setGen_regs (d : Dev) (g : Nat) (x : Gen) : (d.setGen g x).regs = d.regs := rfl
@[simp] theorem Dev.setGen_pins (d : Dev) (g : Nat) (x : Gen) : (d.setGen g x).pins = d.pins := rfl
@[simp] theorem Dev.setGen_ports (d : Dev) (g : Nat) (x : Gen) : (d.setGen g x).ports = d.ports := rfl
@[simp] theorem Dev.setGen_rxq (d : Dev) (g : Nat) (x : Gen) : (d.setGen g x).rxq = d.rxq := rfl
@[simp] theorem Dev.setGen_pkts (d : Dev) (g : Nat) (x : Gen) : (d.setGen g x).pkts = d.pkts := rfl
@[simp] theorem Dev.setGen_turns (d : Dev) (g : Nat) (x : Gen) : (d.setGen g x).turns = d.turns := rfl
@[simp] theorem Dev.setGen_discards (d : Dev) (g : Nat) (x : Gen) : (d.setGen g x).discards = d.discards := rfl
@[simp] theorem Dev.setGen_credit (d : Dev) (g : Nat) (x : Gen) : (d.setGen g x).credit = d.credit := rfl
@[simp] theorem Dev.setGen_creditAt (d : Dev) (g : Nat) (x : Gen) : (d.setGen g x).creditAt = d.creditAt := rfl
@[simp] theorem Dev.setGen_data (d : Dev) (g : Nat) (x : Gen) : (d.setGen g x).data = d.data := rfl
@[simp] theorem Dev.setGen_queues (d : Dev) (g : Nat) (x : Gen) : (d.setGen g x).queues = d.queues := rfl
@[simp] theorem Dev.setGen_intakes (d : Dev) (g : Nat) (x : Gen) : (d.setGen g x).intakes = d.intakes := rfl
@[simp] theorem Dev.setGen_residue (d : Dev) (g : Nat) (x : Gen) : (d.setGen g x).residue = d.residue := rfl
@[simp] theorem Dev.setGen_repls (d : Dev) (g : Nat) (x : Gen) : (d.setGen g x).repls = d.repls := rfl
@[simp] theorem Dev.setGen_spillQ (d : Dev) (g : Nat) (x : Gen) : (d.setGen g x).spillQ = d.spillQ := rfl
@[simp] theorem Dev.setGen_recircAt (d : Dev) (g : Nat) (x : Gen) : (d.setGen g x).recircAt = d.recircAt := rfl
@[simp] theorem Dev.setGen_countdown (d : Dev) (g : Nat) (x : Gen) : (d.setGen g x).countdown = d.countdown := rfl
@[simp] theorem Dev.setGen_seqs (d : Dev) (g : Nat) (x : Gen) : (d.setGen g x).seqs = d.seqs := rfl
@[simp] theorem Dev.setGen_captures (d : Dev) (g : Nat) (x : Gen) : (d.setGen g x).captures = d.captures := rfl
@[simp] theorem Dev.setGen_buckets (d : Dev) (g : Nat) (x : Gen) : (d.setGen g x).buckets = d.buckets := rfl
@[simp] theorem Dev.setGen_drr (d : Dev) (g : Nat) (x : Gen) : (d.setGen g x).drr = d.drr := rfl
@[simp] theorem Dev.setGen_tables (d : Dev) (g : Nat) (x : Gen) : (d.setGen g x).tables = d.tables := rfl
@[simp] theorem Dev.setGen_hitSets (d : Dev) (g : Nat) (x : Gen) : (d.setGen g x).hitSets = d.hitSets := rfl
@[simp] theorem Dev.setGen_writeBacks (d : Dev) (g : Nat) (x : Gen) : (d.setGen g x).writeBacks = d.writeBacks := rfl
@[simp] theorem Dev.setGen_fawn (d : Dev) (g : Nat) (x : Gen) : (d.setGen g x).fawn = d.fawn := rfl
@[simp] theorem Dev.setGen_cands (d : Dev) (g : Nat) (x : Gen) : (d.setGen g x).cands = d.cands := rfl
@[simp] theorem Dev.setGen_notes (d : Dev) (g : Nat) (x : Gen) : (d.setGen g x).notes = d.notes := rfl
@[simp] theorem Dev.setGen_fences (d : Dev) (g : Nat) (x : Gen) : (d.setGen g x).fences = d.fences := rfl
@[simp] theorem Dev.setGen_cham (d : Dev) (g : Nat) (x : Gen) : (d.setGen g x).cham = d.cham := rfl
@[simp] theorem Dev.setGen_chQueues (d : Dev) (g : Nat) (x : Gen) : (d.setGen g x).chQueues = d.chQueues := rfl
@[simp] theorem Dev.setGen_cmp (d : Dev) (g : Nat) (x : Gen) : (d.setGen g x).cmp = d.cmp := rfl
@[simp] theorem Dev.setGen_engines (d : Dev) (g : Nat) (x : Gen) : (d.setGen g x).engines = d.engines := rfl
@[simp] theorem Dev.setGen_dmem (d : Dev) (g : Nat) (x : Gen) : (d.setGen g x).dmem = d.dmem := rfl
@[simp] theorem Dev.setGen_dmemBad (d : Dev) (g : Nat) (x : Gen) : (d.setGen g x).dmemBad = d.dmemBad := rfl
@[simp] theorem Dev.setGen_frags (d : Dev) (g : Nat) (x : Gen) : (d.setGen g x).frags = d.frags := rfl
@[simp] theorem Dev.setGen_flipping (d : Dev) (g : Nat) (x : Gen) : (d.setGen g x).flipping = d.flipping := rfl
@[simp] theorem Dev.setGen_flipped (d : Dev) (g : Nat) (x : Gen) : (d.setGen g x).flipped = d.flipped := rfl
@[simp] theorem Dev.setGen_drainFrom (d : Dev) (g : Nat) (x : Gen) : (d.setGen g x).drainFrom = d.drainFrom := rfl
@[simp] theorem Dev.setGen_drainSlow (d : Dev) (g : Nat) (x : Gen) : (d.setGen g x).drainSlow = d.drainSlow := rfl
@[simp] theorem Dev.setGen_loader (d : Dev) (g : Nat) (x : Gen) : (d.setGen g x).loader = d.loader := rfl
@[simp] theorem Dev.setGen_tim (d : Dev) (g : Nat) (x : Gen) : (d.setGen g x).tim = d.tim := rfl
@[simp] theorem Dev.setGen_gates (d : Dev) (g : Nat) (x : Gen) : (d.setGen g x).gates = d.gates := rfl
@[simp] theorem Dev.setGen_pwr (d : Dev) (g : Nat) (x : Gen) : (d.setGen g x).pwr = d.pwr := rfl
@[simp] theorem Dev.setGen_chans (d : Dev) (g : Nat) (x : Gen) : (d.setGen g x).chans = d.chans := rfl
@[simp] theorem Dev.setGen_answers (d : Dev) (g : Nat) (x : Gen) : (d.setGen g x).answers = d.answers := rfl
@[simp] theorem Dev.setGen_hif (d : Dev) (g : Nat) (x : Gen) : (d.setGen g x).hif = d.hif := rfl
@[simp] theorem Dev.setGen_flt (d : Dev) (g : Nat) (x : Gen) : (d.setGen g x).flt = d.flt := rfl
@[simp] theorem Dev.setGen_elapsed (d : Dev) (g : Nat) (x : Gen) : (d.setGen g x).elapsed = d.elapsed := rfl
@[simp] theorem Dev.setGen_wire (d : Dev) (g : Nat) (x : Gen) : (d.setGen g x).wire = d.wire := rfl
@[simp] theorem Dev.setGen_bus (d : Dev) (g : Nat) (x : Gen) : (d.setGen g x).bus = d.bus := rfl
@[simp] theorem Dev.setGen_sbOut (d : Dev) (g : Nat) (x : Gen) : (d.setGen g x).sbOut = d.sbOut := rfl
@[simp] theorem Dev.setGen_ctxDiscards (d : Dev) (g : Nat) (x : Gen) : (d.setGen g x).ctxDiscards = d.ctxDiscards := rfl
@[simp] theorem Dev.setGen_freeCtr (d : Dev) (g : Nat) (x : Gen) : (d.setGen g x).freeCtr = d.freeCtr := rfl
@[simp] theorem Dev.setGen_pidCtr (d : Dev) (g : Nat) (x : Gen) : (d.setGen g x).pidCtr = d.pidCtr := rfl

@[simp] theorem Dev.report_regs (d : Dev) (l k : Nat) (b : Bool) : (d.report l k b).regs = d.regs := rfl
@[simp] theorem Dev.report_pins (d : Dev) (l k : Nat) (b : Bool) : (d.report l k b).pins = d.pins := rfl
@[simp] theorem Dev.report_ports (d : Dev) (l k : Nat) (b : Bool) : (d.report l k b).ports = d.ports := rfl
@[simp] theorem Dev.report_rxq (d : Dev) (l k : Nat) (b : Bool) : (d.report l k b).rxq = d.rxq := rfl
@[simp] theorem Dev.report_pkts (d : Dev) (l k : Nat) (b : Bool) : (d.report l k b).pkts = d.pkts := rfl
@[simp] theorem Dev.report_turns (d : Dev) (l k : Nat) (b : Bool) : (d.report l k b).turns = d.turns := rfl
@[simp] theorem Dev.report_discards (d : Dev) (l k : Nat) (b : Bool) : (d.report l k b).discards = d.discards := rfl
@[simp] theorem Dev.report_credit (d : Dev) (l k : Nat) (b : Bool) : (d.report l k b).credit = d.credit := rfl
@[simp] theorem Dev.report_creditAt (d : Dev) (l k : Nat) (b : Bool) : (d.report l k b).creditAt = d.creditAt := rfl
@[simp] theorem Dev.report_data (d : Dev) (l k : Nat) (b : Bool) : (d.report l k b).data = d.data := rfl
@[simp] theorem Dev.report_queues (d : Dev) (l k : Nat) (b : Bool) : (d.report l k b).queues = d.queues := rfl
@[simp] theorem Dev.report_intakes (d : Dev) (l k : Nat) (b : Bool) : (d.report l k b).intakes = d.intakes := rfl
@[simp] theorem Dev.report_residue (d : Dev) (l k : Nat) (b : Bool) : (d.report l k b).residue = d.residue := rfl
@[simp] theorem Dev.report_repls (d : Dev) (l k : Nat) (b : Bool) : (d.report l k b).repls = d.repls := rfl
@[simp] theorem Dev.report_spillQ (d : Dev) (l k : Nat) (b : Bool) : (d.report l k b).spillQ = d.spillQ := rfl
@[simp] theorem Dev.report_recircAt (d : Dev) (l k : Nat) (b : Bool) : (d.report l k b).recircAt = d.recircAt := rfl
@[simp] theorem Dev.report_countdown (d : Dev) (l k : Nat) (b : Bool) : (d.report l k b).countdown = d.countdown := rfl
@[simp] theorem Dev.report_seqs (d : Dev) (l k : Nat) (b : Bool) : (d.report l k b).seqs = d.seqs := rfl
@[simp] theorem Dev.report_captures (d : Dev) (l k : Nat) (b : Bool) : (d.report l k b).captures = d.captures := rfl
@[simp] theorem Dev.report_buckets (d : Dev) (l k : Nat) (b : Bool) : (d.report l k b).buckets = d.buckets := rfl
@[simp] theorem Dev.report_drr (d : Dev) (l k : Nat) (b : Bool) : (d.report l k b).drr = d.drr := rfl
@[simp] theorem Dev.report_tables (d : Dev) (l k : Nat) (b : Bool) : (d.report l k b).tables = d.tables := rfl
@[simp] theorem Dev.report_hitSets (d : Dev) (l k : Nat) (b : Bool) : (d.report l k b).hitSets = d.hitSets := rfl
@[simp] theorem Dev.report_writeBacks (d : Dev) (l k : Nat) (b : Bool) : (d.report l k b).writeBacks = d.writeBacks := rfl
@[simp] theorem Dev.report_fawn (d : Dev) (l k : Nat) (b : Bool) : (d.report l k b).fawn = d.fawn := rfl
@[simp] theorem Dev.report_cands (d : Dev) (l k : Nat) (b : Bool) : (d.report l k b).cands = d.cands := rfl
@[simp] theorem Dev.report_notes (d : Dev) (l k : Nat) (b : Bool) : (d.report l k b).notes = d.notes := rfl
@[simp] theorem Dev.report_fences (d : Dev) (l k : Nat) (b : Bool) : (d.report l k b).fences = d.fences := rfl
@[simp] theorem Dev.report_cham (d : Dev) (l k : Nat) (b : Bool) : (d.report l k b).cham = d.cham := rfl
@[simp] theorem Dev.report_chQueues (d : Dev) (l k : Nat) (b : Bool) : (d.report l k b).chQueues = d.chQueues := rfl
@[simp] theorem Dev.report_cmp (d : Dev) (l k : Nat) (b : Bool) : (d.report l k b).cmp = d.cmp := rfl
@[simp] theorem Dev.report_engines (d : Dev) (l k : Nat) (b : Bool) : (d.report l k b).engines = d.engines := rfl
@[simp] theorem Dev.report_dmem (d : Dev) (l k : Nat) (b : Bool) : (d.report l k b).dmem = d.dmem := rfl
@[simp] theorem Dev.report_dmemBad (d : Dev) (l k : Nat) (b : Bool) : (d.report l k b).dmemBad = d.dmemBad := rfl
@[simp] theorem Dev.report_frags (d : Dev) (l k : Nat) (b : Bool) : (d.report l k b).frags = d.frags := rfl
@[simp] theorem Dev.report_gens (d : Dev) (l k : Nat) (b : Bool) : (d.report l k b).gens = d.gens := rfl
@[simp] theorem Dev.report_flipping (d : Dev) (l k : Nat) (b : Bool) : (d.report l k b).flipping = d.flipping := rfl
@[simp] theorem Dev.report_flipped (d : Dev) (l k : Nat) (b : Bool) : (d.report l k b).flipped = d.flipped := rfl
@[simp] theorem Dev.report_drainFrom (d : Dev) (l k : Nat) (b : Bool) : (d.report l k b).drainFrom = d.drainFrom := rfl
@[simp] theorem Dev.report_drainSlow (d : Dev) (l k : Nat) (b : Bool) : (d.report l k b).drainSlow = d.drainSlow := rfl
@[simp] theorem Dev.report_loader (d : Dev) (l k : Nat) (b : Bool) : (d.report l k b).loader = d.loader := rfl
@[simp] theorem Dev.report_tim (d : Dev) (l k : Nat) (b : Bool) : (d.report l k b).tim = d.tim := rfl
@[simp] theorem Dev.report_gates (d : Dev) (l k : Nat) (b : Bool) : (d.report l k b).gates = d.gates := rfl
@[simp] theorem Dev.report_pwr (d : Dev) (l k : Nat) (b : Bool) : (d.report l k b).pwr = d.pwr := rfl
@[simp] theorem Dev.report_chans (d : Dev) (l k : Nat) (b : Bool) : (d.report l k b).chans = d.chans := rfl
@[simp] theorem Dev.report_answers (d : Dev) (l k : Nat) (b : Bool) : (d.report l k b).answers = d.answers := rfl
@[simp] theorem Dev.report_hif (d : Dev) (l k : Nat) (b : Bool) : (d.report l k b).hif = d.hif := rfl
@[simp] theorem Dev.report_elapsed (d : Dev) (l k : Nat) (b : Bool) : (d.report l k b).elapsed = d.elapsed := rfl
@[simp] theorem Dev.report_wire (d : Dev) (l k : Nat) (b : Bool) : (d.report l k b).wire = d.wire := rfl
@[simp] theorem Dev.report_bus (d : Dev) (l k : Nat) (b : Bool) : (d.report l k b).bus = d.bus := rfl
@[simp] theorem Dev.report_sbOut (d : Dev) (l k : Nat) (b : Bool) : (d.report l k b).sbOut = d.sbOut := rfl
@[simp] theorem Dev.report_ctxDiscards (d : Dev) (l k : Nat) (b : Bool) : (d.report l k b).ctxDiscards = d.ctxDiscards := rfl
@[simp] theorem Dev.report_freeCtr (d : Dev) (l k : Nat) (b : Bool) : (d.report l k b).freeCtr = d.freeCtr := rfl
@[simp] theorem Dev.report_pidCtr (d : Dev) (l k : Nat) (b : Bool) : (d.report l k b).pidCtr = d.pidCtr := rfl

@[simp] theorem Dev.setTbl_regs (d : Dev) (t : Nat) (x : TableMem) : (d.setTbl t x).regs = d.regs := rfl
@[simp] theorem Dev.setTbl_pins (d : Dev) (t : Nat) (x : TableMem) : (d.setTbl t x).pins = d.pins := rfl
@[simp] theorem Dev.setTbl_ports (d : Dev) (t : Nat) (x : TableMem) : (d.setTbl t x).ports = d.ports := rfl
@[simp] theorem Dev.setTbl_rxq (d : Dev) (t : Nat) (x : TableMem) : (d.setTbl t x).rxq = d.rxq := rfl
@[simp] theorem Dev.setTbl_pkts (d : Dev) (t : Nat) (x : TableMem) : (d.setTbl t x).pkts = d.pkts := rfl
@[simp] theorem Dev.setTbl_turns (d : Dev) (t : Nat) (x : TableMem) : (d.setTbl t x).turns = d.turns := rfl
@[simp] theorem Dev.setTbl_discards (d : Dev) (t : Nat) (x : TableMem) : (d.setTbl t x).discards = d.discards := rfl
@[simp] theorem Dev.setTbl_credit (d : Dev) (t : Nat) (x : TableMem) : (d.setTbl t x).credit = d.credit := rfl
@[simp] theorem Dev.setTbl_creditAt (d : Dev) (t : Nat) (x : TableMem) : (d.setTbl t x).creditAt = d.creditAt := rfl
@[simp] theorem Dev.setTbl_data (d : Dev) (t : Nat) (x : TableMem) : (d.setTbl t x).data = d.data := rfl
@[simp] theorem Dev.setTbl_queues (d : Dev) (t : Nat) (x : TableMem) : (d.setTbl t x).queues = d.queues := rfl
@[simp] theorem Dev.setTbl_intakes (d : Dev) (t : Nat) (x : TableMem) : (d.setTbl t x).intakes = d.intakes := rfl
@[simp] theorem Dev.setTbl_residue (d : Dev) (t : Nat) (x : TableMem) : (d.setTbl t x).residue = d.residue := rfl
@[simp] theorem Dev.setTbl_repls (d : Dev) (t : Nat) (x : TableMem) : (d.setTbl t x).repls = d.repls := rfl
@[simp] theorem Dev.setTbl_spillQ (d : Dev) (t : Nat) (x : TableMem) : (d.setTbl t x).spillQ = d.spillQ := rfl
@[simp] theorem Dev.setTbl_recircAt (d : Dev) (t : Nat) (x : TableMem) : (d.setTbl t x).recircAt = d.recircAt := rfl
@[simp] theorem Dev.setTbl_countdown (d : Dev) (t : Nat) (x : TableMem) : (d.setTbl t x).countdown = d.countdown := rfl
@[simp] theorem Dev.setTbl_seqs (d : Dev) (t : Nat) (x : TableMem) : (d.setTbl t x).seqs = d.seqs := rfl
@[simp] theorem Dev.setTbl_captures (d : Dev) (t : Nat) (x : TableMem) : (d.setTbl t x).captures = d.captures := rfl
@[simp] theorem Dev.setTbl_buckets (d : Dev) (t : Nat) (x : TableMem) : (d.setTbl t x).buckets = d.buckets := rfl
@[simp] theorem Dev.setTbl_drr (d : Dev) (t : Nat) (x : TableMem) : (d.setTbl t x).drr = d.drr := rfl
@[simp] theorem Dev.setTbl_hitSets (d : Dev) (t : Nat) (x : TableMem) : (d.setTbl t x).hitSets = d.hitSets := rfl
@[simp] theorem Dev.setTbl_writeBacks (d : Dev) (t : Nat) (x : TableMem) : (d.setTbl t x).writeBacks = d.writeBacks := rfl
@[simp] theorem Dev.setTbl_fawn (d : Dev) (t : Nat) (x : TableMem) : (d.setTbl t x).fawn = d.fawn := rfl
@[simp] theorem Dev.setTbl_cands (d : Dev) (t : Nat) (x : TableMem) : (d.setTbl t x).cands = d.cands := rfl
@[simp] theorem Dev.setTbl_notes (d : Dev) (t : Nat) (x : TableMem) : (d.setTbl t x).notes = d.notes := rfl
@[simp] theorem Dev.setTbl_fences (d : Dev) (t : Nat) (x : TableMem) : (d.setTbl t x).fences = d.fences := rfl
@[simp] theorem Dev.setTbl_cham (d : Dev) (t : Nat) (x : TableMem) : (d.setTbl t x).cham = d.cham := rfl
@[simp] theorem Dev.setTbl_chQueues (d : Dev) (t : Nat) (x : TableMem) : (d.setTbl t x).chQueues = d.chQueues := rfl
@[simp] theorem Dev.setTbl_cmp (d : Dev) (t : Nat) (x : TableMem) : (d.setTbl t x).cmp = d.cmp := rfl
@[simp] theorem Dev.setTbl_engines (d : Dev) (t : Nat) (x : TableMem) : (d.setTbl t x).engines = d.engines := rfl
@[simp] theorem Dev.setTbl_dmem (d : Dev) (t : Nat) (x : TableMem) : (d.setTbl t x).dmem = d.dmem := rfl
@[simp] theorem Dev.setTbl_dmemBad (d : Dev) (t : Nat) (x : TableMem) : (d.setTbl t x).dmemBad = d.dmemBad := rfl
@[simp] theorem Dev.setTbl_frags (d : Dev) (t : Nat) (x : TableMem) : (d.setTbl t x).frags = d.frags := rfl
@[simp] theorem Dev.setTbl_gens (d : Dev) (t : Nat) (x : TableMem) : (d.setTbl t x).gens = d.gens := rfl
@[simp] theorem Dev.setTbl_flipping (d : Dev) (t : Nat) (x : TableMem) : (d.setTbl t x).flipping = d.flipping := rfl
@[simp] theorem Dev.setTbl_flipped (d : Dev) (t : Nat) (x : TableMem) : (d.setTbl t x).flipped = d.flipped := rfl
@[simp] theorem Dev.setTbl_drainFrom (d : Dev) (t : Nat) (x : TableMem) : (d.setTbl t x).drainFrom = d.drainFrom := rfl
@[simp] theorem Dev.setTbl_drainSlow (d : Dev) (t : Nat) (x : TableMem) : (d.setTbl t x).drainSlow = d.drainSlow := rfl
@[simp] theorem Dev.setTbl_loader (d : Dev) (t : Nat) (x : TableMem) : (d.setTbl t x).loader = d.loader := rfl
@[simp] theorem Dev.setTbl_tim (d : Dev) (t : Nat) (x : TableMem) : (d.setTbl t x).tim = d.tim := rfl
@[simp] theorem Dev.setTbl_gates (d : Dev) (t : Nat) (x : TableMem) : (d.setTbl t x).gates = d.gates := rfl
@[simp] theorem Dev.setTbl_pwr (d : Dev) (t : Nat) (x : TableMem) : (d.setTbl t x).pwr = d.pwr := rfl
@[simp] theorem Dev.setTbl_chans (d : Dev) (t : Nat) (x : TableMem) : (d.setTbl t x).chans = d.chans := rfl
@[simp] theorem Dev.setTbl_answers (d : Dev) (t : Nat) (x : TableMem) : (d.setTbl t x).answers = d.answers := rfl
@[simp] theorem Dev.setTbl_hif (d : Dev) (t : Nat) (x : TableMem) : (d.setTbl t x).hif = d.hif := rfl
@[simp] theorem Dev.setTbl_flt (d : Dev) (t : Nat) (x : TableMem) : (d.setTbl t x).flt = d.flt := rfl
@[simp] theorem Dev.setTbl_elapsed (d : Dev) (t : Nat) (x : TableMem) : (d.setTbl t x).elapsed = d.elapsed := rfl
@[simp] theorem Dev.setTbl_wire (d : Dev) (t : Nat) (x : TableMem) : (d.setTbl t x).wire = d.wire := rfl
@[simp] theorem Dev.setTbl_bus (d : Dev) (t : Nat) (x : TableMem) : (d.setTbl t x).bus = d.bus := rfl
@[simp] theorem Dev.setTbl_sbOut (d : Dev) (t : Nat) (x : TableMem) : (d.setTbl t x).sbOut = d.sbOut := rfl
@[simp] theorem Dev.setTbl_ctxDiscards (d : Dev) (t : Nat) (x : TableMem) : (d.setTbl t x).ctxDiscards = d.ctxDiscards := rfl
@[simp] theorem Dev.setTbl_freeCtr (d : Dev) (t : Nat) (x : TableMem) : (d.setTbl t x).freeCtr = d.freeCtr := rfl
@[simp] theorem Dev.setTbl_pidCtr (d : Dev) (t : Nat) (x : TableMem) : (d.setTbl t x).pidCtr = d.pidCtr := rfl

@[simp] theorem Dev.setPort_regs (d : Dev) (n : Nat) (x : Port) : (d.setPort n x).regs = d.regs := rfl
@[simp] theorem Dev.setPort_pins (d : Dev) (n : Nat) (x : Port) : (d.setPort n x).pins = d.pins := rfl
@[simp] theorem Dev.setPort_rxq (d : Dev) (n : Nat) (x : Port) : (d.setPort n x).rxq = d.rxq := rfl
@[simp] theorem Dev.setPort_pkts (d : Dev) (n : Nat) (x : Port) : (d.setPort n x).pkts = d.pkts := rfl
@[simp] theorem Dev.setPort_turns (d : Dev) (n : Nat) (x : Port) : (d.setPort n x).turns = d.turns := rfl
@[simp] theorem Dev.setPort_discards (d : Dev) (n : Nat) (x : Port) : (d.setPort n x).discards = d.discards := rfl
@[simp] theorem Dev.setPort_credit (d : Dev) (n : Nat) (x : Port) : (d.setPort n x).credit = d.credit := rfl
@[simp] theorem Dev.setPort_creditAt (d : Dev) (n : Nat) (x : Port) : (d.setPort n x).creditAt = d.creditAt := rfl
@[simp] theorem Dev.setPort_data (d : Dev) (n : Nat) (x : Port) : (d.setPort n x).data = d.data := rfl
@[simp] theorem Dev.setPort_queues (d : Dev) (n : Nat) (x : Port) : (d.setPort n x).queues = d.queues := rfl
@[simp] theorem Dev.setPort_intakes (d : Dev) (n : Nat) (x : Port) : (d.setPort n x).intakes = d.intakes := rfl
@[simp] theorem Dev.setPort_residue (d : Dev) (n : Nat) (x : Port) : (d.setPort n x).residue = d.residue := rfl
@[simp] theorem Dev.setPort_repls (d : Dev) (n : Nat) (x : Port) : (d.setPort n x).repls = d.repls := rfl
@[simp] theorem Dev.setPort_spillQ (d : Dev) (n : Nat) (x : Port) : (d.setPort n x).spillQ = d.spillQ := rfl
@[simp] theorem Dev.setPort_recircAt (d : Dev) (n : Nat) (x : Port) : (d.setPort n x).recircAt = d.recircAt := rfl
@[simp] theorem Dev.setPort_countdown (d : Dev) (n : Nat) (x : Port) : (d.setPort n x).countdown = d.countdown := rfl
@[simp] theorem Dev.setPort_seqs (d : Dev) (n : Nat) (x : Port) : (d.setPort n x).seqs = d.seqs := rfl
@[simp] theorem Dev.setPort_captures (d : Dev) (n : Nat) (x : Port) : (d.setPort n x).captures = d.captures := rfl
@[simp] theorem Dev.setPort_buckets (d : Dev) (n : Nat) (x : Port) : (d.setPort n x).buckets = d.buckets := rfl
@[simp] theorem Dev.setPort_drr (d : Dev) (n : Nat) (x : Port) : (d.setPort n x).drr = d.drr := rfl
@[simp] theorem Dev.setPort_tables (d : Dev) (n : Nat) (x : Port) : (d.setPort n x).tables = d.tables := rfl
@[simp] theorem Dev.setPort_hitSets (d : Dev) (n : Nat) (x : Port) : (d.setPort n x).hitSets = d.hitSets := rfl
@[simp] theorem Dev.setPort_writeBacks (d : Dev) (n : Nat) (x : Port) : (d.setPort n x).writeBacks = d.writeBacks := rfl
@[simp] theorem Dev.setPort_fawn (d : Dev) (n : Nat) (x : Port) : (d.setPort n x).fawn = d.fawn := rfl
@[simp] theorem Dev.setPort_cands (d : Dev) (n : Nat) (x : Port) : (d.setPort n x).cands = d.cands := rfl
@[simp] theorem Dev.setPort_notes (d : Dev) (n : Nat) (x : Port) : (d.setPort n x).notes = d.notes := rfl
@[simp] theorem Dev.setPort_fences (d : Dev) (n : Nat) (x : Port) : (d.setPort n x).fences = d.fences := rfl
@[simp] theorem Dev.setPort_cham (d : Dev) (n : Nat) (x : Port) : (d.setPort n x).cham = d.cham := rfl
@[simp] theorem Dev.setPort_chQueues (d : Dev) (n : Nat) (x : Port) : (d.setPort n x).chQueues = d.chQueues := rfl
@[simp] theorem Dev.setPort_cmp (d : Dev) (n : Nat) (x : Port) : (d.setPort n x).cmp = d.cmp := rfl
@[simp] theorem Dev.setPort_engines (d : Dev) (n : Nat) (x : Port) : (d.setPort n x).engines = d.engines := rfl
@[simp] theorem Dev.setPort_dmem (d : Dev) (n : Nat) (x : Port) : (d.setPort n x).dmem = d.dmem := rfl
@[simp] theorem Dev.setPort_dmemBad (d : Dev) (n : Nat) (x : Port) : (d.setPort n x).dmemBad = d.dmemBad := rfl
@[simp] theorem Dev.setPort_frags (d : Dev) (n : Nat) (x : Port) : (d.setPort n x).frags = d.frags := rfl
@[simp] theorem Dev.setPort_gens (d : Dev) (n : Nat) (x : Port) : (d.setPort n x).gens = d.gens := rfl
@[simp] theorem Dev.setPort_flipping (d : Dev) (n : Nat) (x : Port) : (d.setPort n x).flipping = d.flipping := rfl
@[simp] theorem Dev.setPort_flipped (d : Dev) (n : Nat) (x : Port) : (d.setPort n x).flipped = d.flipped := rfl
@[simp] theorem Dev.setPort_drainFrom (d : Dev) (n : Nat) (x : Port) : (d.setPort n x).drainFrom = d.drainFrom := rfl
@[simp] theorem Dev.setPort_drainSlow (d : Dev) (n : Nat) (x : Port) : (d.setPort n x).drainSlow = d.drainSlow := rfl
@[simp] theorem Dev.setPort_loader (d : Dev) (n : Nat) (x : Port) : (d.setPort n x).loader = d.loader := rfl
@[simp] theorem Dev.setPort_tim (d : Dev) (n : Nat) (x : Port) : (d.setPort n x).tim = d.tim := rfl
@[simp] theorem Dev.setPort_gates (d : Dev) (n : Nat) (x : Port) : (d.setPort n x).gates = d.gates := rfl
@[simp] theorem Dev.setPort_pwr (d : Dev) (n : Nat) (x : Port) : (d.setPort n x).pwr = d.pwr := rfl
@[simp] theorem Dev.setPort_chans (d : Dev) (n : Nat) (x : Port) : (d.setPort n x).chans = d.chans := rfl
@[simp] theorem Dev.setPort_answers (d : Dev) (n : Nat) (x : Port) : (d.setPort n x).answers = d.answers := rfl
@[simp] theorem Dev.setPort_hif (d : Dev) (n : Nat) (x : Port) : (d.setPort n x).hif = d.hif := rfl
@[simp] theorem Dev.setPort_flt (d : Dev) (n : Nat) (x : Port) : (d.setPort n x).flt = d.flt := rfl
@[simp] theorem Dev.setPort_elapsed (d : Dev) (n : Nat) (x : Port) : (d.setPort n x).elapsed = d.elapsed := rfl
@[simp] theorem Dev.setPort_wire (d : Dev) (n : Nat) (x : Port) : (d.setPort n x).wire = d.wire := rfl
@[simp] theorem Dev.setPort_bus (d : Dev) (n : Nat) (x : Port) : (d.setPort n x).bus = d.bus := rfl
@[simp] theorem Dev.setPort_sbOut (d : Dev) (n : Nat) (x : Port) : (d.setPort n x).sbOut = d.sbOut := rfl
@[simp] theorem Dev.setPort_ctxDiscards (d : Dev) (n : Nat) (x : Port) : (d.setPort n x).ctxDiscards = d.ctxDiscards := rfl
@[simp] theorem Dev.setPort_freeCtr (d : Dev) (n : Nat) (x : Port) : (d.setPort n x).freeCtr = d.freeCtr := rfl
@[simp] theorem Dev.setPort_pidCtr (d : Dev) (n : Nat) (x : Port) : (d.setPort n x).pidCtr = d.pidCtr := rfl

@[simp] theorem Dev.setEngine_regs (d : Dev) (e : Nat) (x : Engine) : (d.setEngine e x).regs = d.regs := rfl
@[simp] theorem Dev.setEngine_pins (d : Dev) (e : Nat) (x : Engine) : (d.setEngine e x).pins = d.pins := rfl
@[simp] theorem Dev.setEngine_ports (d : Dev) (e : Nat) (x : Engine) : (d.setEngine e x).ports = d.ports := rfl
@[simp] theorem Dev.setEngine_rxq (d : Dev) (e : Nat) (x : Engine) : (d.setEngine e x).rxq = d.rxq := rfl
@[simp] theorem Dev.setEngine_pkts (d : Dev) (e : Nat) (x : Engine) : (d.setEngine e x).pkts = d.pkts := rfl
@[simp] theorem Dev.setEngine_turns (d : Dev) (e : Nat) (x : Engine) : (d.setEngine e x).turns = d.turns := rfl
@[simp] theorem Dev.setEngine_discards (d : Dev) (e : Nat) (x : Engine) : (d.setEngine e x).discards = d.discards := rfl
@[simp] theorem Dev.setEngine_credit (d : Dev) (e : Nat) (x : Engine) : (d.setEngine e x).credit = d.credit := rfl
@[simp] theorem Dev.setEngine_creditAt (d : Dev) (e : Nat) (x : Engine) : (d.setEngine e x).creditAt = d.creditAt := rfl
@[simp] theorem Dev.setEngine_data (d : Dev) (e : Nat) (x : Engine) : (d.setEngine e x).data = d.data := rfl
@[simp] theorem Dev.setEngine_queues (d : Dev) (e : Nat) (x : Engine) : (d.setEngine e x).queues = d.queues := rfl
@[simp] theorem Dev.setEngine_intakes (d : Dev) (e : Nat) (x : Engine) : (d.setEngine e x).intakes = d.intakes := rfl
@[simp] theorem Dev.setEngine_residue (d : Dev) (e : Nat) (x : Engine) : (d.setEngine e x).residue = d.residue := rfl
@[simp] theorem Dev.setEngine_repls (d : Dev) (e : Nat) (x : Engine) : (d.setEngine e x).repls = d.repls := rfl
@[simp] theorem Dev.setEngine_spillQ (d : Dev) (e : Nat) (x : Engine) : (d.setEngine e x).spillQ = d.spillQ := rfl
@[simp] theorem Dev.setEngine_recircAt (d : Dev) (e : Nat) (x : Engine) : (d.setEngine e x).recircAt = d.recircAt := rfl
@[simp] theorem Dev.setEngine_countdown (d : Dev) (e : Nat) (x : Engine) : (d.setEngine e x).countdown = d.countdown := rfl
@[simp] theorem Dev.setEngine_seqs (d : Dev) (e : Nat) (x : Engine) : (d.setEngine e x).seqs = d.seqs := rfl
@[simp] theorem Dev.setEngine_captures (d : Dev) (e : Nat) (x : Engine) : (d.setEngine e x).captures = d.captures := rfl
@[simp] theorem Dev.setEngine_buckets (d : Dev) (e : Nat) (x : Engine) : (d.setEngine e x).buckets = d.buckets := rfl
@[simp] theorem Dev.setEngine_drr (d : Dev) (e : Nat) (x : Engine) : (d.setEngine e x).drr = d.drr := rfl
@[simp] theorem Dev.setEngine_tables (d : Dev) (e : Nat) (x : Engine) : (d.setEngine e x).tables = d.tables := rfl
@[simp] theorem Dev.setEngine_hitSets (d : Dev) (e : Nat) (x : Engine) : (d.setEngine e x).hitSets = d.hitSets := rfl
@[simp] theorem Dev.setEngine_writeBacks (d : Dev) (e : Nat) (x : Engine) : (d.setEngine e x).writeBacks = d.writeBacks := rfl
@[simp] theorem Dev.setEngine_fawn (d : Dev) (e : Nat) (x : Engine) : (d.setEngine e x).fawn = d.fawn := rfl
@[simp] theorem Dev.setEngine_cands (d : Dev) (e : Nat) (x : Engine) : (d.setEngine e x).cands = d.cands := rfl
@[simp] theorem Dev.setEngine_notes (d : Dev) (e : Nat) (x : Engine) : (d.setEngine e x).notes = d.notes := rfl
@[simp] theorem Dev.setEngine_fences (d : Dev) (e : Nat) (x : Engine) : (d.setEngine e x).fences = d.fences := rfl
@[simp] theorem Dev.setEngine_cham (d : Dev) (e : Nat) (x : Engine) : (d.setEngine e x).cham = d.cham := rfl
@[simp] theorem Dev.setEngine_chQueues (d : Dev) (e : Nat) (x : Engine) : (d.setEngine e x).chQueues = d.chQueues := rfl
@[simp] theorem Dev.setEngine_cmp (d : Dev) (e : Nat) (x : Engine) : (d.setEngine e x).cmp = d.cmp := rfl
@[simp] theorem Dev.setEngine_dmem (d : Dev) (e : Nat) (x : Engine) : (d.setEngine e x).dmem = d.dmem := rfl
@[simp] theorem Dev.setEngine_dmemBad (d : Dev) (e : Nat) (x : Engine) : (d.setEngine e x).dmemBad = d.dmemBad := rfl
@[simp] theorem Dev.setEngine_frags (d : Dev) (e : Nat) (x : Engine) : (d.setEngine e x).frags = d.frags := rfl
@[simp] theorem Dev.setEngine_gens (d : Dev) (e : Nat) (x : Engine) : (d.setEngine e x).gens = d.gens := rfl
@[simp] theorem Dev.setEngine_flipping (d : Dev) (e : Nat) (x : Engine) : (d.setEngine e x).flipping = d.flipping := rfl
@[simp] theorem Dev.setEngine_flipped (d : Dev) (e : Nat) (x : Engine) : (d.setEngine e x).flipped = d.flipped := rfl
@[simp] theorem Dev.setEngine_drainFrom (d : Dev) (e : Nat) (x : Engine) : (d.setEngine e x).drainFrom = d.drainFrom := rfl
@[simp] theorem Dev.setEngine_drainSlow (d : Dev) (e : Nat) (x : Engine) : (d.setEngine e x).drainSlow = d.drainSlow := rfl
@[simp] theorem Dev.setEngine_loader (d : Dev) (e : Nat) (x : Engine) : (d.setEngine e x).loader = d.loader := rfl
@[simp] theorem Dev.setEngine_tim (d : Dev) (e : Nat) (x : Engine) : (d.setEngine e x).tim = d.tim := rfl
@[simp] theorem Dev.setEngine_gates (d : Dev) (e : Nat) (x : Engine) : (d.setEngine e x).gates = d.gates := rfl
@[simp] theorem Dev.setEngine_pwr (d : Dev) (e : Nat) (x : Engine) : (d.setEngine e x).pwr = d.pwr := rfl
@[simp] theorem Dev.setEngine_chans (d : Dev) (e : Nat) (x : Engine) : (d.setEngine e x).chans = d.chans := rfl
@[simp] theorem Dev.setEngine_answers (d : Dev) (e : Nat) (x : Engine) : (d.setEngine e x).answers = d.answers := rfl
@[simp] theorem Dev.setEngine_hif (d : Dev) (e : Nat) (x : Engine) : (d.setEngine e x).hif = d.hif := rfl
@[simp] theorem Dev.setEngine_flt (d : Dev) (e : Nat) (x : Engine) : (d.setEngine e x).flt = d.flt := rfl
@[simp] theorem Dev.setEngine_elapsed (d : Dev) (e : Nat) (x : Engine) : (d.setEngine e x).elapsed = d.elapsed := rfl
@[simp] theorem Dev.setEngine_wire (d : Dev) (e : Nat) (x : Engine) : (d.setEngine e x).wire = d.wire := rfl
@[simp] theorem Dev.setEngine_bus (d : Dev) (e : Nat) (x : Engine) : (d.setEngine e x).bus = d.bus := rfl
@[simp] theorem Dev.setEngine_sbOut (d : Dev) (e : Nat) (x : Engine) : (d.setEngine e x).sbOut = d.sbOut := rfl
@[simp] theorem Dev.setEngine_ctxDiscards (d : Dev) (e : Nat) (x : Engine) : (d.setEngine e x).ctxDiscards = d.ctxDiscards := rfl
@[simp] theorem Dev.setEngine_freeCtr (d : Dev) (e : Nat) (x : Engine) : (d.setEngine e x).freeCtr = d.freeCtr := rfl
@[simp] theorem Dev.setEngine_pidCtr (d : Dev) (e : Nat) (x : Engine) : (d.setEngine e x).pidCtr = d.pidCtr := rfl

@[simp] theorem Dev.setChan_regs (d : Dev) (n : Nat) (x : Chan) : (d.setChan n x).regs = d.regs := rfl
@[simp] theorem Dev.setChan_pins (d : Dev) (n : Nat) (x : Chan) : (d.setChan n x).pins = d.pins := rfl
@[simp] theorem Dev.setChan_ports (d : Dev) (n : Nat) (x : Chan) : (d.setChan n x).ports = d.ports := rfl
@[simp] theorem Dev.setChan_rxq (d : Dev) (n : Nat) (x : Chan) : (d.setChan n x).rxq = d.rxq := rfl
@[simp] theorem Dev.setChan_pkts (d : Dev) (n : Nat) (x : Chan) : (d.setChan n x).pkts = d.pkts := rfl
@[simp] theorem Dev.setChan_turns (d : Dev) (n : Nat) (x : Chan) : (d.setChan n x).turns = d.turns := rfl
@[simp] theorem Dev.setChan_discards (d : Dev) (n : Nat) (x : Chan) : (d.setChan n x).discards = d.discards := rfl
@[simp] theorem Dev.setChan_credit (d : Dev) (n : Nat) (x : Chan) : (d.setChan n x).credit = d.credit := rfl
@[simp] theorem Dev.setChan_creditAt (d : Dev) (n : Nat) (x : Chan) : (d.setChan n x).creditAt = d.creditAt := rfl
@[simp] theorem Dev.setChan_data (d : Dev) (n : Nat) (x : Chan) : (d.setChan n x).data = d.data := rfl
@[simp] theorem Dev.setChan_queues (d : Dev) (n : Nat) (x : Chan) : (d.setChan n x).queues = d.queues := rfl
@[simp] theorem Dev.setChan_intakes (d : Dev) (n : Nat) (x : Chan) : (d.setChan n x).intakes = d.intakes := rfl
@[simp] theorem Dev.setChan_residue (d : Dev) (n : Nat) (x : Chan) : (d.setChan n x).residue = d.residue := rfl
@[simp] theorem Dev.setChan_repls (d : Dev) (n : Nat) (x : Chan) : (d.setChan n x).repls = d.repls := rfl
@[simp] theorem Dev.setChan_spillQ (d : Dev) (n : Nat) (x : Chan) : (d.setChan n x).spillQ = d.spillQ := rfl
@[simp] theorem Dev.setChan_recircAt (d : Dev) (n : Nat) (x : Chan) : (d.setChan n x).recircAt = d.recircAt := rfl
@[simp] theorem Dev.setChan_countdown (d : Dev) (n : Nat) (x : Chan) : (d.setChan n x).countdown = d.countdown := rfl
@[simp] theorem Dev.setChan_seqs (d : Dev) (n : Nat) (x : Chan) : (d.setChan n x).seqs = d.seqs := rfl
@[simp] theorem Dev.setChan_captures (d : Dev) (n : Nat) (x : Chan) : (d.setChan n x).captures = d.captures := rfl
@[simp] theorem Dev.setChan_buckets (d : Dev) (n : Nat) (x : Chan) : (d.setChan n x).buckets = d.buckets := rfl
@[simp] theorem Dev.setChan_drr (d : Dev) (n : Nat) (x : Chan) : (d.setChan n x).drr = d.drr := rfl
@[simp] theorem Dev.setChan_tables (d : Dev) (n : Nat) (x : Chan) : (d.setChan n x).tables = d.tables := rfl
@[simp] theorem Dev.setChan_hitSets (d : Dev) (n : Nat) (x : Chan) : (d.setChan n x).hitSets = d.hitSets := rfl
@[simp] theorem Dev.setChan_writeBacks (d : Dev) (n : Nat) (x : Chan) : (d.setChan n x).writeBacks = d.writeBacks := rfl
@[simp] theorem Dev.setChan_fawn (d : Dev) (n : Nat) (x : Chan) : (d.setChan n x).fawn = d.fawn := rfl
@[simp] theorem Dev.setChan_cands (d : Dev) (n : Nat) (x : Chan) : (d.setChan n x).cands = d.cands := rfl
@[simp] theorem Dev.setChan_notes (d : Dev) (n : Nat) (x : Chan) : (d.setChan n x).notes = d.notes := rfl
@[simp] theorem Dev.setChan_fences (d : Dev) (n : Nat) (x : Chan) : (d.setChan n x).fences = d.fences := rfl
@[simp] theorem Dev.setChan_cham (d : Dev) (n : Nat) (x : Chan) : (d.setChan n x).cham = d.cham := rfl
@[simp] theorem Dev.setChan_chQueues (d : Dev) (n : Nat) (x : Chan) : (d.setChan n x).chQueues = d.chQueues := rfl
@[simp] theorem Dev.setChan_cmp (d : Dev) (n : Nat) (x : Chan) : (d.setChan n x).cmp = d.cmp := rfl
@[simp] theorem Dev.setChan_engines (d : Dev) (n : Nat) (x : Chan) : (d.setChan n x).engines = d.engines := rfl
@[simp] theorem Dev.setChan_dmem (d : Dev) (n : Nat) (x : Chan) : (d.setChan n x).dmem = d.dmem := rfl
@[simp] theorem Dev.setChan_dmemBad (d : Dev) (n : Nat) (x : Chan) : (d.setChan n x).dmemBad = d.dmemBad := rfl
@[simp] theorem Dev.setChan_frags (d : Dev) (n : Nat) (x : Chan) : (d.setChan n x).frags = d.frags := rfl
@[simp] theorem Dev.setChan_gens (d : Dev) (n : Nat) (x : Chan) : (d.setChan n x).gens = d.gens := rfl
@[simp] theorem Dev.setChan_flipping (d : Dev) (n : Nat) (x : Chan) : (d.setChan n x).flipping = d.flipping := rfl
@[simp] theorem Dev.setChan_flipped (d : Dev) (n : Nat) (x : Chan) : (d.setChan n x).flipped = d.flipped := rfl
@[simp] theorem Dev.setChan_drainFrom (d : Dev) (n : Nat) (x : Chan) : (d.setChan n x).drainFrom = d.drainFrom := rfl
@[simp] theorem Dev.setChan_drainSlow (d : Dev) (n : Nat) (x : Chan) : (d.setChan n x).drainSlow = d.drainSlow := rfl
@[simp] theorem Dev.setChan_loader (d : Dev) (n : Nat) (x : Chan) : (d.setChan n x).loader = d.loader := rfl
@[simp] theorem Dev.setChan_tim (d : Dev) (n : Nat) (x : Chan) : (d.setChan n x).tim = d.tim := rfl
@[simp] theorem Dev.setChan_gates (d : Dev) (n : Nat) (x : Chan) : (d.setChan n x).gates = d.gates := rfl
@[simp] theorem Dev.setChan_pwr (d : Dev) (n : Nat) (x : Chan) : (d.setChan n x).pwr = d.pwr := rfl
@[simp] theorem Dev.setChan_answers (d : Dev) (n : Nat) (x : Chan) : (d.setChan n x).answers = d.answers := rfl
@[simp] theorem Dev.setChan_hif (d : Dev) (n : Nat) (x : Chan) : (d.setChan n x).hif = d.hif := rfl
@[simp] theorem Dev.setChan_flt (d : Dev) (n : Nat) (x : Chan) : (d.setChan n x).flt = d.flt := rfl
@[simp] theorem Dev.setChan_elapsed (d : Dev) (n : Nat) (x : Chan) : (d.setChan n x).elapsed = d.elapsed := rfl
@[simp] theorem Dev.setChan_wire (d : Dev) (n : Nat) (x : Chan) : (d.setChan n x).wire = d.wire := rfl
@[simp] theorem Dev.setChan_bus (d : Dev) (n : Nat) (x : Chan) : (d.setChan n x).bus = d.bus := rfl
@[simp] theorem Dev.setChan_sbOut (d : Dev) (n : Nat) (x : Chan) : (d.setChan n x).sbOut = d.sbOut := rfl
@[simp] theorem Dev.setChan_ctxDiscards (d : Dev) (n : Nat) (x : Chan) : (d.setChan n x).ctxDiscards = d.ctxDiscards := rfl
@[simp] theorem Dev.setChan_freeCtr (d : Dev) (n : Nat) (x : Chan) : (d.setChan n x).freeCtr = d.freeCtr := rfl
@[simp] theorem Dev.setChan_pidCtr (d : Dev) (n : Nat) (x : Chan) : (d.setChan n x).pidCtr = d.pidCtr := rfl

@[simp] theorem Dev.setSub_regs (d : Dev) (r : Nat) (x : Sub) : (d.setSub r x).regs = d.regs := rfl
@[simp] theorem Dev.setSub_pins (d : Dev) (r : Nat) (x : Sub) : (d.setSub r x).pins = d.pins := rfl
@[simp] theorem Dev.setSub_ports (d : Dev) (r : Nat) (x : Sub) : (d.setSub r x).ports = d.ports := rfl
@[simp] theorem Dev.setSub_rxq (d : Dev) (r : Nat) (x : Sub) : (d.setSub r x).rxq = d.rxq := rfl
@[simp] theorem Dev.setSub_pkts (d : Dev) (r : Nat) (x : Sub) : (d.setSub r x).pkts = d.pkts := rfl
@[simp] theorem Dev.setSub_turns (d : Dev) (r : Nat) (x : Sub) : (d.setSub r x).turns = d.turns := rfl
@[simp] theorem Dev.setSub_discards (d : Dev) (r : Nat) (x : Sub) : (d.setSub r x).discards = d.discards := rfl
@[simp] theorem Dev.setSub_credit (d : Dev) (r : Nat) (x : Sub) : (d.setSub r x).credit = d.credit := rfl
@[simp] theorem Dev.setSub_creditAt (d : Dev) (r : Nat) (x : Sub) : (d.setSub r x).creditAt = d.creditAt := rfl
@[simp] theorem Dev.setSub_data (d : Dev) (r : Nat) (x : Sub) : (d.setSub r x).data = d.data := rfl
@[simp] theorem Dev.setSub_queues (d : Dev) (r : Nat) (x : Sub) : (d.setSub r x).queues = d.queues := rfl
@[simp] theorem Dev.setSub_intakes (d : Dev) (r : Nat) (x : Sub) : (d.setSub r x).intakes = d.intakes := rfl
@[simp] theorem Dev.setSub_residue (d : Dev) (r : Nat) (x : Sub) : (d.setSub r x).residue = d.residue := rfl
@[simp] theorem Dev.setSub_repls (d : Dev) (r : Nat) (x : Sub) : (d.setSub r x).repls = d.repls := rfl
@[simp] theorem Dev.setSub_spillQ (d : Dev) (r : Nat) (x : Sub) : (d.setSub r x).spillQ = d.spillQ := rfl
@[simp] theorem Dev.setSub_recircAt (d : Dev) (r : Nat) (x : Sub) : (d.setSub r x).recircAt = d.recircAt := rfl
@[simp] theorem Dev.setSub_countdown (d : Dev) (r : Nat) (x : Sub) : (d.setSub r x).countdown = d.countdown := rfl
@[simp] theorem Dev.setSub_seqs (d : Dev) (r : Nat) (x : Sub) : (d.setSub r x).seqs = d.seqs := rfl
@[simp] theorem Dev.setSub_captures (d : Dev) (r : Nat) (x : Sub) : (d.setSub r x).captures = d.captures := rfl
@[simp] theorem Dev.setSub_buckets (d : Dev) (r : Nat) (x : Sub) : (d.setSub r x).buckets = d.buckets := rfl
@[simp] theorem Dev.setSub_drr (d : Dev) (r : Nat) (x : Sub) : (d.setSub r x).drr = d.drr := rfl
@[simp] theorem Dev.setSub_tables (d : Dev) (r : Nat) (x : Sub) : (d.setSub r x).tables = d.tables := rfl
@[simp] theorem Dev.setSub_hitSets (d : Dev) (r : Nat) (x : Sub) : (d.setSub r x).hitSets = d.hitSets := rfl
@[simp] theorem Dev.setSub_writeBacks (d : Dev) (r : Nat) (x : Sub) : (d.setSub r x).writeBacks = d.writeBacks := rfl
@[simp] theorem Dev.setSub_fawn (d : Dev) (r : Nat) (x : Sub) : (d.setSub r x).fawn = d.fawn := rfl
@[simp] theorem Dev.setSub_cands (d : Dev) (r : Nat) (x : Sub) : (d.setSub r x).cands = d.cands := rfl
@[simp] theorem Dev.setSub_notes (d : Dev) (r : Nat) (x : Sub) : (d.setSub r x).notes = d.notes := rfl
@[simp] theorem Dev.setSub_fences (d : Dev) (r : Nat) (x : Sub) : (d.setSub r x).fences = d.fences := rfl
@[simp] theorem Dev.setSub_cham (d : Dev) (r : Nat) (x : Sub) : (d.setSub r x).cham = d.cham := rfl
@[simp] theorem Dev.setSub_chQueues (d : Dev) (r : Nat) (x : Sub) : (d.setSub r x).chQueues = d.chQueues := rfl
@[simp] theorem Dev.setSub_cmp (d : Dev) (r : Nat) (x : Sub) : (d.setSub r x).cmp = d.cmp := rfl
@[simp] theorem Dev.setSub_engines (d : Dev) (r : Nat) (x : Sub) : (d.setSub r x).engines = d.engines := rfl
@[simp] theorem Dev.setSub_dmem (d : Dev) (r : Nat) (x : Sub) : (d.setSub r x).dmem = d.dmem := rfl
@[simp] theorem Dev.setSub_dmemBad (d : Dev) (r : Nat) (x : Sub) : (d.setSub r x).dmemBad = d.dmemBad := rfl
@[simp] theorem Dev.setSub_frags (d : Dev) (r : Nat) (x : Sub) : (d.setSub r x).frags = d.frags := rfl
@[simp] theorem Dev.setSub_gens (d : Dev) (r : Nat) (x : Sub) : (d.setSub r x).gens = d.gens := rfl
@[simp] theorem Dev.setSub_flipping (d : Dev) (r : Nat) (x : Sub) : (d.setSub r x).flipping = d.flipping := rfl
@[simp] theorem Dev.setSub_flipped (d : Dev) (r : Nat) (x : Sub) : (d.setSub r x).flipped = d.flipped := rfl
@[simp] theorem Dev.setSub_drainFrom (d : Dev) (r : Nat) (x : Sub) : (d.setSub r x).drainFrom = d.drainFrom := rfl
@[simp] theorem Dev.setSub_drainSlow (d : Dev) (r : Nat) (x : Sub) : (d.setSub r x).drainSlow = d.drainSlow := rfl
@[simp] theorem Dev.setSub_loader (d : Dev) (r : Nat) (x : Sub) : (d.setSub r x).loader = d.loader := rfl
@[simp] theorem Dev.setSub_tim (d : Dev) (r : Nat) (x : Sub) : (d.setSub r x).tim = d.tim := rfl
@[simp] theorem Dev.setSub_gates (d : Dev) (r : Nat) (x : Sub) : (d.setSub r x).gates = d.gates := rfl
@[simp] theorem Dev.setSub_pwr (d : Dev) (r : Nat) (x : Sub) : (d.setSub r x).pwr = d.pwr := rfl
@[simp] theorem Dev.setSub_chans (d : Dev) (r : Nat) (x : Sub) : (d.setSub r x).chans = d.chans := rfl
@[simp] theorem Dev.setSub_answers (d : Dev) (r : Nat) (x : Sub) : (d.setSub r x).answers = d.answers := rfl
@[simp] theorem Dev.setSub_flt (d : Dev) (r : Nat) (x : Sub) : (d.setSub r x).flt = d.flt := rfl
@[simp] theorem Dev.setSub_elapsed (d : Dev) (r : Nat) (x : Sub) : (d.setSub r x).elapsed = d.elapsed := rfl
@[simp] theorem Dev.setSub_wire (d : Dev) (r : Nat) (x : Sub) : (d.setSub r x).wire = d.wire := rfl
@[simp] theorem Dev.setSub_bus (d : Dev) (r : Nat) (x : Sub) : (d.setSub r x).bus = d.bus := rfl
@[simp] theorem Dev.setSub_sbOut (d : Dev) (r : Nat) (x : Sub) : (d.setSub r x).sbOut = d.sbOut := rfl
@[simp] theorem Dev.setSub_ctxDiscards (d : Dev) (r : Nat) (x : Sub) : (d.setSub r x).ctxDiscards = d.ctxDiscards := rfl
@[simp] theorem Dev.setSub_freeCtr (d : Dev) (r : Nat) (x : Sub) : (d.setSub r x).freeCtr = d.freeCtr := rfl
@[simp] theorem Dev.setSub_pidCtr (d : Dev) (r : Nat) (x : Sub) : (d.setSub r x).pidCtr = d.pidCtr := rfl

@[simp] theorem Dev.noteDiscard_regs (d : Dev) (pid why : Nat) : (d.noteDiscard pid why).regs = d.regs := rfl
@[simp] theorem Dev.noteDiscard_pins (d : Dev) (pid why : Nat) : (d.noteDiscard pid why).pins = d.pins := rfl
@[simp] theorem Dev.noteDiscard_ports (d : Dev) (pid why : Nat) : (d.noteDiscard pid why).ports = d.ports := rfl
@[simp] theorem Dev.noteDiscard_rxq (d : Dev) (pid why : Nat) : (d.noteDiscard pid why).rxq = d.rxq := rfl
@[simp] theorem Dev.noteDiscard_pkts (d : Dev) (pid why : Nat) : (d.noteDiscard pid why).pkts = d.pkts := rfl
@[simp] theorem Dev.noteDiscard_turns (d : Dev) (pid why : Nat) : (d.noteDiscard pid why).turns = d.turns := rfl
@[simp] theorem Dev.noteDiscard_credit (d : Dev) (pid why : Nat) : (d.noteDiscard pid why).credit = d.credit := rfl
@[simp] theorem Dev.noteDiscard_creditAt (d : Dev) (pid why : Nat) : (d.noteDiscard pid why).creditAt = d.creditAt := rfl
@[simp] theorem Dev.noteDiscard_data (d : Dev) (pid why : Nat) : (d.noteDiscard pid why).data = d.data := rfl
@[simp] theorem Dev.noteDiscard_queues (d : Dev) (pid why : Nat) : (d.noteDiscard pid why).queues = d.queues := rfl
@[simp] theorem Dev.noteDiscard_intakes (d : Dev) (pid why : Nat) : (d.noteDiscard pid why).intakes = d.intakes := rfl
@[simp] theorem Dev.noteDiscard_residue (d : Dev) (pid why : Nat) : (d.noteDiscard pid why).residue = d.residue := rfl
@[simp] theorem Dev.noteDiscard_repls (d : Dev) (pid why : Nat) : (d.noteDiscard pid why).repls = d.repls := rfl
@[simp] theorem Dev.noteDiscard_spillQ (d : Dev) (pid why : Nat) : (d.noteDiscard pid why).spillQ = d.spillQ := rfl
@[simp] theorem Dev.noteDiscard_recircAt (d : Dev) (pid why : Nat) : (d.noteDiscard pid why).recircAt = d.recircAt := rfl
@[simp] theorem Dev.noteDiscard_countdown (d : Dev) (pid why : Nat) : (d.noteDiscard pid why).countdown = d.countdown := rfl
@[simp] theorem Dev.noteDiscard_seqs (d : Dev) (pid why : Nat) : (d.noteDiscard pid why).seqs = d.seqs := rfl
@[simp] theorem Dev.noteDiscard_captures (d : Dev) (pid why : Nat) : (d.noteDiscard pid why).captures = d.captures := rfl
@[simp] theorem Dev.noteDiscard_buckets (d : Dev) (pid why : Nat) : (d.noteDiscard pid why).buckets = d.buckets := rfl
@[simp] theorem Dev.noteDiscard_drr (d : Dev) (pid why : Nat) : (d.noteDiscard pid why).drr = d.drr := rfl
@[simp] theorem Dev.noteDiscard_tables (d : Dev) (pid why : Nat) : (d.noteDiscard pid why).tables = d.tables := rfl
@[simp] theorem Dev.noteDiscard_hitSets (d : Dev) (pid why : Nat) : (d.noteDiscard pid why).hitSets = d.hitSets := rfl
@[simp] theorem Dev.noteDiscard_writeBacks (d : Dev) (pid why : Nat) : (d.noteDiscard pid why).writeBacks = d.writeBacks := rfl
@[simp] theorem Dev.noteDiscard_fawn (d : Dev) (pid why : Nat) : (d.noteDiscard pid why).fawn = d.fawn := rfl
@[simp] theorem Dev.noteDiscard_cands (d : Dev) (pid why : Nat) : (d.noteDiscard pid why).cands = d.cands := rfl
@[simp] theorem Dev.noteDiscard_notes (d : Dev) (pid why : Nat) : (d.noteDiscard pid why).notes = d.notes := rfl
@[simp] theorem Dev.noteDiscard_fences (d : Dev) (pid why : Nat) : (d.noteDiscard pid why).fences = d.fences := rfl
@[simp] theorem Dev.noteDiscard_cham (d : Dev) (pid why : Nat) : (d.noteDiscard pid why).cham = d.cham := rfl
@[simp] theorem Dev.noteDiscard_chQueues (d : Dev) (pid why : Nat) : (d.noteDiscard pid why).chQueues = d.chQueues := rfl
@[simp] theorem Dev.noteDiscard_cmp (d : Dev) (pid why : Nat) : (d.noteDiscard pid why).cmp = d.cmp := rfl
@[simp] theorem Dev.noteDiscard_engines (d : Dev) (pid why : Nat) : (d.noteDiscard pid why).engines = d.engines := rfl
@[simp] theorem Dev.noteDiscard_dmem (d : Dev) (pid why : Nat) : (d.noteDiscard pid why).dmem = d.dmem := rfl
@[simp] theorem Dev.noteDiscard_dmemBad (d : Dev) (pid why : Nat) : (d.noteDiscard pid why).dmemBad = d.dmemBad := rfl
@[simp] theorem Dev.noteDiscard_frags (d : Dev) (pid why : Nat) : (d.noteDiscard pid why).frags = d.frags := rfl
@[simp] theorem Dev.noteDiscard_gens (d : Dev) (pid why : Nat) : (d.noteDiscard pid why).gens = d.gens := rfl
@[simp] theorem Dev.noteDiscard_flipping (d : Dev) (pid why : Nat) : (d.noteDiscard pid why).flipping = d.flipping := rfl
@[simp] theorem Dev.noteDiscard_flipped (d : Dev) (pid why : Nat) : (d.noteDiscard pid why).flipped = d.flipped := rfl
@[simp] theorem Dev.noteDiscard_drainFrom (d : Dev) (pid why : Nat) : (d.noteDiscard pid why).drainFrom = d.drainFrom := rfl
@[simp] theorem Dev.noteDiscard_drainSlow (d : Dev) (pid why : Nat) : (d.noteDiscard pid why).drainSlow = d.drainSlow := rfl
@[simp] theorem Dev.noteDiscard_loader (d : Dev) (pid why : Nat) : (d.noteDiscard pid why).loader = d.loader := rfl
@[simp] theorem Dev.noteDiscard_tim (d : Dev) (pid why : Nat) : (d.noteDiscard pid why).tim = d.tim := rfl
@[simp] theorem Dev.noteDiscard_gates (d : Dev) (pid why : Nat) : (d.noteDiscard pid why).gates = d.gates := rfl
@[simp] theorem Dev.noteDiscard_pwr (d : Dev) (pid why : Nat) : (d.noteDiscard pid why).pwr = d.pwr := rfl
@[simp] theorem Dev.noteDiscard_chans (d : Dev) (pid why : Nat) : (d.noteDiscard pid why).chans = d.chans := rfl
@[simp] theorem Dev.noteDiscard_answers (d : Dev) (pid why : Nat) : (d.noteDiscard pid why).answers = d.answers := rfl
@[simp] theorem Dev.noteDiscard_hif (d : Dev) (pid why : Nat) : (d.noteDiscard pid why).hif = d.hif := rfl
@[simp] theorem Dev.noteDiscard_flt (d : Dev) (pid why : Nat) : (d.noteDiscard pid why).flt = d.flt := rfl
@[simp] theorem Dev.noteDiscard_elapsed (d : Dev) (pid why : Nat) : (d.noteDiscard pid why).elapsed = d.elapsed := rfl
@[simp] theorem Dev.noteDiscard_wire (d : Dev) (pid why : Nat) : (d.noteDiscard pid why).wire = d.wire := rfl
@[simp] theorem Dev.noteDiscard_bus (d : Dev) (pid why : Nat) : (d.noteDiscard pid why).bus = d.bus := rfl
@[simp] theorem Dev.noteDiscard_sbOut (d : Dev) (pid why : Nat) : (d.noteDiscard pid why).sbOut = d.sbOut := rfl
@[simp] theorem Dev.noteDiscard_ctxDiscards (d : Dev) (pid why : Nat) : (d.noteDiscard pid why).ctxDiscards = d.ctxDiscards := rfl
@[simp] theorem Dev.noteDiscard_freeCtr (d : Dev) (pid why : Nat) : (d.noteDiscard pid why).freeCtr = d.freeCtr := rfl
@[simp] theorem Dev.noteDiscard_pidCtr (d : Dev) (pid why : Nat) : (d.noteDiscard pid why).pidCtr = d.pidCtr := rfl

@[simp] theorem Dev.setLevel_regs (d : Dev) (k i : Nat) (l : Int) : (d.setLevel k i l).regs = d.regs := rfl
@[simp] theorem Dev.setLevel_pins (d : Dev) (k i : Nat) (l : Int) : (d.setLevel k i l).pins = d.pins := rfl
@[simp] theorem Dev.setLevel_ports (d : Dev) (k i : Nat) (l : Int) : (d.setLevel k i l).ports = d.ports := rfl
@[simp] theorem Dev.setLevel_rxq (d : Dev) (k i : Nat) (l : Int) : (d.setLevel k i l).rxq = d.rxq := rfl
@[simp] theorem Dev.setLevel_pkts (d : Dev) (k i : Nat) (l : Int) : (d.setLevel k i l).pkts = d.pkts := rfl
@[simp] theorem Dev.setLevel_turns (d : Dev) (k i : Nat) (l : Int) : (d.setLevel k i l).turns = d.turns := rfl
@[simp] theorem Dev.setLevel_discards (d : Dev) (k i : Nat) (l : Int) : (d.setLevel k i l).discards = d.discards := rfl
@[simp] theorem Dev.setLevel_credit (d : Dev) (k i : Nat) (l : Int) : (d.setLevel k i l).credit = d.credit := rfl
@[simp] theorem Dev.setLevel_creditAt (d : Dev) (k i : Nat) (l : Int) : (d.setLevel k i l).creditAt = d.creditAt := rfl
@[simp] theorem Dev.setLevel_data (d : Dev) (k i : Nat) (l : Int) : (d.setLevel k i l).data = d.data := rfl
@[simp] theorem Dev.setLevel_queues (d : Dev) (k i : Nat) (l : Int) : (d.setLevel k i l).queues = d.queues := rfl
@[simp] theorem Dev.setLevel_intakes (d : Dev) (k i : Nat) (l : Int) : (d.setLevel k i l).intakes = d.intakes := rfl
@[simp] theorem Dev.setLevel_residue (d : Dev) (k i : Nat) (l : Int) : (d.setLevel k i l).residue = d.residue := rfl
@[simp] theorem Dev.setLevel_repls (d : Dev) (k i : Nat) (l : Int) : (d.setLevel k i l).repls = d.repls := rfl
@[simp] theorem Dev.setLevel_spillQ (d : Dev) (k i : Nat) (l : Int) : (d.setLevel k i l).spillQ = d.spillQ := rfl
@[simp] theorem Dev.setLevel_recircAt (d : Dev) (k i : Nat) (l : Int) : (d.setLevel k i l).recircAt = d.recircAt := rfl
@[simp] theorem Dev.setLevel_countdown (d : Dev) (k i : Nat) (l : Int) : (d.setLevel k i l).countdown = d.countdown := rfl
@[simp] theorem Dev.setLevel_seqs (d : Dev) (k i : Nat) (l : Int) : (d.setLevel k i l).seqs = d.seqs := rfl
@[simp] theorem Dev.setLevel_captures (d : Dev) (k i : Nat) (l : Int) : (d.setLevel k i l).captures = d.captures := rfl
@[simp] theorem Dev.setLevel_drr (d : Dev) (k i : Nat) (l : Int) : (d.setLevel k i l).drr = d.drr := rfl
@[simp] theorem Dev.setLevel_tables (d : Dev) (k i : Nat) (l : Int) : (d.setLevel k i l).tables = d.tables := rfl
@[simp] theorem Dev.setLevel_hitSets (d : Dev) (k i : Nat) (l : Int) : (d.setLevel k i l).hitSets = d.hitSets := rfl
@[simp] theorem Dev.setLevel_writeBacks (d : Dev) (k i : Nat) (l : Int) : (d.setLevel k i l).writeBacks = d.writeBacks := rfl
@[simp] theorem Dev.setLevel_fawn (d : Dev) (k i : Nat) (l : Int) : (d.setLevel k i l).fawn = d.fawn := rfl
@[simp] theorem Dev.setLevel_cands (d : Dev) (k i : Nat) (l : Int) : (d.setLevel k i l).cands = d.cands := rfl
@[simp] theorem Dev.setLevel_notes (d : Dev) (k i : Nat) (l : Int) : (d.setLevel k i l).notes = d.notes := rfl
@[simp] theorem Dev.setLevel_fences (d : Dev) (k i : Nat) (l : Int) : (d.setLevel k i l).fences = d.fences := rfl
@[simp] theorem Dev.setLevel_cham (d : Dev) (k i : Nat) (l : Int) : (d.setLevel k i l).cham = d.cham := rfl
@[simp] theorem Dev.setLevel_chQueues (d : Dev) (k i : Nat) (l : Int) : (d.setLevel k i l).chQueues = d.chQueues := rfl
@[simp] theorem Dev.setLevel_cmp (d : Dev) (k i : Nat) (l : Int) : (d.setLevel k i l).cmp = d.cmp := rfl
@[simp] theorem Dev.setLevel_engines (d : Dev) (k i : Nat) (l : Int) : (d.setLevel k i l).engines = d.engines := rfl
@[simp] theorem Dev.setLevel_dmem (d : Dev) (k i : Nat) (l : Int) : (d.setLevel k i l).dmem = d.dmem := rfl
@[simp] theorem Dev.setLevel_dmemBad (d : Dev) (k i : Nat) (l : Int) : (d.setLevel k i l).dmemBad = d.dmemBad := rfl
@[simp] theorem Dev.setLevel_frags (d : Dev) (k i : Nat) (l : Int) : (d.setLevel k i l).frags = d.frags := rfl
@[simp] theorem Dev.setLevel_gens (d : Dev) (k i : Nat) (l : Int) : (d.setLevel k i l).gens = d.gens := rfl
@[simp] theorem Dev.setLevel_flipping (d : Dev) (k i : Nat) (l : Int) : (d.setLevel k i l).flipping = d.flipping := rfl
@[simp] theorem Dev.setLevel_flipped (d : Dev) (k i : Nat) (l : Int) : (d.setLevel k i l).flipped = d.flipped := rfl
@[simp] theorem Dev.setLevel_drainFrom (d : Dev) (k i : Nat) (l : Int) : (d.setLevel k i l).drainFrom = d.drainFrom := rfl
@[simp] theorem Dev.setLevel_drainSlow (d : Dev) (k i : Nat) (l : Int) : (d.setLevel k i l).drainSlow = d.drainSlow := rfl
@[simp] theorem Dev.setLevel_loader (d : Dev) (k i : Nat) (l : Int) : (d.setLevel k i l).loader = d.loader := rfl
@[simp] theorem Dev.setLevel_tim (d : Dev) (k i : Nat) (l : Int) : (d.setLevel k i l).tim = d.tim := rfl
@[simp] theorem Dev.setLevel_gates (d : Dev) (k i : Nat) (l : Int) : (d.setLevel k i l).gates = d.gates := rfl
@[simp] theorem Dev.setLevel_pwr (d : Dev) (k i : Nat) (l : Int) : (d.setLevel k i l).pwr = d.pwr := rfl
@[simp] theorem Dev.setLevel_chans (d : Dev) (k i : Nat) (l : Int) : (d.setLevel k i l).chans = d.chans := rfl
@[simp] theorem Dev.setLevel_answers (d : Dev) (k i : Nat) (l : Int) : (d.setLevel k i l).answers = d.answers := rfl
@[simp] theorem Dev.setLevel_hif (d : Dev) (k i : Nat) (l : Int) : (d.setLevel k i l).hif = d.hif := rfl
@[simp] theorem Dev.setLevel_flt (d : Dev) (k i : Nat) (l : Int) : (d.setLevel k i l).flt = d.flt := rfl
@[simp] theorem Dev.setLevel_elapsed (d : Dev) (k i : Nat) (l : Int) : (d.setLevel k i l).elapsed = d.elapsed := rfl
@[simp] theorem Dev.setLevel_wire (d : Dev) (k i : Nat) (l : Int) : (d.setLevel k i l).wire = d.wire := rfl
@[simp] theorem Dev.setLevel_bus (d : Dev) (k i : Nat) (l : Int) : (d.setLevel k i l).bus = d.bus := rfl
@[simp] theorem Dev.setLevel_sbOut (d : Dev) (k i : Nat) (l : Int) : (d.setLevel k i l).sbOut = d.sbOut := rfl
@[simp] theorem Dev.setLevel_ctxDiscards (d : Dev) (k i : Nat) (l : Int) : (d.setLevel k i l).ctxDiscards = d.ctxDiscards := rfl
@[simp] theorem Dev.setLevel_freeCtr (d : Dev) (k i : Nat) (l : Int) : (d.setLevel k i l).freeCtr = d.freeCtr := rfl
@[simp] theorem Dev.setLevel_pidCtr (d : Dev) (k i : Nat) (l : Int) : (d.setLevel k i l).pidCtr = d.pidCtr := rfl

@[simp] theorem Dev.fresh_fst (d : Dev) (n : Nat) : (d.fresh n).1 = Config.free d.freeCtr % n := rfl
@[simp] theorem Dev.fresh_snd (d : Dev) (n : Nat) : (d.fresh n).2 = { d with freeCtr := d.freeCtr + 1 } := rfl

@[simp] theorem State.wrote_pending (s : State) (x : Dev × HostWrites) : (s.wrote x).pending = s.pending := rfl
@[simp] theorem State.wrote_dev (s : State) (x : Dev × HostWrites) : (s.wrote x).dev = x.1 := rfl

end Sys2Proof.Machine
end

