-- ==== Sys2Proof/Laws/Ops.lean ====
section
/-! SUPPORT. What the shared operations can do: register accesses, commands on one packet, raising an event, and writes of host memory. -/

namespace Sys2Proof.Machine

/-! ### Register accesses (R536, R537, R564) -/

theorem Dev.access_open (d : Dev) (a : Nat) (v : Option Word) (f : Dev → Dev) (hu : d.up = true) (ha : d.accessOpen a = true) :
    d.access a v f = f d := by simp [Dev.access, hu, ha]

theorem Dev.access_held (d : Dev) (a : Nat) (v : Option Word) (f : Dev → Dev) (hu : d.up = true) (ha : d.accessOpen a = false) :
    d.access a v f = { d with flt := { d.flt with held := d.flt.held ++ [(a, v)] } } := by simp [Dev.access, hu, ha]

/-- Before RUN a write leaves the device as it is. -/
theorem Dev.access_write_before (d : Dev) (a : Nat) (v : Word) (f : Dev → Dev) (hu : d.up = false) : d.access a (some v) f = d := by
  simp [Dev.access, hu]

/-- Before RUN a read returns all ones and does nothing else. -/
theorem Dev.access_read_before (d : Dev) (a : Nat) (f : Dev → Dev) (hu : d.up = false) (h0 : d.stage ≠ 0) :
    d.access a none f = { d with bus := BitVec.allOnes 64 } := by simp [Dev.access, hu, h0]

/-- In RUN and with nothing restarting, no access is held. -/
theorem Dev.accessOpen_of_running (d : Dev) (a : Nat) (hr : d.running = true) (hb : d.flt.blocks = []) (he : d.flt.eland = none) :
    d.accessOpen a = true := by simp [Dev.accessOpen, Dev.windowHeld, hr, hb, he]

theorem Dev.up_of_running (d : Dev) (h : d.running = true) : d.up = true := by simp [Dev.up, h]

/-! ### Commands on the packet of one context -/

theorem Dev.withPkt_acts (d : Dev) (c : Nat) (ok : Pkt → Bool) (f : Pkt → Dev) (p : Pkt) (hr : d.running = true) (hp : d.pkt c = some p)
    (ho : ok p = true) : d.withPkt c ok f = f p := by simp [Dev.withPkt, hr, hp, ho]

/-- Either the packet is there and `f` acts, or nothing happens. -/
theorem Dev.withPkt_cases (d : Dev) (c : Nat) (ok : Pkt → Bool) (f : Pkt → Dev) :
    (∃ p, d.running = true ∧ d.pkt c = some p ∧ ok p = true ∧ d.withPkt c ok f = f p) ∨ d.withPkt c ok f = d := by
  unfold Dev.withPkt
  by_cases hr : d.running = true
  · simp only [hr, if_true]
    cases hp : d.pkt c with
    | none => exact .inr rfl
    | some p =>
      by_cases ho : ok p = true
      · exact .inl ⟨p, trivial, rfl, ho, by simp [ho]⟩
      · exact .inr (by simp [ho])
  · simp [hr]

@[simp] theorem Dev.pkt_setPkt_same (d : Dev) (c : Nat) (p : Pkt) : (d.setPkt c p).pkt c = some p := by
  simp [Dev.setPkt, Dev.pkt]

theorem Dev.pkt_setPkt_other (d : Dev) (c k : Nat) (p : Pkt) (h : k ≠ c) : (d.setPkt c p).pkt k = d.pkt k :=
  Map.find_put_other d.pkts c k p h

theorem Dev.pkt_dropPkt_other (d : Dev) (c k : Nat) (h : k ≠ c) : (d.dropPkt c).pkt k = d.pkt k :=
  Map.find_del_other d.pkts c k h

/-! ### Events and messages (R475, R521) -/

/-- Sending a vector's message touches registers and the host interface, and nothing else. -/
theorem Dev.sendVec_frame (d : Dev) (f v : Nat) : ∃ r h, d.sendVec f v = { d with regs := r, hif := h } := by
  unfold Dev.sendVec
  dsimp only
  split
  · split
    · exact ⟨_, d.hif, rfl⟩
    · exact ⟨d.regs, _, rfl⟩
  · exact ⟨_, _, rfl⟩

theorem Dev.sendEvt_frame (d : Dev) (s : Nat) : ∃ r h, d.sendEvt s = { d with regs := r, hif := h } := by
  unfold Dev.sendEvt
  dsimp only
  split
  · split
    · exact ⟨d.regs, _, rfl⟩
    · exact Dev.sendVec_frame d _ _
  · exact ⟨d.regs, d.hif, rfl⟩

/-- Raising events touches registers and the host interface, and nothing else. -/
theorem Dev.raiseMask_frame (d : Dev) (s bits : Nat) : ∃ r h, d.raiseMask s bits = { d with regs := r, hif := h } := by
  unfold Dev.raiseMask
  cases evtReg s with
  | none => exact ⟨d.regs, d.hif, rfl⟩
  | some a =>
    dsimp only
    split
    · obtain ⟨r, h, e⟩ := Dev.sendEvt_frame (d.setReg a (d.reg a ||| BitVec.ofNat 64 bits)) s
      exact ⟨r, h, by rw [e]; rfl⟩
    · exact ⟨_, d.hif, rfl⟩

theorem Dev.raise_frame (d : Dev) (s b : Nat) : ∃ r h, d.raise s b = { d with regs := r, hif := h } := Dev.raiseMask_frame d s (2 ^ b)

@[simp] theorem Dev.raise_pkts (d : Dev) (s b : Nat) : (d.raise s b).pkts = d.pkts := by obtain ⟨r, h, e⟩ := d.raise_frame s b; rw [e]
@[simp] theorem Dev.raise_tables (d : Dev) (s b : Nat) : (d.raise s b).tables = d.tables := by obtain ⟨r, h, e⟩ := d.raise_frame s b; rw [e]
@[simp] theorem Dev.raise_queues (d : Dev) (s b : Nat) : (d.raise s b).queues = d.queues := by obtain ⟨r, h, e⟩ := d.raise_frame s b; rw [e]
@[simp] theorem Dev.raise_flt (d : Dev) (s b : Nat) : (d.raise s b).flt = d.flt := by obtain ⟨r, h, e⟩ := d.raise_frame s b; rw [e]
@[simp] theorem Dev.raise_tim (d : Dev) (s b : Nat) : (d.raise s b).tim = d.tim := by obtain ⟨r, h, e⟩ := d.raise_frame s b; rw [e]
@[simp] theorem Dev.raise_gens (d : Dev) (s b : Nat) : (d.raise s b).gens = d.gens := by obtain ⟨r, h, e⟩ := d.raise_frame s b; rw [e]
@[simp] theorem Dev.raise_pwr (d : Dev) (s b : Nat) : (d.raise s b).pwr = d.pwr := by obtain ⟨r, h, e⟩ := d.raise_frame s b; rw [e]
@[simp] theorem Dev.raise_chans (d : Dev) (s b : Nat) : (d.raise s b).chans = d.chans := by obtain ⟨r, h, e⟩ := d.raise_frame s b; rw [e]
@[simp] theorem Dev.raise_ports (d : Dev) (s b : Nat) : (d.raise s b).ports = d.ports := by obtain ⟨r, h, e⟩ := d.raise_frame s b; rw [e]
@[simp] theorem Dev.raise_gates (d : Dev) (s b : Nat) : (d.raise s b).gates = d.gates := by obtain ⟨r, h, e⟩ := d.raise_frame s b; rw [e]
@[simp] theorem Dev.raise_engines (d : Dev) (s b : Nat) : (d.raise s b).engines = d.engines := by obtain ⟨r, h, e⟩ := d.raise_frame s b; rw [e]
@[simp] theorem Dev.raise_loader (d : Dev) (s b : Nat) : (d.raise s b).loader = d.loader := by obtain ⟨r, h, e⟩ := d.raise_frame s b; rw [e]

/-- A source's message changes no register but HIF_COUNT13 and the pending bits of the vectors. -/
theorem Dev.sendEvt_reg (d : Dev) (s a : Nat) (hc : a ≠ Reg.HIF_COUNT 13) (hp : ∀ k, a ≠ Reg.SYS_MSIX_PBA k) : (d.sendEvt s).reg a = d.reg a := by
  unfold Dev.sendEvt
  dsimp only
  split
  · split
    · rfl
    · unfold Dev.sendVec
      dsimp only
      split
      · split
        · exact Dev.reg_setReg_other _ _ _ _ (hp _)
        · rfl
      · exact Dev.reg_setReg_other _ _ _ _ hc
  · rfl

/-- Raising an event changes its EVENT register, HIF_COUNT13 and the pending bits of the vectors, and no other register. -/
theorem Dev.raiseMask_reg (d : Dev) (s bits a : Nat) (he : evtReg s ≠ some a) (hc : a ≠ Reg.HIF_COUNT 13) (hp : ∀ k, a ≠ Reg.SYS_MSIX_PBA k) :
    (d.raiseMask s bits).reg a = d.reg a := by
  unfold Dev.raiseMask
  cases h : evtReg s with
  | none => rfl
  | some b =>
    have hb : a ≠ b := fun x => he (by rw [h, x])
    dsimp only
    split
    · rw [Dev.sendEvt_reg _ _ _ hc hp, Dev.reg_setReg_other _ _ _ _ hb]
    · exact Dev.reg_setReg_other _ _ _ _ hb

/-! ### Host memory -/

@[simp] theorem State.wrote_host_nil (s : State) (d : Dev) : (s.wrote (d, [])).host = s.host := rfl

/-- A byte outside every range written keeps its value. -/
theorem State.read_wrote_other (s : State) (x : Dev × HostWrites) (a : Nat) (h : ∀ w ∈ x.2, a < w.1 ∨ w.1 + w.2.length ≤ a) :
    Mem.read (s.wrote x).host a = Mem.read s.host a := by
  have key : ∀ (l : HostWrites) (m : List Host.Cell), (∀ w ∈ l, a < w.1 ∨ w.1 + w.2.length ≤ a) →
      Mem.read (l.foldl (fun m w => Mem.writeAll m w.1 w.2) m) a = Mem.read m a := by
    intro l
    induction l with
    | nil => intro m _; rfl
    | cons w r ih =>
      intro m hl
      rw [List.foldl_cons, ih _ fun v hv => hl v (List.mem_cons_of_mem _ hv)]
      exact Mem.read_writeAll_other w.2 m w.1 a (hl w (List.mem_cons_self ..))
  exact key x.2 s.host h

/-- A step with a command waiting takes it off the queue and runs it. -/
theorem step_cons (c : Instr) (rest : List Instr) (s : State) (h : s.pending = c :: rest) : step s = exec c { s with pending := rest } := by
  simp [step, h]

theorem step_nil (s : State) (h : s.pending = []) : step s = .next { s with dev := s.dev.tick } := by simp [step, h]

end Sys2Proof.Machine
end

