-- ==== Sys2Proof/WellFormed.lean ====
section
/-! DEFINITION. Which commands name things that the device has: contexts, ports, rings, engines and threads, registers, words of the
widths the manual gives. The meanings of `exec` check for themselves: a command that names nothing leaves the state as it is. -/

namespace Sys2Proof

/-- The operands of a command lie in the ranges the manual gives. -/
def Instr.wf : Instr → Bool
  | .frameRx port bytes _ _ _ => decide (port < 130) && decide (bytes.length < 16384)
  | .crossing quad => decide (quad < 26)
  | .parse ctx => decide (ctx < 65536)
  | .lookup ctx _ => decide (ctx < 65536)
  | .dramLpmRead ctx => decide (ctx < 65536)
  | .chamoisSearch ctx => decide (ctx < 65536)
  | .actionMerge ctx _ _ => decide (ctx < 65536)
  | .police ctx => decide (ctx < 65536)
  | .admission ctx _ => decide (ctx < 65536)
  | .mcCopy ctx => decide (ctx < 65536)
  | .recordLink port => decide (port < 132)
  | .residueMove port => decide (port < 132)
  | .residueTimeout port => decide (port < 132)
  | .captureRecordWrite => true
  | .dequeue port _ => decide (port < 132)
  | .egressRewrite ctx _ _ => decide (ctx < 65536)
  | .frameTx ctx _ _ => decide (ctx < 65536)
  | .tsReportWrite => true
  | .recircReturn ctx => decide (ctx < 65536)
  | .hostDelivery ctx => decide (ctx < 65536)
  | .rxAssign ring => decide (ring < 32768)
  | .hostInject => true
  | .threadTake e => decide (e < 256)
  | .engSum e t _ => decide (e < 256) && decide (t < 8)
  | .engDif e t _ => decide (e < 256) && decide (t < 8)
  | .engMsk e t _ => decide (e < 256) && decide (t < 8)
  | .engJoin e t _ => decide (e < 256) && decide (t < 8)
  | .engFlip e t _ => decide (e < 256) && decide (t < 8)
  | .engLsl e t _ => decide (e < 256) && decide (t < 8)
  | .engLsr e t _ => decide (e < 256) && decide (t < 8)
  | .engMull e t _ => decide (e < 256) && decide (t < 8)
  | .engLess e t _ => decide (e < 256) && decide (t < 8)
  | .engSumk e t _ => decide (e < 256) && decide (t < 8)
  | .engMskk e t _ => decide (e < 256) && decide (t < 8)
  | .engJoink e t _ => decide (e < 256) && decide (t < 8)
  | .engFlipk e t _ => decide (e < 256) && decide (t < 8)
  | .engLslk e t _ => decide (e < 256) && decide (t < 8)
  | .engLsrk e t _ => decide (e < 256) && decide (t < 8)
  | .engField e t _ => decide (e < 256) && decide (t < 8)
  | .engSeth e t _ => decide (e < 256) && decide (t < 8)
  | .engPuth e t _ => decide (e < 256) && decide (t < 8)
  | .engDld e t _ _ => decide (e < 256) && decide (t < 8)
  | .engDst e t _ => decide (e < 256) && decide (t < 8)
  | .engPld e t _ => decide (e < 256) && decide (t < 8)
  | .engPst e t _ => decide (e < 256) && decide (t < 8)
  | .engCld e t _ => decide (e < 256) && decide (t < 8)
  | .engCst e t _ => decide (e < 256) && decide (t < 8)
  | .engIfeq e t _ => decide (e < 256) && decide (t < 8)
  | .engIfne e t _ => decide (e < 256) && decide (t < 8)
  | .engIflo e t _ => decide (e < 256) && decide (t < 8)
  | .engIfhs e t _ => decide (e < 256) && decide (t < 8)
  | .engIfz e t _ => decide (e < 256) && decide (t < 8)
  | .engIfnz e t _ => decide (e < 256) && decide (t < 8)
  | .engCall e t _ => decide (e < 256) && decide (t < 8)
  | .engGoto e t _ => decide (e < 256) && decide (t < 8)
  | .engTlk e t _ => decide (e < 256) && decide (t < 8)
  | .engCnt e t _ => decide (e < 256) && decide (t < 8)
  | .engCrc e t _ => decide (e < 256) && decide (t < 8)
  | .engWait e t _ => decide (e < 256) && decide (t < 8)
  | .engMsg e t _ => decide (e < 256) && decide (t < 8)
  | .engNewp e t _ => decide (e < 256) && decide (t < 8)
  | .engTime e t _ => decide (e < 256) && decide (t < 8)
  | .engSleep e t _ => decide (e < 256) && decide (t < 8)
  | .engCharge e t _ => decide (e < 256) && decide (t < 8)
  | .engHeadadj e t _ => decide (e < 256) && decide (t < 8)
  | .engSend e t _ => decide (e < 256) && decide (t < 8)
  | .engDrop e t _ => decide (e < 256) && decide (t < 8)
  | .engTrap e t _ => decide (e < 256) && decide (t < 8)
  | .fragLookup e t i _ => decide (e < 256) && decide (t < 8) && decide (i < 8)
  | .fragInsert e t i _ => decide (e < 256) && decide (t < 8) && decide (i < 8)
  | .fragAdd e t i _ => decide (e < 256) && decide (t < 8) && decide (i < 8)
  | .fragDelete e t i _ => decide (e < 256) && decide (t < 8) && decide (i < 8)
  | .asyncOpComplete e t i _ _ => decide (e < 256) && decide (t < 8) && decide (i < 8)
  | .sleepWake e t => decide (e < 256) && decide (t < 8)
  | .engMsgWrite e => decide (e < 256)
  | .fragExpired i => decide (i < 4096)
  | .engFragFlush => true
  | .engMemAccess e _ _ => decide (e < 256)
  | .tabInsert r i => decide (r < 32768) && decide (i < 131072)
  | .tabDelete r i => decide (r < 32768) && decide (i < 131072)
  | .tabSearch r i _ => decide (r < 32768) && decide (i < 131072)
  | .tabNext r i _ => decide (r < 32768) && decide (i < 131072)
  | .tabFlushPort r i => decide (r < 32768) && decide (i < 131072)
  | .tabAgeScan r i => decide (r < 32768) && decide (i < 131072)
  | .tabFence r i => decide (r < 32768) && decide (i < 131072)
  | .tabFlow r i _ => decide (r < 32768) && decide (i < 131072)
  | .fenceDone r i => decide (r < 32768) && decide (i < 131072)
  | .fenceTimeout r i => decide (r < 32768) && decide (i < 131072)
  | .agingTest r i _ => decide (r < 32768) && decide (i < 131072)
  | .hitBitSet => true
  | .correctionWriteBack => true
  | .learnCandidate => true
  | .fawnExpired i => decide (i < 4096)
  | .notificationWrite => true
  | .chamoisUpdate g => decide (g < 8)
  | .compareIndex _ _ => true
  | .cmpRestart => true
  | .strLoadStart _ => true
  | .strLoadAbort => true
  | .strLoadData _ => true
  | .strFlashRead _ => true
  | .loadDone => true
  | .strFlip => true
  | .flipDone => true
  | .drainDone => true
  | .drainSlow => true
  | .strForce => true
  | .fuseProgram _ => true
  | .fuseRevoke _ => true
  | .fuseOpDone _ => true
  | .portAdminUp n => decide (n < 130)
  | .portAdminDown n => decide (n < 130)
  | .portRestart n => decide (n < 130)
  | .basePageExchange n _ => decide (n < 130)
  | .trainDone n => decide (n < 130)
  | .trainFail n => decide (n < 130)
  | .linkUp n => decide (n < 130)
  | .alignTimeout n => decide (n < 130)
  | .linkDown n => decide (n < 130)
  | .remoteFault n _ => decide (n < 130)
  | .holdExpired n => decide (n < 130)
  | .mmVerifySend n => decide (n < 130)
  | .mmVerifyResponse n => decide (n < 130)
  | .rclkSquelch k => decide (k < 4)
  | .rclkSelect k _ => decide (k < 4)
  | .puntRateWrite _ => true
  | .prsMalLastRead => true
  | .costCalDisable s => decide (s < 32)
  | .spillCtrlWrite _ => true
  | .msessAWrite n _ => decide (n < 128)
  | .schFlush _ => true
  | .flushDone => true
  | .shaperWrite kind n _ => decide (kind < 4) && decide (n < 131072)
  | .policerWrite p _ => decide (p < 65536)
  | .timTimeRead => true
  | .timStep _ => true
  | .hartSample _ => true
  | .hartClear => true
  | .refSelect _ => true
  | .pllRelock => true
  | .refLost => true
  | .ppsEdge _ _ => true
  | .ppsSlotEnd => true
  | .ppsExpectWrite _ => true
  | .triggerArm k _ => decide (k < 16)
  | .triggerDisarm k => decide (k < 16)
  | .triggerFire k => decide (k < 17)
  | .ppsOutEnable _ => true
  | .captureEdge k _ _ => decide (k < 16)
  | .capRecordWrite => true
  | .timCapLastRead k => decide (k < 16)
  | .cfgChange n _ => decide (n < 128)
  | .gateCancel n => decide (n < 128)
  | .gateChange n => decide (n < 128)
  | .gateCycleStart n => decide (n < 128)
  | .gateEntry n => decide (n < 128)
  | .gateOversize q => decide (q < 131072)
  | .gateDisable n _ => decide (n < 128)
  | .paceMeasure g pace => decide (g < 288) && decide (pace < 4096)
  | .trimStep g => decide (g < 288)
  | .sensorRead temps => decide (temps.length = 64)
  | .feedFrame _ _ => true
  | .forecastTick => true
  | .alarmEdge k _ => decide (k < 16)
  | .fastAlert => true
  | .fastAlertRearm => true
  | .ladderStep => true
  | .ladderRelax => true
  | .floorWrite _ => true
  | .ladderDisable _ => true
  | .rungWrite k _ => decide (k < 16)
  | .railStep k _ => decide (k < 6)
  | .railTelemetry k _ => decide (k < 6)
  | .railWrite k _ _ => decide (k < 6)
  | .recalibration => true
  | .dramRequest cls addr _ => decide (cls < 4) && decide (addr < 68719476736)
  | .dramCommand chan sub _ => decide (chan < 4) && decide (sub < 2)
  | .rowClose chan bank => decide (chan < 4) && decide (bank < 32)
  | .refreshInterval chan => decide (chan < 4)
  | .mr4Read chan _ _ => decide (chan < 4)
  | .spRequest _ => true
  | .spPhaseDone chan => decide (chan < 4)
  | .trainStepDone chan _ => decide (chan < 4)
  | .dqsOscRead chan _ => decide (chan < 4)
  | .dmcTrainGo _ => true
  | .spRateWrite k _ => decide (k < 4)
  | .reserveWrite _ => true
  | .dmcEccLastRead => true
  | .doorbell g => decide (g < 512)
  | .doorbellScan g => decide (g < 512)
  | .entryFetch r _ => decide (r < 32768)
  | .subPad r i => decide (r < 32768) && decide (i < 131072)
  | .subNop r i => decide (r < 32768) && decide (i < 131072)
  | .subCopy r i => decide (r < 32768) && decide (i < 131072)
  | .subWriteInline r i => decide (r < 32768) && decide (i < 131072)
  | .subTx r i _ => decide (r < 32768) && decide (i < 131072)
  | .subRxBuf r i => decide (r < 32768) && decide (i < 131072)
  | .subXltInv r i => decide (r < 32768) && decide (i < 131072)
  | .xltInvDone r i => decide (r < 32768) && decide (i < 131072)
  | .dmaChunk r i _ => decide (r < 32768) && decide (i < 131072)
  | .completionWrite r => decide (r < 32768)
  | .ringPiWrite r _ => decide (r < 32768)
  | .ringCiWrite c _ => decide (c < 32768)
  | .ringArm c => decide (c < 32768)
  | .ringEnable r => decide (r < 65536)
  | .ringReset r => decide (r < 65536)
  | .ringResume r => decide (r < 65536)
  | .ringSkip r => decide (r < 65536)
  | .ringStopped r => decide (r < 65536)
  | .xltWalk r kind i iova _ _ => decide (r < 65536) && decide (kind < 6) && decide (i < 131072) && decide (iova < 281474976710656)
  | .faultRecordWrite f => decide (f < 16)
  | .pcieLinkChange speed width => decide (speed < 6) && decide (width = 0 ∨ width = 1 ∨ width = 2 ∨ width = 4 ∨ width = 8)
  | .hostReset => true
  | .vfFlr f => decide (f < 16)
  | .badAccess f addr size _ => decide (f < 16) && decide (addr < 268435456) && decide (size = 1 ∨ size = 2 ∨ size = 4 ∨ size = 8)
  | .hifAccessLogRead => true
  | .eventWrite src _ _ => decide (src < 17 ∨ (64 ≤ src ∧ src < 194) ∨ (256 ≤ src ∧ src < 640))
  | .fault => true
  | .blockRestartDone n => decide (n < 101)
  | .warmRestartDone _ => true
  | .elandRestartDone => true
  | .protocolViolation g => decide (g < 288)
  | .regionStall g => decide (g < 288)
  | .elandWatchdog => true
  | .faultAck k _ => decide (k < 3)
  | .fltInject _ => true
  | .tileRepair _ => true
  | .scrubWord _ => true
  | .tblEccLastRead => true
  | .aarCmpLastRead => true
  | .engTrapLastRead e => decide (e < 256)
  | .pmcOverflow c => decide (c < 256)
  | .pmcSnap g => decide (g < 32)
  | .pmcClear g => decide (g < 32)
  | .pmcCntWrite c _ _ => decide (c < 256)
  | .pmcUnfreeze g => decide (g < 32)
  | .coldReset => true
  | .coldStart _ => true
  | .coldReq _ _ => true
  | .perst _ => true
  | .fuseStageDone _ => true
  | .selftestDone _ => true
  | .rimsDone _ => true
  | .streamStageDone => true
  | .retainDone _ _ => true
  | .releaseDone _ rails => decide (rails.length = 6)
  | .sysLoadData _ f size => decide (f < 16) && decide (size = 4 ∨ size = 8)
  | .sbWrite off _ => decide (off < 65536)
  | .sbRead off _ => decide (off < 65536)
  | .sbTimeout => true
  | .sbStatusRead => true
  | .registerWrite addr _ _ => decide (addr < 4294967296)
  | .engFrag e t _ => decide (e < 256) && decide (t < 8)
  | .triggerPulseEnd k => decide (k < 17)
  | .sourceLaneLock _ => true

end Sys2Proof
end

