-- ==== Sys2Proof/Tests/Slice0.lean ====
section
/-! SUPPORT. Tests: a command with an operand out of range for each check of `Instr.wf`, the manual's worked examples, single steps on small
states, and for every statement with hypotheses a theorem that shows concrete states and operands meeting them, clause by clause. -/

section Tests

set_option Elab.async false

namespace Sys2Proof.Tests

open Sys2Proof.Machine

/-! ### Small states -/

/-- A field of a register set. -/
def sf (a : Nat) (f : Fld) (v : Nat) (d : Dev) : Dev := d.setFld a f v

/-- The device in RUN, its time base at 5,000 ns. -/
def on : Dev := { (Dev.reset.setFld Reg.SYS_STAGE F.SYS_STAGE_STAGE 15) with tim := { Tim.reset with locked := true, free := 5000 } }

/-- A state of a device: nothing in host memory, no command waiting. -/
def st (d : Dev) : State := ⟨d, [], [], []⟩

/-- The next state that a command gives. -/
def nx (c : Instr) (d : Dev) : State :=
  match exec c (st d) with
  | .next t => t
  | _ => State.reset

/-- A packet of 60 bytes at a stage, every context word zero. -/
def pk (g : Stage) : Pkt :=
  { pid := 1, fromHost := false, fromEngine := false, egressPool := false, epipe := 0, words := ctxZero, bytes := List.replicate 60 0
    stage := g, next := 0, counts := [], seq := 1, reads := [], flight := [], dram := none, ecc := false, group := none, pin := none, sub := none
    tsFixed := false, recCell := 0, recOwn := 0, recSpill := 0, spill := none, data := 0, queue := 0, sent := 0, txStart := 0 }

/-- The device in RUN with one packet in context 7. -/
def onPk (p : Pkt) : Dev := on.setPkt 7 p

/-- A body of a section from its words. -/
def body (ws : List Nat) : List Byte := ws.flatMap (leBytes 8)

/-- The device with a section in generation 0, which is active. -/
def sec (t i : Nat) (ws : List Nat) (d : Dev) : Dev :=
  d.setGen 0 { d.gen 0 with st := .active, secs := (d.gen 0).secs ++ [⟨t, i, body ws⟩] }

/-- A received frame of `n` bytes with Ethertype `e`. -/
def frame (n e : Nat) : List Byte := List.replicate 12 2 ++ beBytes 2 e ++ List.replicate (n - 14) 0

end Sys2Proof.Tests

open Sys2Proof Sys2Proof.Machine Sys2Proof.Tests

/-! ### Witnesses: frames, crossings, parser and lookups -/

/-- Port 0 UP with MAX_FRAME 1,518. -/
def Sys2Proof.Tests.up0 : Dev :=
  (sf (Reg.PRT_STATUS 0) F.PRT_STATUS_STATE 4 on).setPort 0 { Port.init with mode := F.PRT_MODE_MAX_FRAME.put 0 1518 }

theorem wit_frameArrives :
    on.portState 0 ≠ stUp ∧ up0.running = true ∧ up0.portState 0 = stUp ∧ F.PRT_MODE_MAX_FRAME.of (up0.modeOf 0) = 1518 ∧
    (frame 59 0).length + 4 < 64 ∧ 64 ≤ (frame 60 0).length + 4 ∧ 1518 < (frame 1515 0).length + 4 ∧ (frame 1514 0).length + 4 ≤ 1518 ∧
    be16 (frame 60 0x8808) 12 = 0x8808 ∧ be16 (frame 60 0x800) 12 ≠ 0x8808 ∧
    rimBytes (Map.getD up0.rxq (up0.quadOf 0) []) + (frame 60 0x800).length + 4 ≤ 65536 ∧
    65536 < rimBytes (List.replicate 1024 ⟨0, frame 60 0x800, 0⟩) + (frame 60 0x800).length + 4 := by decide +kernel

/-- A frame waits in rim 0. -/
def Sys2Proof.Tests.rim0 : Dev := { up0 with rxq := [(0, [⟨0, frame 60 0x800, 256⟩])] }

theorem wit_crossing :
    rim0.running = true ∧ Map.getD rim0.rxq 0 [] = ⟨0, frame 60 0x800, 256⟩ :: [] ∧ rim0.poolFree = true ∧ rim0.lineUp (pipeOfPort 0) = true ∧
    rim0.pkts.length < 65536 ∧ (frame 60 0x800).length + 4 < 16384 ∧ rim0.flipping = false ∧
    ((Map.getD rim0.rxq 0 []).find? fun g => rim0.inTurn (pipeOfPort g.port) g.port) = some ⟨0, frame 60 0x800, 256⟩ := by decide +kernel

theorem Sys2Proof.Tests.all_general (n : Nat) : ((List.replicate n (0, pk .merge)).filter fun e => !e.2.egressPool).length = n := by
  simp [pk]

theorem wit_crossing_waits : { on with pkts := List.replicate 57344 (0, pk .merge) }.poolFree = false := by
  unfold Dev.poolFree; rw [all_general]; decide

/-- Pipe 0 has just served port 0, and port 1 waits too: the frame of port 0 is not next. -/
theorem wit_crossing_turn :
    let d := { rim0 with rxq := [(0, [⟨0, frame 60 0x800, 256⟩]), (1, [⟨1, frame 60 0x800, 256⟩])], turns := [(0, 0)] }
    ∀ f ∈ Map.getD d.rxq 0 [], d.inTurn (pipeOfPort f.port) f.port = false := by decide +kernel

/-- A graph of one state, 14 bytes long, whose default transition is of kind `k`; a fragment when `f` is 1; MALFORMED_POLICY `m`. -/
def Sys2Proof.Tests.graph (k f m : Nat) : Dev :=
  sec T.PARSE_GRAPH 0 [1, 0, 0, 0, 0, 0, 0, 0, 14 * 4, f * 2 ^ 18, 0, k * 2 ^ 20 + 9 * 2 ^ 32]
    (sec T.MALFORMED_POLICY 0 [m, 3 * 2 ^ 18, 0, 0, 0, 0, 0, 0, 0, 0] (onPk { pk .crossed with bytes := List.replicate 8 0x20 ++ List.replicate 52 0 }))

/-- What parsing the packet of `graph` finds: reason of a malformed packet, its action, 99 or the reason of an odd one, and whether it is a
fragment. -/
def Sys2Proof.Tests.seen (k f m : Nat) : Option (List Nat) :=
  ((graph k f m).pkt 7).map fun p =>
    let x := (graph k f m).parseOf p
    [x.mal, malAction (policyBody ((graph k f m).sec 0 T.MALFORMED_POLICY 0)) x.mal, x.odd.getD 99, x.walk.frag.toNat]

theorem wit_parseEnds :
    (graph 1 0 0).running = true ∧ ((graph 1 0 0).pkt 7).map (·.stage) = some .crossed ∧ (graph 1 0 0).lineUp 0 = true ∧
    seen 3 0 0 = some [9, 3, 99, 0] ∧ seen 1 0 0 = some [0, 0, 99, 0] ∧ seen 2 0 3 = some [0, 0, 9, 0] ∧
    seen 1 1 8 = some [0, 0, 99, 1] ∧ seen 0 0 0 = some [3, 0, 99, 0] := by decide +kernel

/-- A packet between lookups whose slot 1 is a hit; record 0 looks table 5 up, defined with `tm`, in slot 0; the table holds `m`. -/
def Sys2Proof.Tests.lkP : Pkt := { pk .lookups with words := ctxZero.set 15 3 }
def Sys2Proof.Tests.lk (tm : List Nat) (m : TableMem) : Dev :=
  (sec T.TILE_MAP 5 tm (sec T.LOOKUP_PROGRAM 0 [5 + 256 + 2 ^ 18, 1537, 0, 0] (onPk lkP))).setTbl 5 m

/-- Definitions of tables of one tile: EXACT, INDEX, COUNTER and LPM. -/
def Sys2Proof.Tests.tmExact : List Nat := [0 + 4 + 48 * 16, 1, 1, 0, 0]
def Sys2Proof.Tests.tmIndex : List Nat := [2, 1, 1, 0, 0]
def Sys2Proof.Tests.tmCount : List Nat := [3 + 8, 1, 1, 0, 0]
def Sys2Proof.Tests.tmLpm : List Nat := [1 + 4 + 32 * 16, 1, 1, 0, 0]

/-- One EXACT entry of key 0, not hit; then one that was hit. -/
def Sys2Proof.Tests.entry0 (w : Word) : TableMem := ⟨[(3, [0, w])], [], []⟩

/-- The hypotheses of the lookup statement that its clauses share. -/
def Sys2Proof.Tests.lkOk (tm : List Nat) (d : Dev) : Bool :=
  d.running && d.pkt 7 == some lkP && d.lineUp 0 && !d.lookupWaits 0 && d.nextRec lkP == some 0 && d.tblIn 0 5 == .tile (body tm) && d.tilesUp (body tm)

/-- The key that record 0 makes. -/
def Sys2Proof.Tests.lkKeyOf (tm : List Nat) : List Word :=
  bytesWords (fitKey (lrKey (body [5 + 256 + 2 ^ 18, 1537, 0, 0]) 0 lkP) (8 * (tmW (body tm) - 1)) (tmKeyBits (body tm))) (tmW (body tm) - 1)

theorem wit_lookups_tile :
    lkOk tmExact (lk tmExact (entry0 1)) = true ∧ tmKind (body tmExact) = 0 ∧ (entry0 1).exactFind (lkKeyOf tmExact) = some 3 ∧
    (entry0 1).poisoned 3 = false ∧ TableMem.empty.exactFind (lkKeyOf tmExact) = none ∧ lkOk tmIndex (lk tmIndex ⟨[(0, [1])], [], []⟩) = true ∧
    tmKind (body tmIndex) = 2 ∧ (⟨[(0, [1])], [], []⟩ : TableMem).poisoned 0 = false ∧ lkOk tmCount (lk tmCount TableMem.empty) = true ∧
    tmKind (body tmCount) = 3 ∧ lkP.words.length = 32 ∧
    ((exactPlaces (body tmExact) (lkKeyOf tmExact)).all fun pl => !(entry0 1).poisoned pl) = true := by decide +kernel

/-- A packet that waits for `n` DRAM reads on table 5. -/
def Sys2Proof.Tests.dwP (n : Nat) : Pkt := { pk .dramWait with dram := some ⟨7, 5, 0, n, 9⟩ }
def Sys2Proof.Tests.dw (n : Nat) (l : List LpmEntry) : Dev := (sec T.TILE_MAP 5 tmLpm (onPk (dwP n))).setTbl 5 ⟨[], l, []⟩

/-- Its answer has come, poisoned when `bad` is 1. -/
def Sys2Proof.Tests.dwA (bad n : Nat) (l : List LpmEntry) : Dev := { dw n l with answers := [⟨9, 0, 0, [], bad⟩] }

theorem wit_lookups_dram :
    (dw 1 []).running = true ∧ (dw 1 []).pkt 7 = some (dwP 1) ∧ (dw 2 []).pkt 7 = some (dwP 2) ∧ (dwP 1).dram = some ⟨7, 5, 0, 1, 9⟩ ∧
    (dwP 1).stage = .dramWait ∧ (dw 1 []).lineUp 0 = true ∧ (dwP 1).words.length = 32 ∧ (dwP 1).get C.DISP ≠ Disp.drop ∧
    (dw 1 []).answers.find? (·.owner == 9) = none ∧ (dwA 0 1 []).answers.find? (·.owner == 9) = some ⟨9, 0, 0, [], 0⟩ ∧
    (dwA 1 2 []).answers.find? (·.owner == 9) = some ⟨9, 0, 0, [], 1⟩ ∧
    (dwA 0 1 []).tblIn 0 5 = .tile (body tmLpm) ∧ lpmBest ((dwA 0 1 []).tbl 5).lpm 0 = none ∧
    lpmBest ((dwA 0 1 [⟨0, 8, 1, true, 0, false⟩]).tbl 5).lpm 0 = some ⟨0, 8, 1, true, 0, false⟩ := by decide +kernel

/-- Record 0 searches Chamois table 5, one chain of one segment. -/
def Sys2Proof.Tests.cc1 : List Nat := [80 * 16, 1]
def Sys2Proof.Tests.ch (l : List (Nat × ChEntry)) : Dev :=
  { sec T.CHAMOIS_CHAIN 5 cc1 (sec T.LOOKUP_PROGRAM 0 [5 + 256, 1537, 0, 0] (onPk lkP)) with cham := l }

theorem wit_lookups_chamois :
    let key := fitKey (lrKey (body [5 + 256, 1537, 0, 0]) 0 lkP) 10 80
    (ch []).running = true ∧ (ch []).lookupWaits 0 = false ∧ (ch []).pkt 7 = some lkP ∧ (ch []).nextRec lkP = some 0 ∧ (ch []).tblIn 0 5 = .cham (body cc1) ∧
    (ch []).segsUp (body cc1) = true ∧ (ch []).chMatches (body cc1) key = [] ∧ (ch [(4095, ⟨true, 0, 0⟩)]).chMatches (body cc1) key = [4095] ∧
    (ch [(0, ⟨true, 0, 0⟩), (9, ⟨true, 0, 0⟩)]).chMatches (body cc1) key = [0, 9] := by decide +kernel

/-! ### Witnesses: action unit, step 6 and the buffer -/

/-- A packet at the action unit with ACTION_MERGE `b`. -/
def Sys2Proof.Tests.mg (b : List Nat) (p : Pkt) : Dev := sec T.ACTION_MERGE 0 b (onPk p)

/-- The merge list of the packet of context 7, and whether a bad word was met. -/
def Sys2Proof.Tests.mgList (b : List Nat) (p : Pkt) : List Nat × Bool := mergeList ((mg b p).secOr0 0 T.ACTION_MERGE 0) ((mg b p).charge p 5).2

/-- DEFAULT words: to port 129, DROP, and a word of no DEST. -/
def Sys2Proof.Tests.toPort : Nat := 1 * 2 ^ 16 + 129 * 2 ^ 24
def Sys2Proof.Tests.toDrop : Nat := 1 * 2 ^ 16 + 3 * 2 ^ 19

theorem wit_actionMerge :
    (mg [toPort] (pk .merge)).running = true ∧ (mg [toPort] (pk .merge)).pkt 7 = some (pk .merge) ∧ (mg [toPort] (pk .merge)).lineUp 99 = true ∧
    (pk .merge).words.length = 32 ∧ (pk .merge).counts = [] ∧ (mg [toPort] (pk .merge)).inOrder 7 (pk .merge) = true ∧
    (mg [toPort] { pk .merge with seq := 2 } |>.setPkt 8 (pk .merge)).inOrder 7 { pk .merge with seq := 2 } = false ∧
    (pk .merge).get C.DISP = Disp.forward ∧ mgList [toPort] (pk .merge) = ([toPort], false) ∧ firstOf [toPort] 1 0 = some toPort ∧
    awDop toPort = 0 ∧ awDest toPort = 129 ∧ firstOf [toPort] 3 0 = none ∧ mgList [toDrop] (pk .merge) = ([toDrop], false) ∧
    firstOf [toDrop] 1 0 = some toDrop ∧ awDop toDrop = 3 ∧ mgList [6 * 2 ^ 16] (pk .merge) = ([6 * 2 ^ 16], false) ∧
    firstOf [6 * 2 ^ 16] 1 0 = none ∧ firstOf [6 * 2 ^ 16] 3 0 = none ∧
    (mgList [toPort, 0, 0, 0, 0, 0, 0, 0, 1 + 128, 0, 7 * 2 ^ 16] { pk .merge with words := ctxZero.set 14 1 }).2 = true := by decide +kernel

/-- Subscriber 16,383 of group 3 of port 5, and queue `q` enabled. -/
def Sys2Proof.Tests.subbed (q : Nat) (d : Dev) : Dev :=
  sf (Reg.SCH_SUB 16383) F.SCH_SUB_VALID 1 (sf (Reg.SCH_SUB 16383) F.SCH_SUB_PARENT 3 (sf (Reg.SCH_GROUP 3) F.SCH_GROUP_VALID 1
    (sf (Reg.SCH_GROUP 3) F.SCH_GROUP_PARENT 5 (sf (Reg.SCH_QCFG q) F.SCH_QCFG_EN 1 d))))

/-- A packet at step 6 for port 5 and subscriber 16,383, policed by policer 9 when `e` is 1. -/
def Sys2Proof.Tests.plP (e : Nat) : Pkt :=
  { (((pk .police).put C.DEST 5).put C.POLICE_EN e).put C.POLICER 9 |>.put C.FRAME_LEN 64 with sub := some 16383 }

/-- The same device; policer 9 has DEPTH of `b` bytes. -/
def Sys2Proof.Tests.pl (e b : Nat) : Dev := subbed 131064 (sf (Reg.SCH_POL 9) bkEN 1 (sf (Reg.SCH_POL 9) bkBURST b (onPk (plP e))))

theorem wit_police :
    (pl 0 0).running = true ∧ (pl 0 0).pkt 7 = some (plP 0) ∧ (plP 0).stage = .police ∧ (pl 0 0).lineUp 99 = true ∧ (plP 0).words.length = 32 ∧
    (plP 0).get C.DISP = Disp.forward ∧ (plP 0).group = none ∧ (plP 0).get C.MCAST = 0 ∧ (plP 0).get C.DEST = 5 ∧ (plP 0).sub = some 16383 ∧
    (pl 0 0).inOrder 7 (plP 0) = true ∧ ((pl 0 0).setPkt 8 { plP 0 with seq := 0 + 1 }).inOrder 7 { plP 0 with seq := 2 } = false ∧
    (plP 0).get C.POLICE_EN = 0 ∧ (pl 0 0).subPort 16383 = some 5 ∧ (onPk (plP 0)).subPort 16383 ≠ some 5 ∧ (plP 1).get C.POLICE_EN = 1 ∧
    bkEN.of ((pl 1 63).reg (Reg.SCH_POL 9)) = 1 ∧ bkUNIT.of ((pl 1 63).reg (Reg.SCH_POL 9)) = 0 ∧ (plP 1).get C.FRAME_LEN * 8000000 = 512000000 ∧
    (pl 1 63).levelNow 4 9 = 504000000 ∧ (pl 1 64).levelNow 4 9 = 512000000 ∧ (pl 1 64).subPort 16383 = some 5 := by decide +kernel

/-- A PUNT packet at step 6, with credit `k`. -/
def Sys2Proof.Tests.puP : Pkt := (pk .police).put C.DISP Disp.punt
def Sys2Proof.Tests.pu (k : Nat) : Dev := { onPk puP with credit := k, creditAt := 5000 }

theorem wit_punt :
    (pu 0).running = true ∧ (pu 0).pkt 7 = some puP ∧ (pu 0).lineUp 99 = true ∧ puP.words.length = 32 ∧ puP.get C.DISP = Disp.punt ∧
    puP.get C.POLICE_EN = 0 ∧ (pu 0).inOrder 7 puP = true ∧ (pu 1000000000).puntCredit = 1000000000 ∧ (pu 999999999).puntCredit = 999999999 := by
  decide +kernel

/-- A packet at admission for the last queue and port 5, which is up. -/
def Sys2Proof.Tests.adP : Pkt := ((pk .admission).put C.DEST 5).put C.QUEUE 131071
def Sys2Proof.Tests.ad : Dev := subbed 131071 (sf (Reg.PRT_STATUS 5) F.PRT_STATUS_LINK 1 (onPk adP))

theorem wit_admission :
    ad.running = true ∧ ad.pkt 7 = some adP ∧ ad.lineUp 80 = true ∧ adP.words.length = 32 ∧ ad.inOrder 7 adP = true ∧ adP.get C.MCAST = 0 ∧
    adP.get C.MIRROR = 0 ∧ ad.downDiscard 5 = false ∧ ad.refusal 131071 (dataCells 60) 0 = none ∧ ad.ready 5 = true ∧
    (sf (Reg.SCH_QCFG 131071) F.SCH_QCFG_EN 0 ad).refusal 131071 (dataCells 60) 0 = some 0x15 ∧
    (sf (Reg.SCH_QCFG 131071) F.SCH_QCFG_EN 0 ad).maySpill 131071 (dataCells 60) 0 = false := by decide +kernel

/-- A packet of two cells there, on a profile of MAX `n` that may spill into one MiB of channel 0. -/
def Sys2Proof.Tests.spP : Pkt := { adP with bytes := List.replicate 300 0 }
def Sys2Proof.Tests.sp (n : Nat) : Dev :=
  sf (Reg.BUF_PROFILE 0) F.BUF_PROFILE_MAX n (sf (Reg.BUF_PROFILE 0) F.BUF_PROFILE_SPILL_EN 1 (sf Reg.BUF_SPILL_CTRL F.BUF_SPILL_CTRL_EN 1
    (sf Reg.BUF_SPILL_CTRL F.BUF_SPILL_CTRL_CHANNELS 1 (sf Reg.BUF_SPILL_CTRL F.BUF_SPILL_CTRL_SIZE_MIB 1 (ad.setPkt 7 spP)))))

set_option maxRecDepth 8000 in
theorem wit_admission_spill :
    (sp 1).running = true ∧ (sp 1).pkt 7 = some spP ∧ (sp 1).inOrder 7 spP = true ∧ (sp 1).downDiscard 5 = false ∧ (sp 1).ready 5 = true ∧
    dataCells spP.bytes.length = 2 ∧ (sp 1).refusal 131071 2 0 = some 0x38 ∧ (sp 1).maySpill 131071 2 0 = true ∧
    (sp 2).refusal 131071 2 0 = none := by decide +kernel

/-- A multicast packet of group 16,383, whose list has `n` entries. -/
def Sys2Proof.Tests.mcP (g : Stage) : Pkt := ((pk g).put C.DEST 16383).put C.MCAST 1
def Sys2Proof.Tests.mc (n : Nat) : Dev := sf (Reg.BUF_MCGROUP 16383) F.BUF_MCGROUP_COUNT n (onPk (mcP .admission))

theorem wit_admission_multicast :
    (mc 512).running = true ∧ (mc 512).pkt 7 = some (mcP .admission) ∧ (mc 512).lineUp 80 = true ∧ (mcP .admission).words.length = 32 ∧
    (mc 512).inOrder 7 (mcP .admission) = true ∧ (mcP .admission).get C.MCAST = 1 ∧ (mcP .admission).get C.MIRROR = 0 ∧
    (mcP .admission).get C.DEST = 16383 ∧ (mc 512).fld (Reg.BUF_MCGROUP 16383) F.BUF_MCGROUP_COUNT = 512 ∧
    (mc 512).mcUsed + dataCells 60 ≤ (mc 512).fld Reg.BUF_MC_LIMIT F.BUF_MC_LIMIT_LIMIT ∧ dataCells 60 ≤ (mc 512).freeCells ∧
    (mc 0).fld (Reg.BUF_MCGROUP 16383) F.BUF_MCGROUP_COUNT = 0 ∧ (mc 513).fld (Reg.BUF_MCGROUP 16383) F.BUF_MCGROUP_COUNT = 513 ∧
    16384 ≤ ((mcP .admission).put C.DEST 16384).get C.DEST := by decide +kernel

/-- Its replication from entry `n` of 2; entry 0 is for port 5 and subscriber 16,383. -/
def Sys2Proof.Tests.rp (n : Nat) : Dev :=
  { subbed 131064 (sf (Reg.PRT_STATUS 5) F.PRT_STATUS_LINK 1 (sf (Reg.BUF_MCLIST 0) F.BUF_MCLIST_VALID 1 (sf (Reg.BUF_MCLIST 0) F.BUF_MCLIST_SUB 16383 (sf (Reg.BUF_MCLIST 0) F.BUF_MCLIST_PORT 5
      (onPk (mcP .replicate)))))) with
    data := [(4, ⟨List.replicate 60 0, 1, 1, true, [], false⟩)], repls := [⟨7, 4, n, 2, 0, []⟩] }

/-- The same with a record on the residue list of port 5. -/
def Sys2Proof.Tests.rpBusy (n : Nat) : Dev := { rp n with residue := [(5, [(pk .admission).toRec 4 60 1 0 0 0])] }

theorem wit_copies :
    (rp 0).running = true ∧ (rp 0).pkt 7 = some (mcP .replicate) ∧ (rp 0).lineUp 80 = true ∧ (mcP .replicate).words.length = 32 ∧
    (rp 0).poolFree = true ∧ ((rp 0).repls.find? fun y => y.ctx = 7) = some ⟨7, 4, 0, 2, 0, []⟩ ∧ (Map.find (rp 0).data 4).isSome = true ∧
    ((rp 0).mcEntry (mcP .replicate) 0).2 = some (131064, 5) ∧ (rp 0).ready 5 = true ∧
    ((rp 2).repls.find? fun y => y.ctx = 7) = some ⟨7, 4, 2, 2, 0, []⟩ ∧ (rpBusy 0).ready 5 = false ∧
    ((rpBusy 0).repls.find? fun y => y.ctx = 7) = some ⟨7, 4, 0, 2, 0, []⟩ ∧ ((rpBusy 0).mcEntry (mcP .replicate) 0).2 = some (131064, 5) := by
  decide +kernel

/-! ### Witnesses: scheduler, egress and transmission -/

/-- A record of 60 bytes in data 4 for port 5 and queue 131,064. -/
def Sys2Proof.Tests.rc : Rec :=
  { pid := 1, words := ctxZero, len := 60, data := 4, cells := 1, own := 0, spill := 0, port := 5, queue := 131064, since := 0
    headAt := none, adm := 0, flight := [] }

/-- Port 5 up, its lists holding `q`, `i` and `l`, residue limit 1 µs when `m` is 1. -/
def Sys2Proof.Tests.bl (q i l : List Rec) (m : Nat) : Dev :=
  { subbed 131064 (sf (Reg.PRT_STATUS 5) F.PRT_STATUS_LINK 1 (sf Reg.BUF_RESIDUE_LIMIT F.BUF_RESIDUE_LIMIT_LIMIT m on)) with
    queues := putList [] 131064 q, intakes := putList [] 5 i, residue := putList [] 5 l
    data := [(4, ⟨List.replicate 60 0, 1, 1, false, [], false⟩)] }

theorem wit_lists :
    (bl [] [rc] [] 0).running = true ∧ (bl [] [rc] [] 0).lineUp 80 = true ∧ (bl [] [rc] [] 0).intake 5 = rc :: [] ∧
    (bl [] [] [rc] 0).residueOf 5 = rc :: [] ∧ (bl [] [] [rc] 0).residueOld rc = false ∧ (bl [] [] [rc] 0).copyBefore 5 rc = false ∧
    ((bl [] (List.replicate 63 rc) [rc] 0).intake 5).length < 64 ∧ (bl [] [] [rc] 5).residueOld rc = true ∧
    (bl [] [] [rc] 6).residueOld rc = false := by decide +kernel

/-- The queue holds a record; the pointers above it name its group and subscriber. -/
def Sys2Proof.Tests.bq : Dev := ((bl [rc] [] [] 0).setDrr 3 5 ⟨some 3, 0⟩).setDrr 2 3 ⟨some 16383, 0⟩

theorem wit_dequeue :
    let e := bq.refillUsed 5
    bq.running = true ∧ bq.lineUp 80 = true ∧ bq.lineUp 81 = true ∧ e.portElig 5 = true ∧
    ((bl [] [] [] 0).refillUsed 5).portElig 5 = true ∧ ((bl [] [] [] 0).refillUsed 5).eligQueues 5 = [] ∧
    ((sf (Reg.PRT_STATUS 5) F.PRT_STATUS_LINK 0 bq).refillUsed 5).portElig 5 = false ∧ e.eligQueues 5 = [131064] ∧
    (e.pickFrom 5 [131064]).1.queue = 131064 ∧ bq.queue 131064 = rc :: [] ∧
    bq.stale 5 131064 rc = false ∧ bq.reserveFree (egressPipe 5 rc) = true ∧
    ((Map.find bq.data 4).map fun x => x.poison) = some false ∧ rc.words.length = 32 ∧
    bq.pkts.length < 65536 := by decide +kernel

/-- A frame in the rim of port 5, whose link is `l` and whose classes may be preempted when `m` is 1. -/
def Sys2Proof.Tests.txP : Pkt := { pk (.txRim 5) with bytes := List.replicate 200 0 }
def Sys2Proof.Tests.tx (l m : Nat) : Dev :=
  sf (Reg.PRT_STATUS 5) F.PRT_STATUS_LINK l (sf (Reg.PRT_MM_STATUS 5) F.PRT_MM_STATUS_ACTIVE m (sf (Reg.GAT_CTRL 5) F.GAT_CTRL_PREEMPT 1 (onPk txP)))

/-- Beside it an express frame. -/
def Sys2Proof.Tests.txX : Dev := (tx 1 1).setPkt 8 { txP with queue := 1 }

theorem wit_frameTx :
    (tx 0 0).running = true ∧ (tx 0 0).pkt 7 = some txP ∧ (tx 0 0).portUp 5 = false ∧ (tx 1 0).portUp 5 = true ∧
    (tx 1 0).preemptable 5 (txP.queue % 8) = false ∧ (tx 1 0).gatesEn 5 = false ∧ txP.get C.TS = 0 ∧ (tx 1 1).mayCut 5 txP 140 = true ∧
    (tx 1 1).mayCut 5 txP 141 = false ∧ (tx 1 1).older txP (fun g => g == .egress 5 || g == .txRim 5 || g == .preempted 5) = false ∧
    (tx 1 1).expressWaits 5 = false ∧ (tx 1 1).cutIn 5 (txP.queue % 8) = none ∧ txX.expressWaits 5 = true ∧ txX.mayCut 5 txP (txX.minFrag 5 - 4) = true ∧
    (tx 1 1).bit (Reg.GAT_STATUS 5) F.GAT_STATUS_HOLD = false ∧ (tx 1 1).remainder 5 = false ∧ (txP.put C.TS 1).get C.TS = 1 ∧ (tx 1 0).tim.tsq.length < 1024 ∧
    1024 ≤ (List.replicate 1024 (⟨[]⟩ : HostRec)).length := by decide +kernel

/-- A packet before the egress rewrite for port 5, whose MAX_FRAME is `m`, with REWRITE_PTR `r`. -/
def Sys2Proof.Tests.egP (r : Nat) : Pkt := (pk (.egress 5)).put C.REWRITE_PTR r
def Sys2Proof.Tests.eg (m : Nat) (p : Pkt) (t : TableMem) : Dev :=
  (sec T.REWRITE_LAYOUT 0 [9 + 256] (sec T.TILE_MAP 9 [2 + 3 * 4 + 2 ^ 15, 1, 1, 0, 0] (sf (Reg.PRT_MODE 5) F.PRT_MODE_MAX_FRAME m (sf (Reg.PRT_STATUS 5) F.PRT_STATUS_LINK 1 (onPk p))))).setTbl 9 t

/-- An entry at place 4,095 that is VALID. -/
def Sys2Proof.Tests.eg4095 : TableMem := ⟨[(4095, List.replicate 7 0 ++ [1])], [], []⟩

theorem wit_egress :
    (eg 64 (egP 0) TableMem.empty).running = true ∧ (eg 64 (egP 0) TableMem.empty).pkt 7 = some (egP 0) ∧ (eg 64 (egP 0) TableMem.empty).lineUp 8 = true ∧
    (eg 64 (egP 0) TableMem.empty).portUp 5 = true ∧ (onPk (egP 0)).portUp 5 = false ∧ (egP 0).spill = none ∧
    (eg 64 (egP 0) TableMem.empty).older (egP 0) (· == .egress 5) = false ∧ (egP 0).get C.REWRITE_PTR = 0 ∧ (egP 0).words.length = 32 ∧ ingressEdits ((egP 0).put C.MPLS_OP 1 |>.put C.EDIT_OFS 255) = none ∧
    (ingressEdits (egP 0)).isSome = true ∧ (eg 63 (egP 0) TableMem.empty).tooLong 5 (List.replicate 60 0) = true ∧
    (eg 64 (egP 0) TableMem.empty).tooLong 5 (List.replicate 60 0) = false ∧ ingressEdits (egP 0) = some (List.replicate 60 0) ∧
    (egP 4095).get C.REWRITE_PTR = 4095 ∧ (eg 64 (egP 4095) eg4095).tableUp ((eg 64 (egP 4095) eg4095).egTable (egP 4095)) = true ∧
    ingressEdits (egP 4095) = some (List.replicate 60 0) ∧ bodyFld ((eg 64 (egP 4095) eg4095).secOr0 0 T.REWRITE_LAYOUT 0) 0 8 1 = 1 ∧
    (eg 64 (egP 4095) eg4095).tblIn 0 9 = .tile (body [2 + 3 * 4 + 2 ^ 15, 1, 1, 0, 0]) ∧ tmPlaces (body [2 + 3 * 4 + 2 ^ 15, 1, 1, 0, 0]) = 4096 ∧
    (egP 4096).get C.REWRITE_PTR = 4096 ∧ eg4095.poisoned 4095 = false ∧ rwValid (wordAt (eg4095.image 4095 8) 7) = true ∧
    egFld (eg4095.image 4095 8) 23 1 = 0 ∧ form0 (eg4095.image 4095 8) (List.replicate 60 0) = some (List.replicate 60 0) := by decide +kernel

/-- A packet at port 131. -/
def Sys2Proof.Tests.rtP : Pkt := { pk .recirc with egressPool := true }

theorem wit_recirc :
    (onPk rtP).running = true ∧ (onPk rtP).pkt 7 = some rtP ∧ (onPk rtP).lineUp 8 = true ∧ (onPk rtP).lineUp 0 = true ∧ rtP.words.length = 32 ∧
    (onPk rtP).pkts.length < 65536 ∧ (onPk rtP).poolFree = true ∧ (onPk rtP).mayReturn rtP = true ∧ (onPk rtP).inTurn 0 131 = true ∧
    { onPk rtP with rxq := [(0, [⟨0, frame 60 0x800, 256⟩])] }.inTurn 0 131 = false := by decide +kernel

theorem Sys2Proof.Tests.one_egress (n : Nat) :
    (((7, rtP) :: List.replicate n (8, pk .merge)).filter fun e : Nat × Pkt => !e.2.egressPool).length = n := by simp [rtP, pk]

theorem wit_recirc_waits : { on with pkts := (7, rtP) :: List.replicate 57344 (8, pk .merge) }.poolFree = false ∧ 57345 < 65536 := by
  refine ⟨?_, by decide⟩
  unfold Dev.poolFree; rw [one_egress]; decide

/-! ### Witnesses: packets to and from the host, records and rings -/

/-- Submission ring 3 of 16 slots in state `m` with what it holds, in space 0, three of whose pages are cached; completion ring 0 of 16 slots in
state `k`. -/
def Sys2Proof.Tests.rg (m k : Nat) (x : Sub) : Dev :=
  let d := sf (Reg.RNG_STATE 3) F.RNG_STATE_STATE m (sf (Reg.RNG_BASE 3) F.RNG_BASE_LOG2_SIZE 4 (sf (Reg.RNG_STATE 32768) F.RNG_STATE_STATE k
    (sf (Reg.RNG_BASE 32768) F.RNG_BASE_LOG2_SIZE 4 (sf (Reg.RNG_BASE 32768) F.RNG_BASE_BASE 1 (sf (Reg.XLT_SPACE 0) F.XLT_SPACE_EN 1 on)))))
  { d with hif := { d.hif with tlb := [⟨0, 0, 0, true, true⟩, ⟨0, 1, 1, true, true⟩, ⟨0, 2, 2, true, true⟩] } }.setSub 3 x

/-- An entry of opcode `op` at index `i` with words 1 to 3. -/
def Sys2Proof.Tests.en (op i a b c : Nat) : Entry := Entry.new i [BitVec.ofNat 64 op, BitVec.ofNat 64 a, BitVec.ofNat 64 b, BitVec.ofNat 64 c]

/-- A packet for queue 0 that goes to ring 3 when the map of subscriber 0 is enabled by `n`, with `k` packets of the ring before it. -/
def Sys2Proof.Tests.hd (n k : Nat) : Dev :=
  let d := (sf (Reg.HIF_RXMAP 0) F.HIF_RXMAP_EN n (sf (Reg.HIF_RXMAP 0) F.HIF_RXMAP_BASE 3 (rg 1 1 Sub.init))).setPkt 7 (pk .hostWait)
  { d with pkts := d.pkts ++ (List.range k).map fun i => (100 + i, pk (.delivery 3)) }

theorem wit_hostDelivery :
    (hd 0 0).hifOn = true ∧ (hd 0 0).pkt 7 = some (pk .hostWait) ∧ (hd 0 0).lineUp 8 = true ∧ (hd 0 0).rxRing (pk .hostWait) = none ∧
    (hd 1 15).rxRing (pk .hostWait) = some 3 ∧ ((hd 1 15).pkts.filter fun e => e.2.stage == .delivery 3).length = 15 ∧
    (hd 1 16).rxRing (pk .hostWait) = some 3 ∧ ((hd 1 16).pkts.filter fun e => e.2.stage == .delivery 3).length = 16 := by decide +kernel

/-- A packet of ring 3 at stage `g`; the ring holds `x`. -/
def Sys2Proof.Tests.ra (g : Stage) (x : Sub) : Dev := (rg 1 1 x).setPkt 7 (pk g)
def Sys2Proof.Tests.rxE : Entry := { en 5 0 0 64 0 with started := true }

theorem wit_rxAssign :
    (rg 1 1 Sub.init).hifOn = true ∧ (rg 1 1 Sub.init).assignedPkt 3 = none ∧ (rg 1 1 Sub.init).firstWaiting 3 = none ∧
    (ra (.assigned 3 0) { Sub.init with prog := [rxE] }).assignedPkt 3 = some (7, pk (.assigned 3 0), rxE) ∧
    ((ra (.assigned 3 0) { Sub.init with prog := [rxE] }).hostWrites 3 (bitsOf (rxE.w 1) 0 48) ((List.replicate 60 0).take (bitsOf (rxE.w 2) 0 15)) (!rxE.fence)).isSome = true ∧
    Map.rising (ra (.delivery 3) { Sub.init with rx := [en 5 0 0 64 0] }).pkts = true ∧
    (ra (.delivery 3) { Sub.init with rx := [en 5 0 0 64 0] }).assignedPkt 3 = none ∧
    (ra (.delivery 3) { Sub.init with rx := [en 5 0 0 64 0] }).firstWaiting 3 = some (7, pk (.delivery 3)) ∧
    ((ra (.delivery 3) { Sub.init with rx := [en 5 0 0 64 0] }).sub 3).rx = en 5 0 0 64 0 :: [] ∧
    (rg 1 1 Sub.init).ringState 3 = rsActive ∧ (ra (.delivery 3) { Sub.init with rx := [en 5 0 0 64 0] }).inProgress 3 < 4 := by decide +kernel

/-- A packet read for a TX entry waits. -/
def Sys2Proof.Tests.hin : Dev := { on with hif := { on.hif with injects := [⟨3, 0, List.replicate 8 0, List.replicate 60 0⟩] } }

theorem wit_hostInject :
    hin.hifOn = true ∧ hin.hif.injects = ⟨3, 0, List.replicate 8 0, List.replicate 60 0⟩ :: [] ∧ hin.poolFree = true ∧ hin.lineUp 0 = true ∧
    hin.pkts.length < 65536 ∧ (List.replicate 60 (0 : Byte)).length + 4 < 16384 ∧
    bitsOf (wordAt (List.replicate 8 0) 2).toNat 16 3 = 0 ∧ bitOf (wordAt (List.replicate 8 0) 2).toNat 20 = false ∧ hin.inTurn 0 130 = true ∧
    { hin with rxq := [(0, [⟨0, frame 60 0x800, 256⟩])] }.inTurn 0 130 = false := by decide +kernel

/-- The same read for a DIRECT entry for destination `n` and queue 131,064, whose subscriber is below port 5. -/
def Sys2Proof.Tests.dirW (n : Nat) : List Word := (List.replicate 8 0 |>.set 2 (BitVec.ofNat 64 (2 ^ 20))).set 3 (BitVec.ofNat 64 (n + 131064 * 256))
def Sys2Proof.Tests.hinD (n : Nat) : Dev :=
  let d := subbed 131064 on
  { d with hif := { d.hif with injects := [⟨3, 0, dirW n, List.replicate 60 0⟩] } }

theorem wit_hostInject_direct :
    (hinD 5).hifOn = true ∧ (hinD 5).poolFree = true ∧ (hinD 5).lineUp 0 = true ∧ bitOf (wordAt (dirW 5) 2).toNat 20 = true ∧
    bitsOf (wordAt (dirW 5) 3).toNat 0 8 = 5 ∧ (hinD 5).subPort (bitsOf (wordAt (dirW 5) 3).toNat 8 17 / 8) = some 5 ∧
    bitsOf (wordAt (dirW 130) 3).toNat 0 8 = 130 ∧ (hinD 6).subPort (bitsOf (wordAt (dirW 6) 3).toNat 8 17 / 8) ≠ some 6 ∧
    (hinD 5).pkts.length < 65536 := by decide +kernel

/-- One record in each store, each store's ring being completion ring 0 in state `k`. -/
def Sys2Proof.Tests.rec1 : List Word := [0, 1, 2, 3]
def Sys2Proof.Tests.st4 (k : Nat) : Dev :=
  let d := sf Reg.TIM_TS_RING F.TIM_TS_RING_EN 1 (sf Reg.TIM_CAP_RING F.TIM_CAP_RING_EN 1 (sf Reg.TBL_NOTIFY_RING F.TBL_NOTIFY_RING_EN 1
    (sf Reg.ENG_MSG_RING F.ENG_MSG_RING_EN 1 (sf (Reg.HIF_FUNC 0) F.HIF_FUNC_FAULT_EN 1 (rg 1 k Sub.init)))))
  { d with
    captures := [⟨0, 4, [4096], 9, true⟩], answers := [⟨9, 0, 64, leBytes 8 0 ++ leBytes 8 1 ++ leBytes 8 2 ++ leBytes 8 3 ++ List.replicate 32 0, 0⟩]
    tim := { d.tim with tsq := [⟨rec1⟩], capq := [⟨rec1⟩] }, notes := [⟨rec1⟩]
    engines := [(255, ⟨0, [], [], [⟨0, 0, [1]⟩], none⟩)], hif := { d.hif with faults := [⟨0, rec1⟩] } }

/-- The same with the capture not yet asked for; with its read still in the channel; and with completion ring 0 stalled and a completion held for it. -/
def Sys2Proof.Tests.stN : Dev := { st4 1 with captures := [⟨0, 4, [4096], 9, false⟩], answers := [] }
def Sys2Proof.Tests.stW : Dev := { (st4 1).setChan 0 { Chan.reset with reqs := [⟨2, 64, false, [], 0, 9⟩] } with answers := [] }
def Sys2Proof.Tests.stH : Dev := { st4 1 with hif := { (st4 1).hif with stalled := [0], held := [⟨0, 3, 0, rec1, true⟩] } }

theorem wit_records :
    (st4 1).hifOn = true ∧ (0 : Nat) ∉ (st4 1).hif.stalled ∧ (st4 0).cqRoom 0 1 = false ∧ (st4 0).post 0 (toSlots (rec1.set 0 (recHeader 0x82 1))) true = none ∧
    [0x80, 0x82, 0x83, 0x84, 0x85].all (fun op => ((st4 1).post 0 (toSlots (rec1.set 0 (recHeader op 1))) true).isSome) = true ∧
    (st4 1).dramWaits 9 = false ∧ ((st4 1).answersOf 9).all (fun y => y.bad == 0) = true ∧ stW.dramWaits 9 = true ∧
    0 ∈ stH.hif.stalled ∧ stH.heldFor 0 = true ∧
    (st4 1).bit Reg.TIM_TS_RING F.TIM_TS_RING_EN = true ∧ (st4 1).bit Reg.TIM_CAP_RING F.TIM_CAP_RING_EN = true ∧
    (st4 1).bit Reg.TBL_NOTIFY_RING F.TBL_NOTIFY_RING_EN = true ∧ (st4 1).bit Reg.ENG_MSG_RING F.ENG_MSG_RING_EN = true ∧
    (st4 1).bit (Reg.HIF_FUNC 0) F.HIF_FUNC_FAULT_EN = true ∧ ((st4 1).hif.faults.find? fun x => x.func = 0) = some ⟨0, rec1⟩ ∧
    (st4 1).fld Reg.TIM_TS_RING F.TIM_TS_RING_RING = 0 ∧
    ((st4 1).post 0 (toSlots (((⟨0, 0, [1]⟩ : EngMsg).words 255).set 0 (recHeader 0x81 ((((⟨0, 0, [1]⟩ : EngMsg).words 255).length + 3) / 4)))) true).isSome = true := by
  decide +kernel

/-- A completion waits for ring 3. -/
def Sys2Proof.Tests.hw (k : Nat) : Dev :=
  let d := rg 1 k { Sub.init with prog := [{ en 1 0 0 0 0 with finished := true }] }
  { d with hif := { d.hif with held := [⟨0, 3, 0, rec1, true⟩] } }

theorem wit_completions :
    (hw 1).hifOn = true ∧ ((hw 1).hif.held.find? fun x => x.ring = 3) = some ⟨0, 3, 0, rec1, true⟩ ∧ (0 : Nat) ∉ (hw 1).hif.stalled ∧
    ((hw 1).post 0 rec1 true).isSome = true ∧
    (sf (Reg.RNG_PI_C 0) F.RNG_PI_C_PI 65536 (hw 1)).post 0 rec1 true = none ∧ (hw 1).ringState (cqCtx 0) = rsActive ∧
    (sf (Reg.RNG_PI_C 0) F.RNG_PI_C_PI 65536 (hw 1)).cqRoom 0 1 = false := by decide +kernel

/-- Completion ring 0 writes its PI back to the address 8 × `a`. -/
def Sys2Proof.Tests.hwWb (a : Nat) : Dev := sf (Reg.RNG_WB 0) F.RNG_WB_ADDR a (sf (Reg.RNG_CFG_C 0) F.RNG_CFG_C_WB_EN 1 (hw 1))

theorem wit_writeback :
    (hwWb 512).bit (Reg.RNG_CFG_C 0) F.RNG_CFG_C_WB_EN = true ∧ ((hwWb 512).post 0 rec1 true).isSome = true ∧ ((hwWb 8192).post 0 rec1 true).isSome = true ∧
    ((hwWb 512).hostWrites (cqCtx 0) 4096 (leBytes 8 1) false).isSome = true ∧ ((hwWb 8192).hostWrites (cqCtx 0) 65536 (leBytes 8 1) false).isSome = false ∧
    (match (hwWb 8192).post 0 rec1 true with | some x => x.1.hif.wbOwed | none => []) = [0] := by decide +kernel

/-! ### Witnesses: rings -/

/-- Ring 3 with PI 1 and one entry to fetch; group 0 has a scan under way when `k` is 1, and one further asked for when it is 2. -/
def Sys2Proof.Tests.fe (k : Nat) : Dev :=
  let d := sf (Reg.RNG_PI_S 3) F.RNG_PI_S_PI 1 (rg 1 1 Sub.init)
  { d with hif := { d.hif with scans := if k = 0 then [] else [0], rescans := if k = 2 then [0] else [] } }

theorem wit_doorbells :
    (fe 0).running = true ∧ (fe 0).hifOn = true ∧ (fe 0).accessOpen (doorbellAddr 511) = true ∧ 0 ∉ (fe 0).hif.scans ∧ 0 ∈ (fe 1).hif.scans ∧
    0 ∉ (fe 1).hif.rescans ∧ 0 ∈ (fe 2).hif.rescans ∧ (fe 0).fetchable 3 = true ∧ (fe 0).fetchTurn 3 = true ∧
    (fe 0).mayRead 3 ((fe 0).slotAddr 3 0) 32 = true ∧ headerError 16 0 7 = some 1 ∧ headerError 16 0 1 = none ∧
    (en 1 0 0 0 0).slots ≤ idxGap 16 0 ((fe 0).subPi 3) ∧ (fe 0).mayRead 3 ((fe 0).slotAddr 3 0) (32 * (en 1 0 0 0 0).slots) = true ∧
    (fe 0).entryRoom 3 (en 1 0 0 0 0) = true ∧ bodyError (en 1 0 0 0 0) = none := by decide +kernel

/-- Ring 3 with one entry in progress; FETCH is behind it. -/
def Sys2Proof.Tests.pr (e : Entry) : Dev := sf (Reg.RNG_FETCH 3) F.RNG_FETCH_FETCH 1 (rg 1 1 { Sub.init with prog := [e] })

/-- The entry may go on. -/
def Sys2Proof.Tests.goes (e : Entry) : Bool := (pr e).hifOn && (pr e).entry 3 0 == some e && (pr e).canGo 3 e

theorem wit_entries :
    goes (en 0 0 0 0 0) = true ∧ (en 0 0 0 0 0).op = 0 ∧ goes (en 1 0 0 0 0) = true ∧ (en 1 0 0 0 0).op = 1 ∧ goes (en 5 0 0 64 0) = true ∧
    (en 5 0 0 64 0).op = 5 ∧ (en 5 0 0 64 0).started = false ∧
    (((pr (en 5 0 0 64 0)).sub 3).prog.all fun x => x.op != 5 || x.started || (pr (en 5 0 0 64 0)).behind 3 x.index ≤ (pr (en 5 0 0 64 0)).behind 3 0) = true ∧
    goes (en 6 0 1023 0 0) = true ∧ (en 6 0 1023 0 0).op = 6 ∧ (en 6 0 1023 0 0).started = false ∧
    (sf (Reg.XLT_SPACE 1023) F.XLT_SPACE_FUNC 15 (pr (en 6 0 1023 0 0))).fld (Reg.XLT_SPACE 1023) F.XLT_SPACE_FUNC ≠ (pr (en 6 0 1023 0 0)).ringFunc 3 ∧
    (pr (en 6 0 1023 0 0)).fld (Reg.XLT_SPACE 1023) F.XLT_SPACE_FUNC = (pr (en 6 0 1023 0 0)).ringFunc 3 ∧
    goes { en 6 0 0 0 0 with started := true } = true := by decide +kernel

/-- The last chunk of an inline write of 16 bytes to I/O virtual address 0. -/
def Sys2Proof.Tests.inl : Entry := { en 3 0 (16 * 2 ^ 56) 5 6 with started := true, job := true }

theorem wit_jobs :
    goes (en 2 0 0 0 0) = true ∧ (en 2 0 0 0 0).op = 2 ∧ (en 2 0 0 0 0).jobLen = 0 ∧ (en 2 0 0 0 1).jobLen ≠ 0 ∧ goes (en 2 0 0 0 1) = true ∧
    goes (en 3 0 (16 * 2 ^ 56) 5 6) = true ∧ (en 3 0 (16 * 2 ^ 56) 5 6).op = 3 ∧ Map.rising (pr inl).hif.subs = true ∧
    (((pr inl).sub 3).prog.map Entry.index).Nodup ∧ goes inl = true ∧ inl.job = true ∧ inl.dstDram = false ∧ inl.dram = none ∧ inl.jobLen ≤ inl.doneBytes + inl.chunk ∧
    ((pr inl).hostWrites 3 (inl.jobDst + inl.doneBytes) (slice (wordsBytes inl.words) (16 + inl.doneBytes) inl.chunk) (!inl.fence)).isSome = true ∧
    goes (en 4 0 0 60 0) = true ∧ (en 4 0 0 60 0).op = 4 ∧ (pr (en 4 0 0 60 0)).mayRead 3 (bitsOf ((en 4 0 0 60 0).w 1) 0 48) 60 = true ∧
    bitsOf ((en 4 0 0 60 0).w 2) 0 14 = 60 := by decide +kernel

theorem wit_indices :
    (rg 1 1 Sub.init).running = true ∧ (rg 1 1 Sub.init).accessOpen (Reg.RNG_PI_S 32767) = true ∧ (rg 1 1 Sub.init).accessOpen (Reg.RNG_CI 32767) = true ∧
    (rg 1 1 Sub.init).ringState 3 = rsActive ∧ (rg 1 1 Sub.init).ringSize 3 = 16 ∧ 16 ≤ 16 % 65536 ∧ 16 < idxGap 16 0 (65536 + 1) ∧
    ¬ (16 ≤ 65536 % 65536 ∨ 16 < idxGap 16 0 65536) := by decide +kernel

/-- Ring 3 in FAULT_WAIT with the job at index 0 suspended. -/
def Sys2Proof.Tests.fw : Dev := rg 3 1 { Sub.init with prog := [{ inl with index := 0 }], susps := [⟨1, 0, 0, true, 5⟩] }

theorem wit_states :
    (rg 1 1 Sub.init).accessOpen (Reg.RNG_CTRL 3) = true ∧ (rg 1 1 Sub.init).ringState 3 ≠ rsDisabled ∧ (rg 0 1 Sub.init).ringState 3 = rsDisabled ∧
    (rg 0 1 Sub.init).enableOk 3 = true ∧ (sf (Reg.RNG_BASE 3) F.RNG_BASE_LOG2_SIZE 17 (rg 0 1 Sub.init)).enableOk 3 = false ∧
    ((rg 1 1 Sub.init).sub 3).susps = [] ∧ fw.ringState 3 = rsFaultWait ∧ (fw.sub 3).susps = [⟨1, 0, 0, true, 5⟩] ∧ (fw.entry 3 0).isSome = true ∧
    (rg 4 1 { Sub.init with rx := [en 5 0 0 64 0] }).ringState 3 = rsStopping ∧ (rg 4 1 { Sub.init with rx := [en 5 0 0 64 0] }).inProgress 3 = 0 ∧
    (rg 4 1 Sub.init).hifOn = true := by decide +kernel

/-- The same job waits for page 3 of space 0, enabled when `k` is 1. -/
def Sys2Proof.Tests.xw (k : Nat) : Dev := sf (Reg.XLT_SPACE 0) F.XLT_SPACE_EN k (pr { inl with words := (en 3 0 (16 * 2 ^ 56 + 3 * 4096) 5 6).words })

/-- The four entries of a walk for page 3 from table 0: each table at page 1, the page at 5. -/
def Sys2Proof.Tests.wkOk : List (Nat × Option Word) := [(0, some 0x1007), (4096, some 0x1007), (4096 + 24, some 0x5007)]

theorem wit_walks :
    (xw 0).hifOn = true ∧ (xw 0).accessWaits 3 1 0 12288 true = true ∧ (xw 0).xlate 3 12288 true = none ∧ (xw 0).spaceOn ((xw 0).ringFunc 3) 0 = false ∧
    (xw 0).ringSpace 3 = 0 ∧ (xw 0).ringState 3 = rsActive ∧ (xw 1).accessWaits 3 1 0 12288 true = true ∧ (xw 1).xlate 3 12288 true = none ∧
    (xw 1).spaceOn ((xw 1).ringFunc 3) 0 = true ∧ walkFault (walk 12288 [(0, some 0)] true true 4 0) true = some 1 ∧
    walkFault (walk 12288 wkOk true true 4 0) true = none ∧ walk 12288 wkOk true true 4 0 = .page 5 true true ∧
    walk 12288 [] true true 4 0 = .open_ := by decide +kernel

/-! ### Witnesses: engines -/

/-- An instruction of opcode `op` with registers d, a, b and its low 9 bits. -/
def Sys2Proof.Tests.ins (op d a b x : Nat) : Nat := op * 2 ^ 24 + d * 2 ^ 19 + a * 2 ^ 14 + b * 2 ^ 9 + x

/-- A thread in RUN with the packet of context 7, a window of 256 bytes, and register i holding i but for addresses and lengths in 4 to 11. -/
def Sys2Proof.Tests.thr (ops : List AsyncOp) : Thread :=
  { Thread.free with
    regs := [0, 1, 2, 3, 16376, 248, 16380, 16384, 256, 240, 60, 0xFFFFFFFFFFFFFFC0] ++ (List.range 20).map fun i => BitVec.ofNat 64 (12 + i)
    st := .run, ops := ops, ctx := some 7, win := List.replicate 256 0 }

/-- An operation of kind `k` with `n` operand bytes of 0, for the register `dst`. -/
def Sys2Proof.Tests.aop (dst : Option Nat) (k : AsyncKind) (n : Nat) : AsyncOp := ⟨dst, k, some 0, List.replicate n 0, 9, none, false⟩

/-- Engine 255, whose last thread is `th`. -/
def Sys2Proof.Tests.engX (th : Thread) : Engine := ⟨0, List.replicate 7 Thread.free ++ [th], [], [], none⟩

/-- The device with engine 255 loaded, its program being `ws`. -/
def Sys2Proof.Tests.engD (ws : List Nat) (th : Thread) : Dev :=
  let b := body [ws.length, 0, 0, 0, 0, 0, 0, 0] ++ ws.flatMap (leBytes 4)
  let d := onPk (pk (.engine 255 7))
  { d.setGen 0 ⟨.active, 0, [⟨T.ENGINE_PROGRAM, 255, b⟩], []⟩ with engines := [(255, engX th)] }

/-- Engine 255 with a thread at its step limit; with one held by an operation that writes a register it reads; with one whose MSG finds four
messages; with another thread that issues first. -/
def Sys2Proof.Tests.full (th : Thread) : Engine := { engX th with msgs := List.replicate 4 ⟨7, 9, []⟩ }
def Sys2Proof.Tests.engF (ws : List Nat) (th : Thread) : Dev := { engD ws th with engines := [(255, full th)] }

theorem wit_engineIssue :
    (engD [ins 0x10 1 2 3 0] (thr [])).hasTurn 255 7 0x10 (engX (thr [])) ∧
    ¬ (sf Reg.ENG_LIMIT F.ENG_LIMIT_STEPS 1 (engD [ins 0x10 1 2 3 0] { thr [] with steps := 1 })).inSteps 7 (engX { thr [] with steps := 1 }) ∧
    (sf Reg.ENG_LIMIT F.ENG_LIMIT_STEPS 1 (engD [ins 0x10 1 2 3 0] { thr [] with steps := 1 })).hasTurn 255 7 0x10 (engX { thr [] with steps := 1 }) ∧
    (engD [ins 0x10 1 2 3 0] (thr [aop (some 3) (.frag 0 0 5) 16])).hasTurn 255 7 0x10 (engX (thr [aop (some 3) (.frag 0 0 5) 16])) ∧
    (engD [ins 0x10 1 2 3 0] (thr [aop (some 3) (.frag 0 0 5) 16])).inSteps 7 (engX (thr [aop (some 3) (.frag 0 0 5) 16])) ∧
    mustStall (engX (thr [aop (some 3) (.frag 0 0 5) 16])) (thr [aop (some 3) (.frag 0 0 5) 16]) (ins 0x10 1 2 3 0) = true ∧
    (engF [ins 0x45 0 0 9 0] (thr [])).hasTurn 255 7 0x45 (full (thr [])) ∧ mustStall (full (thr [])) (thr []) (ins 0x45 0 0 9 0) = true ∧
    4 ≤ (full (thr [])).msgCount ∧ (engX Thread.free).due [] 7 = false ∧ iOp (ins 0x10 1 2 3 0) ≠ 0x11 ∧
    insnCmd 255 7 .uncorr 0x10 = some (.engSum 255 7 .uncorr) := by
  unfold Dev.hasTurn Dev.inSteps; decide +kernel

/-- Every instruction of two registers, of a constant, and TIME may issue, and another instruction stands behind it. -/
theorem wit_engineArithmetic :
    ∀ op ∈ [0x10, 0x11, 0x12, 0x13, 0x14, 0x15, 0x16, 0x17, 0x18, 0x20, 0x21, 0x22, 0x23, 0x24, 0x25, 0x26, 0x28, 0x29, 0x48],
      (engD [ins op 1 2 3 0, 0] (thr [])).canIssue 255 7 op (engX (thr [])) ∧
      ((engX (thr [])).thread 7).pc + 1 < epCount ((engD [ins op 1 2 3 0, 0] (thr [])).engProg 255 (engX (thr []))) := by
  unfold Dev.canIssue Dev.hasTurn Dev.inSteps; decide +kernel

/-- Every branch may issue in a program of one instruction and in one of two, on equal registers, on a lower, and on a higher one. -/
theorem wit_engineBranches :
    (∀ op ∈ [0x38, 0x39, 0x3A, 0x3B, 0x3C, 0x3D, 0x3E, 0x3F], ∀ r ∈ [(1, 1), (1, 2), (2, 1), (0, 0)],
      (engD [ins op r.1 r.2 0 0] (thr [])).canIssue 255 7 op (engX (thr [])) ∧
      (engD [ins op r.1 r.2 0 0, 0] (thr [])).canIssue 255 7 op (engX (thr []))) ∧
    (thr []).v 1 = (thr []).v 1 ∧ (thr []).v 1 ≠ (thr []).v 2 ∧ ((thr []).v 1).toNat < ((thr []).v 2).toNat ∧ (thr []).v 0 = 0 ∧ (thr []).v 1 ≠ 0 := by
  unfold Dev.canIssue Dev.hasTurn Dev.inSteps; decide +kernel

/-- The last access of each space may issue, and the first beyond it: `a` is the register that holds the address, `s` the size code. -/
def Sys2Proof.Tests.mem (op a s : Nat) : Dev := engD [op * 2 ^ 24 + 1 * 2 ^ 19 + a * 2 ^ 14 + s * 2 ^ 11, 0] (thr [])

theorem wit_engineMemory :
    (∀ x ∈ [(0x30, 4), (0x31, 4), (0x32, 5), (0x33, 5), (0x34, 5), (0x35, 5), (0x30, 7), (0x31, 7), (0x31, 1), (0x33, 8), (0x34, 8)],
      (mem x.1 x.2 3).canIssue 255 7 x.1 (engX (thr []))) ∧
    ((thr []).v 4).toNat % 8 = 0 ∧ ((thr []).v 4).toNat + 8 ≤ 16384 ∧ ((thr []).v 5).toNat + 8 ≤ (thr []).win.length ∧ ((thr []).v 5).toNat + 8 ≤ 256 ∧
    16384 < ((thr []).v 7).toNat + 8 ∧ ((thr []).v 7).toNat % 8 = 0 ∧ ((thr []).v 1).toNat % 8 ≠ 0 ∧ (thr []).win.length < ((thr []).v 8).toNat + 8 ∧
    (mem 0x30 4 3).engWordBad 255 16376 = false ∧ (thr []).ctx.isSome = true ∧ (mem 0x34 5 3).threadPkt (thr []) = some (7, pk (.engine 255 7)) ∧
    (engD [ins 0x32 1 2 0 0, 0] { thr [] with ctx := none }).canIssue 255 7 0x32 (engX { thr [] with ctx := none }) := by
  unfold Dev.canIssue Dev.hasTurn Dev.inSteps; decide +kernel

/-- Operations may start: `b` is the register that holds the length. -/
theorem wit_engineStarts :
    (∀ x ∈ [(0x40, 3), (0x41, 3), (0x42, 3), (0x43, 8), (0x45, 9), (0x46, 10), (0x46, 8), (0x43, 0), (0x45, 0), (0x46, 0)],
      (engD [ins x.1 1 0 x.2 0, 0] (thr [])).canIssue 255 7 x.1 (engX (thr []))) ∧
    ((thr []).v 0).toNat + 256 ≤ 16384 ∧ ((thr []).v 8).toNat = 256 ∧ ((thr []).v 9).toNat = 240 ∧ ((thr []).v 9).toNat % 8 = 0 ∧ ((thr []).v 10).toNat = 60 ∧
    (engD [ins 0x43 1 7 8 0, 0] (thr [])).canIssue 255 7 0x43 (engX (thr [])) ∧ 16384 < ((thr []).v 7).toNat + 256 := by
  unfold Dev.canIssue Dev.hasTurn Dev.inSteps; decide +kernel

/-- The thread has one operation outstanding; the fragment table holds `l`. -/
def Sys2Proof.Tests.opD (k : AsyncKind) (dst : Option Nat) (n : Nat) (l : List FragEntry) : Dev := { engD [0] (thr [aop dst k n]) with frags := l }

/-- An entry whose key is 16 zero bytes. -/
def Sys2Proof.Tests.fr0 : FragEntry := ⟨List.replicate 16 0, 5, 6, 0⟩

theorem wit_fragments :
    (∀ op ∈ [0, 1, 2, 3],
      (opD (.frag op 0 5) (some 1) 16 []).running = true ∧ (opD (.frag op 0 5) (some 1) 16 []).clusterUp 255 = true ∧
      Map.find (opD (.frag op 0 5) (some 1) 16 []).engines 255 = some (engX (thr [aop (some 1) (.frag op 0 5) 16])) ∧
      (thr [aop (some 1) (.frag op 0 5) 16]).ops[0]? = some (aop (some 1) (.frag op 0 5) 16) ∧
      (opD (.frag op 0 5) (some 1) 16 []).opWaits 255 (thr [aop (some 1) (.frag op 0 5) 16]) 0 (aop (some 1) (.frag op 0 5) 16) = false ∧
      (opD (.frag op 0 5) (some 1) 16 []).engRangeBad 255 0 16 = false) ∧
    ((opD (.frag 0 0 5) (some 1) 16 [fr0]).frags.find? fun f => f.key = Mem.readAll ((opD (.frag 0 0 5) (some 1) 16 [fr0]).engMem 255) 0 16) = some fr0 ∧
    ((opD (.frag 1 0 5) (some 1) 16 []).frags.find? fun f => f.key = Mem.readAll ((opD (.frag 1 0 5) (some 1) 16 []).engMem 255) 0 16) = none := by
  decide +kernel

/-- A full fragment table without the key. -/
theorem wit_fragments_full :
    let l := List.replicate 4096 ({ fr0 with key := [] } : FragEntry)
    4096 ≤ l.length ∧ (l.find? fun f => f.key = List.replicate 16 0) = none := by
  refine ⟨Nat.le_of_eq List.length_replicate.symm, ?_⟩
  apply List.find?_eq_none.2
  intro x h
  rw [List.eq_of_mem_replicate h]
  decide

/-- Every kind of operation may complete; a MSG whose operand a program has written since; a table 5 for CNT and TLK, and a packet pool that is empty. -/
def Sys2Proof.Tests.cpl (k : AsyncKind) (n : Nat) : Dev := sec T.TILE_MAP 5 tmExact (opD k (some 1) n [])
def Sys2Proof.Tests.cplM : Dev := (opD (.msg 0 240 9) none 240 []).setEngMem 255 [(3, 7)]
def Sys2Proof.Tests.cplC : Dev := { sec T.TILE_MAP 5 tmCount (opD (.cnt 0 5 3 64 2) (some 1) 0 []) with frags := [] }

theorem wit_asyncCompletes :
    [(AsyncKind.crc 0 0 256 5, 256), (.newp 0 60, 60), (.tlk 0 5 0 0, 6)].all (fun k =>
      let d := cpl k.1 k.2
      d.running && d.clusterUp 255 && Map.find d.engines 255 == some (engX (thr [aop (some 1) k.1 k.2])) && !d.engRangeBad 255 0 k.2 &&
      (thr [aop (some 1) k.1 k.2]).ops[0]? == some (aop (some 1) k.1 k.2) && (aop (some 1) k.1 k.2).reads == none &&
      (aop (some 1) k.1 k.2).seen == Mem.readAll (d.engMem 255) 0 k.2 && (aop (some 1) k.1 k.2).seen.length == k.2) = true ∧
    7 < (engX (thr [])).threads.length ∧ 1 < (thr []).regs.length ∧ (cpl (.newp 0 60) 60).lineUp (255 / 16 % 8) = true ∧
    (cpl (.newp 0 60) 60).poolFree = true ∧ (cpl (.newp 0 60) 60).pkts.length < 65536 ∧ (thr []).st ≠ .free ∧
    (aop none (.msg 0 240 9) 240).seen ≠ Mem.readAll (cplM.engMem 255) 0 240 ∧ (aop none (.msg 0 240 9) 240).seen.length = 240 ∧
    cplM.opWaits 255 (thr [aop none (.msg 0 240 9) 240]) 0 (aop none (.msg 0 240 9) 240) = false ∧
    cplC.tableUp 5 = true ∧ cplC.tblIn 0 5 = .tile (body tmCount) ∧ (cpl (.tlk 0 5 0 0) 6).tableUp 5 = true ∧
    (cpl (.tlk 0 5 0 0) 6).tlkMarker (.tlk 0 5 0 0) (List.replicate 6 0) = none := by decide +kernel

theorem Sys2Proof.Tests.one_engine (n : Nat) :
    (((7, pk (.engine 255 7)) :: List.replicate n (8, pk .merge)).filter fun e : Nat × Pkt => !e.2.egressPool).length = n + 1 := by simp [pk]

theorem wit_asyncCompletes_empty : { cpl (.newp 0 60) 60 with pkts := (7, pk (.engine 255 7)) :: List.replicate 57343 (8, pk .merge) }.poolFree = false := by
  unfold Dev.poolFree; rw [one_engine]; decide

/-- A program of eight resident threads, the last of them `th`; one that runs without a packet. -/
def Sys2Proof.Tests.resT : Thread := { thr [] with ctx := none }
def Sys2Proof.Tests.resD (ws : List Nat) (th : Thread) : Dev :=
  (engD ws th).setGen 0 ⟨.active, 0, [⟨T.ENGINE_PROGRAM, 255, body [ws.length + 8 * 2 ^ 44, 0, 0, 0, 0, 0, 0, 0] ++ ws.flatMap (leBytes 4)⟩], []⟩

theorem wit_threads :
    (∀ x ∈ [(0x44, 0), (0x49, 7), (0x49, 0), (0x4A, 3), (0x4B, 11), (0x4B, 8 - 5), (0x4D, 0), (0x4F, 0), (0x4C, 0)],
      (engD [ins x.1 0 x.2 0 0, 0] (thr [])).canIssue 255 7 x.1 (engX (thr []))) ∧
    iOp ((engD [ins 0x44 0 0 0 0, 0] (thr [aop none (.newp 0 60) 60])).insnAt 255 7 (engX (thr [aop none (.newp 0 60) 60]))) = 0x44 ∧
    (engD [ins 0x4A 0 3 0 0, 0] { thr [] with ctx := none }).canIssue 255 7 0x4A (engX { thr [] with ctx := none }) ∧
    (engD [0, 0] { thr [] with ctx := none }).threadPkt { thr [] with ctx := none } = none ∧
    0 < ahead32 ((engD [0, 0] (thr [])).ns % 2 ^ 32) 16384 ∧ ahead32 ((engD [0, 0] (thr [])).ns % 2 ^ 32) 16384 < 2 ^ 31 ∧
    ahead32 ((engD [0, 0] (thr [])).ns % 2 ^ 32) 0 = 0 ∧ (thr []).ctx.isSome = true ∧
    (thr []).prepended - ((thr []).v 11).toInt ≤ 64 ∧ 1 ≤ ((thr []).win.length : Int) - ((thr []).v 11).toInt ∧
    1 ≤ ((thr []).win.length : Int) - ((thr []).v 3).toInt ∧ (pk (.engine 255 7)).words.length = 32 ∧
    atOrAfter32 0 ((engD [0, 0] (thr [])).ns % 2 ^ 32) = true ∧ atOrAfter32 1 ((engD [0, 0] (thr [])).ns % 2 ^ 32) = false ∧
    (1 : Int) > ((thr []).win.length : Int) - ((thr []).v 8).toInt ∧ (engD [ins 0x4B 0 8 0 0, 0] (thr [])).canIssue 255 7 0x4B (engX (thr [])) ∧
    epResident ((resD [ins 0x4F 0 0 0 0, 0] resT).engProg 255 (engX resT)) = 8 ∧ (resD [ins 0x4F 0 0 0 0, 0] resT).engActive 255 = true ∧
    (resD [ins 0x4F 0 0 0 0, 0] resT).canIssue 255 7 0x4F (engX resT) := by
  unfold Dev.canIssue Dev.hasTurn Dev.inSteps; decide +kernel

/-- Engine 255 with a packet for queue 131,064 and port 5 in its inbound queue, its last thread free. -/
def Sys2Proof.Tests.tkP : Pkt := ((pk (.engineQueue 255)).put C.DEST 5).put C.QUEUE 131064
def Sys2Proof.Tests.tk : Dev := { (subbed 131064 (engD [0] (thr []))).setPkt 7 tkP with engines := [(255, { engX Thread.free with inq := [7] })] }

theorem wit_threadStarts :
    tk.running = true ∧ tk.clusterUp 255 = true ∧ Map.find tk.engines 255 = some { engX Thread.free with inq := [7] } ∧ tk.pkt 7 = some tkP ∧
    tkP.words.length = 32 ∧ (engX Thread.free).threads.length = 8 ∧ tk.freeThreads 255 { engX Thread.free with inq := [7] } ≠ [] ∧
    (engD [0, 0] (thr [])).threadPkt (thr []) = some (7, pk (.engine 255 7)) ∧ epResident ((engD [0, 0] (thr [])).engProg 255 (engX (thr []))) ≤ 7 ∧
    (thr []).ops = [] ∧ tkP.get C.DISP = Disp.forward ∧ tkP.get C.MCAST = 0 ∧ tkP.get C.DEST = 5 ∧ tkP.get C.POLICE_EN = 0 ∧
    tk.subPort (tkP.get C.QUEUE / 8) = some (tkP.get C.DEST) := by decide +kernel

theorem wit_upkeep :
    let d : Dev := { on with frags := [fr0] }
    let old := fun (n : Nat) => n + 1000000 * max 1 (on.fld Reg.ENG_FRAG_TIMEOUT F.ENG_FRAG_TIMEOUT_TIMEOUT)
    d.running = true ∧ d.frags[0]? = some fr0 ∧ ¬ old 0 ≤ d.free ∧ old 0 ≤ ({ on with tim := { on.tim with free := 0xFFFFFFFFFFFF } } : Dev).free ∧
    d.accessOpen Reg.ENG_FRAG_FLUSH = true ∧ d.accessOpen (Reg.ENG_TRAP_LAST 255) = true ∧ d.accessOpen (Reg.ENG_MEM_DATA 255) = true ∧
    d.bit (Reg.ENG_MEM_ADDR 255) F.ENG_MEM_ADDR_SPACE = false ∧ d.engWordBad 255 0 = false ∧
    (sf (Reg.ENG_MEM_ADDR 255) F.ENG_MEM_ADDR_SPACE 1 on).bit (Reg.ENG_MEM_ADDR 255) F.ENG_MEM_ADDR_SPACE = true := by decide +kernel

/-! ### Witnesses: tables, fences, learning -/

/-- A table command of opcode `op` on table 5 with MODE `m`, ARG `a`, word 2 `w` and words from 0x18 on. -/
def Sys2Proof.Tests.tc (op m a w : Nat) (ws : List Word) : Entry :=
  Entry.new 0 ([BitVec.ofNat 64 (op + if ws.length ≤ 1 then 0 else 256), BitVec.ofNat 64 (5 + m * 2 ^ 12 + a * 2 ^ 32), BitVec.ofNat 64 w] ++ ws)

/-- The device with that command on ring 3, table 5 being defined by `tm` and holding `x`. -/
def Sys2Proof.Tests.td (tm : List Nat) (x : TableMem) (e : Entry) : Dev :=
  (sec T.TILE_MAP 5 tm (sf (Reg.HIF_FUNC 0) F.HIF_FUNC_TABLE_EN 1 (pr e))).setTbl 5 x

/-- `tabReady` of the command on that device, as a Bool. -/
def Sys2Proof.Tests.rdy (tm : List Nat) (x : TableMem) (e : Entry) : Bool :=
  let d := td tm x e
  let b := body tm
  d.hifOn && d.entry 3 0 == some e && d.canGo 3 e && e.records.isEmpty && !e.started && d.tableTurn 3 e (some e.tTable) && d.tableEn 3 &&
  d.tblDef e.tTable == .tile b && d.tilesUp b && !tileWrongKind b e.op e.tMode && e.tHolds (tileNeeds b e.op) && !tileBadWords b e &&
  (!(e.op == 0x10 || e.op == 0x11 || e.op == 0x12) || (!cmdIndexBad e b && !cmdKeyBad e b))

theorem Sys2Proof.Tests.rdy_iff (tm : List Nat) (x : TableMem) (e : Entry) : rdy tm x e = true ↔ (td tm x e).tabReady 3 0 e.op e (body tm) := by
  simp only [rdy, Dev.tabReady, Bool.and_eq_true, Bool.or_eq_true, Bool.not_eq_true', beq_iff_eq, List.isEmpty_iff, Bool.or_eq_false_iff]
  grind

/-- An INDEX place 32,767 with an entry. -/
def Sys2Proof.Tests.ix1 : TableMem := ⟨[(32767, [0x10001])], [], []⟩
/-- The same place, poisoned. -/
def Sys2Proof.Tests.ixP : TableMem := { ix1 with poison := [(32767, 0)] }

/-- An EXACT place with a valid entry of key 0; FLUSH_PORT and AGE_SCAN are allowed on `tmPort`. -/
def Sys2Proof.Tests.ex1 (w : Word) : TableMem := ⟨[(0, [0, w])], [], []⟩
def Sys2Proof.Tests.tmPort : List Nat := [0 + 4 + 48 * 16 + 2 ^ 13, 1, 1, 0, 0]

theorem wit_insertIndex :
    (∀ m ∈ [0, 1, 2], rdy tmIndex TableMem.empty (tc 0x10 m 32767 0 [1]) = true ∧ rdy tmIndex ix1 (tc 0x10 m 32767 0 [1]) = true ∧
      imageBad (tc 0x10 m 32767 0 [1]) (body tmIndex) = false) ∧
    tmKind (body tmIndex) = 2 ∧ ix1.poisoned 32767 = false ∧ imageValid 2 (ix1.image 32767 (tmW (body tmIndex))) = true ∧
    imageValid 2 (TableMem.empty.image 32767 (tmW (body tmIndex))) = false ∧ ixP.poisoned 32767 = true ∧
    (∀ m ∈ [0, 1, 2], rdy tmIndex ixP (tc 0x10 m 32767 0 [1]) = true) := by
  decide +kernel

theorem wit_insertKey :
    (∀ m ∈ [0, 1, 2], rdy tmExact TableMem.empty (tc 0x10 m 0 0 [0, 1, 0, 0, 0]) = true ∧ rdy tmExact (ex1 1) (tc 0x10 m 0 0 [0, 1, 0, 0, 0]) = true ∧
      imageBad (tc 0x10 m 0 0 [0, 1, 0, 0, 0]) (body tmExact) = false) ∧
    tmKind (body tmExact) = 0 ∧ 0 < tmPlaces (body tmExact) ∧ (ex1 1).poison = [] ∧ TableMem.empty.poison = [] ∧ TableMem.empty.exactFind [0] = none ∧
    (ex1 1).exactFind ((tc 0x10 0 0 0 [0, 1, 0, 0, 0]).tWords (tmW (body tmExact) - 1)) = some 0 := by
  decide +kernel

theorem wit_searches :
    rdy tmExact (ex1 1) (tc 0x11 0 0 0 [0]) = true ∧ rdy tmExact TableMem.empty (tc 0x11 0 0 0 [0]) = true ∧
    (ex1 1).exactFind ((tc 0x11 0 0 0 [0]).tWords 1) = some 0 ∧ rdy tmIndex ix1 (tc 0x12 0 32767 0 [0]) = true ∧ rdy tmIndex TableMem.empty (tc 0x12 0 32767 0 [0]) = true ∧
    ((td tmIndex ix1 (tc 0x12 0 32767 0 [0])).hostWrites 3 0 (wordBytes (recordWord 32767 0 false) ++ wordsBytes (ix1.image 32767 1)) true).isSome = true := by
  decide +kernel

theorem wit_ranges :
    (∀ n ∈ [(1 : Nat), 256], rdy tmIndex ix1 (tc 0x13 0 32768 0 [BitVec.ofNat 64 n]) = true ∧
      rdy tmCount TableMem.empty (tc 0x17 1 (8192 - n) 0 [BitVec.ofNat 64 n]) = true ∧
      rdy tmCount TableMem.empty (tc 0x17 0 (8192 - n) 0 [BitVec.ofNat 64 n]) = true) ∧
    rdy tmIndex ix1 (tc 0x13 0 0 0 [1]) = true ∧ cmdPlaces (body tmIndex) = 32768 ∧ tmPlaces (body tmCount) = 8192 ∧
    (ix1.held 2).filter (fun p => 0 ≤ p) = [32767] ∧
    ((td tmIndex ix1 (tc 0x13 0 0 0 [1])).hostWrites 3 0
      (nextHeader cursorEnd 1 ++ (td tmIndex ix1 (tc 0x13 0 0 0 [1])).tileRecord 5 (body tmIndex) 32767) true).isSome = true ∧
    rdy tmIndex ix1 (tc 0x13 0 cursorEnd 0 [1]) = true ∧ (tc 0x13 0 cursorEnd 0 [1]).tArg = cursorEnd ∧ ((32767 : Nat) ≠ cursorEnd) ∧
    ((td tmIndex ix1 (tc 0x13 0 cursorEnd 0 [1])).hostWrites 3 0 (nextHeader cursorEnd 0) true).isSome = true ∧ tmKind (body tmIndex) ≠ 1 ∧
    rdy tmPort (ex1 1) (tc 0x14 1 255 0 [0]) = true ∧
    ((td tmCount TableMem.empty (tc 0x17 1 0 0 [1])).hostWrites 3 0 (wordsBytes (TableMem.empty.image 0 4)) true).isSome = true := by
  decide +kernel

/-- A scan of two places, of which `k` are done. -/
def Sys2Proof.Tests.sc (k : Nat) : Entry := { tc 0x15 0 0 2 [0] with started := true, progress := k }

theorem wit_ageScans :
    rdy tmExact TableMem.empty (tc 0x15 0 16383 0 [0]) = true ∧ rdy tmExact TableMem.empty (tc 0x15 0 16383 1 [0]) = true ∧ tmPlaces (body tmExact) = 16384 ∧
    (td tmExact (ex1 1) (sc 0)).hifOn = true ∧ (td tmExact (ex1 1) (sc 0)).entry 3 0 = some (sc 0) ∧ (sc 0).op = 0x15 ∧ (sc 0).started = true ∧
    (sc 0).finished = false ∧ (td tmExact (ex1 1) (sc 0)).tblDef 5 = .tile (body tmExact) ∧ (td tmExact (ex1 1) (sc 0)).tilesUp (body tmExact) = true ∧
    tmNotifyAged (body tmExact) = false ∧ tmKind (body tmExact) = 0 ∧ bitsOf ((sc 0).w 2) 0 32 = 2 ∧ (sc 1).progress + 1 = 2 ∧ (ex1 1).poisoned 0 = false ∧
    rwValid (wordAt ((ex1 1).image 1 2) 1) = false ∧ rwStatic (wordAt ((ex1 5).image 0 2) 1) = true ∧ rwHit (wordAt ((ex1 3).image 0 2) 1) = true ∧
    rwHit (wordAt ((ex1 1).image 0 2) 1) = false ∧ rwValid (wordAt ((ex1 1).image 0 2) 1) = true ∧ rwStatic (wordAt ((ex1 1).image 0 2) 1) = false := by
  decide +kernel

/-- A FENCE of all tables with MODE 2 and a deadline of 1 µs; a packet in flight has read table 5; one fence waits for it. -/
def Sys2Proof.Tests.fc : Entry := Entry.new 0 [0x16, 5 + 256 + 2 * 2 ^ 12 + 2 ^ 32, 0, 0]
def Sys2Proof.Tests.fcD : Dev := td tmExact TableMem.empty fc
def Sys2Proof.Tests.fcP : Pkt := { pk .merge with flight := [5] }
def Sys2Proof.Tests.fence (late : Nat) : FenceWait := ⟨3, 0, 2, [], [1], [], some late⟩

/-- The same with MODE `m` less than 2, and a packet that it waits for: one that waits for a DRAM read of table 5, or one in the action unit that has
read it. -/
def Sys2Proof.Tests.fcM (m : Nat) : Entry := Entry.new 0 [0x16, BitVec.ofNat 64 (5 + 256 + m * 2 ^ 12 + 2 ^ 32), 0, 0]
def Sys2Proof.Tests.fcMP (m : Nat) : Pkt :=
  if m = 0 then { pk .dramWait with dram := some ⟨7, 5, 0, 1, 9⟩ } else { pk .merge with reads := [5] }
def Sys2Proof.Tests.fcMD (m : Nat) : Dev := (td tmExact TableMem.empty (fcM m)).setPkt 7 (fcMP m)

theorem wit_fences :
    fcD.hifOn = true ∧ fcD.entry 3 0 = some fc ∧ fcD.canGo 3 fc = true ∧ fc.op = 0x16 ∧ fc.records = [] ∧ fc.started = false ∧
    fcD.tableTurn 3 fc none = true ∧ fcD.tableEn 3 = true ∧ fc.tReserved = false ∧ fc.tPlen = 0 ∧ fc.tMode = 2 ∧ fc.tWord2Bad = false ∧ fc.tAll = true ∧
    fcD.pkts = [] ∧ fcD.allRecs = [] ∧ (fcD.setPkt 7 fcP).pkt 7 = some fcP ∧ fcP.flight ≠ [] ∧
    (({ fcD with fences := [fence 5000] } : Dev).fences.find? fun x => x.ring = 3 ∧ x.index = 0) = some (fence 5000) ∧
    fcD.fencePending (fence 5000) = 0 ∧ (fcD.setPkt 7 fcP).fencePending (fence 5000) = 1 ∧ (fence 5000).deadline = some 5000 ∧
    (fcD.setPkt 7 fcP).free = 5000 ∧ (fcD.setPkt 7 fcP).free < 5001 ∧
    fcD.engWaits (fun _ => true) = [] ∧ (fcM 0).tMode = 0 ∧ (fcM 1).tMode = 1 ∧ (fcM 0).tAll = true ∧
    (∀ m ∈ [0, 1], (fcMD m).hifOn = true ∧ (fcMD m).entry 3 0 = some (fcM m) ∧ (fcMD m).canGo 3 (fcM m) = true ∧ (fcMD m).tableTurn 3 (fcM m) none = true ∧
      (fcMD m).tableEn 3 = true ∧ (fcM m).tReserved = false ∧ (fcM m).tPlen = 0 ∧ (fcM m).tWord2Bad = false ∧ (fcMD m).isEgress 5 = false) ∧
    (fcMD 0).pkt 7 = some (fcMP 0) ∧ (fcMP 0).stage = .dramWait ∧ (fcMP 0).dram.isSome = true ∧ (fcMP 1).stage.inAction = true ∧
    (5 : Nat) ∈ (fcMP 1).reads := by decide +kernel

/-- A candidate for table 5 from port 2, and Fawn entries of its key. -/
def Sys2Proof.Tests.cnd : Candidate := ⟨5, 9, 2, false, none⟩
def Sys2Proof.Tests.fw1 (port : Nat) (b : Option Nat) : Fawn := ⟨5, 9, port, b, false, 0, 0⟩
def Sys2Proof.Tests.ln (l : List Fawn) : Dev := { on with cands := [cnd], fawn := l }

theorem wit_learning :
    (ln []).running = true ∧ (ln []).cands = cnd :: [] ∧ (ln []).fawnOf 5 9 = none ∧ (ln []).fawn.length < 4096 ∧ (ln []).notes.length < 256 ∧
    4096 ≤ (List.range 4096).length ∧ 256 ≤ (List.replicate 256 (⟨[]⟩ : HostRec)).length ∧ (ln [fw1 2 none]).fawnOf 5 9 = some (fw1 2 none) ∧
    (fw1 2 none).portA = cnd.port ∧ (fw1 3 (some 4)).portB.isSome = true ∧ (ln [fw1 3 none]).fawnOf 5 9 = some (fw1 3 none) ∧
    (fw1 3 none).portB = none ∧ (fw1 3 none).portA ≠ cnd.port ∧ (ln [fw1 3 none]).fawn[0]? = some (fw1 3 none) ∧
    (let old := 1000000 * max 1 (on.fld Reg.TBL_FAWN_TIMEOUT F.TBL_FAWN_TIMEOUT_TIMEOUT)
     ¬ old ≤ on.free ∧ old ≤ ({ on with tim := { on.tim with free := 0xFFFFFFFFFFFF } } : Dev).free) := by decide +kernel

/-- A hit-bit set and a write-back wait; line 16 restarts when `k` is 1. -/
def Sys2Proof.Tests.ab (k : Nat) (key : List Word) : Dev :=
  { (sec T.TILE_MAP 5 tmExact on).setTbl 5 (ex1 1) with
    hitSets := [⟨5, 0, key⟩], writeBacks := [(5, 0, 1)], flt := { on.flt with blocks := if k = 1 then [(16, 0)] else [] } }

theorem wit_arbiter :
    (ab 0 [0]).running = true ∧ (ab 0 [0]).hitSets = ⟨5, 0, [0]⟩ :: [] ∧ (ab 1 [0]).running = true ∧ (ab 1 [0]).tableUp 5 = false ∧ (ab 0 [0]).tableUp 5 = true ∧
    Map.find ((ab 0 [0]).tbl 5).places 0 = some [0, 1] ∧ ([0, 1] : List Word).take 1 = [0] ∧ rwValid (wordAt [0, 1] 1) = true ∧
    ((ab 0 [0]).tbl 5).poisoned 0 = false ∧ ([0, 1] : List Word).take 1 ≠ [8] ∧ (ab 0 [8]).writeBacks = (5, 0, 1) :: [] := by decide +kernel

/-! ### Witnesses: Chamois arrays and register accesses -/

/-- An INSERT or DELETE at the last index of Chamois table 5, its group's queue holding `q`, entry 4,095 valid when `v` is 1. -/
def Sys2Proof.Tests.cc : List Nat := [80 * 16, 2 ^ 63]
def Sys2Proof.Tests.cE (op m k : Nat) : Entry := { tc op m 4095 0 [0, 0, 0, 0, 0] with progress := k }
def Sys2Proof.Tests.cD (q : List ChUpdate) (v : Bool) (e : Entry) : Dev :=
  { sec T.CHAMOIS_CHAIN 5 cc (sf (Reg.HIF_FUNC 0) F.HIF_FUNC_TABLE_EN 1 (pr e)) with
    chQueues := putList [] 7 q, cham := if v then [(63 * 4096 + 4095, ⟨true, 0, 0⟩)] else [] }

/-- Another index's update. -/
def Sys2Proof.Tests.cU : ChUpdate := ⟨5, 0, true, 0, 0, none, true⟩

theorem wit_chamoisCommands :
    (∀ e ∈ [cE 0x10 0 0, cE 0x10 1 0, cE 0x10 2 0, cE 0x11 0 0, cE 0x10 0 1, cE 0x11 0 1], ∀ q ∈ [[], List.replicate 31 cU, List.replicate 32 cU],
      (cD q true e).hifOn = true ∧ (cD q true e).entry 3 0 = some e ∧ (cD q true e).canGo 3 e = true ∧ e.records = [] ∧ e.started = false ∧
      (cD q true e).tableTurn 3 e (some 5) = true ∧ (cD q true e).tableEn 3 = true ∧ (cD q true e).tblDef 5 = .cham (body cc) ∧
      e.tHolds (chNeeds e.op e.tMode (ccKW (body cc))) = true ∧ (e.tReserved || e.tAll || e.tWord2Bad || e.tPlen != 0 || e.tMode > modeMax e.op) = false ∧
      e.tArg < ccCapacity (body cc) ∧ (cD q true e).chQueue (chGroup (body cc) e.tArg) = q) ∧
    chImage (body cc) ((cE 0x10 0 0).tWords 2) (some [0, 0]) = some (0, 0) ∧ (cD [] false (cE 0x10 0 0)).chWillBe 5 (body cc) 4095 = false ∧
    (cD [] true (cE 0x10 1 0)).chWillBe 5 (body cc) 4095 = true := by decide +kernel

theorem wit_chamoisUpdates :
    let d := cD [⟨5, 4095, true, 1, 1, some (3, 0), true⟩] false { cE 0x10 0 0 with started := true }
    d.running = true ∧ d.lineUp (64 + 2 * 7) = true ∧ d.lineUp (65 + 2 * 7) = true ∧ d.chQueue 7 = ⟨5, 4095, true, 1, 1, some (3, 0), true⟩ :: [] ∧
    d.tblDef 5 = .cham (body cc) ∧ (d.entry 3 0).isSome = true := by decide +kernel

/-- A sweep at the last index of table 5, whose shadow lies in host memory in a page that may be read, with the fetch `f` under way. -/
def Sys2Proof.Tests.cm (en repair : Nat) (f : Option CmpFetch) : Dev :=
  let d := sf Reg.AAR_CMP_CTRL F.AAR_CMP_CTRL_EN en (sf Reg.AAR_CMP_CTRL F.AAR_CMP_CTRL_REPAIR repair
    (sf (Reg.AAR_SHADOW 5) F.AAR_SHADOW_EN 1 (sf (Reg.XLT_SPACE 0) F.XLT_SPACE_EN 1 on)))
  { sec T.CHAMOIS_CHAIN 5 cc { d with hif := { d.hif with tlb := [⟨0, 63, 63, true, true⟩] } } with cmp := ⟨true, [5], 4095, 0, f⟩ }

/-- A fetch of its shadow record: the second one when `again`, with a command update accepted since when `raced`. -/
def Sys2Proof.Tests.ft (again raced : Bool) : CmpFetch := ⟨(cm 1 0 none).reg (Reg.AAR_SHADOW 5), again, 9, raced⟩

theorem wit_comparer :
    (cm 0 0 none).running = true ∧ (cm 0 0 none).bit Reg.AAR_CMP_CTRL F.AAR_CMP_CTRL_EN = false ∧
    (cm 1 0 none).bit Reg.AAR_CMP_CTRL F.AAR_CMP_CTRL_EN = true ∧ (cm 1 0 none).cmp.running = true ∧ (cm 1 0 none).cmp.tables = 5 :: [] ∧
    (cm 1 0 none).chDef 5 = some (body cc) ∧ (cm 1 0 none).bit (Reg.AAR_SHADOW 5) F.AAR_SHADOW_EN = true ∧ (cm 1 0 none).cmp.fetch = none ∧
    (cm 1 0 none).cmp.index < ccCapacity (body cc) ∧ (cm 1 0 none).segsUp (body cc) = true ∧ F.AAR_SHADOW_LOC.of (ft true false).shadow = 0 ∧
    ((cm 1 0 none).shadowPages (F.AAR_SHADOW_SPACE.of (ft true false).shadow) (shadowAddr (ft true false) (body cc) 4095) (shadowSize (body cc)) []).1 = some true ∧
    ((cm 1 0 none).shadowPages (F.AAR_SHADOW_SPACE.of (ft true false).shadow) 0 (shadowSize (body cc)) [(0, none)]).1 = some false ∧
    (((cm 1 0 none).chQueue (chGroup (body cc) 4095)).any (·.byCmd)) = false ∧ ([cU].any (·.byCmd)) = true ∧
    (cm 1 0 none).shadowDiffers (body cc) 4095 (shadowOf (body cc) [0, 0, 0, 0, 0]) = false ∧
    (cm 1 0 none).shadowDiffers (body cc) 4095 (shadowOf (body cc) [1, 0, 0, 0, 0]) = true ∧
    (cm 1 0 none).bit Reg.AAR_CMP_CTRL F.AAR_CMP_CTRL_REPAIR = false ∧ (cm 1 1 none).bit Reg.AAR_CMP_CTRL F.AAR_CMP_CTRL_REPAIR = true ∧
    (cm 1 0 none).accessOpen Reg.AAR_CMP_CTRL = true := by decide +kernel

theorem wit_recordReads :
    on.running = true ∧ ([Reg.PRS_MAL_LAST, Reg.TBL_ECC_LAST, Reg.AAR_CMP_LAST, Reg.HIF_ACCESS_LOG, Reg.DMC_ECC_LAST, Reg.TIM_CAP_LAST 15].all on.accessOpen) = true := by
  decide +kernel

/-- Data 4 holds `n` spilled cells. -/
def Sys2Proof.Tests.spl (n : Nat) : Dev := { on with data := [(4, ⟨[], 1, 0, false, List.replicate n 4096, false⟩)] }

theorem wit_coreRegisters :
    ([Reg.PRS_PUNT_RATE, Reg.ACT_COST 31, Reg.BUF_SPILL_CTRL, Reg.BUF_MSESS_A 1, Reg.BUF_MSESS_A 127, bucketReg 0 131071, bucketReg 1 16383,
      bucketReg 2 2047, bucketReg 3 131, Reg.SCH_POL 65535, Reg.SCH_FLUSH].all on.accessOpen) = true ∧
    (spl 1).spillUsed ≠ 0 ∧ (spl 1).spillMoves (F.BUF_SPILL_CTRL_BASE_MIB.put 0 1) = true ∧ (spl 0).spillUsed = 0 ∧
    131071 < bucketCount 0 ∧ 16383 < bucketCount 1 ∧ 2047 < bucketCount 2 ∧ 131 < bucketCount 3 ∧
    on.bit Reg.SCH_FLUSH F.SCH_FLUSH_GO = false ∧ (sf Reg.SCH_FLUSH F.SCH_FLUSH_GO 1 on).bit Reg.SCH_FLUSH F.SCH_FLUSH_GO = true ∧
    F.SCH_FLUSH_GO.of (F.SCH_FLUSH_GO.put 0 1) = 1 ∧ on.lineUp 81 = true := by decide +kernel

/-! ### Witnesses: configuration streams, generations, bring-up, sideband -/

/-- An overlay with one NOTE of no bytes and BASE_ID 0x77, signed outside Lean for this test with a key pair made for it. -/
def Sys2Proof.Tests.strm : List Byte :=
  beBytes 64 0x5349524c0100010080010000010000000096a0000000000034120000000000007700000000000000000000000000000000000000000000000000000000000000 ++
  beBytes 64 0x7f000000800000000000000000000000000000000000000000000000000000000000000000000000000000000000000000000000000000000000000000000000 ++
  beBytes 64 0x53534947000000004bfcff452ba69585bec311a8150b6bca410b4dc8d0aad7931646d48a9eabda66ac8c349eb5a8982b211ef0af5f3301ad49d0c7fcf23a9b55 ++
  beBytes 64 0x9da0e05b1a47a7f4d7ce88c6d653ce5bdea19cc76e2eb5867cb63355455b51c59097d72c9bea547b405a8a04cf0ef9e73ab39e6eb7bda110f2688a40d490d384 ++
  beBytes 64 0xbfae10ea50afa9a5e899603598f8f35d949aee36ddd22c38ad96e7c8dda886df464cd701104cbc090c855f337ca75dee2feb9c8e03b8392d81d096dc24a77d23 ++
  beBytes 64 0xff13e49243b72eef0000000000000000000000000000000000000000000000000000000000000000000000000000000000000000000000000000000000000000

/-- The same with s = 0 in its signature. -/
def Sys2Proof.Tests.strmBad : List Byte := strm.take 280 ++ List.replicate 48 0 ++ strm.drop 328

/-- The device in RUN with a load from `src` that has received `b`. -/
def Sys2Proof.Tests.ld (src : LoadSrc) (b : List Byte) : Dev :=
  { on with loader := { Loader.reset with src := src, bytes := b }, gens := [⟨.active, 0, [], []⟩, ⟨.loading, 0, [], []⟩] }

def Sys2Proof.Tests.startW (src : Nat) : Word := F.STR_LOAD_CTRL_SRC.put (F.STR_LOAD_CTRL_START.put 0 1) src

/-- Generation 0 active, generation 1 in a state of its own. -/
def Sys2Proof.Tests.gn (x : GState) : Dev := { on with gens := [⟨.active, 0, [], []⟩, ⟨x, 0, [], []⟩] }

theorem wit_stream_loads :
    on.running = true ∧ ([Reg.STR_LOAD_CTRL, Reg.STR_LOAD_DATA, Reg.STR_FUSE_CMD, Reg.STR_FLIP, Reg.STR_FORCE].all on.accessOpen) = true ∧
    F.STR_LOAD_CTRL_START.of (startW 1) = 1 ∧ F.STR_LOAD_CTRL_SRC.of (startW 1) = 1 ∧ F.STR_LOAD_CTRL_SRC.of (startW 0) = 0 ∧ on.gens.length = 2 ∧
    on.loader.src = .none ∧ (on.gen (1 - on.activeG)).st ≠ .draining ∧ on.flipping = false ∧
    ((gn .draining).gen (1 - (gn .draining).activeG)).st = .draining ∧ (ld .host []).receiving = true ∧ (ld .flash []).receiving = true ∧
    (ld .host strm).receiving = false ∧ (ld .host []).running = true ∧ (ld .host []).gens.length = 2 := by decide +kernel

theorem wit_stream_bytes :
    64 ≤ (strm.take 80).length ∧ stTotal strm = strm.length ∧ strm.take 80 ++ strm.drop 80 = strm ∧ arriveErrs true 0 [] strm 80 = [] ∧
    (strm.take 96).length ≤ stTotal (strm.take 96) ∧ arriveErrs true 0 [] (strm.take 96) 80 = [] ∧ arriveErrs true 0x77 [] strm 0 = [] ∧
    arriveErrs true 0x78 [] strm 0 = [⟨9, 0x1FF, 0, 0x20⟩] := by decide +kernel

/-- The overlay's signature is right; with another s it is not (R73, R74). -/
theorem wit_stream_done :
    (ld .host strm).verifyErrs true 1 = [] ∧ (ld .host strmBad).receiving = false ∧ (ld .host strmBad).verifyErrs true 1 = [⟨8, 0x1FF, 0, 232⟩] := by
  decide +kernel

/-- A write of STR_FUSE_CMD, and a device with an operation in progress on slot 3, whose state is `k`. -/
def Sys2Proof.Tests.fuseW (op unlock : Nat) : Word :=
  F.STR_FUSE_CMD_UNLOCK.put (F.STR_FUSE_CMD_GO.put (F.STR_FUSE_CMD_OP.put (F.STR_FUSE_CMD_SLOT.put 0 3) op) 1) unlock
def Sys2Proof.Tests.fu (op : BitVec 2) (k : BitVec 2) (supply : Bool) : Dev :=
  { on with loader := { Loader.reset with fuse := some (op, 3), slots := List.replicate 4 (k, []), fuseSupply := supply } }

/-- One on the slot `n`, which does not exist. -/
def Sys2Proof.Tests.fuX (n : Nat) : Dev := { fu 1 0 true with loader := { (fu 1 0 true).loader with fuse := some (1, BitVec.ofNat 3 n) } }

theorem wit_keyFuses :
    (∀ op ∈ [1, 2], F.STR_FUSE_CMD_OP.of (fuseW op 0xA5C3) = op ∧ F.STR_FUSE_CMD_GO.of (fuseW op 0xA5C3) = 1 ∧
      F.STR_FUSE_CMD_UNLOCK.of (fuseW op 0xA5C3) = 0xA5C3 ∧ F.STR_FUSE_CMD_UNLOCK.of (fuseW op 0xA5C2) ≠ 0xA5C3) ∧
    on.loader.fuse = none ∧
    ([(1, 1, true), (2, 0, true), (2, 2, true), (1, 0, false), (2, 1, false), (2, 3, false), (1, 0, true), (2, 1, true), (2, 3, true)].all fun x =>
      let d := fu (BitVec.ofNat 2 x.1) (BitVec.ofNat 2 x.2.1) x.2.2
      d.running && d.loader.fuse == some (BitVec.ofNat 2 x.1, 3) && d.loader.slots.length == 4 && d.loader.fuseSupply == x.2.2 &&
        (d.keySlot 3).1 == BitVec.ofNat 2 x.2.1 && decide (d.fld Reg.STR_FUSE_CMD F.STR_FUSE_CMD_SLOT < 4)) = true ∧
    (fuX 4).loader.fuse = some (1, 4) ∧ (fuX 7).loader.fuse = some (1, 7) ∧ (fuX 7).loader.slots.length = 4 := by decide +kernel

/-- Generation 0 drains with a packet in flight, the limit being `lim` µs. -/
def Sys2Proof.Tests.dr (lim : Nat) (slow : Bool) : Dev :=
  { sf Reg.STR_DRAIN_LIMIT F.STR_DRAIN_LIMIT_LIMIT lim (sf Reg.STR_GEN F.STR_GEN_ACTIVE 1 (onPk (pk .merge))) with
    gens := [⟨.draining, 0, [], []⟩, ⟨.active, 0, [], []⟩], drainFrom := some 1000, drainSlow := slow }

theorem wit_flips :
    on.bit Reg.STR_FLIP F.STR_FLIP_FLIP = false ∧ (on.gen 1).st ≠ .ready ∧ on.flipCode = 1 ∧ (gn .ready).flipCode = 0 ∧ (gn .ready).flipSecs = [] ∧
    (gn .ready).running = true ∧ ({ gn .ready with flipping := true } : Dev).running = true ∧
    (dr 4 false).running = true ∧ (dr 4 false).drainG = some 0 ∧ (dr 4 false).flightOf 0 ≠ 0 ∧ ({ dr 4 false with pkts := [] } : Dev).flightOf 0 = 0 ∧
    (dr 4 false).fld Reg.STR_DRAIN_LIMIT F.STR_DRAIN_LIMIT_LIMIT = 4 ∧ (dr 4 false).drainUs = 4 ∧ (dr 5 false).drainUs < 5 ∧
    (dr 0 false).fld Reg.STR_DRAIN_LIMIT F.STR_DRAIN_LIMIT_LIMIT = 0 ∧ (dr 4 false).accessOpen Reg.STR_FORCE = true ∧
    (dr 4 false).bit Reg.STR_FORCE F.STR_FORCE_FORCE = false ∧
    (sf Reg.STR_FORCE F.STR_FORCE_FORCE 1 (dr 4 false)).bit Reg.STR_FORCE F.STR_FORCE_FORCE = true := by decide +kernel

/-- A write of SYS_CTRL that asks for a cold start, and one that does not. -/
def Sys2Proof.Tests.coldW (k : Nat) : Word := F.SYS_CTRL_KEY.put (F.SYS_CTRL_COLD_REQ.put 0 1) k

theorem wit_coldStarts :
    Dev.reset.pins.coldRst = true ∧ Dev.reset.stage ≠ 0 ∧ on.stage = 15 ∧ asksCold (coldW 0x3C96) = true ∧
    asksCold (coldW 0x3C97) = false ∧ asksCold 0 = false ∧
    (sf Reg.SYS_CTRL F.SYS_CTRL_SB_COLD_EN 1 on).bit Reg.SYS_CTRL F.SYS_CTRL_SB_COLD_EN = true ∧ Dev.reset.pins.perst = false := by decide +kernel

/-- The device in a stage of bring-up with a load from `src` that has received `b`, after copies that failed with `errs`. -/
def Sys2Proof.Tests.sg (k : Nat) (src : LoadSrc) (b : List Byte) (errs : List (BitVec 8)) : Dev :=
  { sf Reg.SYS_STAGE F.SYS_STAGE_STAGE k Dev.reset with loader := { Loader.reset with src := src, bytes := b, copyErr := errs } }

theorem wit_bringUp :
    (∀ k ∈ [1, 2, 3, 4, 5, 6], (sg k .none [] []).stage = k ∧ (sg k .none [] []).gens.length = 2) ∧ (sg 4 .bootHost [] []).receiving = true ∧
    (sg 4 .bootHost [] []).loader.src = .bootHost ∧ (sg 4 .bootHost strm []).receiving = false ∧ (sg 4 .bootHost strm []).verifyErrs false 0 = [] ∧
    ((sg 4 .bootHost strm []).gen 0).flipSecs = [] ∧ (sg 4 .bootFlash strmBad [8]).receiving = false ∧
    (sg 4 .bootFlash strmBad []).verifyErrs false 0 = [⟨8, 0x1FF, 0, 232⟩] ∧ (sg 4 .bootFlash strmBad [8]).verifyErrs false 0 = [⟨8, 0x1FF, 0, 232⟩] ∧
    (sg 6 .none [] []).flt.warm = none ∧ (∀ k, k < 4 → (sg 6 .none [] []).chanState k ≠ 1) ∧
    (sf (Reg.DMC_CHAN_STATUS 3) F.DMC_CHAN_STATUS_STATE 1 (sg 6 .none [] [])).chanState 3 = 1 := by decide +kernel

theorem wit_sideband :
    0x7C % 4 = 0 ∧ 0x7C < 0x80 ∧ 2 % 4 ≠ 0 ∧ 0x80 ≤ 0x80 ∧ Reg.SYS_SB_SCRATCH + 4 < 0x80 ∧ (Reg.SYS_SB_SCRATCH + 4) / 8 * 8 = Reg.SYS_SB_SCRATCH ∧
    asksCold (BitVec.ofNat 64 (leNat (leBytes 4 (coldW 0x3C96).toNat))) = true ∧ Reg.SYS_LOAD_DATA < 0x80 ∧ 0 / 8 * 8 ≠ Reg.SYS_SB_STATUS ∧
    (leBytes 4 0).length = 4 := by decide +kernel

/-! ### Witnesses: ports, time base, gate lists -/

/-- Port `n` in state `x`; its PRT_MODE is `m`, as taken too; its PRT_AN_ADV, as taken, offers every rank. -/
def Sys2Proof.Tests.pt (n x : Nat) (m : Word) : Dev :=
  ((sf (Reg.PRT_STATUS n) F.PRT_STATUS_STATE x on).setReg (Reg.PRT_MODE n) m).setPort n { Port.init with mode := m, adv := 0x3FF }

/-- The device with TIM_FREE at `t`. -/
def Sys2Proof.Tests.aft (t : Nat) (d : Dev) : Dev := { d with tim := { d.tim with free := BitVec.ofNat 64 t } }

/-- PRT_MODE of one lane with FEC_NONE allowed, and of a management port at 1 Gbit/s. -/
def Sys2Proof.Tests.lane1 : Word := F.PRT_MODE_FEC_NONE.put (F.PRT_MODE_WIDTH.put 0 1) 1
def Sys2Proof.Tests.mgmt1 : Word := F.PRT_MODE_MODE.put 0 1

theorem wit_acquisition :
    (∀ n ∈ [0, 127, 128, 129], (pt n stAdminDown (if n < 128 then lane1 else mgmt1)).up = true ∧
      (pt n stAdminDown (if n < 128 then lane1 else mgmt1)).bound n = true ∧ ((pt n stAdminDown lane1).port n).forcedDown = false ∧
      (pt n stAdminDown lane1).accessOpen (Reg.PRT_CTRL n) = true ∧ (pt n stAdminDown lane1).bit (Reg.PRT_CTRL n) F.PRT_CTRL_ADMIN_UP = false ∧
      (sf (Reg.PRT_CTRL n) F.PRT_CTRL_ADMIN_UP 1 (pt n stUp lane1)).bit (Reg.PRT_CTRL n) F.PRT_CTRL_ADMIN_UP = true ∧
      (∀ x ∈ [stAdminDown, stAn, stTrain, stAlign, stUp], (pt n x lane1).portState n = x)) ∧
    ((pt 0 stAlign lane1).port 0).since + 500000000 ≤ (aft 500000000 (pt 0 stAlign lane1)).free ∧ ¬ 500000000 ≤ (pt 0 stAlign lane1).free ∧
    (aft 500000000 (pt 0 stAlign lane1)).portState 0 = stAlign ∧ ((pt 0 stAn lane1).port 0).mode = lane1 ∧ ((pt 0 stAn lane1).port 0).adv = 0x3FF ∧
    resolve lane1 0x3FF 0x200 = some (10, 1, 0) ∧ resolve lane1 0x3FF 0 = none ∧ (resolve lane1 0x3FF 0x3FF).isSome = true := by decide +kernel

/-- Port `n` in state `x` with its PCS started, MAC Merge controls `mm` and `k` verify frames sent, its link up when `l` is 1. -/
def Sys2Proof.Tests.pm (n x l k v : Nat) (mm : Word) (h : Option Nat) : Dev :=
  sf (Reg.PRT_MM_STATUS n) F.PRT_MM_STATUS_VERIFY v (sf (Reg.PRT_STATUS n) F.PRT_STATUS_LINK l
    ((pt n x lane1).setPort n { Port.init with mode := lane1, pcs := true, verifyTries := k, mm := mm, holdEnd := h }))

/-- The same long after the state was entered. -/
def Sys2Proof.Tests.pl8 (n x l k v : Nat) (mm : Word) (h : Option Nat) : Dev := aft (2 ^ 40) (pm n x l k v mm h)

theorem wit_portStates :
    (∀ n ∈ [0, 127, 129],
      ((pl8 n stAlign 0 0 0 0 none).port n).pcs = true ∧ (pl8 n stAlign 0 0 0 0 none).portState n = stAlign ∧ (pl8 n stUp 1 0 0 0 none).portState n = stUp ∧
      ((pl8 n stAlign 0 0 0 0 none).port n).since + 1000 * (pl8 n stAlign 0 0 0 0 none).fld (Reg.PRT_LINK_TIMER n) F.PRT_LINK_TIMER_UP_DEBOUNCE ≤ 2 ^ 40 ∧
      ((pl8 n stUp 1 0 0 0 none).port n).since + 1000 * (pl8 n stUp 1 0 0 0 none).fld (Reg.PRT_LINK_TIMER n) F.PRT_LINK_TIMER_DOWN_DEBOUNCE ≤ 2 ^ 40 ∧
      (pl8 n stUp 1 0 0 0 none).free = 2 ^ 40 ∧
      (pm n stAlign 0 0 0 0 none).mmEn n = false ∧ (pm n stUp 1 0 0 0 none).portUp n = true ∧
      (pm n stUp 1 0 0 0 none).bit (Reg.PRT_STATUS n) F.PRT_STATUS_RF ≠ true ∧
      (sf (Reg.PRT_HOLD n) F.PRT_HOLD_HOLD 1 (pm n stUp 1 0 0 0 none)).fld (Reg.PRT_HOLD n) F.PRT_HOLD_HOLD ≠ 0 ∧
      (pm n stUp 1 0 0 0 none).fld (Reg.PRT_HOLD n) F.PRT_HOLD_HOLD = 0 ∧
      (sf (Reg.PRT_STATUS n) F.PRT_STATUS_RF 1 (pm n stUp 0 0 0 0 none)).bit (Reg.PRT_STATUS n) F.PRT_STATUS_RF ≠ false ∧
      ((pm n stAlign 0 0 0 0 (some 5000)).port n).holdEnd = some 5000 ∧ (pm n stAlign 0 0 0 0 (some 5000)).portUp n = false ∧ 5000 ≤ on.free ∧ on.free < 5001) ∧
    F.PRT_MODE_AN_EN.of ((pl8 129 stUp 1 0 0 0 none).reg (Reg.PRT_MODE 129)) = 0 ∧ F.PRT_MODE_MODE.of ((pl8 129 stUp 1 0 0 0 none).reg (Reg.PRT_MODE 129)) = 0 ∧
    F.PRT_MODE_MODE.of (((pl8 129 stUp 1 0 0 0 none).setReg (Reg.PRT_MODE 129) mgmt1).reg (Reg.PRT_MODE 129)) = 1 ∧
    (pm 127 stAlign 0 0 0 1 none).mmEn 127 = true ∧ (pm 127 stAlign 0 0 0 3 none).mmNoVerify 127 = true ∧
    (pm 127 stAlign 0 0 0 1 none).mmNoVerify 127 = false ∧ (pm 127 stUp 1 2 1 1 none).verifyState 127 = 1 ∧
    (pm 127 stUp 1 2 2 1 none).verifyState 127 = 2 ∧ ((pm 127 stUp 1 2 2 1 none).port 127).verifyTries < 3 ∧
    ((pm 127 stUp 1 2 2 1 none).port 127).verifyAt ≤ (pm 127 stUp 1 2 2 1 none).free ∧ 3 ≤ ((pm 127 stUp 1 3 2 1 none).port 127).verifyTries := by decide +kernel

/-- Output 3 takes lane `l`; lane 95 has signal and lock. -/
def Sys2Proof.Tests.rk (l : Nat) : Dev :=
  sf (Reg.PRT_LANE_STATUS 95) F.PRT_LANE_STATUS_SIGNAL 1 (sf (Reg.PRT_LANE_STATUS 95) F.PRT_LANE_STATUS_CDR_LOCK 1 (sf (Reg.PRT_RCLK 3) F.PRT_RCLK_LANE l on))

theorem wit_clocks :
    (rk 95).up = true ∧ (rk 95).accessOpen (Reg.PRT_RCLK 3) = true ∧ (rk 95).laneLocked ((rk 95).rclkLane 3) = true ∧
    (sf (Reg.PRT_RCLK 3) F.PRT_RCLK_SQUELCHED 0 (rk 95)).bit (Reg.PRT_RCLK 3) F.PRT_RCLK_SQUELCHED = false ∧ (rk 97).laneLocked ((rk 97).rclkLane 3) = false ∧
    (rk 97).rclkLane 3 < 98 ∧ (rk 98).laneLocked ((rk 98).rclkLane 3) = false ∧ (rk 97).pins.mgmtLock.length = 2 ∧ (rk 97).pins.rclk.length = 4 := by decide +kernel

/-- The time counter at `ns` nanoseconds. -/
def Sys2Proof.Tests.at_ (ns : Nat) (d : Dev) : Dev := { d with tim := { d.tim with cnt := BitVec.ofNat 72 (ns * 2 ^ 40) } }

/-- A servo of source `src` that steps from 5 ns on when `en` is 1. -/
def Sys2Proof.Tests.hart (src en : Nat) : Dev :=
  sf Reg.TIM_HART_CTRL F.TIM_HART_CTRL_SRC src (sf Reg.TIM_HART_CTRL F.TIM_HART_CTRL_STEP_EN en (sf Reg.TIM_HART_STEP F.TIM_HART_STEP_STEP_NS 5 on))

theorem wit_servo :
    (hart 1 1).up = true ∧ ([Reg.TIM_TIME, Reg.TIM_STEP, Reg.TIM_HART_SAMPLE, Reg.TIM_HART_CTRL, Reg.TIM_CTRL, Reg.TIM_PPS_IN].all (hart 1 1).accessOpen) = true ∧
    sgn (F.TIM_STEP_OFFSET.of (2 ^ 38)) 40 = 2 ^ 38 ∧ sgn (F.TIM_STEP_OFFSET.of (2 ^ 38 - 1)) 40 < 2 ^ 38 ∧
    sgn (F.TIM_STEP_OFFSET.of (BitVec.ofInt 64 (-(2 ^ 38)))) 40 = -(2 ^ 38) ∧ sgn (F.TIM_HART_SAMPLE_OFFSET.of 1280) 40 = 1280 ∧
    (hart 1 1).fld Reg.TIM_HART_CTRL F.TIM_HART_CTRL_SRC = 1 ∧ (hart 0 1).fld Reg.TIM_HART_CTRL F.TIM_HART_CTRL_SRC ≠ 1 ∧
    (hart 1 1).bit Reg.TIM_HART_CTRL F.TIM_HART_CTRL_STEP_EN = true ∧ (hart 1 1).fld Reg.TIM_HART_STEP F.TIM_HART_STEP_STEP_NS * 256 = 1280 ∧
    (hart 1 0).bit Reg.TIM_HART_CTRL F.TIM_HART_CTRL_STEP_EN = false ∧ on.fld Reg.TIM_CTRL F.TIM_CTRL_REF_SEL = 0 ∧
    (sf Reg.TIM_CTRL F.TIM_CTRL_REF_SEL 1 on).fld Reg.TIM_CTRL F.TIM_CTRL_REF_SEL = 1 := by decide +kernel

/-- The 1PPS servo, the edge expected at 2,000 ns, the counter at `ns`. -/
def Sys2Proof.Tests.pps (ns : Nat) (done : Bool) : Dev :=
  at_ ns { sf Reg.TIM_PPS_IN F.TIM_PPS_IN_EXPECT 2000 (hart 2 0) with tim := { on.tim with ppsDone := done } }

theorem wit_ppsEdges :
    (pps 0 false).fld Reg.TIM_HART_CTRL F.TIM_HART_CTRL_SRC = 2 ∧ (pps 0 false).bit Reg.TIM_PPS_IN F.TIM_PPS_IN_FALLING = false ∧
    (pps 0 false).tooSoon (pps 0 false).tim.ppsIn = false ∧ sgn ((pps 0 false).ns + 2 ^ 32 - (pps 0 false).ppsExpect) 32 = -2000 ∧
    sgn ((pps 600000000 false).ns + 2 ^ 32 - (pps 600000000 false).ppsExpect) 32 > 500000000 ∧ (pps 0 false).tim.ppsIn.level = false ∧
    (pps 0 true).tim.ppsDone = true ∧ (pps 0 false).tim.ppsDone = false ∧
    atOrAfter32 (((pps 500002001 false).ppsExpect + 500000001) % 2 ^ 32) (pps 500002001 false).ns = true ∧
    atOrAfter32 (((pps 500002000 false).ppsExpect + 500000001) % 2 ^ 32) (pps 500002000 false).ns = false ∧
    sgn ((pps 500002000 false).ns + 2 ^ 32 - (pps 500002000 false).ppsExpect) 32 = 500000000 := by decide +kernel

/-- Output 15 armed at target 100 ns, the counter at `ns`; mode `m`, period `p`, late when `l`. -/
def Sys2Proof.Tests.tg (ns : Nat) (m : BitVec 2) (p : Nat) (l : Bool) : Dev := at_ ns (on.setTrig 15 ⟨some ⟨25600, l, m, false, 10, p⟩, false, some 5000⟩)

theorem wit_triggers :
    on.up = true ∧ on.tim.trigs.length = 16 ∧ on.tim.caps.length = 16 ∧ on.accessOpen (Reg.TIM_TRIG_CTRL 15) = true ∧ on.accessOpen Reg.TIM_PPS_OUT = true ∧
    F.TIM_TRIG_CTRL_ARM.of 1 = 1 ∧ F.TIM_TRIG_CTRL_DISARM.of 1 = 0 ∧ F.TIM_PPS_OUT_EN.of (2 ^ 32) = 1 ∧ (on.trig 15).armed = none ∧
    (∀ m ∈ [0, 1, 2, 3], ∀ p ∈ [0, 100], ((tg 100 m p false).trig 15).armed = some ⟨25600, false, m, false, 10, p⟩ ∧
      (tg 100 m p false).targetReached 25600 = true ∧ (tg 99 m p false).targetReached 25600 = false ∧
      ((tg 99 m p true).trig 15).armed = some ⟨25600, true, m, false, 10, p⟩) ∧
    ((tg 100 0 0 false).trig 15).pulseEnd = some 5000 ∧ 5000 ≤ (tg 100 0 0 false).free ∧ (tg 100 0 0 false).free < 5001 := by decide +kernel

/-- Input 15 with edge selection `e` and RECORD `r`, `n` records waiting, its last edge at `l`. -/
def Sys2Proof.Tests.cp (en e r n : Nat) (l : Option Nat) : Dev :=
  let d := sf (Reg.TIM_CAP_CTRL 15) F.TIM_CAP_CTRL_EN en (sf (Reg.TIM_CAP_CTRL 15) F.TIM_CAP_CTRL_EDGE e (sf (Reg.TIM_CAP_CTRL 15) F.TIM_CAP_CTRL_RECORD r on))
  { d with tim := { d.tim with caps := d.tim.caps.set 15 ⟨false, l, 0, 0⟩, capq := List.replicate n ⟨[]⟩ } }

theorem wit_captures :
    (∀ e ∈ [0, 1, 2], (cp 1 e 1 0 none).bit (Reg.TIM_CAP_CTRL 15) F.TIM_CAP_CTRL_EN = true ∧ (cp 1 e 1 0 none).fld (Reg.TIM_CAP_CTRL 15) F.TIM_CAP_CTRL_EDGE = e) ∧
    (cp 0 0 1 0 none).bit (Reg.TIM_CAP_CTRL 15) F.TIM_CAP_CTRL_EN = false ∧ (cp 1 0 1 0 (some 4901)).tooSoon ((cp 1 0 1 0 (some 4901)).cap 15) = true ∧
    (cp 1 0 1 0 (some 4900)).tooSoon ((cp 1 0 1 0 (some 4900)).cap 15) = false ∧ (cp 1 0 0 0 none).bit (Reg.TIM_CAP_CTRL 15) F.TIM_CAP_CTRL_RECORD = false ∧
    (cp 1 0 1 0 none).bit (Reg.TIM_CAP_CTRL 15) F.TIM_CAP_CTRL_RECORD = true ∧ (cp 1 0 1 255 none).tim.capq.length < 256 ∧
    256 ≤ (cp 1 0 1 256 none).tim.capq.length := by decide +kernel

/-- Port 127's gates: administrative list of `len` entries of 100 ns, CYCLE `cyc`; PENDING `p` for time 1,000 ns; RUNNING `r`; the cycle began at
0, entry 0 in force until 100 ns; the counter at `ns`. -/
def Sys2Proof.Tests.gt (len cyc p r ns : Nat) : Dev :=
  let a := F.GAT_STATUS_CHANGE_TIME.put (F.GAT_STATUS_RUNNING.put (F.GAT_STATUS_PENDING.put 0 p) r) 1000
  let l := [(0, geEntry), (1, geEntry)]
  at_ ns ((((((on.setReg (Reg.GAT_STATUS 127) a).setReg (Reg.GAT_ADMIN_BASE 127) (F.GAT_ADMIN_BASE_LIST_LEN.put 0 len)).setReg (Reg.GAT_ADMIN_CYCLE 127)
    (F.GAT_ADMIN_CYCLE_CYCLE.put 0 cyc)).setReg (Reg.GAT_OPER_BASE 127) (F.GAT_OPER_BASE_LIST_LEN.put 0 2)).setReg (Reg.GAT_OPER_CYCLE 127)
      (F.GAT_OPER_CYCLE_CYCLE.put 0 200)).setGate 127 ⟨l, l, true, 0, 100, 0⟩)
where
  /-- An entry of 100 ns with every gate open. -/
  geEntry : Word := F.GAT_DATA_INTERVAL.put (F.GAT_DATA_GATES.put 0 255) 100

theorem wit_gateLists :
    let ask : Word := F.GAT_CTRL_CFG_CHANGE.put (F.GAT_CTRL_EN.put 0 1) 1
    (gt 2 200 0 0 0).up = true ∧ (gt 2 200 0 0 0).accessOpen (Reg.GAT_CTRL 127) = true ∧ F.GAT_CTRL_CFG_CHANGE.of ask = 1 ∧ F.GAT_CTRL_EN.of ask = 1 ∧
    F.GAT_CTRL_CANCEL.of ask = 0 ∧ F.GAT_CTRL_EN.of 0 = 0 ∧ F.GAT_CTRL_CFG_CHANGE.of (F.GAT_CTRL_CFG_CHANGE.put 0 1) = 1 ∧
    (sf (Reg.GAT_CTRL 127) F.GAT_CTRL_EN 1 (gt 2 200 1 1 0)).bit (Reg.GAT_CTRL 127) F.GAT_CTRL_EN = true ∧ (gt 2 200 0 0 0).gatePending 127 = false ∧ (gt 2 200 0 0 0).gateCheck 127 = 0 ∧
    (gt 0 200 0 0 0).gateCheck 127 = 1 ∧ (gt 2 199 0 0 0).gateCheck 127 = 2 ∧ (gt 2 200 1 0 0).gatePending 127 = true ∧
    atOrAfter32 ((gt 2 200 1 0 1000).fld (Reg.GAT_STATUS 127) F.GAT_STATUS_CHANGE_TIME) (gt 2 200 1 0 1000).ns = true ∧
    atOrAfter32 ((gt 2 200 1 0 999).fld (Reg.GAT_STATUS 127) F.GAT_STATUS_CHANGE_TIME) (gt 2 200 1 0 999).ns = false ∧
    Map.rising ((gt 2 200 1 0 1000).gate 127).admin = true := by decide +kernel

/-- The change time on both sides of x = 2^31, and at x = 0 and x a multiple of the cycle (R398). -/
theorem wit_changeTime :
    let d := fun (b : Nat) => sf (Reg.GAT_ADMIN_BASE 127) F.GAT_ADMIN_BASE_BASE b (gt 2 200 0 0 0)
    ([1000, 800, 799, 2147484648, 2147484649, 1001].all fun b => (d b).gateCheck 127 = 0 && (d b).ns % 2 ^ 32 = 0 && !(d b).gatePending 127) = true ∧
    (BitVec.ofNat 32 (d 2147484648).ns + 1000#32 - BitVec.ofNat 32 2147484648).toNat = 2 ^ 31 ∧
    (BitVec.ofNat 32 (d 2147484649).ns + 1000#32 - BitVec.ofNat 32 2147484649).toNat = 2 ^ 31 - 1 ∧
    changeTime 0 1000 200 = 1000 ∧ changeTime 0 800 200 = 1000 ∧ changeTime 0 799 200 = 1199 ∧ changeTime 0 1001 200 = 1001 ∧
    changeTime 0 2147484648 200 = 2147484648 := by decide +kernel

theorem wit_gateCycles :
    (gt 2 200 0 1 200).gateRunning 127 = true ∧ (gt 2 200 0 1 200).operCycle 127 = 200 ∧
    atOrAfter32 (addNs ((gt 2 200 0 1 200).gate 127).cycleStart 200).toNat (gt 2 200 0 1 200).ns = true ∧
    (gt 2 200 0 1 200).cycleMayBegin 127 200 = true ∧ atOrAfter32 (addNs ((gt 2 200 0 1 199).gate 127).cycleStart 200).toNat (gt 2 200 0 1 199).ns = false ∧
    (gt 2 200 0 0 0).gateRunning 127 = false ∧ (gt 2 200 1 1 1000).cycleMayBegin 127 1000 = false ∧
    (gt 2 200 0 1 100).fld (Reg.GAT_STATUS 127) F.GAT_STATUS_CUR_ENTRY + 1 < (gt 2 200 0 1 100).fld (Reg.GAT_OPER_BASE 127) F.GAT_OPER_BASE_LIST_LEN ∧
    atOrAfter32 ((gt 2 200 0 1 100).gate 127).entryEnd.toNat (gt 2 200 0 1 100).ns = true ∧
    ahead32 ((gt 2 200 0 1 100).gate 127).cycleStart.toNat ((gt 2 200 0 1 100).gate 127).entryEnd.toNat < (gt 2 200 0 1 100).operCycle 127 ∧
    atOrAfter32 ((gt 2 200 0 1 99).gate 127).entryEnd.toNat (gt 2 200 0 1 99).ns = false := by decide +kernel

/-- Port 5's list opens class 0 for 10 ns of each 200; a record of 60 bytes heads its queue since `h`. -/
def Sys2Proof.Tests.ovr (h : Nat) : Dev :=
  let e := fun (g t : Nat) => F.GAT_DATA_INTERVAL.put (F.GAT_DATA_GATES.put 0 g) t
  let r : Rec := { pid := 1, words := ctxZero, len := 60, data := 4, cells := 1, own := 0, spill := 0, port := 5, queue := 131064, since := 0, headAt := some h, adm := 0, flight := [] }
  { sf (Reg.GAT_CTRL 5) F.GAT_CTRL_EN 1 (subbed 131064 (((on.setReg (Reg.GAT_STATUS 5) (F.GAT_STATUS_RUNNING.put 0 1)).setReg (Reg.GAT_OPER_BASE 5)
      (F.GAT_OPER_BASE_LIST_LEN.put 0 2)).setReg (Reg.GAT_OPER_CYCLE 5) (F.GAT_OPER_CYCLE_CYCLE.put 0 200) |>.setGate 5 ⟨[], [(0, e 1 10), (1, e 254 190)], true, 0, 10, 0⟩)) with
    queues := putList [] 131064 [r] }

theorem wit_oversize :
    (∀ h ∈ [4800, 4801],
      let d := ovr h
      d.running = true ∧ d.lineUp 80 = true ∧ d.lineUp 81 = true ∧ d.subPort (131064 / 8) = some 5 ∧ ((d.queue 131064)[0]?.bind (·.headAt)) = some h ∧
      (d.gatesEn 5 && d.gateRunning 5 && d.neverFits 5 0 60) = true ∧
      d.passed (max h (d.gate 5).lastChange) (d.operCycle 5) = decide (h = 4800)) := by decide +kernel

/-! ### Witnesses: the power manager -/

/-- The feed measured with 1 mV and 1 mA a step; PLIMIT 1,000 mW, VMIN 2 mV, HYST 100 mW. -/
def Sys2Proof.Tests.fee (en breach : Nat) (bad : Nat) : Dev :=
  let d := (sf Reg.PWR_FEED_CFG F.PWR_FEED_CFG_EN en (sf Reg.PWR_FEED F.PWR_FEED_BREACH breach on)).setReg Reg.PWR_FEED_SCALE
    (F.PWR_FEED_SCALE_I_LSB_UA.put (F.PWR_FEED_SCALE_V_LSB_UV.put 0 1000) 1000)
  let d := d.setReg Reg.PWR_FEED_LIMIT (F.PWR_FEED_LIMIT_HYST_MW.put (F.PWR_FEED_LIMIT_VMIN_MV.put (F.PWR_FEED_LIMIT_PLIMIT_MW.put 0 1000) 2) 100)
  { d with pwr := { d.pwr with badFrames := bad } }

/-- The power in mW that the codes mean on `fee`. -/
def Sys2Proof.Tests.feMw (v i : Nat) : Nat :=
  let d := fee 1 0 0
  v * d.fld Reg.PWR_FEED_SCALE F.PWR_FEED_SCALE_V_LSB_UV / 1000 * (i * d.fld Reg.PWR_FEED_SCALE F.PWR_FEED_SCALE_I_LSB_UA / 1000) / 1000

theorem wit_feed :
    (fee 0 0 0).up = true ∧ (fee 0 0 0).bit Reg.PWR_FEED_CFG F.PWR_FEED_CFG_EN = false ∧ (fee 1 0 0).bit Reg.PWR_FEED_CFG F.PWR_FEED_CFG_EN = true ∧
    (fee 1 0 0).feedOn = false ∧ (fee 1 1 0).feedOn = true ∧ (fee 1 0 0).fld Reg.PWR_FEED_LIMIT F.PWR_FEED_LIMIT_PLIMIT_MW = 1000 ∧
    (fee 1 0 0).fld Reg.PWR_FEED_LIMIT F.PWR_FEED_LIMIT_VMIN_MV = 2 ∧ feMw 1001 1000 = 1001 ∧ feMw 1000 1000 = 1000 ∧ feMw 900 1000 = 900 ∧
    (fee 1 1 0).fld Reg.PWR_FEED_LIMIT F.PWR_FEED_LIMIT_HYST_MW = 100 ∧ 2 ≤ (fee 1 0 2).pwr.badFrames ∧ (fee 1 0 2).fld Reg.PWR_FEED F.PWR_FEED_STALE = 0 := by
  decide +kernel

/-- Readings of one temperature everywhere. -/
def Sys2Proof.Tests.ts (x : Nat) : List (BitVec 12) := List.replicate 64 (BitVec.ofNat 12 x)
def Sys2Proof.Tests.lm (d : Dev) : Dev := d.setReg Reg.PWR_THERM_LIMIT (F.PWR_THERM_LIMIT_CRIT.put (F.PWR_THERM_LIMIT_WARN.put 0 400) 440)

theorem wit_sensors :
    (ts 0).length = 64 ∧ (lm on).up = true ∧ (lm (sg 2 .none [] [])).up = false ∧ (lm (sg 6 .none [] [])).stage = 6 ∧ (lm on).warnAt = 400 ∧
    (lm on).critAt = 440 ∧ ((ts 401).any fun y => (lm on).warnAt < y.toInt) = true ∧ ((ts 392).any fun y => (lm on).warnAt - 8 < y.toInt) = false ∧
    ((ts 441).any fun y => (lm on).critAt < y.toInt) = true ∧ ((ts 440).any fun y => (lm on).critAt < y.toInt) = false ∧ (sf Reg.PWR_CTRL F.PWR_CTRL_EN 1 on).ladderEn = true := by
  decide +kernel

/-- A forecast: FIXED_MW 500, limit 400 or 500 mW, breach `b`. -/
def Sys2Proof.Tests.fo (en lim b : Nat) : Dev :=
  (sf Reg.PWR_FC F.PWR_FC_BREACH b on).setReg Reg.PWR_FC_CFG (F.PWR_FC_CFG_FIXED_MW.put (F.PWR_FC_CFG_WINDOW_US.put 0 1) 500) |>.setReg Reg.PWR_FC_LIMIT
    (F.PWR_FC_LIMIT_EN.put (F.PWR_FC_LIMIT_LIMIT_MW.put 0 lim) en)

theorem wit_forecast :
    (fo 1 499 0).forecastOn = false ∧ (fo 1 499 1).forecastOn = true ∧ (fo 1 499 0).bit Reg.PWR_FC_LIMIT F.PWR_FC_LIMIT_EN = true ∧
    (fo 0 499 0).bit Reg.PWR_FC_LIMIT F.PWR_FC_LIMIT_EN = false ∧ (fo 1 499 0).fld Reg.PWR_FC_LIMIT F.PWR_FC_LIMIT_LIMIT_MW < 500 ∧
    500 ≤ (fo 1 500 0).fld Reg.PWR_FC_LIMIT F.PWR_FC_LIMIT_LIMIT_MW ∧ (fo 1 500 0).fld Reg.PWR_FC_CFG F.PWR_FC_CFG_FIXED_MW = 500 ∧
    ((fo 1 499 0).reg (Reg.PWR_ACC 8)).toNat = 0 ∧ (fo 1 499 0).fld (Reg.PWR_RAIL 5) F.PWR_RAIL_LEAK = 0 := by decide +kernel

/-- The ladder with EN `en` at LEVEL `n`, its last step at `l`, FEED_ALERT_N low when `a`, a request when `r`. -/
def Sys2Proof.Tests.la (en n : Nat) (l : Option Nat) (a r : Bool) : Dev :=
  let d := sf Reg.PWR_LADDER F.PWR_LADDER_LEVEL n (sf Reg.PWR_CTRL F.PWR_CTRL_RELAX_MS 1 (sf Reg.PWR_CTRL F.PWR_CTRL_EN en on))
  { d with pwr := { d.pwr with alertLow := a, request := r, lastStep := l }, tim := { d.tim with free := 5000000 } }

theorem wit_ladder :
    (la 1 3 none true false).up = true ∧ (la 1 3 none true false).pwr.alertLow = true ∧ (la 1 3 none false false).pwr.alertLow = false ∧
    (la 0 3 none false false).ladderEn = false ∧ (la 1 3 none false true).ladderEn = true ∧ (la 1 3 none false true).stepDue = true ∧
    (la 1 3 (some 5000000) false true).stepDue = false ∧ (la 1 3 none false true).pwr.request = true ∧
    ((la 1 3 none true false).pwr.request || (la 1 3 none true false).feedOn || (la 1 3 none true false).forecastOn || (la 1 3 none true false).pwr.warn) = false ∧
    (la 1 3 none false false).anyTrigger = false ∧ (la 1 3 none false false).passed 0 1000000 = true ∧
    1000000 * max 1 ((la 1 3 none false false).fld Reg.PWR_CTRL F.PWR_CTRL_RELAX_MS) = 1000000 ∧
    (sf Reg.PWR_CTRL F.PWR_CTRL_FLOOR 31 (la 1 3 none false false)).floorLevel = 16 ∧ (la 1 3 none false false).accessOpen Reg.PWR_CTRL = true := by decide +kernel

/-- The edges and rungs: POL of input 15 is 0; its last accepted edge lies at `t`; EN and STEP of it are `m`. -/
def Sys2Proof.Tests.al (m t : Nat) : Dev :=
  let d := sf Reg.PWR_ALARM F.PWR_ALARM_EN m (sf Reg.PWR_ALARM F.PWR_ALARM_STEP m (la 1 3 none false false))
  { d with pwr := { d.pwr with alarmAt := [(15, t)] } }

theorem wit_alarms :
    true ≠ ((al 32768 0).fld Reg.PWR_ALARM F.PWR_ALARM_POL).testBit 15 ∧ ¬ (false ≠ ((al 32768 0).fld Reg.PWR_ALARM F.PWR_ALARM_POL).testBit 15) ∧
    Map.find (al 32768 4999901).pwr.alarmAt 15 = some 4999901 ∧ (al 32768 4999901).free < 4999901 + 100 ∧ ¬ ((al 32768 4999900).free < 4999900 + 100) ∧
    ((al 32768 0).fld Reg.PWR_ALARM F.PWR_ALARM_EN).testBit 15 = true ∧ (on.accessOpen (Reg.PWR_RUNG 15)) = true ∧ on.rungOn 15 = false ∧
    (sf Reg.PWR_LADDER F.PWR_LADDER_IN_FORCE 32768 on).rungOn 15 = true := by decide +kernel

/-- Every rail commanded to 750 mV; region 287 has TRIM `t`, TRIM_BASE `b`; rail 5 is on its way to `v` mV and HELD when `h` is 1. -/
def Sys2Proof.Tests.pw (t b : Nat) (v : List (Nat × Nat)) (h : Nat) : Dev :=
  let d := sf (Reg.PWR_REGION 287) F.PWR_REGION_TRIM t (sf (Reg.PWR_REGION 287) F.PWR_REGION_TRIM_BASE b (sf (Reg.PWR_RAIL_STAT 5) F.PWR_RAIL_STAT_HELD h
    (sf (Reg.PWR_RAIL_STAT 5) F.PWR_RAIL_STAT_V_MV 750 on)))
  { d with pwr := { d.pwr with railCmd := List.replicate 6 750, railTo := v, railSeen := List.range 6 } }

/-- No region of rail 5 is guarded. -/
def Sys2Proof.Tests.noGuard (d : Dev) : Dev :=
  (List.range 32).foldl (fun d r => sf (Reg.PWR_REGION (256 + r)) F.PWR_REGION_GUARD 0 d) d

theorem wit_trims :
    (pw 0 0 [] 0).up = true ∧ (pw 0 0 [] 0).pwr.railCmd.length = 6 ∧ (pw 0 0 [] 0).pwr.railAt.length = 6 ∧ (pw 0 0 [] 0).trimTarget 287 = (pw 0 0 [] 0).trim 287 ∧
    (pw 0 1 [] 0).trim 287 < (pw 0 1 [] 0).trimTarget 287 ∧ (pw 0 1 [] 0).trimLimits 287 1 = (1, false) ∧ (pw 1 0 [] 0).trimTarget 287 < (pw 1 0 [] 0).trim 287 ∧
    (sf (Reg.PWR_REGION 287) F.PWR_REGION_GUARD 0 (pw 1 0 [] 0)).guarded 287 = false ∧ (pw 1 0 [] 0).trimLimits 287 0 = (0, false) ∧ (pw 24 0 [] 0).trim 287 = 24 := by decide +kernel

theorem wit_rails :
    Map.find (pw 0 0 [] 0).pwr.railTo 5 = none ∧ Map.find (pw 0 0 [(5, 755)] 0).pwr.railTo 5 = some 755 ∧ (pw 0 0 [(5, 755)] 0).railMv 5 = 750 ∧
    (pw 0 0 [(5, 755)] 1).railHeld 5 = true ∧ (pw 0 0 [(5, 755)] 0).railHeld 5 = false ∧ (pw 0 0 [(5, 755)] 0).railSettled 5 = true ∧
    ({ pw 0 0 [(5, 755)] 0 with pwr := { (pw 0 0 [(5, 755)] 0).pwr with railSeen := [] } } : Dev).railSettled 5 = false ∧
    (pw 0 0 [(5, 755)] 0).bit (Reg.PWR_RAIL 5) F.PWR_RAIL_BUS = false ∧ (sf (Reg.PWR_RAIL 5) F.PWR_RAIL_BUS 1 (pw 0 0 [(5, 755)] 0)).bit (Reg.PWR_RAIL 5) F.PWR_RAIL_BUS = true ∧
    32 ≤ (255 : BitVec 8).toNat ∧ (0x14 : BitVec 8).toNat < 32 ∧
    (pw 0 0 [(5, 755)] 0).railLimits 5 755 = (755, false) ∧ (pw 0 0 [(5, 745)] 0).railLimits 5 745 = (745, false) ∧ (noGuard (pw 0 0 [] 0)).railSlow 5 = false ∧
    Map.getD (pw 0 0 [] 0).pwr.railFails 5 0 < 2 ∧ 2 ≤ Map.getD [(5, 2)] 5 0 ∧ (pw 0 0 [] 0).accessOpen (Reg.PWR_RAIL 5) = true := by decide +kernel

/-- The pace clauses hold for some pace of every region: 4,095 reaches any LR_PACE, and where LR_PACE is not 0 one less than it is low. -/
theorem wit_pace (g : Nat) : lrPaceOf g ≤ 4095 ∧ (0 < lrPaceOf g → lrPaceOf g / 4 ≤ lrPaceOf g - 1 ∧ lrPaceOf g - 1 < lrPaceOf g) := by
  unfold lrPaceOf; omega

/-- Region 287 is guarded, its last PACE reading was low; TRIM is `t`. -/
def Sys2Proof.Tests.pg (t : Nat) : Dev :=
  let d := sf (Reg.PWR_REGION 287) F.PWR_REGION_GUARD 1 (sf Reg.PWR_CTRL F.PWR_CTRL_GUARD_EN 1 (pw t 0 [] 0))
  { d with pwr := { d.pwr with lowReads := [(287, 1)] } }

theorem wit_guard :
    1 ≤ Map.getD (pg 0).pwr.lowReads 287 0 ∧ (pg 0).guarded 287 = true ∧ (pg 0).bit Reg.PWR_CTRL F.PWR_CTRL_GUARD_EN = true ∧ (pg 0).belowLr 287 = false ∧
    0 ≤ (pg 0).rungTrim (railOf 287) false ∧ 0 ≤ (pg 0).rungRail (railOf 287) false ∧ (pg 23).trim 287 < 24 ∧ (pg 23).trimLimits 287 24 = (24, false) ∧
    24 ≤ (pg 24).trim 287 := by decide +kernel

/-- A period in which class 0 was charged 2 µJ and rails 0 and 1 drew 1 µJ each; MIN_UJ is 1. -/
def Sys2Proof.Tests.ca (skip : Bool) : Dev :=
  let d := sf Reg.PWR_CTRL F.PWR_CTRL_CAL_EN 1 (sf Reg.PWR_CAL F.PWR_CAL_MIN_UJ 1 (sf (Reg.ACT_COST 0) F.ACT_COST_CAL_EN 1 (on.setReg (Reg.ACT_CLASS_PJ 0) 2000000)))
  { d with pwr := { d.pwr with calEnergy := [1000000, 1000000, 0, 0, 0, 0], calSkip := skip } }

theorem wit_recalibration :
    on.bit Reg.PWR_CTRL F.PWR_CTRL_CAL_EN = false ∧ (ca true).up = true ∧ (ca true).bit Reg.PWR_CTRL F.PWR_CTRL_CAL_EN = true ∧ (ca true).pwr.calSkip = true ∧
    (ca false).pwr.calSkip = false ∧ (ca false).bit (Reg.ACT_COST 0) F.ACT_COST_CAL_EN = true ∧ (ca false).bit (Reg.ACT_COST 31) F.ACT_COST_CAL_EN = false ∧
    calFactor ((ca false).calRails (1000000 * max 10 ((ca false).fld Reg.PWR_CAL F.PWR_CAL_PERIOD_MS))).2 0 = some 256 := by decide +kernel

/-! ### Witnesses: external memory -/

/-- Channel 3 in state `x` with 16 MiB and the contents `c`; every client's range is 16 MiB at 0. -/
def Sys2Proof.Tests.dm (x : Nat) (c : Chan) : Dev :=
  let d := sf (Reg.DMC_CHAN_STATUS 3) F.DMC_CHAN_STATUS_STATE x (sf (Reg.DMC_CHAN_STATUS 3) F.DMC_CHAN_STATUS_DATA_MIB 16 on)
  { (List.range 4).foldl (fun d k => sf (Reg.DMC_RANGE k) F.DMC_RANGE_SIZE_MIB 16 d) d with chans := d.chans.set 3 c }

/-- A request of class `cls` for atom 0. -/
def Sys2Proof.Tests.rq (cls : Nat) (w : Bool) : DReq := ⟨cls, 0, w, if w then List.replicate 64 7 else [], 0, 0⟩
def Sys2Proof.Tests.cn (l : List DReq) : Chan := { Chan.reset with reqs := l }

theorem wit_requests :
    (∀ cls ∈ [0, 1, 2, 3], (dm 2 (cn [])).dramOk cls (3 * 2 ^ 34 + 16 * 2 ^ 20 - 64) = true ∧ (dm 2 (cn [])).dramOk cls (3 * 2 ^ 34 + 16 * 2 ^ 20) = false ∧
      (dm 4 (cn [])).dramOk cls (3 * 2 ^ 34) = false ∧ (dm 2 (cn [])).placeFor 3 (rq cls false) = true ∧ (dm 2 (cn [])).placeFor 3 (rq cls true) = true) ∧ (cn []).port = [] ∧
    dramChan (3 * 2 ^ 34) = 3 ∧ (dm 2 (cn [])).running = true ∧ (dm 2 (cn [])).chans.length = 4 ∧ ¬ (0 = 0 ∧ (none : Option (List Byte)).isSome) ∧
    ¬ (1 = 0 ∧ (some [] : Option (List Byte)).isSome) := by decide +kernel

theorem Sys2Proof.Tests.used_full (n k : Nat) : ({ Chan.reset with wbuf := List.replicate n (rq 1 true) } : Chan).used k = if k = 1 then n else 0 := by
  show (([] ++ List.replicate n (rq 1 true)).filter fun (r : DReq) => r.cls = k).length = _
  rw [List.nil_append, List.filter_replicate, show (rq 1 true).cls = 1 from rfl]
  by_cases h : k = 1
  · subst h; simp
  · have h' : ¬ 1 = k := fun e => h e.symm
    simp [h, h']

/-- Channel 3 with 2,048 buffered writes of class 1. -/
def Sys2Proof.Tests.fullD : Dev := dm 2 { Chan.reset with wbuf := List.replicate 2048 (rq 1 true) }

theorem wit_requests_wait : fullD.placeFor 3 (rq 1 true) = false := by
  rw [Dev.placeFor, Bool.and_eq_false_iff]; left
  show fullD.dramPlaces 3 1 1 = false
  have h : ∀ k, (fullD.chan 3).used k = if k = 1 then 2048 else 0 := used_full 2048
  have r : ∀ k, k < 4 → reserveOf (fullD.reg Reg.DMC_RESERVE) k ≤ 2048 := by
    rw [show fullD.reg Reg.DMC_RESERVE = regReset Reg.DMC_RESERVE from rfl]; decide +kernel
  have r1 := r 1 (by omega)
  simp only [Dev.dramPlaces, h, Bool.or_eq_false_iff, decide_eq_false_iff_not]
  constructor
  · show ¬ (2048 + 1 ≤ _); omega
  · have r0 := r 0 (by omega); have r2 := r 2 (by omega); have r3 := r 3 (by omega)
    simp only [show ¬ ((0 : Nat) = 1) by decide, show ¬ ((2 : Nat) = 1) by decide, show ¬ ((3 : Nat) = 1) by decide, if_false, if_true]
    omega

theorem wit_requests_full : 256 ≤ ({ Chan.reset with wbuf := List.replicate 256 (rq 1 true) } : Chan).wbuf.length := by
  exact Nat.le_of_eq (List.length_replicate (n := 256) (a := rq 1 true)).symm

/-- What the pick of channel 3 finds on subchannel 0. -/
def Sys2Proof.Tests.pickOf (d : Dev) : Option (Nat × DReq) :=
  let d := ((d.refresh 3).pullIn 3).showDebt 3
  let c := d.chan 3
  let first := (c.nextBank[0]?).getD 0
  (List.range 16).findSome? fun i =>
    match chooseReq (c.bank (16 * 0 + (first + i) % 16)).row (c.bankQ 0 ((first + i) % 16)) with
    | some r => if c.phase = .quiesce ∧ r.cls ≠ 2 then none else some ((first + i) % 16, r)
    | none => none

theorem wit_dramSlots :
    (dm 2 (cn [])).up = true ∧ (dm 2 (cn [])).chanLive 3 = true ∧ pickOf (dm 2 (cn [])) = none ∧ pickOf (dm 2 (cn [rq 1 false])) = some (0, rq 1 false) ∧
    (((((dm 2 { cn [] with phase := .switch }).refresh 3).pullIn 3).showDebt 3).chan 3).phase = .switch ∧
    (((((dm 2 { cn [] with train := some (1, 0) }).refresh 3).pullIn 3).showDebt 3).chan 3).train.isSome = true ∧
    rq 1 true ∈ ((dm 2 (cn [rq 1 true])).chan 3).reqs ∧ rq 1 false ∈ ((dm 2 (cn [rq 1 false])).chan 3).reqs ∧ (rq 1 true).write = true ∧ (rq 1 true).data.length = 64 ∧
    (rq 1 false).write = false ∧ ((dm 2 (cn [])).chan 3).poison.contains 0 = false ∧ ((dm 2 { cn [] with poison := [0] }).chan 3).poison.contains 0 = true := by
  decide +kernel

/-- Bank 31 of channel 3 has row 9 open since 1; refresh debt `x`; `l` waits; refresh may be postponed when `l` is a CAPTURE burst, and pulled in. -/
def Sys2Proof.Tests.up_ (x : Int) (l : List DReq) : Dev :=
  sf Reg.DMC_REFRESH F.DMC_REFRESH_POSTPONE_EN 1 (sf Reg.DMC_REFRESH F.DMC_REFRESH_PULLIN_EN 1
    (dm 2 { cn l with banks := [(31, ⟨some 9, 0, 1⟩)], debt := [x, x] }))

theorem wit_dramUpkeep :
    (((up_ 0 []).chan 3).bank 31).row.isSome = true ∧ 1 + (sf Reg.DMC_CTRL F.DMC_CTRL_OPEN_NS 4999 (up_ 0 [])).fld Reg.DMC_CTRL F.DMC_CTRL_OPEN_NS ≤ (up_ 0 []).free ∧
    ¬ (1 + (sf Reg.DMC_CTRL F.DMC_CTRL_OPEN_NS 5000 (up_ 0 [])).fld Reg.DMC_CTRL F.DMC_CTRL_OPEN_NS ≤ (up_ 0 []).free) ∧ (dm 4 (cn [])).chanLive 3 = false ∧
    (up_ 0 []).chanLive 3 = true ∧ ((up_ 0 []).chan 3).debt ≠ [] ∧ ((up_ 0 [rq 1 false]).chan 3).burst = false ∧ ((up_ 6 [rq 2 true]).chan 3).burst = true ∧
    (up_ 0 []).bit Reg.DMC_REFRESH F.DMC_REFRESH_POSTPONE_EN = true ∧ (up_ 0 []).bit Reg.DMC_REFRESH F.DMC_REFRESH_PULLIN_EN = true ∧
    (((up_ 6 [rq 2 true]).chan 3).owed + 1).toNat = 7 ∧ (((up_ 7 [rq 2 true]).chan 3).owed + 1).toNat = 8 ∧ ((up_ 0 [rq 1 false]).chan 3).reqs.isEmpty = false ∧
    ((up_ 0 []).chan 3).wbuf.isEmpty = true ∧ ((up_ 0 []).chan 3).port.isEmpty = true ∧ ((up_ 0 []).chan 3).mr4At = none ∧ ((up_ 0 []).chan 3).oscAt = none ∧
    max 1 ((up_ 0 []).fld Reg.DMC_REFRESH F.DMC_REFRESH_MR4_MS) ≠ 0 ∧ [0, 300].length = ((up_ 0 []).chan 3).debt.length ∧
    (sf Reg.DMC_RETRAIN F.DMC_RETRAIN_PERIOD_MS 1 (up_ 0 [])).fld Reg.DMC_RETRAIN F.DMC_RETRAIN_PERIOD_MS ≠ 0 ∧ (up_ 0 []).fld Reg.DMC_RETRAIN F.DMC_RETRAIN_THRESH_PS < 256 := by
  decide +kernel

theorem wit_setPoints :
    ([Reg.DMC_SP_CTRL, Reg.DMC_TRAIN, Reg.DMC_RESERVE, Reg.DMC_SP 0, Reg.DMC_SP 3].all on.accessOpen) = true ∧ (dm 2 (cn [])).chanState 3 = 2 ∧ (dm 2 (cn [])).chanSp 3 ≠ 1 ∧
    (sf Reg.DMC_SP_CTRL F.DMC_SP_CTRL_REQ 3 on).spTarget = 3 ∧ ((dm 2 (cn [])).chan 3).train = none ∧ (cn []).phase = .none ∧ (cn []).burst = false ∧
    (cn [rq 2 true]).burst = true ∧ (dm 1 { cn [] with train := some (3, 4) }).chanState 3 = 1 ∧ (dm 3 { cn [] with train := some (3, 4) }).chanState 3 = 3 ∧
    ((dm 3 { cn [] with phase := .switch, target := 0 }).chan 3).target = (dm 3 { cn [] with phase := .switch }).spTarget ∧
    (dm 2 { cn [] with train := some (1, 4), trainCmd := some (1, 4) }).chanSp 3 = 0 ∧ ((dm 2 { cn [] with train := some (1, 4), trainCmd := some (1, 4) }).chan 3).trainCmd.isSome = true ∧
    F.DMC_TRAIN_GO.of 256 = 1 ∧ (F.DMC_TRAIN_CHANNELS.of 264).testBit 3 = true ∧ (F.DMC_TRAIN_CHANNELS.of 256).testBit 3 = false ∧ F.DMC_TRAIN_GO.of 0 = 0 ∧
    on.bit Reg.DMC_TRAIN F.DMC_TRAIN_GO = false ∧ (sf Reg.DMC_TRAIN F.DMC_TRAIN_GO 1 on).bit Reg.DMC_TRAIN F.DMC_TRAIN_GO = true := by decide +kernel

theorem wit_setPointWrites :
    (dm 2 (cn [])).spInUse 0 = true ∧ (dm 2 (cn [])).spInUse 3 = false ∧
    F.DMC_RESERVE_RESERVE0.of (2048 + 2 ^ 16) + F.DMC_RESERVE_RESERVE1.of (2048 + 2 ^ 16) = 2049 ∧ F.DMC_RESERVE_RESERVE0.of 2048 = 2048 ∧
    (dm 2 (cn [])).trained 3 1 = false ∧ (sf (Reg.DMC_SP 1) F.DMC_SP_TRAINED 8 on).trained 3 1 = true := by decide +kernel

/-! ### Witnesses: host link, faults, performance counters -/

/-- The link's reset released. -/
def Sys2Proof.Tests.ln1 : Dev := { on with pins := { on.pins with perst := true } }

theorem wit_hostLink :
    Map.rising (onPk (pk .merge)).pkts = true ∧ ln1.pins.perst = true ∧ ln1.rimsBegun = true ∧ on.pins.perst = false ∧ Dev.reset.rimsBegun = false ∧
    regFam 0xFFC = none ∧ ((regFam 0).all fun m => m.fields.all fun y => y.acc != .rc) = true ∧ ¬ (8 = 8 ∧ 0xFFC % 8 = 0) ∧ (4 = 4 ∧ 0xFFC % 4 = 0 ∧ 0xFFC < 0x1000) ∧ (15 ≠ 0 ∧ 0x7F0 ≤ 0xFFC ∧ 0xFFC < 0x1000) ∧ ¬ (15 ≠ 0 ∧ 0x7F0 ≤ 0x7EC ∧ 0x7EC < 0x1000) ∧ on.running = true ∧
    (evtReg 0 = some Reg.STR_EVENT) ∧ on.pendingEvt 0 = false ∧ (on.plainWrite (Reg.STR_EVENT + 8) 3).pendingEvt 0 = false ∧
    (((on.setReg Reg.STR_EVENT 3).plainWrite (Reg.STR_EVENT + 8) 3).pendingEvt 0 || (on.setReg Reg.STR_EVENT 3).pendingEvt 0) = true ∧ on.accessOpen Reg.STR_EVENT = true := by
  decide +kernel

/-- A report waits; line `n` restarts when `k` is 1, its bit is set with class `c` when `p` is 1; the stage is `g`. -/
def Sys2Proof.Tests.fr (n cls : Nat) (logic : Bool) : FaultRep := ⟨n, cls, logic, false, 5000⟩
def Sys2Proof.Tests.fd (g : Nat) (f : FaultRep) (k c : Nat) : Dev :=
  let d := sf Reg.SYS_STAGE F.SYS_STAGE_STAGE g on
  let d := if c = 0 then d else sf (Reg.FLT_LINE f.line) F.FLT_LINE_CLASS c (d.setReg (Reg.FLT_STATUS (f.line / 64)) (BitVec.ofNat 64 (2 ^ (f.line % 64))))
  { d with flt := { d.flt with queue := [f], blocks := if k = 1 then [(f.line, 4000)] else [] } }

theorem wit_faults :
    ([(15, 0, 1, false), (15, 135, 3, false), (15, 97, 2, true), (15, 109, 2, false), (15, 81, 2, false), (15, 100, 2, false), (5, 98, 2, true)].all fun x =>
      let f := fr x.2.1 x.2.2.1 x.2.2.2
      let d := fd x.1 f 0 0
      d.stage == x.1 && firstFault d.flt.queue == some f && d.flt.blocks.isEmpty && d.flt.warm.isNone && d.flt.eland.isNone && d.up == (x.1 == 15) &&
        !(fd x.1 f 1 0).lineUp f.line && !d.linePending f.line) = true ∧
    (fd 15 (fr 0 1 false) 0 1).linePending 0 = true ∧ (fd 15 (fr 0 1 false) 0 1).fld (Reg.FLT_LINE 0) F.FLT_LINE_CLASS = 1 ∧
    (fd 15 (fr 135 2 false) 0 2).linePending 135 = true ∧ (fd 0 (fr 0 1 false) 0 0).stage = 0 ∧ (fd 14 (fr 0 1 false) 0 0).stage = 14 ∧ on.flt.queue = [] := by
  decide +kernel

/-- The last scrub pass ended at `t`, PERIOD 0. -/
def Sys2Proof.Tests.scrubbed (t : Nat) : Dev := sf Reg.FLT_SCRUB F.FLT_SCRUB_PERIOD 0 { on with flt := { on.flt with scrubAt := some t } }

theorem wit_faultCommands :
    F.FLT_INJECT_GO.of (0x10000 + 135 + 256) = 1 ∧ F.FLT_INJECT_LINE.of (0x10000 + 135 + 256) = 135 ∧ F.FLT_INJECT_CLASS.of (0x10000 + 135 + 256) = 1 ∧
    F.FLT_INJECT_LINE.of 136 = 136 ∧ F.FLT_TREPAIR_GO.of (2 ^ 24) = 1 ∧ on.tileOwner 0 = none ∧
    (sec T.TILE_MAP 5 tmExact on).tileOwner 0 = some (5, body tmExact) ∧ (sec T.TILE_MAP 5 tmExact on).poisonAt 5 (body tmExact) 0 0 = none ∧
    ((sec T.TILE_MAP 5 tmExact on).setTbl 5 ⟨[], [], [(0, 0)]⟩).poisonAt 5 (body tmExact) 0 0 = some 0 ∧ tmKind (body tmExact) ≠ 1 ∧
    (sec T.TILE_MAP 5 tmExact on).tblDef 5 = .tile (body tmExact) ∧ (sec T.TILE_MAP 5 tmExact on).tilesUp (body tmExact) = true ∧
    0 < tmPlaces (body tmExact) ∧ 0 < tmW (body tmExact) ∧ on.flt.eland = none ∧ on.flt.held = [] ∧ on.passDue = false ∧
    (scrubbed 4999).passDue = true ∧ (sf Reg.FLT_SCRUB F.FLT_SCRUB_PERIOD 1 (scrubbed 4999)).passDue = false := by decide +kernel

/-- The restart clauses: a block restart of line 97, a warm restart in stage 5, a restart of Eland, none with a held access. -/
theorem wit_restarts :
    (∀ r ∈ [Restarts.mk [] [(97, 4000)] none none 0 none [], Restarts.mk [] [] (some 4000) none 0 none [], Restarts.mk [] [] none (some 4000) 0 none []],
      r.held = [] ∧ ({ sf Reg.SYS_STAGE F.SYS_STAGE_STAGE (if r.warm.isSome then 5 else 15) on with flt := r } : Dev).up = true) ∧
    Map.find [(97, 4000)] 97 = some 4000 ∧ Map.find [(97, 4000)] 96 = (none : Option Nat) ∧ on.hif.pend = [] := by decide +kernel

/-- A region with a packet in flight is stalled or not by its pace; an idle one is not. -/
theorem wit_stalls_work :
    (sf (Reg.PWR_REGION 279) F.PWR_REGION_PACE 4095 (onPk (pk .merge))).fld (Reg.PWR_REGION 279) F.PWR_REGION_PACE = 4095 ∧ (onPk (pk .merge)).regionBusy 279 = true ∧
    (onPk (pk .merge)).regionFree 279 = true ∧ on.regionBusy 279 = false := by decide +kernel

/-- A pace of 4,095 is never low. -/
theorem wit_stalls (g : Nat) : ¬ (4095 < lrPaceOf g / 4) ∧ (4 ≤ lrPaceOf g → 0 < lrPaceOf g / 4) := by unfold lrPaceOf; omega

/-- Counter 255 counts event `e` with the value `x`; its group's controls are `g`. -/
def Sys2Proof.Tests.pc (e x : Nat) (g : Word) : Dev :=
  sf (Reg.PMC_SEL 255) F.PMC_SEL_EVENT e (sf (Reg.PMC_CNT 255) F.PMC_CNT_COUNT x (on.setReg (Reg.PMC_GCTRL 31) g))

theorem wit_pmc :
    ([(1 : Word), 3, 5, 7].all fun g => (pc 0x80 (2 ^ 48 - 1) g).pmcRuns 255 && (pc 0x80 (2 ^ 48 - 1) g).pmcMay 255) = true ∧
    (pc 0x80 (2 ^ 48 - 1) 1).up = true ∧ (pc 0x80 (2 ^ 48 - 1) 1).pmcEvent 255 = 0x80 ∧ ((pc 0x80 (2 ^ 48 - 1) 1).fld (Reg.PMC_CNT 255) F.PMC_CNT_COUNT == pmcMax) = true ∧
    ((pc 0x80 (2 ^ 48 - 2) 1).fld (Reg.PMC_CNT 255) F.PMC_CNT_COUNT == pmcMax) = false ∧ (pc 3 0 1).pmcMay 255 = true ∧ (pc 4 0 1).pmcMay 255 = false ∧
    (pc 3 0 0).pmcRuns 255 = false ∧ (pc 3 0 7).bit (Reg.PMC_GCTRL 31) F.PMC_GCTRL_FREEZE_ON_OVF = true ∧ (pc 3 0 7).bit (Reg.PMC_GCTRL 31) F.PMC_GCTRL_SNAP_ON_OVF = true ∧
    ([Reg.PMC_GCTRL 31, Reg.PMC_CNT 255, Reg.PMC_GSTAT 31].all on.accessOpen) = true := by decide +kernel

/-! ### Witnesses: the whole machine -/

theorem wit_whole :
    State.reset.pending = [] ∧ (st on).pending = [] ∧ Map.rising State.reset.host = true := by decide +kernel

/-! ### Well-formed commands: the last operand of each range is taken, the first beyond it refused -/

theorem test_wf_packets :
    ([Instr.frameRx 129 [] true 0 0, .crossing 25, .parse 65535, .recordLink 131, .rxAssign 32767, .hostDelivery 65535].all Instr.wf) = true ∧
    ([Instr.frameRx 130 [] true 0 0, .crossing 26, .parse 65536, .recordLink 132, .rxAssign 32768].any Instr.wf) = false := by
  decide +kernel

theorem test_wf_engines :
    ([Instr.engSum 255 7 .none, .fragLookup 255 7 7 .corr, .engMsgWrite 255, .fragExpired 4095, .engTrapLastRead 255].all Instr.wf) = true ∧
    ([Instr.engSum 256 0 .none, .engSum 0 8 .none, .fragLookup 0 0 8 .none, .engMsgWrite 256, .fragExpired 4096, .engTrapLastRead 256].any Instr.wf) = false := by decide +kernel

theorem test_wf_rings :
    ([Instr.tabInsert 32767 131071, .doorbell 511, .ringEnable 65535, .xltWalk 65535 5 131071 281474976710655 false [], .faultRecordWrite 15, .ringCiWrite 32767 0].all Instr.wf) = true ∧
    ([Instr.tabInsert 32768 0, .tabInsert 0 131072, .doorbell 512, .ringEnable 65536, .xltWalk 0 6 0 0 false [], .xltWalk 0 0 0 281474976710656 false [], .faultRecordWrite 16].any
      Instr.wf) = false := by decide +kernel

theorem test_wf_ports :
    ([Instr.portAdminUp 129, .rclkSelect 3 0, .cfgChange 127 0, .triggerArm 15 0, .triggerFire 16, .captureEdge 15 true 0, .gateOversize 131071, .msessAWrite 127 0,
      .shaperWrite 3 131071 0, .policerWrite 65535 0, .costCalDisable 31].all Instr.wf) = true ∧
    ([Instr.portAdminUp 130, .rclkSelect 4 0, .cfgChange 128 0, .triggerArm 16 0, .triggerFire 17, .captureEdge 16 true 0, .gateOversize 131072, .msessAWrite 128 0,
      .shaperWrite 4 0 0, .policerWrite 65536 0, .costCalDisable 32].any Instr.wf) = false := by decide +kernel

theorem test_wf_system :
    ([Instr.paceMeasure 287 4095, .sensorRead (List.replicate 64 0), .alarmEdge 15 true, .railStep 5 true, .dramRequest 3 68719476735 none, .rowClose 3 31, .spRateWrite 3 0,
      .pcieLinkChange 5 8, .vfFlr 15, .badAccess 15 268435455 8 true, .eventWrite 639 false 0, .faultAck 2 0, .pmcSnap 31, .pmcOverflow 255, .releaseDone none (List.replicate 6 0),
      .sysLoadData 0 15 8, .registerWrite 4294967295 0 true, .blockRestartDone 100].all Instr.wf) = true ∧
    ([Instr.paceMeasure 288 0, .paceMeasure 0 4096, .sensorRead [], .alarmEdge 16 true, .railStep 6 true, .dramRequest 4 0 none, .dramRequest 0 68719476736 none, .rowClose 4 0,
      .rowClose 0 32, .spRateWrite 4 0, .pcieLinkChange 6 8, .pcieLinkChange 1 3, .vfFlr 16, .badAccess 0 268435456 8 true, .badAccess 0 0 3 true].any Instr.wf) = false ∧
    ([Instr.eventWrite 17 false 0, .eventWrite 194 false 0, .eventWrite 640 false 0, .faultAck 3 0, .pmcSnap 32, .pmcOverflow 256, .releaseDone none [], .sysLoadData 0 16 8, .sysLoadData 0 0 2,
      .registerWrite 4294967296 0 false, .blockRestartDone 101].any Instr.wf) = false := by decide +kernel

/-- The table gives no bits, so no word spells a command. -/
theorem test_noWords : decodeTableWord 32 0 = none ∧ decodeTableWord 0 0 = none := ⟨rfl, rfl⟩

/-! ### The manual's worked examples -/

/-- Example under R21: 512 ns ahead; 4,352 ns behind. -/
theorem test_times : ahead32 0xFFFFFF00 0x00000100 = 512 ∧ atOrAfter32 0xFFFFFF00 0x00000100 = true ∧
    atOrAfter32 0x00000100 0xFFFFF000 = false ∧ ahead32 0xFFFFF000 0x00000100 = 4352 := by decide +kernel

/-- The energy example of chapter 1: charges of a 512-byte frame at PARSE, BUFFER, EGR_REWRITE and TX. -/
theorem test_charges :
    let d := fun (a b : Nat) => sf (Reg.ACT_COST 0) F.ACT_COST_A a (sf (Reg.ACT_COST 0) F.ACT_COST_B b on)
    (d 180 256).cost 0 512 = 692 ∧ (d 90 4096).cost 0 512 = 8282 ∧ (d 240 128).cost 0 512 = 496 ∧ (d 40 3072).cost 0 512 = 6184 := by decide +kernel

/-- The overlay example of chapter 2: PARSE_GRAPH of 23,104 bytes at 0x80 and ENERGY_COSTS of 256 bytes at 0x5AC0 end at 0x5BC0, the signature
block following at once. -/
theorem test_overlay :
    let h : List Byte := leBytes 8 0x00010001_4C524953 ++ leBytes 8 (0x5CC0 + 2 * 2 ^ 32) ++ List.replicate 48 0 ++
      leBytes 8 (1 + 0x80 * 2 ^ 32) ++ leBytes 8 0x5A40 ++ leBytes 8 (0x48 + 0x5AC0 * 2 ^ 32) ++ leBytes 8 0x100
    stTotal h = 23744 ∧ stTableEnd h = 0x60 ∧ (stEntry h 1).ofs + (stEntry h 1).len = stTotal h - 256 ∧ prevEnd h (stEntries h) (stEntry h 1) = 0x5AC0 ∧
    secPoint h (stEntry h 0) = 0x5AC0 := by decide +kernel

/-- The example under R119: port 50 resolves to rank 3, MODE 9, RS-FEC. -/
theorem test_resolve :
    resolve (F.PRT_MODE_FEC_RS.put (F.PRT_MODE_WIDTH.put 0 3) 1) 0x25 0x34 = some (3, 9, 2) := by decide +kernel

/-- The example under R289: both CRCs of "123456789". -/
theorem test_crc :
    let bs : List Byte := [0x31, 0x32, 0x33, 0x34, 0x35, 0x36, 0x37, 0x38, 0x39]
    crcRun 0x82F63B78 0xFFFFFFFF bs ^^^ 0xFFFFFFFF = 0xE3069283 ∧ crcRun 0xEDB88320 0xFFFFFFFF bs ^^^ 0xFFFFFFFF = 0xCBF43926 := by decide +kernel

/-- The engine example of chapter 8: instructions 0, 3, 6, 7 and 13 of its table. -/
theorem test_engineWords :
    (iOp 0x34403840 = 0x34 ∧ iD 0x34403840 = 8 ∧ iZ 0x34403840 = true ∧ iS 0x34403840 = 8 ∧ iOff 0x34403840 = 0x40) ∧
    (iOp 0x264A4600 = 0x26 ∧ iD 0x264A4600 = 9 ∧ iA 0x264A4600 = 9 ∧ insnReserved 0x264A4600 = some 0x3000) ∧
    (iD 0x3D50000A = 10 ∧ insnTarget 0x3D50000A 6 = some 17) ∧ (iOp 0x42594000 = 0x42 ∧ iD 0x42594000 = 11 ∧ iA 0x42594000 = 5 ∧ iX 0x42594000 % 4 = 0) ∧
    (iOp 0x24738018 = 0x24 ∧ iD 0x24738018 = 14 ∧ iA 0x24738018 = 14 ∧ bitsOf 0x24738018 0 6 = 24) := by decide +kernel

/-- The spreading example of chapter 7: of members 96 to 101 only 99 is not eligible; HASH 0x9ABC_DEF0 names it, and the fallback picks 101. -/
theorem test_spread :
    let up := fun (d : Dev) (m : Nat) => sf (Reg.ACT_MEMBER m) F.ACT_MEMBER_UP (if m = 99 then 0 else 1) d
    let d := (List.range 6).foldl (fun d i => up d (96 + i)) (sf (Reg.ACT_GROUP 12) F.ACT_GROUP_SIZE 6 (sf (Reg.ACT_GROUP 12) F.ACT_GROUP_BASE 96 on))
    d.pickMember 12 ((pk .police).put C.HASH 0x9ABCDEF0) = some (101, true) := by decide +kernel

/-- The encodings under R348 and what 1 µs adds. -/
theorem test_rates : rateOf 0x4FA1 = 999936 ∧ rateOf 0x1CE2 = 10000 ∧ rateOf 0x7CC4 = 39976960 ∧ rateOf 0x0002 = 2 := by decide +kernel

/-- The scheduling example of chapter 10: SCH_LEVEL_DATA shows −14,600 pJ of the class 5 shaper of subscriber 1,200, not conforming. -/
theorem test_levels :
    let d := (on.setReg (Reg.SCH_QCFG 9605) 0x0043C070003C0002).setLevel 0 9605 (-14600)
    (d.setReg Reg.SCH_LEVEL_SEL 0x2585).viewLevel = 0x0005FFFFFFFFC6F8 := by decide +kernel

/-- The gate example of chapter 11: the change time is 0x1202_FBF0; entry 1 has 240,000 ns and gates 0x7F. -/
theorem test_changeTime :
    changeTime 0x12000000 0x10000000 250000 = 0x1202FBF0 ∧ geInterval 0x0003A9800000007F = 240000 ∧ geGates 0x0003A9800000007F = 0x7F := by decide +kernel

/-- The feed example of chapter 12: V_CODE 39,500 and I_CODE 820 mean 323,900 mW; that is above the limit of 320,000, and the trigger becomes
active. -/
theorem test_feed :
    let d := fun (lim : Nat) => ((sf Reg.PWR_CTRL F.PWR_CTRL_EN 0 (sf Reg.PWR_FEED_CFG F.PWR_FEED_CFG_EN 1 on)).setReg
      Reg.PWR_FEED_SCALE (BitVec.ofNat 64 (10000 + 1000 * 2 ^ 32))).setReg
      Reg.PWR_FEED_LIMIT (BitVec.ofNat 64 (lim + 360000 * 2 ^ 24 + 8000 * 2 ^ 44))
    (nx (.feedFrame 39500 820) (d 320000)).dev.reg Reg.PWR_FEED = 39500 + 820 * 2 ^ 16 + 323900 * 2 ^ 32 + 2 ^ 57 := by decide +kernel

/-- The example under R602. -/
theorem test_neighbours : neighbours 169 = [168, 170] := by decide +kernel

/-- The fault example of chapter 15: tile 37 drives line 25. -/
theorem test_tileLine : tileLine 37 = 25 := by decide +kernel

/-- The fault example of chapter 15: a second correction on line 25 while C is pending is escalated; the line reads one C and one U, CLASS U. -/
theorem test_escalation :
    let d := { on with flt := { on.flt with queue := [⟨25, 1, false, false, 4000⟩, ⟨25, 1, false, false, 5000⟩] } }
    let t := nx .fault (nx .fault d).dev
    t.dev.reg (Reg.FLT_LINE 25) = 0x01000102 ∧ t.dev.reg (Reg.FLT_STATUS 0) = 0x02000000 ∧
    (nx .fault { t.dev with flt := { t.dev.flt with queue := [⟨26, 2, true, false, 6000⟩], blocks := (26, 5000) :: t.dev.flt.blocks } }).dev.reg (Reg.FLT_LINE 26) =
      0x0001000000000000 := by decide +kernel

/-- The serial number of R568's example. -/
theorem test_serial : serialCheck [0xC5, 0xD4, 0x30, 0x6F, 0x01, 0x8E, 0x2B, 0x0A, 0x13, 0x0C, 0x49, 0x57] = 0x45 := by decide +kernel

/-- The example under R573: SYS_STAGE in RUN entered at 0x0008_2D52 µs, as the sideband reads it. -/
theorem test_sbRead :
    (nx (.sbRead 0x18 8) (on.setReg Reg.SYS_STAGE 0x00082D520000000F)).dev.sbOut = [0x0F, 0, 0, 0, 0x52, 0x2D, 0x08, 0x00] := by decide +kernel

/-- The boot example of chapter 16: copy B failing with FLASH after copy A with SIGNATURE halts with SYS_REASON 0x0000_0004_000E_0804. -/
theorem test_reason : (nx (.strFlashRead none) (sg 4 .bootFlash [] [8])).dev.reg Reg.SYS_REASON = 0x00000004000E0804 := by decide +kernel

/-- The carve of chapter 5: table 1's first words. -/
theorem test_carve :
    let b := body [0x00005A17000063C4, 0x50, 0xFFFFFFFFFFFFFFFF, 0xFFFF, 0, 0, 0, 0]
    tmKind b = 0 ∧ tmW b = 2 ∧ tmKeyBits b = 60 ∧ tmPortField b = true ∧ tmNotifyAged b = true ∧ tmPlaces b = 1310720 ∧ tileMapErrs 1 b = [] := by decide +kernel

/-- The ACL chain of chapter 6: 8,192 entries of 40 bytes, five key words. -/
theorem test_chain :
    let b := body [0x1282, 0xFF00, 0, 0]
    ccKeyBits b = 296 ∧ ccK b = 4 ∧ ccKW b = 5 ∧ ccCapacity b = 8192 ∧ chainErrs 40 b = [] := by decide +kernel

/-- The multicast example of chapter 9: 996 bytes take 5 cells. -/
theorem test_cells : dataCells 996 = 5 ∧ dataCells 144 = 1 ∧ dataCells 145 = 2 := by decide +kernel

/-- The MPLS state of the parse example of chapter 4 passes its checks in a graph of 8 states and 23 transitions. -/
theorem test_parseState :
    stateErrs 8 23 [0x10, 0, 0x03014302, 0x0000005000201002] 0 = [] ∧ transErrs 8 [0x0001000000000000, 0xC] 0 = [] := by decide +kernel

end Tests
end

section
/-! PROOFS. The statements of the scope chapter: register writes and reads (R11, R13, R16), times modulo 2^32 (R20), and the host's link with its
resets, accesses and event registers (R472, R478, R520, R521, R562). -/

namespace Sys2Proof.Machine

/-! ### Register writes (R11, R13, R16) -/

/-- A field as wide as the register holds the whole word. -/
theorem Fld.put_of_whole (x v : Word) : Fld.put ⟨0, 64⟩ x (Fld.of ⟨0, 64⟩ v) = v := by
  apply BitVec.eq_of_getLsbD_eq
  intro i hi
  rw [Fld.getLsbD_put _ _ _ _ hi, if_pos (by simpa using hi), Fld.testBit_of]
  simp [hi, BitVec.getLsbD]

/-- Elements of an array of registers: one at `a` has its offset from the array's base. -/
theorem regIdx_eq_some {base stride count a n : Nat} (h : regIdx base stride count a = some n) : n < count ∧ a = base + stride * n := by
  unfold regIdx at h
  split at h
  next hc =>
    obtain ⟨hb, hm, hn⟩ := hc
    obtain rfl := Option.some.inj h
    have := Nat.div_add_mod (a - base) stride
    exact ⟨hn, by omega⟩
  next => simp at h

theorem onArray_eq_else {a base stride count : Nat} {f : Nat → Dev} {e : Dev} (h : ∀ n, n < count → a ≠ base + stride * n) :
    onArray a base stride count f e = e := by
  unfold onArray
  cases hn : regIdx base stride count a with
  | none => rfl
  | some n =>
    obtain ⟨hc, ha⟩ := regIdx_eq_some hn
    exact absurd ha (h n hc)

/-- SYS and FLT answer at once throughout every restart (R536). -/
theorem Dev.accessOpen_flt (d : Dev) {a : Nat} (h1 : 0x10000 ≤ a) (h2 : a < 0x20000) : d.accessOpen a = true := by
  have h : alwaysOpen a = true := by simp [alwaysOpen, h1, h2]
  simp [Dev.accessOpen, h]

/-- A 64-bit write of the PF outside SYS, where nothing holds the access. -/
theorem Dev.busWrite_open (d : Dev) {a : Nat} (v : Word) (hu : d.up = true) (ho : d.accessOpen a = true) (h8 : a % 8 = 0) (h1 : 0x1000 ≤ a)
    (h2 : a < 0x10000000) : d.busWrite a v = d.openWrite a v := by
  have h3 : ¬ (0x10000000 ≤ a) := by omega
  have h4 : ¬ (a < 0x1000) := by omega
  simp [Dev.busWrite, h8, h3, h4, Dev.access_open _ _ _ _ hu ho]

/-- FLT registers without a start field store what a plain write stores. -/
theorem Dev.fltWrite_plain (d : Dev) {a : Nat} (v : Word) (hi : a ≠ Reg.FLT_INJECT) (ht : a ≠ Reg.FLT_TREPAIR) (hs : a ≠ Reg.FLT_SCRUB)
    (hk : ∀ k, k < 3 → a ≠ Reg.FLT_STATUS k) : d.fltWrite a v = d.plainWrite a v := by
  simp only [Dev.fltWrite, hi, ht, hs, if_false]
  exact onArray_eq_else hk

/-- A write in the FLT window at an address that is no event register. -/
theorem Dev.openWrite_flt (d : Dev) {a : Nat} (v : Word) (h1 : 0x10000 ≤ a) (h2 : a < 0x20000) (he : evtAt a = none) :
    d.openWrite a v = d.fltWrite a v := by
  have h3 : ¬ (a < 0x10000) := by omega
  simp [Dev.openWrite, he, h3, h2]

/-- SYS_SB_SCRATCH is one RW field of 64 bits: a plain write of it stores the word. -/
theorem Dev.plainWrite_scratch (d : Dev) (v : Word) : d.plainWrite Reg.SYS_SB_SCRATCH v = d.setReg Reg.SYS_SB_SCRATCH v := by
  have hf : regFam Reg.SYS_SB_SCRATCH = some ⟨0x50, 0x8, 1, 0x0, 1, [⟨0, 64, .rw, 0⟩]⟩ := by decide
  simp only [Dev.plainWrite, hf, applyWrite, List.foldl, FieldSpec.apply, Fld.put_of_whole]

/-- A 32-bit write of SYS_SB_SCRATCH keeps its other half (R11). -/
theorem narrowMerge_scratch (old : Word) (h v : Nat) : narrowMerge Reg.SYS_SB_SCRATCH old h v = putHalf old h v := by
  have hf : regFam Reg.SYS_SB_SCRATCH = some ⟨0x50, 0x8, 1, 0x0, 1, [⟨0, 64, .rw, 0⟩]⟩ := by decide
  simp [narrowMerge, hf, List.foldl, Fld.put_of_whole]

/-- A write of SYS_SB_SCRATCH from the PF is a plain write. -/
theorem Dev.sysWrite_scratch (d : Dev) (v : Word) (h0 : d.stage ≠ 0) : d.sysWrite Reg.SYS_SB_SCRATCH v = d.setReg Reg.SYS_SB_SCRATCH v := by
  have hc : Reg.SYS_SB_SCRATCH ≠ Reg.SYS_CTRL := by decide
  have hl : Reg.SYS_SB_SCRATCH ≠ Reg.SYS_LOAD_DATA := by decide
  have hm : ∀ n, n < 128 → Reg.SYS_SB_SCRATCH ≠ Reg.SYS_MSIX_CTRL 0 + 0x10 * n := by
    intro n _
    simp only [Reg.SYS_SB_SCRATCH, Reg.SYS_MSIX_CTRL]
    omega
  simp only [Dev.sysWrite, h0, hc, hl, if_false, onArray_eq_else hm, Dev.plainWrite_scratch]

theorem narrowOk_iff (f a size : Nat) :
    narrowOk f a size = true ↔ size = 4 ∧ a % 4 = 0 ∧ (f = 0 ∧ a < 0x1000 ∨ f ≠ 0 ∧ 0x7F0 ≤ a ∧ a < 0x1000) := by
  unfold narrowOk
  by_cases hf : f = 0 <;> simp [hf, and_assoc]

/-- A 32-bit write of half `h` of SYS_SB_SCRATCH. -/
theorem Dev.narrowWrite_scratch (d : Dev) {h : Nat} (v : Nat) (hh : h < 2) (h0 : d.stage ≠ 0) :
    d.narrowWrite 0 (Reg.SYS_SB_SCRATCH + 4 * h) v =
      d.setReg Reg.SYS_SB_SCRATCH (Fld.put ⟨32 * h, 32⟩ (d.reg Reg.SYS_SB_SCRATCH) v) := by
  have ha : (Reg.SYS_SB_SCRATCH + 4 * h) / 8 * 8 = Reg.SYS_SB_SCRATCH := by
    simp only [Reg.SYS_SB_SCRATCH]
    omega
  have hb : (Reg.SYS_SB_SCRATCH + 4 * h) / 4 % 2 = h := by
    simp only [Reg.SYS_SB_SCRATCH]
    omega
  have hl : Reg.SYS_SB_SCRATCH ≠ Reg.SYS_LOAD_DATA := by decide
  simp only [Dev.narrowWrite, ha, hb, h0, hl, if_false, if_true, narrowMerge_scratch, Dev.sysWrite_scratch _ _ h0, putHalf]

/-- A write of the PF. -/
theorem exec_registerWrite_pf {a : Nat} (v : Word) (narrow : Bool) (s : State) (h : a < 0x10000000) :
    exec (.registerWrite a v narrow) s = .next (s.withDev (s.dev.funcWrite 0 a v narrow)) := by
  have hf : a / 0x10000000 = 0 := Nat.div_eq_of_lt h
  have ho : a % 0x10000000 = a := Nat.mod_eq_of_lt h
  show execRegisterWrite a v narrow s = _
  simp [execRegisterWrite, State.withDev, hf, ho]

/-- Settles O7: in the FLT window a write is plain, and each half of SYS_SB_SCRATCH merges with the other. -/
theorem registerWritePlain : Obligations.RegisterWritePlain := by
  unfold Obligations.RegisterWritePlain
  intro a v s
  constructor
  · intro hr h1 h2 h8 he hi ht hs hk
    have ho := s.dev.accessOpen_flt h1 h2
    have hu := s.dev.up_of_running hr
    have hd : s.dev.funcWrite 0 a v false = s.dev.plainWrite a v := by
      rw [← s.dev.fltWrite_plain v hi ht hs hk, ← s.dev.openWrite_flt v h1 h2 he]
      exact s.dev.busWrite_open v hu ho h8 (by omega) (by omega)
    rw [exec_registerWrite_pf v false s (by omega), hd]
    unfold Dev.plainWrite
    cases regFam a <;> rfl
  · intro h hh h0
    have hn : narrowOk 0 (Reg.SYS_SB_SCRATCH + 4 * h) 4 = true := by
      refine (narrowOk_iff _ _ _).mpr ⟨rfl, ?_, .inl ⟨rfl, ?_⟩⟩ <;> simp only [Reg.SYS_SB_SCRATCH] <;> omega
    have ha : Reg.SYS_SB_SCRATCH + 4 * h < 0x10000000 := by
      simp only [Reg.SYS_SB_SCRATCH]
      omega
    rw [exec_registerWrite_pf v true s ha]
    simp only [Dev.funcWrite, hn, if_true, s.dev.narrowWrite_scratch _ hh h0]

/-! ### Reads that clear (R16) -/

/-- A read of a record in RUN, where nothing holds the access, gives the record and clears it. -/
theorem Dev.access_readClear (d : Dev) {a : Nat} (hr : d.running = true) (ho : d.accessOpen a = true) :
    d.access a none (·.readClear a) = { d.setReg a 0 with bus := d.reg a } :=
  d.access_open a none _ (d.up_of_running hr) ho

/-- Settles O35: each of these commands reads its register and clears it. -/
theorem lastRecordReads : Obligations.LastRecordReads := by
  unfold Obligations.LastRecordReads
  intro k s hr reads
  have hread : ∀ (c : Instr) (a : Nat), exec c s = .next (s.withDev (s.dev.access a none (·.readClear a))) → reads c a := by
    intro c a hc ho
    rw [hc, s.dev.access_readClear hr ho]
  refine ⟨hread _ _ rfl, hread _ _ rfl, hread _ _ rfl, hread _ _ rfl, hread _ _ rfl, fun hk => hread _ _ ?_⟩
  show execTimCapLastRead k s = _
  simp only [execTimCapLastRead, hk, if_true, State.withDev]

/-! ### Times modulo 2^32 (R20) -/

/-- How far `b` lies ahead of `a` is their difference as 32-bit words. -/
theorem ahead32_toNat (a b : BitVec 32) : ahead32 a.toNat b.toNat = (b - a).toNat := by
  have ha := a.isLt
  have hb := b.isLt
  rw [BitVec.toNat_sub]
  unfold ahead32
  omega

theorem atOrAfter32_toNat (a b : BitVec 32) : atOrAfter32 a.toNat b.toNat = decide ((b - a).toNat < 2 ^ 31) := by
  rw [← ahead32_toNat]
  show decide (ahead32 a.toNat (b.toNat % 2 ^ 32) < 2 ^ 31) = _
  rw [Nat.mod_eq_of_lt b.isLt]

/-- Settles O57: what lies ahead from `a` to `b` and from `b` to `a` sums to 2^32 unless the two are equal. -/
theorem timesCompareModulo : Obligations.TimesCompareModulo := by
  unfold Obligations.TimesCompareModulo
  intro a b d
  constructor
  · intro h
    exact ⟨by rw [atOrAfter32_toNat]; exact decide_eq_true h, ahead32_toNat a b⟩
  · intro h
    have hneg : ahead32 b.toNat a.toNat = 2 ^ 32 - d := by
      have ha := a.isLt
      have hb := b.isLt
      have hd : d = (b - a).toNat := rfl
      rw [BitVec.toNat_sub] at hd
      unfold ahead32
      omega
    exact ⟨by rw [atOrAfter32_toNat]; exact decide_eq_false (by omega), hneg⟩

/-! ### Which registers and which state of the host interface an event touches (R475, R521) -/

theorem Fld.of_lt (f : Fld) (x : Word) : f.of x < 2 ^ f.w := Nat.mod_lt _ (Nat.two_pow_pos _)

/-- A message of one of the 128 vectors touches HIF_COUNT13 or one of the two words of pending bits. -/
theorem Dev.sendVec_reg_other (d : Dev) (f : Nat) {v a : Nat} (hv : v < 128) (hc : a ≠ Reg.HIF_COUNT 13) (h0 : a ≠ Reg.SYS_MSIX_PBA 0)
    (h1 : a ≠ Reg.SYS_MSIX_PBA 1) : (d.sendVec f v).reg a = d.reg a := by
  have hp : a ≠ Reg.SYS_MSIX_PBA (v / 64) := by
    simp only [Reg.SYS_MSIX_PBA] at h0 h1 ⊢
    omega
  unfold Dev.sendVec
  dsimp only
  split
  · split
    · exact Dev.reg_setReg_other _ _ _ _ hp
    · rfl
  · exact Dev.reg_count_other _ _ _ _ hc

theorem Dev.sendEvt_reg_other (d : Dev) (s : Nat) {a : Nat} (hc : a ≠ Reg.HIF_COUNT 13) (h0 : a ≠ Reg.SYS_MSIX_PBA 0)
    (h1 : a ≠ Reg.SYS_MSIX_PBA 1) : (d.sendEvt s).reg a = d.reg a := by
  unfold Dev.sendEvt
  dsimp only
  split
  · split
    · rfl
    · exact Dev.sendVec_reg_other _ _ (Fld.of_lt F.HIF_EVT_MAP_VECTOR _) hc h0 h1
  · rfl

/-- Raising an event ORs its bits into its EVENT register, and touches no other register but those of its message. -/
theorem Dev.raiseMask_reg_eq (d : Dev) (s bits : Nat) {a : Nat} (hc : a ≠ Reg.HIF_COUNT 13) (h0 : a ≠ Reg.SYS_MSIX_PBA 0)
    (h1 : a ≠ Reg.SYS_MSIX_PBA 1) :
    (d.raiseMask s bits).reg a = if evtReg s = some a then d.reg a ||| BitVec.ofNat 64 bits else d.reg a := by
  unfold Dev.raiseMask
  cases he : evtReg s with
  | none => rfl
  | some b =>
    have hset : (d.setReg b (d.reg b ||| BitVec.ofNat 64 bits)).reg a =
        if some b = some a then d.reg a ||| BitVec.ofNat 64 bits else d.reg a := by
      by_cases hb : b = a
      · simp [hb]
      · rw [if_neg (by simpa using hb), Dev.reg_setReg_other _ _ _ _ (Ne.symm hb)]
    dsimp only
    split
    · rw [Dev.sendEvt_reg_other _ _ hc h0 h1, hset]
    · exact hset

theorem Dev.raise_reg_other (d : Dev) (s b : Nat) {a : Nat} (he : evtReg s ≠ some a) (hc : a ≠ Reg.HIF_COUNT 13) (h0 : a ≠ Reg.SYS_MSIX_PBA 0)
    (h1 : a ≠ Reg.SYS_MSIX_PBA 1) : (d.raise s b).reg a = d.reg a := by
  rw [Dev.raise, Dev.raiseMask_reg_eq _ _ _ hc h0 h1, if_neg he]

/-- A raised event reads 1. -/
theorem Dev.raise_reg_bit (d : Dev) {s b a : Nat} (he : evtReg s = some a) (hb : b < 64) (hc : a ≠ Reg.HIF_COUNT 13)
    (h0 : a ≠ Reg.SYS_MSIX_PBA 0) (h1 : a ≠ Reg.SYS_MSIX_PBA 1) : ((d.raise s b).reg a).getLsbD b = true := by
  rw [Dev.raise, Dev.raiseMask_reg_eq _ _ _ hc h0 h1, if_pos he, BitVec.getLsbD_or, BitVec.getLsbD_ofNat, Nat.testBit_two_pow_self]
  simp [hb]

/-- Of the host interface a message touches the VFs' pending bits, the messages sent and those that wait; beside it registers only. -/
def Dev.MessageOnly (d e : Dev) : Prop :=
  e = { d with regs := e.regs, hif := { d.hif with vfPba := e.hif.vfPba, msgs := e.hif.msgs, pend := e.hif.pend } }

theorem Dev.sendVec_messageOnly (d : Dev) (f v : Nat) : d.MessageOnly (d.sendVec f v) := by
  unfold Dev.sendVec Dev.MessageOnly
  dsimp only
  split
  · split <;> rfl
  · rfl

theorem Dev.sendEvt_messageOnly (d : Dev) (s : Nat) : d.MessageOnly (d.sendEvt s) := by
  unfold Dev.sendEvt
  dsimp only
  split
  · split
    · rfl
    · exact d.sendVec_messageOnly _ _
  · rfl

theorem Dev.raise_messageOnly (d : Dev) (s b : Nat) : d.MessageOnly (d.raise s b) := by
  unfold Dev.raise Dev.raiseMask
  cases evtReg s with
  | none => rfl
  | some a =>
    dsimp only
    split
    · exact Dev.sendEvt_messageOnly (d.setReg a _) s
    · rfl

/-! ### Filtered maps and registers -/

theorem Map.find_filter_key {α : Type} (m : List (Nat × α)) (keep : Nat → Bool) (k : Nat) :
    Map.find (m.filter fun e => keep e.1) k = if keep k then Map.find m k else none := by
  induction m with
  | nil => simp [Map.find]
  | cons e r ih =>
    obtain ⟨j, v⟩ := e
    by_cases hj : keep j = true
    · rw [List.filter_cons_of_pos (by simpa using hj)]
      by_cases hk : j = k
      · subst hk
        simp [Map.find, hj]
      · simp only [Map.find, hk, if_false, ih]
    · rw [List.filter_cons_of_neg (by simpa using hj), ih]
      by_cases hk : j = k
      · subst hk
        simp [hj]
      · simp only [Map.find, hk, if_false]

/-- In a rising map an entry is what is found at its key. -/
theorem Map.find_eq_some_iff {α : Type} {m : List (Nat × α)} (h : Map.rising m = true) (k : Nat) (v : α) :
    Map.find m k = some v ↔ (k, v) ∈ m := by
  induction m with
  | nil => simp [Map.find]
  | cons e r ih =>
    obtain ⟨j, w⟩ := e
    obtain ⟨hlt, hr⟩ := (Map.rising_cons j w r).mp h
    by_cases hj : j = k
    · subst hj
      have hn : (j, v) ∉ r := fun hm => Nat.lt_irrefl j (hlt _ hm)
      simp [Map.find, hn, eq_comm]
    · simp [Map.find, hj, ih hr, Ne.symm hj]

/-- Dropping registers from the store returns them to their reset values. -/
theorem Dev.reg_filter (d e : Dev) (keep : Nat → Bool) (he : e.regs = d.regs.filter fun x => keep x.1) (a : Nat) :
    e.reg a = if keep a then d.reg a else regReset a := by
  unfold Dev.reg
  rw [he, Map.find_filter_key]
  split <;> rfl

/-- Every register of the ring contexts resets to 0 (R483). -/
theorem regReset_rng {a : Nat} (h1 : 0x4000000 ≤ a) (h2 : a < 0x8000000) : regReset a = 0 := by
  have hw : windowFams a = famsRNG := by
    unfold windowFams
    repeat rw [if_neg (by omega)]
    rw [if_pos h2]
  have hz : ∀ f ∈ famsRNG, f.fields.foldl (fun n s => n + s.reset <<< s.lo) 0 = 0 := by decide
  unfold regReset
  rw [if_neg (by simp only [Reg.HIF_FUNC]; omega), if_neg (by simp only [Reg.DMC_SP]; omega)]
  cases hf : regFam a with
  | none => rfl
  | some f =>
    have hm : f ∈ famsRNG := by
      rw [regFam, hw] at hf
      exact List.mem_of_find?_eq_some hf
    simp [hz f hm]

/-! ### Packets at the host that wait for a ring (R520) -/

/-- The packet waits on a ring for which `p` holds. -/
def Pkt.waitsOn (q : Pkt) (p : Nat → Bool) : Bool :=
  match q.stage with
  | .delivery r => p r
  | .assigned r _ => p r
  | .delivered r _ => p r
  | _ => false

theorem Pkt.waitsOn_iff (q : Pkt) (p : Nat → Bool) :
    q.waitsOn p = true ↔ ∃ r, p r = true ∧ (q.stage = .delivery r ∨ (∃ i, q.stage = .assigned r i) ∨ ∃ i, q.stage = .delivered r i) := by
  unfold Pkt.waitsOn
  cases q.stage <;> simp

/-- Frees the packet `e` at the host, when it waits on a ring for which `p` holds. -/
def Dev.dropHostPkt (p : Nat → Bool) (x : Dev) (e : Nat × Pkt) : Dev :=
  match e.2.stage with
  | .delivery r => if p r then x.hostDrop e.1 e.2 0x1A else x
  | .assigned r _ => if p r then x.hostDrop e.1 e.2 0x1A else x
  | .delivered r _ => if p r then x.freePkt e.1 e.2 else x
  | _ => x

theorem Dev.dropHostPkts_eq (d : Dev) (p : Nat → Bool) : d.dropHostPkts p = d.pkts.foldl (Dev.dropHostPkt p) d := rfl

/-- A packet that waits on such a ring is discarded or freed; for any other nothing happens. -/
theorem Dev.dropHostPkt_cases (p : Nat → Bool) (x : Dev) (e : Nat × Pkt) :
    (e.2.waitsOn p = true ∧ (x.dropHostPkt p e = x.hostDrop e.1 e.2 0x1A ∨ x.dropHostPkt p e = x.freePkt e.1 e.2)) ∨
    (e.2.waitsOn p = false ∧ x.dropHostPkt p e = x) := by
  unfold Dev.dropHostPkt Pkt.waitsOn
  cases e.2.stage with
  | delivery r => by_cases hp : p r = true <;> simp [hp]
  | assigned r i => by_cases hp : p r = true <;> simp [hp]
  | delivered r i => by_cases hp : p r = true <;> simp [hp]
  | _ => simp

/-- What freeing packets at the host leaves alone: all but registers, packets, buffer data, the trace of discards and messages; and of the registers
above SYS all but the event and the counts of discards and messages. -/
structure Dev.HostDropped (d e : Dev) : Prop where
  rest : e = { d with
    regs := e.regs, pkts := e.pkts, discards := e.discards, data := e.data, spillQ := e.spillQ
    hif := { d.hif with vfPba := e.hif.vfPba, msgs := e.hif.msgs, pend := e.hif.pend } }
  regs : ∀ a, 0x1000 ≤ a → a ≠ Reg.HIF_EVENT → a ≠ Reg.HIF_COUNT 6 → a ≠ Reg.HIF_COUNT 13 → e.reg a = d.reg a

theorem Dev.HostDropped.refl (d : Dev) : d.HostDropped d := ⟨rfl, fun _ _ _ _ _ => rfl⟩

theorem Dev.HostDropped.trans {d e f : Dev} (h : d.HostDropped e) (k : e.HostDropped f) : d.HostDropped f where
  rest := by
    rw [k.rest, h.rest]
  regs := fun a h1 h2 h3 h4 => (k.regs a h1 h2 h3 h4).trans (h.regs a h1 h2 h3 h4)

theorem Dev.dropRef_eq (d : Dev) (id : Nat) : d.dropRef id = { d with data := (d.dropRef id).data, spillQ := (d.dropRef id).spillQ } := by
  unfold Dev.dropRef
  cases Map.find d.data id with
  | none => rfl
  | some x =>
    dsimp only
    split <;> rfl

theorem Dev.freePkt_pkts (d : Dev) (c : Nat) (p : Pkt) : (d.freePkt c p).pkts = Map.del d.pkts c := by
  unfold Dev.freePkt
  rw [Dev.dropRef_eq]
  rfl

theorem Dev.hostDrop_pkts (d : Dev) (c : Nat) (p : Pkt) (why : Nat) : (d.hostDrop c p why).pkts = Map.del d.pkts c := by
  unfold Dev.hostDrop Dev.losePkt
  rw [Dev.raise_pkts, Dev.count_pkts, Dev.freePkt_pkts, Dev.noteDiscard_pkts]

theorem Dev.freePkt_hostDropped (d : Dev) (c : Nat) (p : Pkt) : d.HostDropped (d.freePkt c p) := by
  unfold Dev.freePkt
  rw [Dev.dropRef_eq]
  exact ⟨rfl, fun _ _ _ _ _ => rfl⟩

/-- The event of a discard at the host is HIF_EVENT's. -/
theorem evtReg_hif : evtReg 14 = some Reg.HIF_EVENT := rfl

/-- No register above SYS holds pending bits of the PF's vectors. -/
theorem ne_pba {a : Nat} (h : 0x1000 ≤ a) : a ≠ Reg.SYS_MSIX_PBA 0 ∧ a ≠ Reg.SYS_MSIX_PBA 1 := by
  simp only [Reg.SYS_MSIX_PBA]
  omega

/-- Raising an event of the host interface changes no other register above SYS but the count of messages. -/
theorem Dev.raise_hif_reg (d : Dev) (b : Nat) {a : Nat} (h : 0x1000 ≤ a) (he : a ≠ Reg.HIF_EVENT) (hc : a ≠ Reg.HIF_COUNT 13) :
    (d.raise 14 b).reg a = d.reg a :=
  d.raise_reg_other 14 b (fun x => he (Option.some.inj (evtReg_hif.symm.trans x)).symm) hc (ne_pba h).1 (ne_pba h).2

theorem Dev.raise_hif_bit (d : Dev) {b : Nat} (hb : b < 64) : ((d.raise 14 b).reg Reg.HIF_EVENT).getLsbD b = true :=
  d.raise_reg_bit evtReg_hif hb (by decide) (by decide) (by decide)

theorem Dev.raise_hif_hostDropped (d : Dev) (b : Nat) : d.HostDropped (d.raise 14 b) where
  rest := by
    have h := d.raise_messageOnly 14 b
    unfold Dev.MessageOnly at h
    rw [h]
  regs := fun _ h1 he _ hc => d.raise_hif_reg b h1 he hc

theorem Dev.hostDrop_hostDropped (d : Dev) (c : Nat) (p : Pkt) (why : Nat) : d.HostDropped (d.hostDrop c p why) := by
  have hnote : d.HostDropped (d.noteDiscard p.pid why) := ⟨rfl, fun _ _ _ _ _ => rfl⟩
  have hfree : d.HostDropped (d.losePkt c p why) := hnote.trans (Dev.freePkt_hostDropped _ c p)
  have hcount : (d.losePkt c p why).HostDropped ((d.losePkt c p why).count (Reg.HIF_COUNT 6) 1) :=
    ⟨rfl, fun _ _ _ h6 _ => Dev.reg_count_other _ _ _ _ h6⟩
  exact (hfree.trans hcount).trans (Dev.raise_hif_hostDropped _ 5)

theorem Dev.dropHostPkt_hostDropped (p : Nat → Bool) (x : Dev) (e : Nat × Pkt) : x.HostDropped (x.dropHostPkt p e) := by
  rcases Dev.dropHostPkt_cases p x e with ⟨_, h | h⟩ | ⟨_, h⟩ <;> rw [h]
  · exact x.hostDrop_hostDropped _ _ _
  · exact x.freePkt_hostDropped _ _
  · exact .refl x

/-- Freeing `e` takes away the packet of its context, when that waits on such a ring. -/
theorem Dev.dropHostPkt_pkt (p : Nat → Bool) (x : Dev) (e : Nat × Pkt) (c : Nat) :
    (x.dropHostPkt p e).pkt c = if e.1 = c ∧ e.2.waitsOn p = true then none else x.pkt c := by
  have hdel : e.2.waitsOn p = true → (x.dropHostPkt p e).pkts = Map.del x.pkts e.1 →
      (x.dropHostPkt p e).pkt c = if e.1 = c ∧ e.2.waitsOn p = true then none else x.pkt c := by
    intro hw hp
    unfold Dev.pkt
    rw [hp]
    by_cases hc : e.1 = c
    · simp [hc, hw]
    · rw [Map.find_del_other _ _ _ (Ne.symm hc), if_neg (fun h => hc h.1)]
  rcases Dev.dropHostPkt_cases p x e with ⟨hw, h | h⟩ | ⟨hw, h⟩
  · exact hdel hw (by rw [h, Dev.hostDrop_pkts])
  · exact hdel hw (by rw [h, Dev.freePkt_pkts])
  · rw [h, if_neg (by simp [hw])]

theorem Dev.foldl_dropHostPkt_hostDropped (p : Nat → Bool) (l : List (Nat × Pkt)) (x : Dev) :
    x.HostDropped (l.foldl (Dev.dropHostPkt p) x) := by
  induction l generalizing x with
  | nil => exact .refl x
  | cons e r ih => exact (Dev.dropHostPkt_hostDropped p x e).trans (ih _)

theorem Dev.foldl_dropHostPkt_pkt (p : Nat → Bool) (l : List (Nat × Pkt)) (x : Dev) (c : Nat) (q : Pkt) :
    (l.foldl (Dev.dropHostPkt p) x).pkt c = some q ↔ x.pkt c = some q ∧ ∀ e ∈ l, e.1 = c → e.2.waitsOn p = false := by
  induction l generalizing x with
  | nil => simp
  | cons e r ih =>
    rw [List.foldl_cons, ih, Dev.dropHostPkt_pkt]
    by_cases h : e.1 = c ∧ e.2.waitsOn p = true
    · simp [h]
    · have hf : e.1 = c → e.2.waitsOn p = false := fun hc => by simpa [hc] using h
      rw [if_neg h, List.forall_mem_cons, and_iff_right hf]

theorem Dev.dropHostPkts_hostDropped (d : Dev) (p : Nat → Bool) : d.HostDropped (d.dropHostPkts p) :=
  Dev.foldl_dropHostPkt_hostDropped p d.pkts d

/-- The packets that are left are those that wait on no such ring. -/
theorem Dev.dropHostPkts_pkt (d : Dev) (p : Nat → Bool) (h : Map.rising d.pkts = true) (c : Nat) (q : Pkt) :
    (d.dropHostPkts p).pkt c = some q ↔ d.pkt c = some q ∧ q.waitsOn p = false := by
  rw [Dev.dropHostPkts_eq, Dev.foldl_dropHostPkt_pkt]
  have hfind := Map.find_eq_some_iff h c
  constructor
  · rintro ⟨hq, hall⟩
    exact ⟨hq, hall (c, q) ((hfind q).mp hq) rfl⟩
  · rintro ⟨hq, hw⟩
    refine ⟨hq, ?_⟩
    rintro ⟨k, v⟩ hm rfl
    have hv : v = q := Option.some.inj (((hfind v).mpr hm).symm.trans hq)
    rwa [hv]

/-! ### Rings that a reset returns to their reset values (R520) -/

/-- The rings' state with every ring for which `p` holds at its reset values, before their packets are freed. -/
def Dev.clearRings (d : Dev) (p : Nat → Bool) : Dev :=
  { d with
    regs := d.regs.filter fun e => !(0x4000000 ≤ e.1 && e.1 < 0x8000000 && p ((e.1 - 0x4000000) / 64 % 32768))
    fences := d.fences.filter fun x => !p x.ring
    chQueues := d.chQueues.map fun (e : Nat × List ChUpdate) => (e.1, e.2.map (ChUpdate.orphan p))
    hif := { d.hif with
      subs := d.hif.subs.filter fun x => !p x.1
      held := d.hif.held.filter fun x => !p x.ring
      stalled := d.hif.stalled.filter fun x => !p x
      wbOwed := d.hif.wbOwed.filter fun x => !p x
      injects := d.hif.injects.filter fun x => !p x.ring } }

theorem Dev.resetRings_eq (d : Dev) (p : Nat → Bool) : d.resetRings p = (d.clearRings p).dropHostPkts p := rfl

theorem Dev.resetRings_hostDropped (d : Dev) (p : Nat → Bool) : (d.clearRings p).HostDropped (d.resetRings p) :=
  (d.clearRings p).dropHostPkts_hostDropped p

theorem Dev.clearRings_reg (d : Dev) (p : Nat → Bool) (a : Nat) :
    (d.clearRings p).reg a =
      if 0x4000000 ≤ a ∧ a < 0x8000000 ∧ p ((a - 0x4000000) / 64 % 32768) = true then regReset a else d.reg a := by
  rw [Dev.reg_filter d (d.clearRings p) (fun a => !(0x4000000 ≤ a && a < 0x8000000 && p ((a - 0x4000000) / 64 % 32768))) rfl]
  simp only [Bool.not_eq_true', ← Bool.not_eq_true, ite_not, Bool.and_eq_true, decide_eq_true_eq, and_assoc]

/-- A register of a ring's contexts returns to 0 with its ring, and keeps its value with any other. -/
theorem Dev.resetRings_reg_rng (d : Dev) (p : Nat → Bool) {a : Nat} (h1 : 0x4000000 ≤ a) (h2 : a < 0x8000000) :
    (d.resetRings p).reg a = if p ((a - 0x4000000) / 64 % 32768) then 0 else d.reg a := by
  have hreg := (d.resetRings_hostDropped p).regs a (by omega) (by simp only [Reg.HIF_EVENT]; omega) (by simp only [Reg.HIF_COUNT]; omega)
    (by simp only [Reg.HIF_COUNT]; omega)
  rw [hreg, d.clearRings_reg, regReset_rng h1 h2]
  simp only [h1, h2, true_and]

/-- A register above SYS and outside the ring contexts stays, but for the event and counts of discarded packets. -/
theorem Dev.resetRings_reg_other (d : Dev) (p : Nat → Bool) {a : Nat} (h1 : 0x1000 ≤ a) (h2 : a < 0x4000000) (he : a ≠ Reg.HIF_EVENT)
    (h6 : a ≠ Reg.HIF_COUNT 6) (hc : a ≠ Reg.HIF_COUNT 13) : (d.resetRings p).reg a = d.reg a := by
  rw [(d.resetRings_hostDropped p).regs a h1 he h6 hc, d.clearRings_reg, if_neg (by omega)]

theorem Dev.resetRings_sub (d : Dev) (p : Nat → Bool) (r : Nat) : (d.resetRings p).sub r = if p r then Sub.init else d.sub r := by
  have hs : (d.resetRings p).hif.subs = d.hif.subs.filter fun x => !p x.1 := by
    rw [(d.resetRings_hostDropped p).rest]
    rfl
  unfold Dev.sub Map.getD
  rw [hs, Map.find_filter_key d.hif.subs (fun r => !p r)]
  cases p r <;> simp

/-- The rings for which `gone` holds are at their reset values in `e`, with every command, completion and fence of theirs, and of the packets of `d`
those that wait on them are gone. -/
structure Dev.RingsReset (d e : Dev) (gone : Nat → Prop) : Prop where
  rings : ∀ r, gone r → e.sub r = Sub.init ∧ (r < 32768 → e.ringState r = rsDisabled ∧ e.subPi r = 0 ∧ e.fetchIdx r = 0)
  held : ∀ x ∈ e.hif.held, ¬ gone x.ring
  fences : ∀ x ∈ e.fences, ¬ gone x.ring
  injects : ∀ x ∈ e.hif.injects, ¬ gone x.ring
  pkts : ∀ c p, e.pkt c = some p ↔ d.pkt c = some p ∧
    ¬ ∃ r, gone r ∧ (p.stage = .delivery r ∨ (∃ i, p.stage = .assigned r i) ∨ ∃ i, p.stage = .delivered r i)
  tables : e.tables = d.tables
  tim : e.tim = d.tim

theorem Dev.resetRings_ringsReset (d : Dev) (p : Nat → Bool) (gone : Nat → Prop) (hg : ∀ r, p r = true ↔ gone r)
    (h : Map.rising d.pkts = true) : d.RingsReset (d.resetRings p) gone := by
  have hrest := (d.resetRings_hostDropped p).rest
  have hfilter : ∀ {α : Type} (l : List α) (ring : α → Nat), ∀ x ∈ l.filter (fun x => !p (ring x)), ¬ gone (ring x) := by
    intro α l ring x hx hgone
    have hp := (hg _).mpr hgone
    simp [hp] at hx
  have hreg : ∀ r o, gone r → r < 32768 → o < 64 → (d.resetRings p).reg (0x4000000 + o + 0x40 * r) = 0 := by
    intro r o hr hlt ho
    have hi : (0x4000000 + o + 0x40 * r - 0x4000000) / 64 % 32768 = r := by omega
    rw [d.resetRings_reg_rng p (by omega) (by omega), hi, if_pos ((hg r).mpr hr)]
  constructor
  case rings =>
    intro r hr
    refine ⟨by rw [d.resetRings_sub, if_pos ((hg r).mpr hr)], fun hlt => ⟨?_, ?_, ?_⟩⟩
    · rw [Dev.ringState, Dev.fld, Reg.RNG_STATE, hreg r 0x20 hr hlt (by omega)]
      rfl
    · rw [Dev.subPi, Dev.fld, Reg.RNG_PI_S, hreg r 0x10 hr hlt (by omega)]
      rfl
    · rw [Dev.fetchIdx, Dev.fld, Reg.RNG_FETCH, hreg r 0x18 hr hlt (by omega)]
      rfl
  case held =>
    rw [hrest]
    exact hfilter d.hif.held (·.ring)
  case fences =>
    rw [hrest]
    exact hfilter d.fences (·.ring)
  case injects =>
    rw [hrest]
    exact hfilter d.hif.injects (·.ring)
  case pkts =>
    intro c q
    rw [d.resetRings_eq, (d.clearRings p).dropHostPkts_pkt p h, ← Bool.not_eq_true, Pkt.waitsOn_iff]
    simp only [hg]
    rfl
  case tables => rw [hrest]; rfl
  case tim => rw [hrest]; rfl

/-- What the rings' reset rests on is in `f` as in `e`. -/
structure Dev.RingsKept (e f : Dev) : Prop where
  subs : f.hif.subs = e.hif.subs
  held : f.hif.held = e.hif.held
  injects : f.hif.injects = e.hif.injects
  fences : f.fences = e.fences
  pkts : f.pkts = e.pkts
  tables : f.tables = e.tables
  tim : f.tim = e.tim
  regs : ∀ a, 0x4000000 ≤ a → f.reg a = e.reg a

theorem Dev.RingsKept.trans {e f g : Dev} (h : e.RingsKept f) (k : f.RingsKept g) : e.RingsKept g where
  subs := k.subs.trans h.subs
  held := k.held.trans h.held
  injects := k.injects.trans h.injects
  fences := k.fences.trans h.fences
  pkts := k.pkts.trans h.pkts
  tables := k.tables.trans h.tables
  tim := k.tim.trans h.tim
  regs := fun a ha => (k.regs a ha).trans (h.regs a ha)

theorem Dev.setReg_ringsKept (d : Dev) {a : Nat} (v : Word) (h : a < 0x4000000) : d.RingsKept (d.setReg a v) :=
  ⟨rfl, rfl, rfl, rfl, rfl, rfl, rfl, fun _ _ => Dev.reg_setReg_other _ _ _ _ (by omega)⟩

theorem Dev.raise_hif_ringsKept (d : Dev) (b : Nat) : d.RingsKept (d.raise 14 b) := by
  have h := d.raise_messageOnly 14 b
  unfold Dev.MessageOnly at h
  refine ⟨?_, ?_, ?_, ?_, ?_, ?_, ?_, fun a ha => d.raise_hif_reg b (by omega) ?_ ?_⟩
  case refine_8 => simp only [Reg.HIF_EVENT]; omega
  case refine_9 => simp only [Reg.HIF_COUNT]; omega
  all_goals rw [h]

/-- The rings stay reset while what that rests on is kept; of the device before it, only packets, tables and the time base count. -/
theorem Dev.RingsReset.kept {d d' e f : Dev} {gone : Nat → Prop} (h : d.RingsReset e gone) (hk : e.RingsKept f) (hp : d'.pkts = d.pkts)
    (ht : d'.tables = d.tables) (hm : d'.tim = d.tim) : d'.RingsReset f gone where
  rings := by
    intro r hr
    obtain ⟨hsub, hregs⟩ := h.rings r hr
    unfold Dev.ringState Dev.subPi Dev.fetchIdx Dev.fld at hregs ⊢
    rw [hk.regs _ (by simp only [Reg.RNG_STATE]; omega), hk.regs _ (by simp only [Reg.RNG_PI_S]; omega),
      hk.regs _ (by simp only [Reg.RNG_FETCH]; omega)]
    exact ⟨by unfold Dev.sub at hsub ⊢; rwa [hk.subs], hregs⟩
  held := by rw [hk.held]; exact h.held
  fences := by rw [hk.fences]; exact h.fences
  injects := by rw [hk.injects]; exact h.injects
  pkts := by
    intro c p
    have hpkt := h.pkts c p
    unfold Dev.pkt at hpkt ⊢
    rwa [hk.pkts, hp]
  tables := by rw [hk.tables, h.tables, ht]
  tim := by rw [hk.tim, h.tim, hm]

/-! ### The link, resets and function-level resets (R472, R520, R562) -/

theorem Dev.bootRestart_ringsKept (d : Dev) : d.RingsKept d.bootRestart := by
  unfold Dev.bootRestart
  split
  · exact ⟨rfl, rfl, rfl, rfl, rfl, rfl, rfl, fun _ _ => rfl⟩
  · have hstart : d.RingsKept ({ d with loader := { d.loader with bytes := [] } }.setGen 0 ⟨.loading, 0, [], []⟩) :=
      ⟨rfl, rfl, rfl, rfl, rfl, rfl, rfl, fun _ _ => rfl⟩
    have hfld : ∀ (x : Dev) (f : Fld) (v : Nat), x.RingsKept (x.setFld Reg.SYS_LOAD_STATUS f v) :=
      fun x _ _ => x.setReg_ringsKept _ (by decide)
    exact ((hstart.trans (hfld _ _ _)).trans (hfld _ _ _)).trans (hfld _ _ _)

theorem Dev.bootRestart_reg (d : Dev) {a : Nat} (h : a ≠ Reg.SYS_LOAD_STATUS) : d.bootRestart.reg a = d.reg a := by
  unfold Dev.bootRestart
  split
  · rfl
  · dsimp only [Dev.satCount]
    rw [Dev.reg_setFld_other _ _ _ _ _ h, Dev.reg_setFld_other _ _ _ _ _ h, Dev.reg_setFld_other _ _ _ _ _ h]
    rfl

theorem Dev.bootRestart_hif (d : Dev) : d.bootRestart.hif = d.hif := by
  unfold Dev.bootRestart
  split <;> rfl

theorem Dev.bootRestart_bytes (d : Dev) (h : d.loader.src = .bootHost) : d.bootRestart.loader.bytes = [] := by
  unfold Dev.bootRestart
  rw [if_neg (by simp [h])]
  rfl

/-- The host interface's registers but the link's, its spaces, MSI-X tables and waiting work at their reset values. -/
def Dev.clearHif (d : Dev) : Dev :=
  { d with
    regs := d.regs.filter fun e =>
      !((0x2000000 ≤ e.1 && e.1 < 0x4000000 && e.1 != Reg.HIF_LINK) || 0xC000000 ≤ e.1 || (0x7F0 ≤ e.1 && e.1 < 0x1000))
    hif := { d.hif with
      scans := [], rescans := [], served := [], tlb := [], faults := [], vfMsix := [], vfPba := [], halves := [], pend := [] } }

theorem Dev.hostReset_eq (d : Dev) : d.hostReset = (d.clearHif.resetRings fun _ => true).bootRestart := rfl

theorem Dev.hostReset_ringsReset (d : Dev) (h : Map.rising d.pkts = true) : d.RingsReset d.hostReset fun _ => True :=
  (d.clearHif.resetRings_ringsReset (fun _ => true) (fun _ => True) (fun _ => by simp) h).kept (Dev.bootRestart_ringsKept _) rfl rfl rfl

theorem Dev.hostReset_hif (d : Dev) : d.hostReset.hif.tlb = [] ∧ d.hostReset.hif.scans = [] ∧ d.hostReset.hif.vfMsix = [] := by
  rw [d.hostReset_eq, Dev.bootRestart_hif, (d.clearHif.resetRings_hostDropped _).rest]
  exact ⟨rfl, rfl, rfl⟩

theorem Dev.hostReset_link (d : Dev) : d.hostReset.reg Reg.HIF_LINK = d.reg Reg.HIF_LINK := by
  rw [d.hostReset_eq, Dev.bootRestart_reg _ (by decide),
    Dev.resetRings_reg_other _ _ (by decide) (by decide) (by decide) (by decide) (by decide),
    Dev.reg_filter d d.clearHif
      (fun a => !((0x2000000 ≤ a && a < 0x4000000 && a != Reg.HIF_LINK) || 0xC000000 ≤ a || (0x7F0 ≤ a && a < 0x1000))) rfl, if_pos (by decide)]

theorem Dev.hostReset_bytes (d : Dev) (h : d.loader.src = .bootHost) : d.hostReset.loader.bytes = [] := by
  rw [d.hostReset_eq]
  apply Dev.bootRestart_bytes
  rw [(d.clearHif.resetRings_hostDropped _).rest]
  exact h

/-- VF `f`'s MSI-X table and latched halves at their reset values. -/
def Dev.clearVf (d : Dev) (f : Nat) : Dev :=
  { d with hif := { d.hif with
    vfMsix := d.hif.vfMsix.filter fun e => e.1 / 256 != f
    vfPba := d.hif.vfPba.filter fun e => e.1 / 2 != f
    halves := d.hif.halves.filter fun e => e.1 / 2 ^ 28 != f } }

theorem Dev.vfFlr_eq (d : Dev) {f : Nat} (h1 : 1 ≤ f) (h2 : f ≤ 15) :
    d.vfFlr f = (d.clearVf f).resetRings fun r => d.ringFunc r == f := by
  unfold Dev.vfFlr
  rw [if_neg (by omega)]
  rfl

theorem Dev.vfFlr_ringsReset (d : Dev) {f : Nat} (h1 : 1 ≤ f) (h2 : f ≤ 15) (h : Map.rising d.pkts = true) :
    d.RingsReset (d.vfFlr f) fun r => d.ringFunc r = f := by
  rw [d.vfFlr_eq h1 h2]
  exact ((d.clearVf f).resetRings_ringsReset _ _ (fun _ => by simp) h).kept ⟨rfl, rfl, rfl, rfl, rfl, rfl, rfl, fun _ _ => rfl⟩ rfl rfl rfl

/-- A VF's FLR leaves the rings of every other function. -/
theorem Dev.vfFlr_other (d : Dev) {f r : Nat} (h1 : 1 ≤ f) (h2 : f ≤ 15) (hr : d.ringFunc r ≠ f) :
    (d.vfFlr f).sub r = d.sub r ∧ (r < 32768 → (d.vfFlr f).reg (Reg.RNG_STATE r) = d.reg (Reg.RNG_STATE r)) := by
  rw [d.vfFlr_eq h1 h2]
  constructor
  · rw [Dev.resetRings_sub, if_neg (by simpa using hr)]
    rfl
  · intro hlt
    have hi : (Reg.RNG_STATE r - 0x4000000) / 64 % 32768 = r := by
      simp only [Reg.RNG_STATE]
      omega
    rw [Dev.resetRings_reg_rng _ _ (by simp only [Reg.RNG_STATE]; omega) (by simp only [Reg.RNG_STATE]; omega), hi, if_neg (by simpa using hr)]
    rfl

/-- HIF_LINK shows a link, up or down, and the event says that it changed. -/
def Dev.showLink (d : Dev) (up : Bool) (speed width : Nat) : Dev :=
  ({ d with hif := { d.hif with linkUp := up } }.setReg Reg.HIF_LINK (F.HIF_LINK_WIDTH.put (F.HIF_LINK_SPEED.put 0 speed) width)).raise 14 6

/-- The link trains once stage RIMS has begun and PERST_N is high; before that nothing happens (R562). -/
theorem Dev.linkChange_up (d : Dev) {speed width : Nat} (h1 : 1 ≤ speed) (h5 : speed ≤ 5) (hw : width ∈ [1, 2, 4, 8]) :
    d.linkChange speed width = if d.pins.perst && d.rimsBegun then d.showLink true speed width else d := by
  have h0 : speed ≠ 0 := by omega
  have hw' : (width = 1 || width = 2 || width = 4 || width = 8) = true := by simpa [or_assoc] using hw
  unfold Dev.linkChange
  simp only [h1, h5, hw', h0, decide_true, decide_false, Bool.and_true, Bool.true_and, Bool.false_and, Bool.or_false, if_true]
  cases d.pins.perst && d.rimsBegun <;> rfl

theorem Dev.linkChange_down (d : Dev) : d.linkChange 0 0 = d.hostReset.showLink false 0 0 := rfl

theorem Dev.showLink_hif (d : Dev) (up : Bool) (speed width : Nat) :
    (d.showLink up speed width).hif.linkUp = up ∧ (d.showLink up speed width).hif.subs = d.hif.subs := by
  unfold Dev.showLink
  rw [Dev.raise_messageOnly]
  exact ⟨rfl, rfl⟩

theorem Dev.showLink_pkts (d : Dev) (up : Bool) (speed width : Nat) : (d.showLink up speed width).pkts = d.pkts := by
  unfold Dev.showLink
  rw [Dev.raise_pkts]
  rfl

theorem Dev.showLink_reg (d : Dev) (up : Bool) (speed width : Nat) :
    (d.showLink up speed width).reg Reg.HIF_LINK = F.HIF_LINK_WIDTH.put (F.HIF_LINK_SPEED.put 0 speed) width := by
  unfold Dev.showLink
  rw [Dev.raise_hif_reg _ _ (by decide) (by decide) (by decide), Dev.reg_setReg_same]

theorem Dev.showLink_ringsKept (d : Dev) (up : Bool) (speed width : Nat) : d.RingsKept (d.showLink up speed width) := by
  have hup : d.RingsKept { d with hif := { d.hif with linkUp := up } } := ⟨rfl, rfl, rfl, rfl, rfl, rfl, rfl, fun _ _ => rfl⟩
  exact (hup.trans (Dev.setReg_ringsKept _ _ (by decide))).trans (Dev.raise_hif_ringsKept _ 6)

/-- The speed and the width of a trained link fit their fields. -/
theorem Dev.showLink_fields (d : Dev) (up : Bool) {speed width : Nat} (h5 : speed ≤ 5) (hw : width ∈ [1, 2, 4, 8]) :
    (d.showLink up speed width).fld Reg.HIF_LINK F.HIF_LINK_SPEED = speed ∧
    (d.showLink up speed width).fld Reg.HIF_LINK F.HIF_LINK_WIDTH = width := by
  have hwidth : width < 2 ^ F.HIF_LINK_WIDTH.w := by
    simp only [List.mem_cons, List.not_mem_nil, or_false] at hw
    simp only [F.HIF_LINK_WIDTH]
    omega
  have hspeed : speed < 2 ^ F.HIF_LINK_SPEED.w := by
    simp only [F.HIF_LINK_SPEED]
    omega
  simp only [Dev.fld, Dev.showLink_reg]
  rw [Fld.of_put_other _ _ _ _ (by decide) (by decide), Fld.of_put_same _ _ _ (by decide), Fld.of_put_same _ _ _ (by decide)]
  exact ⟨Nat.mod_eq_of_lt hspeed, Nat.mod_eq_of_lt hwidth⟩

/-! ### Reads and bad accesses (R11, R16, R478, R573) -/

/-- What R11 accepts: aligned 64-bit accesses, and 32-bit ones of SYS on the PF and of the MSI-X table and PBA on a VF. -/
def AccessOk (f a size : Nat) : Prop :=
  size = 8 ∧ a % 8 = 0 ∨ size = 4 ∧ a % 4 = 0 ∧ (f = 0 ∧ a < 0x1000 ∨ f ≠ 0 ∧ 0x7F0 ≤ a ∧ a < 0x1000)

theorem accessOk_iff (f a size : Nat) : AccessOk f a size ↔ (size = 8 ∧ a % 8 = 0) ∨ narrowOk f a size = true := by
  rw [narrowOk_iff]
  rfl

/-- A write that R11 accepts is not this command's. -/
theorem Dev.anyAccess_write (d : Dev) {f a size : Nat} (h : AccessOk f a size) : d.anyAccess f a size true = d := by
  unfold Dev.anyAccess Dev.oddAccess
  rcases (accessOk_iff f a size).mp h with h8 | hn
  · simp [h8]
  · by_cases h8 : size = 8 ∧ a % 8 = 0 <;> simp [h8, hn]

/-- The word of HIF_ACCESS_LOG for an access (R478). -/
def accessLogWord (f a size : Nat) (write : Bool) : Word :=
  let w := F.HIF_ACCESS_LOG_FUNC.put (F.HIF_ACCESS_LOG_ADDR.put 0 a) f
  let w := F.HIF_ACCESS_LOG_SIZE.put w (if size = 1 then 0 else if size = 2 then 1 else if size = 4 then 2 else 3)
  F.HIF_ACCESS_LOG_VALID.put (F.HIF_ACCESS_LOG_WRITE.put w write.toNat) 1

theorem accessLogWord_fields (f a size : Nat) (write : Bool) :
    F.HIF_ACCESS_LOG_ADDR.of (accessLogWord f a size write) = a % 2 ^ 28 ∧ F.HIF_ACCESS_LOG_FUNC.of (accessLogWord f a size write) = f % 16 ∧
    F.HIF_ACCESS_LOG_WRITE.of (accessLogWord f a size write) = write.toNat ∧ F.HIF_ACCESS_LOG_VALID.of (accessLogWord f a size write) = 1 := by
  have hother : ∀ (g h : Fld) (x : Word) (v : Nat), g.lo + g.w ≤ 64 → g.lo + g.w ≤ h.lo ∨ h.lo + h.w ≤ g.lo → g.of (h.put x v) = g.of x :=
    fun g h x v => Fld.of_put_other h g x v
  unfold accessLogWord
  refine ⟨?_, ?_, ?_, ?_⟩
  · rw [hother _ _ _ _ (by decide) (by decide), hother _ _ _ _ (by decide) (by decide), hother _ _ _ _ (by decide) (by decide),
      hother _ _ _ _ (by decide) (by decide), Fld.of_put_same _ _ _ (by decide)]
    rfl
  · rw [hother _ _ _ _ (by decide) (by decide), hother _ _ _ _ (by decide) (by decide), hother _ _ _ _ (by decide) (by decide),
      Fld.of_put_same _ _ _ (by decide)]
    rfl
  · rw [hother _ _ _ _ (by decide) (by decide), Fld.of_put_same _ _ _ (by decide)]
    cases write <;> rfl
  · rw [Fld.of_put_same _ _ _ (by decide)]
    rfl

/-- The device with an access logged and its event raised. -/
def Dev.logAccess (d : Dev) (w : Word) : Dev := (d.setReg Reg.HIF_ACCESS_LOG w).raise 14 0

/-- An access that breaks R11 is logged in RUN, and a read of it gives all ones. -/
theorem Dev.anyAccess_bad (d : Dev) {f a size : Nat} (write : Bool) (hr : d.running = true) (h : ¬ AccessOk f a size) :
    d.anyAccess f a size write =
      if write then d.logAccess (accessLogWord f a size write)
      else { d.logAccess (accessLogWord f a size write) with bus := BitVec.allOnes 64 } := by
  rw [accessOk_iff, not_or] at h
  obtain ⟨h8, hn⟩ := h
  simp only [Dev.anyAccess, Dev.oddAccess, Dev.badAccess, h8, hn, hr, if_false, if_true]
  rfl

theorem Dev.logAccess_fields (d : Dev) (f a size : Nat) (write : Bool) :
    let e := d.logAccess (accessLogWord f a size write)
    e.fld Reg.HIF_ACCESS_LOG F.HIF_ACCESS_LOG_ADDR = a % 2 ^ 28 ∧ e.fld Reg.HIF_ACCESS_LOG F.HIF_ACCESS_LOG_FUNC = f % 16 ∧
    e.fld Reg.HIF_ACCESS_LOG F.HIF_ACCESS_LOG_WRITE = write.toNat ∧ e.fld Reg.HIF_ACCESS_LOG F.HIF_ACCESS_LOG_VALID = 1 := by
  intro e
  have hreg : e.reg Reg.HIF_ACCESS_LOG = accessLogWord f a size write := by
    show ((d.setReg Reg.HIF_ACCESS_LOG _).raise 14 0).reg _ = _
    rw [Dev.raise_hif_reg _ _ (by decide) (by decide) (by decide), Dev.reg_setReg_same]
  simp only [Dev.fld, hreg]
  exact accessLogWord_fields f a size write

theorem Dev.logAccess_event (d : Dev) (w : Word) : ((d.logAccess w).reg Reg.HIF_EVENT).getLsbD 0 = true := Dev.raise_hif_bit _ (by decide)

theorem Dev.logAccess_bus (d : Dev) (w : Word) : (d.logAccess w).bus = d.bus := by
  rw [Dev.logAccess, Dev.raise_messageOnly]
  rfl

theorem Dev.stage_ne_zero_of_running (d : Dev) (h : d.running = true) : d.stage ≠ 0 := by
  unfold Dev.running at h
  have := of_decide_eq_true h
  omega

/-- A 64-bit read of a register of SYS without RC fields gives what it shows, and changes nothing. -/
theorem Dev.anyAccess_read_sys (d : Dev) {a : Nat} (hr : d.running = true) (h8 : a % 8 = 0) (ha : a < 0x1000)
    (hrc : ∀ m, regFam a = some m → ∀ y ∈ m.fields, y.acc ≠ .rc) : d.anyAccess 0 a 8 false = { d with bus := d.view a } := by
  have ht : a ≠ Reg.TIM_TIME := by
    simp only [Reg.TIM_TIME]
    omega
  have he : ¬ (0x400000 ≤ a) := by omega
  have hread : d.busRead a = { d with bus := d.view a } := by
    unfold Dev.busRead
    cases hf : regFam a with
    | none => simp [ht, he]
    | some m =>
      have hany : (m.fields.any fun x => x.acc == .rc) = false := by simpa using hrc m hf
      simp [ht, he, hany]
  simp [Dev.anyAccess, Dev.funcRead, h8, ha, d.stage_ne_zero_of_running hr, hread]

/-- A 32-bit read of the lower half of a register of SYS gives that half and latches the upper one. -/
theorem Dev.anyAccess_read_half (d : Dev) {a : Nat} (hr : d.running = true) (h8 : a % 8 = 0) (ha : a < 0x1000) :
    (d.anyAccess 0 a 4 false).bus = BitVec.ofNat 64 (getHalf (d.view a) 0) ∧
    Map.find (d.anyAccess 0 a 4 false).hif.halves a = some (getHalf (d.view a) 1) := by
  have hn : narrowOk 0 a 4 = true := (narrowOk_iff _ _ _).mpr ⟨rfl, by omega, .inl ⟨rfl, ha⟩⟩
  have hq : a / 8 * 8 = a := by omega
  have hany : d.anyAccess 0 a 4 false = d.narrowRead 0 a := by
    simp [Dev.anyAccess, Dev.oddAccess, hn, d.stage_ne_zero_of_running hr]
  rw [hany]
  simp [Dev.narrowRead, Dev.narrowWord, h8, hq]

/-! ### Writes of event registers (R521) -/

/-- A write that leaves the source pending sends its message again. -/
theorem Dev.eventWrite_eq (d : Dev) {src a : Nat} (mask : Bool) (v : Word) (he : evtReg src = some a) :
    d.eventWrite src mask v =
      if (d.plainWrite (if mask then a + 8 else a) v).pendingEvt src then (d.plainWrite (if mask then a + 8 else a) v).sendEvt src
      else d.plainWrite (if mask then a + 8 else a) v := by
  unfold Dev.eventWrite
  rw [he]

/-! ### The commands of the host's link -/

theorem exec_pcieLinkChange (speed width : Nat) (s : State) :
    exec (.pcieLinkChange speed width) s = .next (s.withDev (s.dev.linkChange speed width)) := rfl

theorem exec_hostReset (s : State) : exec .hostReset s = .next (s.withDev s.dev.hostReset) := rfl

theorem exec_vfFlr (f : Nat) (s : State) : exec (.vfFlr f) s = .next (s.withDev (s.dev.vfFlr f)) := rfl

theorem exec_badAccess (f a size : Nat) (write : Bool) (s : State) :
    exec (.badAccess f a size write) s = .next (s.withDev (s.dev.anyAccess f a size write)) := rfl

theorem exec_eventWrite {src a : Nat} (mask : Bool) (v : Word) (s : State) (he : evtReg src = some a) (hu : s.dev.up = true)
    (ho : s.dev.accessOpen (if mask then a + 8 else a) = true) :
    exec (.eventWrite src mask v) s = .next (s.withDev (s.dev.eventWrite src mask v)) := by
  show execEventWrite src mask v s = _
  unfold execEventWrite
  rw [he, ← s.dev.access_open _ (some v) (·.eventWrite src mask v) hu ho]
  rfl

/-- Settles O53, clause by clause from what the link, the resets, the accesses and the event registers do. -/
theorem hostLink : Obligations.HostLink := by
  unfold Obligations.HostLink
  intro s hpk toHost resets
  have hresets : ∀ (e : Dev) (gone : Nat → Prop), s.dev.RingsReset e gone → resets (s.withDev e) gone := fun _ _ h =>
    ⟨h.rings, h.held, h.fences, h.injects, h.pkts, h.tables, h.tim, rfl⟩
  have hhost := s.dev.hostReset_ringsReset hpk
  refine ⟨?link, ?down, ?reset, ?flr, ?access, ?event⟩
  case link =>
    intro speed width h1 h5 hw
    rw [exec_pcieLinkChange, s.dev.linkChange_up h1 h5 hw]
    constructor
    · intro hp hb
      obtain ⟨hup, hsubs⟩ := s.dev.showLink_hif true speed width
      obtain ⟨hspeed, hwidth⟩ := s.dev.showLink_fields true h5 hw
      rw [if_pos (by simp [hp, hb])]
      exact ⟨_, rfl, hup, hspeed, hwidth, Dev.raise_hif_bit _ (by decide), s.dev.showLink_pkts _ _ _, hsubs⟩
    · intro hno
      rw [if_neg (by rcases hno with h | h <;> simp [h])]
      rfl
  case down =>
    rw [exec_pcieLinkChange, Dev.linkChange_down]
    exact ⟨_, rfl, (Dev.showLink_hif _ _ _ _).1, hresets _ _ (hhost.kept (Dev.showLink_ringsKept _ _ _ _) rfl rfl rfl)⟩
  case reset =>
    obtain ⟨htlb, hscans, hmsix⟩ := s.dev.hostReset_hif
    exact ⟨_, exec_hostReset s, hresets _ _ hhost, htlb, hscans, hmsix, s.dev.hostReset_link, s.dev.hostReset_bytes⟩
  case flr =>
    intro f
    constructor
    · intro hf
      rw [exec_vfFlr, Dev.vfFlr, if_pos hf]
      rfl
    · intro h1 h2
      exact ⟨_, exec_vfFlr f s, hresets _ _ (s.dev.vfFlr_ringsReset h1 h2 hpk), fun _ hr => s.dev.vfFlr_other h1 h2 hr⟩
  case access =>
    intro f a size write hr good
    rw [exec_badAccess]
    refine ⟨?_, ?_, ?_⟩
    · rintro hg rfl
      rw [s.dev.anyAccess_write hg]
      rfl
    · rintro hg rfl
      refine ⟨_, rfl, ?_, ?_⟩
      · rintro rfl ha rfl hrc
        rw [s.dev.anyAccess_read_sys hr (by omega) ha hrc]
      · rintro rfl ha rfl h8
        exact s.dev.anyAccess_read_half hr h8 ha
    · intro hg
      obtain ⟨haddr, hfunc, hwrite, hvalid⟩ := s.dev.logAccess_fields f a size write
      have hevent := s.dev.logAccess_event (accessLogWord f a size write)
      have hbus := s.dev.logAccess_bus (accessLogWord f a size write)
      rw [s.dev.anyAccess_bad write hr hg]
      cases write with
      | false => exact ⟨_, rfl, haddr, hfunc, hwrite, hvalid, hevent, fun _ => rfl, nofun⟩
      | true => exact ⟨_, rfl, haddr, hfunc, hwrite, hvalid, hevent, nofun, fun _ => hbus⟩
  case event =>
    intro src a mask v he hu reg ho d
    rw [exec_eventWrite mask v s he hu ho, s.dev.eventWrite_eq mask v he]
    exact ⟨fun hp => congrArg (Host.Outcome.next <| s.withDev ·) (if_neg (ne_true_of_eq_false hp)),
      fun hp => congrArg (Host.Outcome.next <| s.withDev ·) (if_pos hp)⟩

end Sys2Proof.Machine
end

section
/-! PROOFS. What the statements about packets rest on: registers that an update keeps, the fields of a context, the new context of a packet, and
buffer data (R41, R44, R49, R315). -/

namespace Sys2Proof.Machine

/-! ### Registers that an update keeps (R16, R550) -/

theorem Dev.regsKept.refl (d : Dev) (as : List Nat) : d.regsKept d as := fun _ _ => rfl

theorem Dev.regsKept.trans {d e f : Dev} {as : List Nat} (h : d.regsKept e as) (k : e.regsKept f as) : d.regsKept f as :=
  fun a ha => (k a ha).trans (h a ha)

theorem Dev.regsKept.mono {d e : Dev} {as bs : List Nat} (h : d.regsKept e as) (hs : as ⊆ bs) : d.regsKept e bs :=
  fun a ha => h a fun hm => ha (hs hm)

/-- An update that leaves the register store alone keeps every register. -/
theorem Dev.regsKept_of_regs {d e : Dev} (h : e.regs = d.regs) (as : List Nat) : d.regsKept e as := fun a _ => by
  unfold Dev.reg
  rw [h]

theorem Dev.setReg_regsKept (d : Dev) {a : Nat} (v : Word) {as : List Nat} (h : a ∈ as) : d.regsKept (d.setReg a v) as :=
  fun _ hb => d.reg_setReg_other _ _ _ fun he => hb (he ▸ h)

theorem Dev.count_regsKept (d : Dev) {a : Nat} (n : Nat) {as : List Nat} (h : a ∈ as) : d.regsKept (d.count a n) as :=
  d.setReg_regsKept _ h

/-- A counter after `n` more, where the updates before kept it. -/
theorem Dev.regsKept.count {d e : Dev} {as : List Nat} (h : d.regsKept e as) {a : Nat} (ha : a ∉ as) (n : Nat) :
    (e.count a n).reg a = d.plus a n := by
  rw [Dev.reg_count_same, h a ha]
  rfl

theorem Dev.count_eq_setReg (d : Dev) (a n : Nat) : d.count a n = d.setReg a (d.plus a n) := rfl

theorem Dev.reg_count (d : Dev) (a n : Nat) : (d.count a n).reg a = d.plus a n := d.reg_count_same a n

/-- Of the device only registers changed. -/
def Dev.RegsOnly (d e : Dev) : Prop := e = { d with regs := e.regs }

theorem Dev.RegsOnly.refl (d : Dev) : d.RegsOnly d := rfl

theorem Dev.setReg_regsOnly (d : Dev) (a : Nat) (v : Word) : d.RegsOnly (d.setReg a v) := rfl

theorem Dev.count_regsOnly (d : Dev) (a n : Nat) : d.RegsOnly (d.count a n) := d.setReg_regsOnly a _

theorem Dev.RegsOnly.trans {d e f : Dev} (h : d.RegsOnly e) (k : e.RegsOnly f) : d.RegsOnly f :=
  calc f = { e with regs := f.regs } := k
    _ = { d with regs := f.regs } := by rw [h]

/-- The registers that an event and its message may change (R475, R521). -/
def eventRegs (a : Nat) : List Nat := [a, Reg.HIF_COUNT 13, Reg.SYS_MSIX_PBA 0, Reg.SYS_MSIX_PBA 1]

theorem Dev.raise_regsKept (d : Dev) {s a : Nat} (b : Nat) (he : evtReg s = some a) : d.regsKept (d.raise s b) (eventRegs a) := by
  intro x hx
  simp only [eventRegs, List.mem_cons, List.not_mem_nil, or_false, not_or] at hx
  obtain ⟨hxa, hc, h0, h1⟩ := hx
  exact d.raise_reg_other s b (fun h => hxa (Option.some.inj (h.symm.trans he))) hc h0 h1

/-! ### Fields that an event leaves alone -/

@[simp] theorem Dev.raise_rxq (d : Dev) (s b : Nat) : (d.raise s b).rxq = d.rxq := by rw [d.raise_messageOnly s b]
@[simp] theorem Dev.raise_discards (d : Dev) (s b : Nat) : (d.raise s b).discards = d.discards := by rw [d.raise_messageOnly s b]
@[simp] theorem Dev.raise_data (d : Dev) (s b : Nat) : (d.raise s b).data = d.data := by rw [d.raise_messageOnly s b]
@[simp] theorem Dev.raise_intakes (d : Dev) (s b : Nat) : (d.raise s b).intakes = d.intakes := by rw [d.raise_messageOnly s b]
@[simp] theorem Dev.raise_residue (d : Dev) (s b : Nat) : (d.raise s b).residue = d.residue := by rw [d.raise_messageOnly s b]
@[simp] theorem Dev.raise_repls (d : Dev) (s b : Nat) : (d.raise s b).repls = d.repls := by rw [d.raise_messageOnly s b]
@[simp] theorem Dev.raise_spillQ (d : Dev) (s b : Nat) : (d.raise s b).spillQ = d.spillQ := by rw [d.raise_messageOnly s b]
@[simp] theorem Dev.raise_wire (d : Dev) (s b : Nat) : (d.raise s b).wire = d.wire := by rw [d.raise_messageOnly s b]

/-! ### Fields of a context (R44) -/

theorem wordAt_set_same (ws : List Word) {i : Nat} (v : Word) (h : i < ws.length) : wordAt (ws.set i v) i = v := by
  simp [wordAt, h]

theorem wordAt_set_other (ws : List Word) {i j : Nat} (v : Word) (h : j ≠ i) : wordAt (ws.set i v) j = wordAt ws j := by
  simp [wordAt, Ne.symm h]

theorem wordAt_eq_zero {ws : List Word} {i : Nat} (h : ws.length ≤ i) : wordAt ws i = 0 := by
  simp [wordAt, h]

@[simp] theorem length_ctxPut (ws : List Word) (f : CtxFld) (v : Nat) : (ctxPut ws f v).length = ws.length := by simp [ctxPut]

/-- Field `f` shares no bit with field `g` of a context. -/
def CtxFld.apart (f g : CtxFld) : Bool :=
  decide (f.lo + f.w ≤ 64) && (f.word != g.word || decide (f.lo + f.w ≤ g.lo) || decide (g.lo + g.w ≤ f.lo))

/-- A field of one word of a context of 32 words. -/
def CtxFld.fits (f : CtxFld) : Bool := decide (f.word < 32) && decide (f.lo + f.w ≤ 64)

theorem ctxGet_put_same (ws : List Word) {f : CtxFld} (v : Nat) (hl : ws.length = 32) (hf : f.fits = true) :
    ctxGet (ctxPut ws f v) f = v % 2 ^ f.w := by
  simp only [CtxFld.fits, Bool.and_eq_true, decide_eq_true_eq] at hf
  obtain ⟨hw, hb⟩ := hf
  unfold ctxGet ctxPut
  rw [wordAt_set_same _ _ (by omega), Fld.of_put_same _ _ _ hb]

theorem ctxGet_put_other (ws : List Word) {f g : CtxFld} (v : Nat) (h : f.apart g = true) : ctxGet (ctxPut ws g v) f = ctxGet ws f := by
  simp only [CtxFld.apart, Bool.and_eq_true, Bool.or_eq_true, bne_iff_ne, ne_eq, decide_eq_true_eq, or_assoc] at h
  obtain ⟨hb, hd⟩ := h
  unfold ctxGet ctxPut
  by_cases hw : f.word = g.word
  · by_cases hl : g.word < ws.length
    · rw [hw, wordAt_set_same _ _ hl, Fld.of_put_other ⟨g.lo, g.w⟩ ⟨f.lo, f.w⟩ _ _ hb (by simpa [hw] using hd)]
    · rw [List.set_eq_of_length_le (by omega)]
  · rw [wordAt_set_other _ _ hw]

theorem wordAt_ctxPut_other (ws : List Word) {f : CtxFld} (v : Nat) {i : Nat} (h : i ≠ f.word) : wordAt (ctxPut ws f v) i = wordAt ws i :=
  wordAt_set_other ws _ h

theorem Pkt.get_put_same (p : Pkt) {f : CtxFld} (v : Nat) (hl : p.words.length = 32) (hf : f.fits = true) :
    (p.put f v).get f = v % 2 ^ f.w := ctxGet_put_same p.words v hl hf

theorem Pkt.get_put_other (p : Pkt) {f g : CtxFld} (v : Nat) (h : f.apart g = true) : (p.put g v).get f = p.get f :=
  ctxGet_put_other p.words v h

/-- A field reads what its word holds. -/
theorem Pkt.get_of_word {p q : Pkt} {f : CtxFld} (h : q.word f.word = p.word f.word) : q.get f = p.get f := by
  unfold Pkt.get ctxGet
  rw [← Pkt.word, h, Pkt.word]

theorem ctxGet_lt (ws : List Word) (f : CtxFld) : ctxGet ws f < 2 ^ f.w := Fld.of_lt ⟨f.lo, f.w⟩ _

theorem Pkt.get_lt (p : Pkt) (f : CtxFld) : p.get f < 2 ^ f.w := ctxGet_lt p.words f

@[simp] theorem Pkt.length_put (p : Pkt) (f : CtxFld) (v : Nat) : (p.put f v).words.length = p.words.length := length_ctxPut _ _ _
@[simp] theorem Pkt.length_putWord (p : Pkt) (i : Nat) (v : Word) : (p.putWord i v).words.length = p.words.length := by simp [Pkt.putWord]
@[simp] theorem Pkt.length_pass (p : Pkt) (s : Nat) : (p.pass s).words.length = p.words.length := length_ctxPut _ _ _
@[simp] theorem Pkt.length_dispose (p : Pkt) (x y : Nat) : (p.dispose x y).words.length = p.words.length := by simp [Pkt.dispose]

theorem Pkt.get_dispose_disp (p : Pkt) (x y : Nat) (hl : p.words.length = 32) (hx : x < 16) : (p.dispose x y).get C.DISP = x := by
  unfold Pkt.dispose
  rw [Pkt.get_put_other _ _ (by decide), Pkt.get_put_same _ _ hl (by decide)]
  exact Nat.mod_eq_of_lt hx

theorem Pkt.get_dispose_reason (p : Pkt) (x y : Nat) (hl : p.words.length = 32) : (p.dispose x y).get C.REASON = y % 256 := by
  unfold Pkt.dispose
  rw [Pkt.get_put_same _ _ (by simpa using hl) (by decide)]
  rfl

/-- A disposition leaves every field but DISP and REASON alone. -/
theorem Pkt.get_dispose_other (p : Pkt) (x y : Nat) {f : CtxFld} (hd : f.apart C.DISP = true) (hr : f.apart C.REASON = true) :
    (p.dispose x y).get f = p.get f := by
  unfold Pkt.dispose
  rw [Pkt.get_put_other _ _ hr, Pkt.get_put_other _ _ hd]

theorem Pkt.word_put_other (p : Pkt) (f : CtxFld) (v : Nat) {i : Nat} (h : i ≠ f.word) : (p.put f v).word i = p.word i :=
  wordAt_ctxPut_other p.words v h

theorem Pkt.word_putWord_other (p : Pkt) (v : Word) {i j : Nat} (h : j ≠ i) : (p.putWord i v).word j = p.word j :=
  wordAt_set_other p.words v h

theorem Pkt.word_putWord_same (p : Pkt) (v : Word) {i : Nat} (h : i < p.words.length) : (p.putWord i v).word i = v :=
  wordAt_set_same p.words v h

/-! ### The charge of a stage (R49, R266) -/

@[simp] theorem length_addEnergy (ws : List Word) (n : Nat) : (addEnergy ws n).1.length = ws.length := by
  unfold addEnergy
  dsimp only
  split <;> simp

theorem wordAt_addEnergy (ws : List Word) (n : Nat) {i : Nat} (h1 : i ≠ 1) (h26 : i ≠ 26) : wordAt (addEnergy ws n).1 i = wordAt ws i := by
  unfold addEnergy
  dsimp only
  split
  · rw [wordAt_ctxPut_other _ _ h26, wordAt_ctxPut_other _ _ h1]
  · rw [wordAt_ctxPut_other _ _ h1]

theorem ctxGet_addEnergy_energy (ws : List Word) (n : Nat) (hl : ws.length = 32) :
    ctxGet (addEnergy ws n).1 C.ENERGY = min (ctxGet ws C.ENERGY + n) energyMax := by
  unfold addEnergy
  dsimp only
  split
  next h =>
    rw [ctxGet_put_other _ _ (by decide), ctxGet_put_same _ _ hl (by decide)]
    unfold energyMax at h ⊢
    simp only [C.ENERGY] at h ⊢
    omega
  next h =>
    rw [ctxGet_put_same _ _ hl (by decide)]
    unfold energyMax at h ⊢
    simp only [C.ENERGY] at h ⊢
    omega

theorem ctxGet_addEnergy_other (ws : List Word) (n : Nat) {f : CtxFld} (he : f.apart C.ENERGY = true) (hs : f.apart C.SATURATED = true) :
    ctxGet (addEnergy ws n).1 f = ctxGet ws f := by
  unfold addEnergy
  dsimp only
  split
  · rw [ctxGet_put_other _ _ hs, ctxGet_put_other _ _ he]
  · rw [ctxGet_put_other _ _ he]

/-- A charge changes the three class accumulators of its stage and no other register. -/
theorem Dev.classCount_regsKept (d : Dev) (s got len : Nat) :
    d.regsKept (d.classCount s got len) [Reg.ACT_CLASS_PJ s, Reg.ACT_CLASS_CNT s, Reg.ACT_CLASS_BYTES s] :=
  ((d.count_regsKept _ (by simp)).trans (Dev.count_regsKept _ _ (by simp))).trans (Dev.count_regsKept _ _ (by simp))

theorem Dev.classCount_regsOnly (d : Dev) (s got len : Nat) : d.RegsOnly (d.classCount s got len) :=
  ((d.count_regsOnly _ _).trans (Dev.count_regsOnly _ _ _)).trans (Dev.count_regsOnly _ _ _)

theorem Dev.charge_regsOnly (d : Dev) (p : Pkt) (s : Nat) : d.RegsOnly (d.charge p s).1 := d.classCount_regsOnly s _ _

theorem Dev.charge_regsKept (d : Dev) (p : Pkt) (s : Nat) :
    d.regsKept (d.charge p s).1 [Reg.ACT_CLASS_PJ s, Reg.ACT_CLASS_CNT s, Reg.ACT_CLASS_BYTES s] := d.classCount_regsKept s _ _

theorem Dev.charge_pkt (d : Dev) (p : Pkt) (s : Nat) : (d.charge p s).2 = { p with words := (d.charge p s).2.words } := rfl

@[simp] theorem Dev.charge_length (d : Dev) (p : Pkt) (s : Nat) : (d.charge p s).2.words.length = p.words.length := by simp [Dev.charge]

theorem Dev.charge_word (d : Dev) (p : Pkt) (s : Nat) {i : Nat} (h1 : i ≠ 1) (h26 : i ≠ 26) : (d.charge p s).2.word i = p.word i := by
  unfold Pkt.word Dev.charge
  dsimp only
  rw [wordAt_ctxPut_other _ _ h26, wordAt_addEnergy _ _ h1 h26]

theorem Dev.charge_energy (d : Dev) (p : Pkt) (s : Nat) (hl : p.words.length = 32) :
    (d.charge p s).2.get C.ENERGY = min (p.get C.ENERGY + d.cost s (p.get C.FRAME_LEN)) energyMax := by
  unfold Pkt.get Dev.charge
  dsimp only
  rw [ctxGet_put_other _ _ (by decide), ctxGet_addEnergy_energy _ _ hl]
  rfl

/-- A charge leaves every field but ENERGY, SATURATED and STAGE_MASK alone. -/
theorem Dev.charge_get (d : Dev) (p : Pkt) (s : Nat) {f : CtxFld} (he : f.apart C.ENERGY = true) (hs : f.apart C.SATURATED = true)
    (hm : f.apart C.STAGE_MASK = true) : (d.charge p s).2.get f = p.get f := by
  unfold Pkt.get Dev.charge
  dsimp only
  rw [ctxGet_put_other _ _ hm, ctxGet_addEnergy_other _ _ he hs]

theorem Pkt.get_pass (p : Pkt) (s : Nat) {f : CtxFld} (h : f.apart C.STAGE_MASK = true) : (p.pass s).get f = p.get f :=
  p.get_put_other _ h

/-! ### Buffer data (R315) -/

theorem Dev.dropRef_data (d : Dev) (id : Nat) {x : Data} (h : Map.find d.data id = some x) :
    Map.find (d.dropRef id).data id = if x.refs ≤ 1 then none else some { x with refs := x.refs - 1 } := by
  unfold Dev.dropRef
  rw [h]
  dsimp only
  split <;> simp

theorem Dev.dropRef_dataFreed (d : Dev) (id : Nat) : d.dataFreed (d.dropRef id) id := fun _ h => d.dropRef_data id h

/-- Data that keeps a reference stays where it is, and so do the cells of the spill writer. -/
theorem Dev.dropRef_shared (d : Dev) {id : Nat} {x : Data} (h : Map.find d.data id = some x) (hr : 1 < x.refs) :
    d.dropRef id = { d with data := Map.put d.data id { x with refs := x.refs - 1 } } := by
  unfold Dev.dropRef
  rw [h]
  simp [Nat.not_le.mpr hr]

/-! ### The context and the words of a new packet (R41, R44) -/

/-- Context indexes after `i` steps from `k`. -/
theorem freeCtxFrom_eq (pkts : List (Nat × Pkt)) (fuel k : Nat) (hk : k < 65536) :
    ∃ i, i ≤ fuel ∧ freeCtxFrom pkts k fuel = (k + i) % 65536 ∧ (∀ j, j < i → (Map.find pkts ((k + j) % 65536)).isSome) ∧
      (i < fuel → Map.find pkts ((k + i) % 65536) = none) := by
  induction fuel generalizing k with
  | zero => exact ⟨0, Nat.le_refl _, by simp [freeCtxFrom, Nat.mod_eq_of_lt hk], nofun, nofun⟩
  | succ fuel ih =>
    by_cases hf : (Map.find pkts k).isNone = true
    · exact ⟨0, Nat.zero_le _, by simp [freeCtxFrom, hf, Nat.mod_eq_of_lt hk], nofun,
        fun _ => by simpa [Nat.mod_eq_of_lt hk] using hf⟩
    · obtain ⟨i, hi, he, hs, hn⟩ := ih ((k + 1) % 65536) (Nat.mod_lt _ (by decide))
      have hshift : ∀ j, ((k + 1) % 65536 + j) % 65536 = (k + (j + 1)) % 65536 := by omega
      refine ⟨i + 1, by omega, ?_, ?_, ?_⟩
      · rw [freeCtxFrom, if_neg hf, he, hshift]
      · intro j hj
        cases j with
        | zero => simpa [Nat.mod_eq_of_lt hk, Option.isSome_iff_ne_none] using hf
        | succ j => rw [← hshift]; exact hs j (by omega)
      · intro h
        rw [← hshift]
        exact hn (by omega)

theorem Map.mem_keys_of_find {α : Type} {m : List (Nat × α)} {k : Nat} (h : (Map.find m k).isSome) : k ∈ m.map Prod.fst := by
  induction m with
  | nil => simp [Map.find] at h
  | cons e r ih =>
    obtain ⟨j, v⟩ := e
    by_cases hj : j = k
    · simp [hj]
    · simp only [Map.find, hj, if_false] at h
      simp only [List.map_cons, List.mem_cons]
      exact .inr (ih h)

/-- Fewer packets than contexts leave a context free, and the search finds one. -/
theorem freeCtxFrom_free (pkts : List (Nat × Pkt)) (k : Nat) (hk : k < 65536) (hlen : pkts.length < 65536) :
    freeCtxFrom pkts k pkts.length < 65536 ∧ Map.find pkts (freeCtxFrom pkts k pkts.length) = none := by
  obtain ⟨i, hi, he, hs, hn⟩ := freeCtxFrom_eq pkts pkts.length k hk
  rw [he]
  refine ⟨Nat.mod_lt _ (by decide), ?_⟩
  rcases Nat.lt_or_eq_of_le hi with hlt | rfl
  · exact hn hlt
  · by_contra hsome
    have hall : ∀ j, j < pkts.length + 1 → (k + j) % 65536 ∈ pkts.map Prod.fst := by
      intro j hj
      apply Map.mem_keys_of_find
      rcases Nat.lt_succ_iff_lt_or_eq.mp hj with h | rfl
      · exact hs j h
      · exact Option.isSome_iff_ne_none.mpr hsome
    have hsub : (Finset.range (pkts.length + 1)).image (fun j => (k + j) % 65536) ⊆ (pkts.map Prod.fst).toFinset := by
      intro x hx
      obtain ⟨j, hj, rfl⟩ := Finset.mem_image.mp hx
      exact List.mem_toFinset.mpr (hall j (Finset.mem_range.mp hj))
    have hinj : ((Finset.range (pkts.length + 1)).image fun j => (k + j) % 65536).card = pkts.length + 1 := by
      rw [Finset.card_image_of_injOn, Finset.card_range]
      intro a ha b hb hab
      simp only [Finset.coe_range, Set.mem_Iio] at ha hb
      simp only at hab
      omega
    have hcard := (Finset.card_le_card hsub).trans (List.toFinset_card_le _)
    rw [hinj, List.length_map] at hcard
    omega

theorem Dev.newCtx_free (d : Dev) (h : d.pkts.length < 65536) : d.newCtx.1 < 65536 ∧ d.pkt d.newCtx.1 = none :=
  freeCtxFrom_free d.pkts _ (Nat.mod_lt _ (by decide)) h

theorem Dev.newCtx_snd (d : Dev) : d.newCtx.2 = { d with freeCtr := d.freeCtr + 1 } := rfl

/-- A new packet's G may use a free value and note its source; nothing else changes. -/
theorem Dev.newG_snd (d : Dev) (src : Nat) : (d.newG src).2 = { d with freeCtr := (d.newG src).2.freeCtr, flipped := (d.newG src).2.flipped } := by
  unfold Dev.newG
  split
  · rfl
  · split
    · rfl
    · dsimp only
      split <;> rfl

theorem Dev.newG_fst (d : Dev) (src : Nat) (h : d.flipping = false) : (d.newG src).1 = d.activeG := by simp [Dev.newG, h]

theorem Dev.activeG_lt (d : Dev) : d.activeG < 2 := Fld.of_lt F.STR_GEN_ACTIVE _

theorem wordAt_ctxZero (i : Nat) : wordAt ctxZero i = 0 := by
  unfold wordAt ctxZero
  rw [List.getElem?_replicate]
  split <;> rfl

/-- The words of a new context beside 0, 1 and 27 are zero. -/
theorem wordAt_newWords (port pipe g len ts c : Nat) {i : Nat} (h0 : i ≠ 0) (h1 : i ≠ 1) (h27 : i ≠ 27) :
    wordAt (newWords port pipe g len ts c) i = 0 := by
  unfold newWords
  dsimp only
  rw [wordAt_ctxPut_other _ _ h27, wordAt_ctxPut_other _ _ h1, wordAt_ctxPut_other _ _ h1, wordAt_ctxPut_other _ _ h0, wordAt_ctxPut_other _ _ h0,
    wordAt_ctxPut_other _ _ h0, wordAt_ctxPut_other _ _ h0, wordAt_ctxZero]

@[simp] theorem length_newWords (port pipe g len ts c : Nat) : (newWords port pipe g len ts c).length = 32 := by simp [newWords, ctxZero]

theorem ctxGet_ctxZero (f : CtxFld) : ctxGet ctxZero f = 0 := by
  unfold ctxGet
  rw [wordAt_ctxZero]
  simp [Fld.of]

end Sys2Proof.Machine
end

section
/-! PROOFS. The receive rims and the crossings (R30, R31, R35, R42, R120 to R122, R380). -/

namespace Sys2Proof.Machine

/-! ### Counters of a port -/

theorem Reg.PRT_COUNT_inj (n i j : Nat) : Reg.PRT_COUNT n i = Reg.PRT_COUNT n j ↔ i = j := by
  simp only [Reg.PRT_COUNT]
  omega

/-- A register of a port's counters is none of those numbered `l`. -/
theorem not_mem_portCounts (n i : Nat) (l : List Nat) (h : i ∉ l) : Reg.PRT_COUNT n i ∉ l.map (Reg.PRT_COUNT n) := by
  simp only [List.mem_map, Reg.PRT_COUNT_inj, exists_eq_right]
  exact h

theorem Dev.count_portCounts (d : Dev) (n i k : Nat) (l : List Nat) (h : i ∈ l) : d.regsKept (d.count (Reg.PRT_COUNT n i) k) (l.map (Reg.PRT_COUNT n)) :=
  d.count_regsKept k (List.mem_map_of_mem h)

/-! ### FRAME_RX (R120 to R122, R134) -/

theorem exec_frameRx (n : Nat) (bs : List Byte) (ok : Bool) (ago : BitVec 40) (frags : Nat) (s : State) :
    exec (.frameRx n bs ok ago frags) s = .next (s.withDev (if s.dev.up then s.dev.frameRx n bs ok ago frags else s.dev)) := rfl

theorem Dev.frameRx_notUp (d : Dev) (n : Nat) (bs : List Byte) (ok : Bool) (ago : BitVec 40) (frags : Nat) (h : d.portState n ≠ stUp) :
    d.frameRx n bs ok ago frags = d := by
  unfold Dev.frameRx
  rw [if_pos (.inr h)]

/-- A frame of good length with a good FCS is counted, and kept unless it is a MAC control frame. -/
theorem Dev.frameRx_good (d : Dev) (n : Nat) (bs : List Byte) (ago : BitVec 40) (frags : Nat) (hn : n < 130) (hu : d.portState n = stUp)
    (h64 : 64 ≤ bs.length + 4) (hmax : bs.length + 4 ≤ F.PRT_MODE_MAX_FRAME.of (d.modeOf n)) :
    d.frameRx n bs true ago frags =
      if be16 bs 12 = 0x8808 then (d.countRx n bs frags).count (Reg.PRT_COUNT n 7) 1 else (d.countRx n bs frags).storeRx n bs ago := by
  unfold Dev.frameRx
  rw [if_neg (by simp [hu, hn]), if_neg (by omega), if_neg (by omega)]
  rfl

/-- What the counts of a good frame change: registers only, and of those, after the counts of frames and octets, the kinds of frames and
fragments. -/
theorem Dev.countRx_counts (d : Dev) (n : Nat) (bs : List Byte) (frags : Nat) :
    let e := (d.count (Reg.PRT_COUNT n 0) 1).count (Reg.PRT_COUNT n 1) bs.length
    e.RegsOnly (d.countRx n bs frags) ∧ e.regsKept (d.countRx n bs frags) ([5, 6, 18, 19].map (Reg.PRT_COUNT n)) := by
  intro e
  have hkind : ∀ f : Dev, e.RegsOnly f ∧ e.regsKept f ([5, 6, 18, 19].map (Reg.PRT_COUNT n)) →
      let g := if frags = 0 ∨ n ≥ 128 then f else (f.count (Reg.PRT_COUNT n 18) 1).count (Reg.PRT_COUNT n 19) frags
      e.RegsOnly g ∧ e.regsKept g ([5, 6, 18, 19].map (Reg.PRT_COUNT n)) := by
    intro f ⟨ho, hk⟩
    dsimp only
    split
    · exact ⟨ho, hk⟩
    · exact ⟨(ho.trans (f.count_regsOnly _ _)).trans (Dev.count_regsOnly _ _ _),
        (hk.trans (f.count_portCounts n 18 _ _ (by decide))).trans (Dev.count_portCounts _ n 19 _ _ (by decide))⟩
  unfold Dev.countRx
  apply hkind
  split
  · exact ⟨e.count_regsOnly _ _, e.count_portCounts n 6 _ _ (by decide)⟩
  · split
    · exact ⟨e.count_regsOnly _ _, e.count_portCounts n 5 _ _ (by decide)⟩
    · exact ⟨.refl e, .refl e _⟩

theorem Dev.countRx_regsOnly (d : Dev) (n : Nat) (bs : List Byte) (frags : Nat) : d.RegsOnly (d.countRx n bs frags) :=
  ((d.count_regsOnly _ _).trans (Dev.count_regsOnly _ _ _)).trans (d.countRx_counts n bs frags).1

theorem Dev.countRx_regsKept (d : Dev) (n : Nat) (bs : List Byte) (frags : Nat) :
    d.regsKept (d.countRx n bs frags) ([0, 1, 5, 6, 18, 19].map (Reg.PRT_COUNT n)) :=
  ((d.count_portCounts n 0 _ _ (by decide)).trans (Dev.count_portCounts _ n 1 _ _ (by decide))).trans
    ((d.countRx_counts n bs frags).2.mono (List.map_subset _ (by decide)))

theorem Dev.countRx_frames (d : Dev) (n : Nat) (bs : List Byte) (frags : Nat) :
    (d.countRx n bs frags).reg (Reg.PRT_COUNT n 0) = d.plus (Reg.PRT_COUNT n 0) 1 := by
  rw [(d.countRx_counts n bs frags).2 _ (not_mem_portCounts n 0 _ (by decide)),
    Dev.reg_count_other _ _ _ _ (by simp [Reg.PRT_COUNT_inj]), Dev.reg_count]

theorem Dev.countRx_octets (d : Dev) (n : Nat) (bs : List Byte) (frags : Nat) :
    (d.countRx n bs frags).reg (Reg.PRT_COUNT n 1) = d.plus (Reg.PRT_COUNT n 1) bs.length := by
  rw [(d.countRx_counts n bs frags).2 _ (not_mem_portCounts n 1 _ (by decide))]
  exact (d.count_portCounts n 0 1 [0] (by decide)).count (not_mem_portCounts n 1 _ (by decide)) _

/-- The receive rim of a frame, and the time at its timestamp point, rest on registers that its counts leave alone. -/
theorem Dev.storeRx_congr {d e : Dev} (n : Nat) (ho : d.RegsOnly e) (hk : d.regsKept e ([0, 1, 5, 6, 18, 19].map (Reg.PRT_COUNT n))) (hn : n < 130)
    (ago : BitVec 40) : e.rxq = d.rxq ∧ e.quadOf n = d.quadOf n ∧ e.rxTime n ago = d.rxTime n ago := by
  have hreg : ∀ a, a < 0x100800 + 0x1000 * n → e.reg a = d.reg a := by
    intro a ha
    apply hk
    simp only [List.mem_map, not_exists, not_and, Reg.PRT_COUNT]
    omega
  refine ⟨by rw [ho], ?_, ?_⟩
  · unfold Dev.quadOf Dev.modeOf Dev.portState Dev.fld Dev.port
    rw [hreg _ (by simp only [Reg.PRT_STATUS]; omega), hreg _ (by simp only [Reg.PRT_MODE]; omega), ho]
  · unfold Dev.rxTime Dev.fld
    rw [hreg _ (by simp only [Reg.TIM_PORT_LAT]; omega), ho]
    rfl

/-- A good frame joins its quad's rim while that holds at most 64 KiB with it (R31). -/
theorem Dev.storeRx_room (d : Dev) (n : Nat) (bs : List Byte) (ago : BitVec 40)
    (h : rimBytes (Map.getD d.rxq (d.quadOf n) []) + bs.length + 4 ≤ 65536) :
    d.storeRx n bs ago = { d with rxq := Map.put d.rxq (d.quadOf n) (Map.getD d.rxq (d.quadOf n) [] ++ [⟨n, bs, d.rxTime n ago⟩]) } := by
  unfold Dev.storeRx
  exact if_neg (by omega)

theorem Dev.storeRx_full (d : Dev) (n : Nat) (bs : List Byte) (ago : BitVec 40)
    (h : 65536 < rimBytes (Map.getD d.rxq (d.quadOf n) []) + bs.length + 4) : d.storeRx n bs ago = d.count (Reg.PRT_COUNT n 8) 1 := by
  unfold Dev.storeRx
  exact if_pos h

/-- Storing a frame changes the rims, or the count of the frames that found no room. -/
theorem Dev.storeRx_frame (d : Dev) (n : Nat) (bs : List Byte) (ago : BitVec 40) :
    (∃ r q, d.storeRx n bs ago = { d with regs := r, rxq := q }) ∧ d.regsKept (d.storeRx n bs ago) ([8].map (Reg.PRT_COUNT n)) := by
  rcases Nat.lt_or_ge 65536 (rimBytes (Map.getD d.rxq (d.quadOf n) []) + bs.length + 4) with h | h
  · rw [d.storeRx_full n bs ago h]
    exact ⟨⟨_, d.rxq, rfl⟩, d.count_portCounts n 8 _ _ (by decide)⟩
  · rw [d.storeRx_room n bs ago h]
    exact ⟨⟨d.regs, _, rfl⟩, Dev.regsKept_of_regs rfl _⟩

/-- Settles O8: a frame of bad length or with a bad FCS by the branches of FRAME_RX, a good one by its counts and what is then done with it. -/
theorem frameArrives : Obligations.FrameArrives := by
  unfold Obligations.FrameArrives
  constructor
  · intro n bs ok ago frags s out len most
    constructor
    · intro h
      show exec _ s = _
      rw [exec_frameRx, s.dev.frameRx_notUp n bs ok ago frags h, ite_self]
      rfl
    · intro hu hn hup
      have hc : ¬ (n ≥ 130 ∨ s.dev.portState n ≠ stUp) := by simp [hup, hn]
      have hout : out = .next (s.withDev (s.dev.frameRx n bs ok ago frags)) := by
        show exec _ s = _
        rw [exec_frameRx, if_pos hu]
      refine ⟨fun h => ?_, fun h h' => ?_, fun h h' hok => ?_⟩
      · rw [hout, Dev.frameRx, if_neg hc, if_pos h]
        rfl
      · rw [hout, Dev.frameRx, if_neg hc, if_neg (Nat.not_lt.mpr h), if_pos h']
        rfl
      · have hplus : (s.dev.count (Reg.PRT_COUNT n 2) 1).plus (Reg.PRT_COUNT n 16) 1 = s.dev.plus (Reg.PRT_COUNT n 16) 1 := by
          unfold Dev.plus
          rw [Dev.reg_count_other _ _ _ _ (by simp [Reg.PRT_COUNT_inj])]
        rw [hout, Dev.frameRx, if_neg hc, if_neg (Nat.not_lt.mpr h), if_neg (Nat.not_lt.mpr h'), hok, ← hplus]
        rfl
  · intro n bs ago frags s hu hn hup h64 hmax rim
    have ho := s.dev.countRx_regsOnly n bs frags
    have hk := s.dev.countRx_regsKept n bs frags
    obtain ⟨hrxq, hquad, htime⟩ := Dev.storeRx_congr n ho hk hn ago
    have hrim : Map.getD (s.dev.countRx n bs frags).rxq ((s.dev.countRx n bs frags).quadOf n) [] = rim := by rw [hrxq, hquad]
    have hk8 : s.dev.regsKept (s.dev.countRx n bs frags) ([0, 1, 5, 6, 7, 8, 18, 19].map (Reg.PRT_COUNT n)) :=
      hk.mono (List.map_subset _ (by decide))
    refine ⟨_, by rw [exec_frameRx, if_pos hu, s.dev.frameRx_good n bs ago frags hn hup h64 hmax], ?_⟩
    by_cases hmac : be16 bs 12 = 0x8808
    · simp only [State.withDev]
      rw [if_pos hmac]
      refine ⟨?_, ?_, ?_, hk8.trans (Dev.count_portCounts _ n 7 _ _ (by decide)), fun _ => ⟨hrxq, hk.count (not_mem_portCounts n 7 _ (by decide)) _⟩,
        fun h => absurd hmac h, fun h => absurd hmac h⟩
      · rw [ho]
        rfl
      · rw [Dev.reg_count_other _ _ _ _ (by simp [Reg.PRT_COUNT_inj]), s.dev.countRx_frames n bs frags]
      · rw [Dev.reg_count_other _ _ _ _ (by simp [Reg.PRT_COUNT_inj]), s.dev.countRx_octets n bs frags]
    · obtain ⟨⟨r, q, hrest⟩, hkept⟩ := (s.dev.countRx n bs frags).storeRx_frame n bs ago
      simp only [State.withDev]
      rw [if_neg hmac]
      refine ⟨?_, ?_, ?_, hk8.trans (hkept.mono (List.map_subset _ (by decide))), fun h => absurd h hmac, fun _ h => ?_, fun _ h => ?_⟩
      · rw [hrest, ho]
      · rw [hkept _ (not_mem_portCounts n 0 _ (by decide)), s.dev.countRx_frames n bs frags]
      · rw [hkept _ (not_mem_portCounts n 1 _ (by decide)), s.dev.countRx_octets n bs frags]
      · rw [Dev.storeRx_room _ _ _ _ (by rw [hrim]; exact h), hrim, htime, hquad]
        simp [Map.getD, Dev.rxTime]
      · rw [Dev.storeRx_full _ _ _ _ (by rw [hrim]; exact h)]
        exact ⟨hrxq, hk.count (not_mem_portCounts n 8 _ (by decide)) _⟩

end Sys2Proof.Machine
end

section
/-! PROOFS. A new packet in a context that no packet held (R35, R41, R44), and the crossing. -/

namespace Sys2Proof.Machine

/-! ### A new packet (R44) -/

theorem Dev.newG_lt (d : Dev) (src : Nat) : (d.newG src).1 < 2 := by
  have h := d.activeG_lt
  have h' : 1 - d.activeG < 2 := by omega
  unfold Dev.newG
  split
  · exact h
  · split
    · exact h'
    · dsimp only
      split
      · exact h
      · exact h'

/-- What a new packet is: its context is one that no packet held, its words are those of R44, and beside a serial number the device has used free
values and noted the source while a flip switches the sources. -/
structure Dev.NewPkt (d : Dev) (src port pipe ts : Nat) (bs : List Byte) (c : Nat) (p : Pkt) (e : Dev) : Prop where
  ctx : c < 65536
  free : d.pkt c = none
  dev : ∃ k l, e = { d with freeCtr := k, flipped := l, pidCtr := d.pidCtr + 1 }
  words : ∃ g, g < 2 ∧ (d.flipping = false → g = d.activeG) ∧ p.words = newWords port pipe g (bs.length + 4) ts c
  pid : p.pid = d.pidCtr + 1
  stage : p.stage = .crossed
  bytes : p.bytes = bs
  fromHost : p.fromHost = (src == 130)

theorem Dev.newPkt_spec (d : Dev) (src port pipe ts : Nat) (bs : List Byte) (h : d.pkts.length < 65536) :
    let x := d.newPkt src port pipe ts bs
    d.NewPkt src port pipe ts bs x.1 x.2.1 x.2.2 := by
  have hp : (d.newG src).2.pkts = d.pkts := by rw [d.newG_snd src]
  have hfree := (d.newG src).2.newCtx_free (by rw [hp]; exact h)
  unfold Dev.pkt at hfree
  rw [hp] at hfree
  obtain ⟨hc, hnone⟩ := hfree
  refine ⟨hc, hnone, ⟨(d.newG src).2.freeCtr + 1, (d.newG src).2.flipped, ?_⟩, ⟨_, d.newG_lt src, d.newG_fst src, rfl⟩, ?_, rfl, rfl, rfl⟩
  · unfold Dev.newPkt
    dsimp only
    rw [Dev.newCtx_snd, d.newG_snd src]
  · show (d.newG src).2.newCtx.2.pidCtr + 1 = d.pidCtr + 1
    rw [Dev.newCtx_snd, d.newG_snd src]

/-- A field that shares no bit with those that a new context sets reads zero. -/
theorem newWords_zero (port pipe g len ts c : Nat) {f : CtxFld}
    (h : [C.IN_PORT, C.IN_PIPE, C.G, C.FRAME_LEN, C.RX_TS_NS, C.RX_TS_FRAC, C.ORIG_CTX].all f.apart = true) :
    ctxGet (newWords port pipe g len ts c) f = 0 := by
  simp only [List.all_cons, List.all_nil, Bool.and_eq_true] at h
  obtain ⟨h1, h2, h3, h4, h5, h6, h7, _⟩ := h
  unfold newWords
  dsimp only
  rw [ctxGet_put_other _ _ h7, ctxGet_put_other _ _ h6, ctxGet_put_other _ _ h5, ctxGet_put_other _ _ h4, ctxGet_put_other _ _ h3,
    ctxGet_put_other _ _ h2, ctxGet_put_other _ _ h1, ctxGet_ctxZero]

/-- The fields that a new context sets, where each fits its width. -/
theorem newWords_fields {port pipe g len ts c : Nat} (hport : port < 256) (hpipe : pipe < 8) (hg : g < 2) (hlen : len < 16384) (hts : ts < 2 ^ 40)
    (hc : c < 65536) :
    let ws := newWords port pipe g len ts c
    ctxGet ws C.IN_PORT = port ∧ ctxGet ws C.IN_PIPE = pipe ∧ ctxGet ws C.G = g ∧ ctxGet ws C.FRAME_LEN = len ∧
    ctxGet ws C.RX_TS_NS = ts / 256 ∧ ctxGet ws C.RX_TS_FRAC = ts % 256 ∧ ctxGet ws C.ORIG_CTX = c := by
  have hsame : ∀ (ws : List Word) (f : CtxFld) (v : Nat), ws.length = 32 → f.fits = true → v < 2 ^ f.w → ctxGet (ctxPut ws f v) f = v :=
    fun ws f v hl hf hv => (ctxGet_put_same ws v hl hf).trans (Nat.mod_eq_of_lt hv)
  unfold newWords
  dsimp only
  refine ⟨?_, ?_, ?_, ?_, ?_, ?_, hsame _ _ _ (by simp [ctxZero]) (by decide) hc⟩ <;> simp (disch := decide) only [ctxGet_put_other]
  · exact hsame _ _ _ (by simp [ctxZero]) (by decide) hport
  · exact hsame _ _ _ (by simp [ctxZero]) (by decide) hpipe
  · exact hsame _ _ _ (by simp [ctxZero]) (by decide) hg
  · exact hsame _ _ _ (by simp [ctxZero]) (by decide) hlen
  · exact hsame _ _ _ (by simp [ctxZero]) (by decide) (by simp only [C.RX_TS_NS]; omega)
  · exact hsame _ _ _ (by simp [ctxZero]) (by decide) (by simp only [C.RX_TS_FRAC]; omega)

theorem pipeOfPort_lt {n : Nat} (h : n < 130) : pipeOfPort n < 8 := by
  unfold pipeOfPort
  split
  · omega
  · split <;> omega

/-! ### CROSSING (R30, R35, R42) -/

theorem exec_crossing (k : Nat) (s : State) :
    exec (.crossing k) s = .next (s.withDev (if s.dev.running then s.dev.crossing k else s.dev)) := rfl

/-- The crossing takes the frame of the port whose turn it is. -/
theorem Dev.crossing_takes (d : Dev) (k : Nat) (f : RxFrame)
    (hf : (Map.getD d.rxq k []).find? (fun g => d.inTurn (pipeOfPort g.port) g.port) = some f) (hpool : d.poolFree = true)
    (hline : d.lineUp (pipeOfPort f.port) = true) (hlen : d.pkts.length < 65536) :
    ∃ c p e, (d.granted (pipeOfPort f.port) f.port).NewPkt f.port f.port (pipeOfPort f.port) f.ts.toNat f.bytes c p e ∧
      d.crossing k = { e with rxq := putList e.rxq k ((Map.getD d.rxq k []).eraseP fun g => g.port == f.port) }.setPkt c p := by
  refine ⟨_, _, _, (d.granted (pipeOfPort f.port) f.port).newPkt_spec f.port f.port (pipeOfPort f.port) f.ts.toNat f.bytes hlen, ?_⟩
  unfold Dev.crossing
  simp only [hf, hpool, hline, Bool.not_true, Bool.or_self, Bool.false_eq_true, if_false]
  rfl

/-- Without a free context, or with no port of the rim in its turn, nothing is taken. -/
theorem Dev.crossing_waits (d : Dev) (k : Nat)
    (h : d.poolFree = false ∨ ∀ f ∈ Map.getD d.rxq k [], d.inTurn (pipeOfPort f.port) f.port = false) : d.crossing k = d := by
  unfold Dev.crossing
  dsimp only
  split
  next => rfl
  next f hf =>
    rcases h with h | h
    · simp [h]
    · have hturn := List.find?_some hf
      simp only [h f (List.mem_of_find?_eq_some hf), Bool.false_eq_true] at hturn

theorem getD_putList_same {α : Type} (m : List (Nat × List α)) (k : Nat) (l : List α) : Map.getD (putList m k l) k [] = l := by
  unfold putList Map.getD
  split
  next h => simp [List.isEmpty_iff.mp h]
  next => simp

theorem getD_putList_other {α : Type} (m : List (Nat × List α)) {k j : Nat} (l : List α) (h : j ≠ k) :
    Map.getD (putList m k l) j [] = Map.getD m j [] := by
  unfold putList Map.getD
  split
  · rw [Map.find_del_other _ _ _ h]
  · rw [Map.find_put_other _ _ _ _ h]

/-- Settles O9: the crossing's two branches, and what a new packet in a context holds. -/
theorem crossing : Obligations.Crossing := by
  unfold Obligations.Crossing
  constructor
  · intro k f s hr hf hpool hline hlen hport hbytes
    obtain ⟨c, p, e, hnew, hcross⟩ := s.dev.crossing_takes k f hf hpool hline hlen
    obtain ⟨n, l, rfl⟩ := hnew.dev
    obtain ⟨g, hg, hgen, hwords⟩ := hnew.words
    obtain ⟨hin, hpipe, hg', hlen', hns, hfrac, hctx⟩ :=
      newWords_fields (by omega : f.port < 256) (pipeOfPort_lt hport) hg hbytes f.ts.isLt hnew.ctx
    rw [← hwords] at hin hpipe hg' hlen' hns hfrac hctx
    have hzero : ∀ x : CtxFld, [C.IN_PORT, C.IN_PIPE, C.G, C.FRAME_LEN, C.RX_TS_NS, C.RX_TS_FRAC, C.ORIG_CTX].all x.apart = true → p.get x = 0 :=
      fun x h => (congrArg (ctxGet · x) hwords).trans (newWords_zero _ _ _ _ _ _ h)
    have hexec : exec (.crossing k) s = .next (s.withDev (s.dev.crossing k)) := by rw [exec_crossing, if_pos hr]
    rw [hcross] at hexec
    refine ⟨_, c, p, hexec, hnew.ctx, hnew.free, Dev.pkt_setPkt_same _ _ _, fun j hj => Dev.pkt_setPkt_other _ _ _ _ hj, getD_putList_same _ _ _,
      rfl, rfl, rfl, hnew.stage, hnew.bytes, hin, hpipe, hzero C.PASS (by decide), hlen', hns, hfrac, hzero C.ENERGY (by decide), hctx,
      hzero C.COPY (by decide), fun h => hg'.trans (hgen h), fun i h0 h1 h27 => ?_⟩
    rw [Pkt.word, hwords, wordAt_newWords _ _ _ _ _ _ h0 h1 h27]
  · intro k s h
    rw [exec_crossing, s.dev.crossing_waits k h, ite_self]
    rfl

end Sys2Proof.Machine
end

section
/-! PROOFS. The action unit (R43, R157, R244 to R249, R263): what the merge writes, what it leaves, and how a packet is discarded (R53). -/

namespace Sys2Proof.Machine

/-! ### Bytes of a context (R9, R44) -/

theorem leNat_leBytes (n x : Nat) : leNat (leBytes n x) = x % 256 ^ n := by
  induction n generalizing x with
  | zero => simp [leBytes, leNat, Nat.mod_one]
  | succ n ih =>
    have hpow : 256 ^ (n + 1) = 256 * 256 ^ n := Nat.pow_succ'
    rw [leBytes, leNat, ih, BitVec.toNat_ofNat, hpow, Nat.mod_mul]

@[simp] theorem length_leBytes (n x : Nat) : (leBytes n x).length = n := by
  induction n generalizing x with
  | zero => rfl
  | succ n ih => simp [leBytes, ih]

theorem leNat_wordBytes (w : Word) : leNat (wordBytes w) = w.toNat := by
  rw [wordBytes, leNat_leBytes]
  exact Nat.mod_eq_of_lt w.isLt

theorem wordsBytes_cons (w : Word) (ws : List Word) : wordsBytes (w :: ws) = wordBytes w ++ wordsBytes ws := rfl

@[simp] theorem length_wordsBytes (ws : List Word) : (wordsBytes ws).length = 8 * ws.length := by
  induction ws with
  | nil => rfl
  | cons w ws ih =>
    rw [wordsBytes_cons, List.length_append, ih, wordBytes, length_leBytes, List.length_cons]
    omega

/-- Eight bytes from 8 `k` on are word `k`. -/
theorem take_drop_wordsBytes (ws : List Word) (k : Nat) (h : k < ws.length) : ((wordsBytes ws).drop (8 * k)).take 8 = wordBytes (wordAt ws k) := by
  have h8 : ∀ w : Word, (wordBytes w).length = 8 := fun w => length_leBytes 8 _
  induction ws generalizing k with
  | nil => simp at h
  | cons w ws ih =>
    rw [wordsBytes_cons]
    cases k with
    | zero => rw [Nat.mul_zero, List.drop_zero, List.take_left' (h8 w)]; rfl
    | succ k =>
      rw [show 8 * (k + 1) = (wordBytes w).length + 8 * k by rw [h8]; omega, ← List.drop_drop, List.drop_left, ih k (by simpa using h)]
      rfl

theorem take_overlay (bs xs : List Byte) (i : Nat) (h : i ≤ bs.length) : (overlay bs i xs).take i = bs.take i := by
  unfold overlay
  rw [List.take_take, Nat.min_eq_left h, List.append_assoc, List.take_append_of_le_length (by simp [h]), List.take_take, Nat.min_self]

/-- Writing context bytes from offset `i` on leaves every word before it. -/
theorem Pkt.word_putBytes_before (p : Pkt) (bs : List Byte) {i k : Nat} (hl : p.words.length = 32) (hk : 8 * (k + 1) ≤ i) (hi : i ≤ 256) :
    (p.putBytes i bs).word k = p.word k := by
  have hlen : (wordsBytes p.words).length = 256 := by rw [length_wordsBytes, hl]
  have hbytes : ((overlay (wordsBytes p.words) i bs).drop (8 * k)).take 8 = wordBytes (wordAt p.words k) := by
    have hcut : ∀ l : List Byte, (l.drop (8 * k)).take 8 = (((l.take i).drop (8 * k)).take 8) := by
      intro l
      rw [List.drop_take, List.take_take, Nat.min_eq_left (by omega)]
    rw [hcut, take_overlay _ _ _ (by omega), ← hcut, take_drop_wordsBytes _ _ (by omega)]
  have hword : word64 (overlay (wordsBytes p.words) i bs) (8 * k) = (wordAt p.words k).toNat := by
    unfold word64 slice
    rw [hbytes]
    simp [wordBytes, leNat_leBytes, Nat.mod_eq_of_lt (wordAt p.words k).isLt]
  unfold Pkt.word Pkt.putBytes bytesWords wordAt
  rw [List.getElem?_map, List.getElem?_range (by omega)]
  simp only [Option.map_some, Option.getD_some, hword, BitVec.ofNat_toNat, BitVec.setWidth_eq]
  rfl

@[simp] theorem Pkt.length_putBytes (p : Pkt) (i : Nat) (bs : List Byte) : (p.putBytes i bs).words.length = 32 := by
  simp [Pkt.putBytes, bytesWords]

/-! ### The merge (R243 to R246) -/

/-- What the first word of a type with a flag gives its group, 0 without one (R243). -/
def groupVal (ws : List Nat) (type flag lo w : Nat) : Nat :=
  match firstOf ws type flag with
  | some x => bitsOf x lo w
  | none => 0

theorem bitsOf_lt (x lo w : Nat) : bitsOf x lo w < 2 ^ w := Nat.mod_lt _ (Nat.two_pow_pos w)

theorem groupVal_lt (ws : List Nat) (type flag lo w : Nat) : groupVal ws type flag lo w < 2 ^ w := by
  unfold groupVal
  split
  · exact bitsOf_lt _ _ _
  · exact Nat.two_pow_pos w

/-- The merge's fields before its metadata. -/
def groupFields (ws : List Nat) (p : Pkt) : Pkt :=
  let p := (p.put C.TC (groupVal ws 2 19 20 3)).put C.COLOR (groupVal ws 2 23 24 2)
  let p := (p.put C.POLICE_EN (groupVal ws 2 26 27 1)).put C.POLICER (groupVal ws 2 26 28 16)
  (p.put C.MIRROR (groupVal ws 2 44 45 7)).put C.REWRITE_PTR (groupVal ws 1 0 40 20)

@[simp] theorem length_groupFields (ws : List Nat) (p : Pkt) : (groupFields ws p).words.length = p.words.length := by simp [groupFields]

theorem mergeFields_words (ws : List Nat) (p : Pkt) :
    ∃ bs, (mergeFields ws p).words = ((groupFields ws p).putBytes 0xE0 bs).words := ⟨_, rfl⟩

@[simp] theorem length_mergeFields (ws : List Nat) (p : Pkt) : (mergeFields ws p).words.length = 32 := by
  obtain ⟨bs, h⟩ := mergeFields_words ws p
  rw [h, Pkt.length_putBytes]

/-- The merge's metadata leave every field before word 28 as the groups set it. -/
theorem mergeFields_get (ws : List Nat) (p : Pkt) (hl : p.words.length = 32) {f : CtxFld} (hf : f.word < 28) :
    (mergeFields ws p).get f = (groupFields ws p).get f := by
  obtain ⟨bs, h⟩ := mergeFields_words ws p
  apply Pkt.get_of_word
  rw [Pkt.word, h, ← Pkt.word, Pkt.word_putBytes_before _ _ (by simpa using hl) (by omega) (by omega)]

/-- The values that the merge gives TC, COLOR, POLICER and MIRROR. -/
theorem groupFields_get (ws : List Nat) (p : Pkt) (hl : p.words.length = 32) :
    (groupFields ws p).get C.TC = groupVal ws 2 19 20 3 ∧ (groupFields ws p).get C.COLOR = groupVal ws 2 23 24 2 ∧
    (groupFields ws p).get C.POLICER = groupVal ws 2 26 28 16 ∧ (groupFields ws p).get C.MIRROR = groupVal ws 2 44 45 7 := by
  unfold groupFields
  dsimp only
  refine ⟨?_, ?_, ?_, ?_⟩ <;> simp (disch := decide) only [Pkt.get_put_other]
  · rw [Pkt.get_put_same _ _ hl (by decide)]
    exact Nat.mod_eq_of_lt (groupVal_lt _ _ _ _ _)
  · rw [Pkt.get_put_same _ _ (by simpa using hl) (by decide)]
    exact Nat.mod_eq_of_lt (groupVal_lt _ _ _ _ _)
  · rw [Pkt.get_put_same _ _ (by simpa using hl) (by decide)]
    exact Nat.mod_eq_of_lt (groupVal_lt _ _ _ _ _)
  · rw [Pkt.get_put_same _ _ (by simpa using hl) (by decide)]
    exact Nat.mod_eq_of_lt (groupVal_lt _ _ _ _ _)

/-- The groups leave every other field alone. -/
theorem groupFields_other (ws : List Nat) (p : Pkt) {f : CtxFld}
    (h : [C.TC, C.COLOR, C.POLICE_EN, C.POLICER, C.MIRROR, C.REWRITE_PTR].all f.apart = true) : (groupFields ws p).get f = p.get f := by
  simp only [List.all_cons, List.all_nil, Bool.and_eq_true] at h
  obtain ⟨h1, h2, h3, h4, h5, h6, _⟩ := h
  unfold groupFields
  dsimp only
  rw [Pkt.get_put_other _ _ h6, Pkt.get_put_other _ _ h5, Pkt.get_put_other _ _ h4, Pkt.get_put_other _ _ h3, Pkt.get_put_other _ _ h2,
    Pkt.get_put_other _ _ h1]

/-- The merge of a FORWARD packet (R244 to R246). -/
theorem mergeDisp_forward (ws : List Nat) (bad : Bool) (p : Pkt) (h : p.get C.DISP = Disp.forward) :
    (bad = true → mergeDisp ws bad p = (p.dispose Disp.drop 0x20, .bad)) ∧
    (bad = false → firstOf ws 1 0 = none → mergeDisp ws bad p = (p.dispose Disp.drop 0x29, .noDest)) ∧
    (∀ w, bad = false → firstOf ws 1 0 = some w → (mergeDest w p).get C.DISP ≠ Disp.recirc → mergeDisp ws bad p = (mergeDest w p, .none)) := by
  unfold mergeDisp
  refine ⟨fun hb => by rw [if_pos h, if_pos hb], fun hb hn => ?_, fun w hb hw hr => ?_⟩
  · rw [if_pos h, if_neg (by simp [hb]), hn]
  · rw [if_pos h, if_neg (by simp [hb]), hw]
    exact if_neg fun hc => hr hc.1

/-- A word that names a port sends the packet there. -/
theorem mergeDest_port (w : Nat) (p : Pkt) (h0 : awDop w = 0) (hd : awDest w ≤ 129) :
    mergeDest w p = ((p.dispose Disp.forward 0).put C.DEST (awDest w)).put C.MCAST 0 := by
  unfold mergeDest
  rw [if_pos h0, if_neg (by omega)]

/-- A DROP word drops it. -/
theorem mergeDest_drop (w : Nat) (p : Pkt) (h3 : awDop w = 3) : mergeDest w p = p.dispose Disp.drop (awDest w % 256) := by
  unfold mergeDest
  rw [if_neg (by omega), if_neg (by omega), if_neg (by omega), if_pos h3]

/-! ### The edits (R247 to R249) -/

/-- Only words 23 and 24 of the packet changed: its edits stand there. -/
structure Pkt.EditsOnly (p q : Pkt) : Prop where
  pkt : ∃ l, q = { p with words := l } ∧ l.length = p.words.length
  word : ∀ i, i ≠ 23 → i ≠ 24 → q.word i = p.word i

theorem Pkt.EditsOnly.refl (p : Pkt) : p.EditsOnly p := ⟨⟨_, rfl, rfl⟩, fun _ _ _ => rfl⟩

theorem Pkt.EditsOnly.putWord {p q : Pkt} (h : p.EditsOnly q) {i : Nat} (v : Word) (hi : i = 23 ∨ i = 24) : p.EditsOnly (q.putWord i v) where
  pkt := by
    obtain ⟨l, rfl, hl⟩ := h.pkt
    exact ⟨l.set i v, rfl, by simpa using hl⟩
  word := fun j h23 h24 => (q.word_putWord_other v (by omega)).trans (h.word j h23 h24)

theorem Pkt.EditsOnly.put {p q : Pkt} (h : p.EditsOnly q) {f : CtxFld} (v : Nat) (hf : f.word = 23 ∨ f.word = 24) : p.EditsOnly (q.put f v) :=
  h.putWord _ hf

theorem resolveEdits_editsOnly (ws : List Nat) (p : Pkt) : p.EditsOnly (resolveEdits ws p).1 := by
  unfold resolveEdits
  dsimp only
  split <;> split
  all_goals
    apply_rules [Pkt.EditsOnly.put, Pkt.EditsOnly.putWord, Pkt.EditsOnly.refl]
    all_goals decide

/-- Without an edit word no layer is missing and no TTL is decremented. -/
theorem resolveEdits_none (ws : List Nat) (p : Pkt) (hl : p.words.length = 32) (h : firstOf ws 3 0 = none) :
    (resolveEdits ws p).2 = false ∧ (resolveEdits ws p).1.flag C.DEC_TTL = false := by
  have hflag : ∀ (q : Pkt) (ts : Nat), q.words.length = 32 → (((q.putWord 23 0).put C.TS ts).flag C.DEC_TTL) = false := by
    intro q ts hq
    unfold Pkt.flag
    rw [Pkt.get_put_other _ _ (by decide)]
    have hw : wordAt (q.putWord 23 0).words 23 = 0 := wordAt_set_same _ _ (by omega)
    show (Fld.of ⟨40, 1⟩ (wordAt (q.putWord 23 0).words 23) != 0) = false
    rw [hw]
    rfl
  unfold resolveEdits
  rw [h]
  dsimp only
  refine ⟨rfl, ?_⟩
  split <;> exact hflag _ _ (by simpa using hl)

/-- A packet that is dropped already, or that has no edits, passes the checks as it is. -/
theorem checkEdits_pass (bad : Bool) (p : Pkt) (h : p.get C.DISP = Disp.drop ∨ bad = false ∧ p.flag C.DEC_TTL = false) :
    checkEdits bad p = (p, none) := by
  unfold checkEdits
  rcases h with h | ⟨hb, ht⟩
  · have hnot : p.isDisp [Disp.forward, Disp.recirc] = false := by simp [Pkt.isDisp, h, Disp.drop, Disp.forward, Disp.recirc]
    rw [if_neg (by simp [h]), if_neg (by simp [hnot])]
  · rw [if_neg (by simp [hb]), if_neg (by simp [ht])]

/-! ### The forecast (R263) -/

/-- One of the class accumulators of R266. -/
def ClassReg (a : Nat) : Prop := 0x381200 ≤ a ∧ a < 0x381500

theorem Dev.classCount_reg (d : Dev) {s : Nat} (got len : Nat) {a : Nat} (hs : s < 32) (ha : ¬ ClassReg a) : (d.classCount s got len).reg a = d.reg a := by
  apply d.classCount_regsKept s got len
  unfold ClassReg at ha
  simp only [List.mem_cons, List.not_mem_nil, or_false, Reg.ACT_CLASS_PJ, Reg.ACT_CLASS_CNT, Reg.ACT_CLASS_BYTES]
  omega

theorem Dev.charge_reg (d : Dev) (p : Pkt) {s a : Nat} (hs : s < 32) (ha : ¬ ClassReg a) : (d.charge p s).1.reg a = d.reg a :=
  d.classCount_reg _ _ hs ha

/-- What charges and forecasts change: class accumulators, and ENERGY, SATURATED, FORECAST and STAGE_MASK of the packet. -/
structure Charged (x y : Dev × Pkt) : Prop where
  dev : x.1.RegsOnly y.1
  regs : ∀ a, ¬ ClassReg a → y.1.reg a = x.1.reg a
  pkt : ∃ l, y.2 = { x.2 with words := l } ∧ l.length = x.2.words.length
  word : ∀ i, i ≠ 1 → i ≠ 26 → y.2.word i = x.2.word i

theorem Charged.refl (x : Dev × Pkt) : Charged x x := ⟨rfl, fun _ _ => rfl, ⟨_, rfl, rfl⟩, fun _ _ _ => rfl⟩

theorem Charged.trans {x y z : Dev × Pkt} (h : Charged x y) (k : Charged y z) : Charged x z where
  dev := h.dev.trans k.dev
  regs := fun a ha => (k.regs a ha).trans (h.regs a ha)
  pkt := by
    obtain ⟨l, hl, hn⟩ := h.pkt
    obtain ⟨m, hm, hk⟩ := k.pkt
    exact ⟨m, by rw [hm, hl], by rw [hk, hl, hn]⟩
  word := fun i h1 h26 => (k.word i h1 h26).trans (h.word i h1 h26)

/-- A field in another word keeps its value. -/
theorem Charged.get {x y : Dev × Pkt} (h : Charged x y) {f : CtxFld} (h1 : f.word ≠ 1) (h26 : f.word ≠ 26) : y.2.get f = x.2.get f :=
  Pkt.get_of_word (h.word _ h1 h26)

theorem Dev.charge_charged (d : Dev) (p : Pkt) {s : Nat} (hs : s < 32) : Charged (d, p) (d.charge p s) :=
  ⟨d.charge_regsOnly p s, fun _ ha => d.charge_reg p hs ha, ⟨_, d.charge_pkt p s, d.charge_length p s⟩, fun _ h1 h26 => d.charge_word p s h1 h26⟩

theorem Dev.forecast1_charged (x : Dev × Pkt) {s : Nat} (hs : s < 32) : Charged x (Dev.forecast1 x s) := by
  refine ⟨x.1.classCount_regsOnly _ _ _, fun _ ha => x.1.classCount_reg _ _ hs ha, ⟨_, rfl, by simp⟩, fun i h1 h26 => ?_⟩
  unfold Pkt.word Dev.forecast1
  dsimp only
  rw [wordAt_ctxPut_other _ _ h26, wordAt_addEnergy _ _ h1 h26]

/-- The classes of a forecast are stage classes. -/
theorem Dev.forecastClasses_lt (d : Dev) (merge : List Byte) (p : Pkt) : ∀ s ∈ d.forecastClasses merge p, s < 32 := by
  intro s hs
  unfold Dev.forecastClasses at hs
  simp only [List.mem_append, List.mem_ite_nil_right, List.mem_singleton] at hs
  omega

theorem Dev.forecast_charged (d : Dev) (merge : List Byte) (p : Pkt) : Charged (d, p) (d.forecast merge p) := by
  have hfold : ∀ (l : List Nat) (x : Dev × Pkt), (∀ s ∈ l, s < 32) → Charged x (l.foldl Dev.forecast1 x) := by
    intro l
    induction l with
    | nil => exact fun x _ => .refl x
    | cons s l ih =>
      intro x hl
      exact (Dev.forecast1_charged x (hl s (List.mem_cons_self ..))).trans (ih _ fun t ht => hl t (List.mem_cons_of_mem _ ht))
  exact hfold _ _ (d.forecastClasses_lt merge p)

/-! ### A packet that is discarded (R53) -/

theorem Dev.account_regsKept (d : Dev) (pipe pj : Nat) : d.regsKept (d.account pipe pj) [Reg.PWR_ACC pipe, Reg.PWR_ACC 8] :=
  (d.count_regsKept _ (by simp)).trans (Dev.count_regsKept _ _ (by simp))

theorem Dev.account_reg (d : Dev) {pipe : Nat} (pj : Nat) (h : pipe < 8) :
    (d.account pipe pj).reg (Reg.PWR_ACC pipe) = d.plus (Reg.PWR_ACC pipe) pj ∧ (d.account pipe pj).reg (Reg.PWR_ACC 8) = d.plus (Reg.PWR_ACC 8) pj := by
  have hne : Reg.PWR_ACC pipe ≠ Reg.PWR_ACC 8 := by
    simp only [Reg.PWR_ACC]
    omega
  unfold Dev.account
  refine ⟨by rw [Dev.reg_count_other _ _ _ _ hne, Dev.reg_count], ?_⟩
  exact (d.count_regsKept pj (List.mem_singleton_self _)).count (by simpa using hne.symm) pj

theorem Dev.account_regsOnly (d : Dev) (pipe pj : Nat) : d.RegsOnly (d.account pipe pj) := (d.count_regsOnly _ _).trans (Dev.count_regsOnly _ _ _)

/-- The power manager's accumulators and the packets of `e` are those of `d`. -/
structure Dev.AccKept (d e : Dev) : Prop where
  pkts : e.pkts = d.pkts
  acc : ∀ k, k ≤ 8 → e.reg (Reg.PWR_ACC k) = d.reg (Reg.PWR_ACC k)

/-- A context is freed and its packet's energy accounted for. -/
theorem Dev.AccKept.freedInto {d e f : Dev} (h : d.AccKept e) {c pipe pj : Nat} (hp : pipe < 8) (hf : f.pkts = Map.del e.pkts c)
    (hr : ∀ k, k ≤ 8 → f.reg (Reg.PWR_ACC k) = (e.account pipe pj).reg (Reg.PWR_ACC k)) : d.freedInto f c pipe pj := by
  obtain ⟨hpipe, htot⟩ := e.account_reg pj hp
  refine ⟨by rw [Dev.pkt, hf, Map.find_del_same], fun k hk => ?_, ?_, ?_⟩
  · rw [Dev.pkt, hf, Map.find_del_other _ _ _ hk, h.pkts]
    rfl
  · rw [hr _ (by omega), hpipe, Dev.plus, h.acc _ (by omega)]
    rfl
  · rw [hr _ (by omega), htot, Dev.plus, h.acc _ (by omega)]
    rfl

theorem Dev.AccKept.discard {d e : Dev} (h : d.AccKept e) {c : Nat} {p : Pkt} :
    d.freedInto (e.discard c p) c (p.get C.IN_PIPE) (p.get C.ENERGY - p.get C.FORECAST) :=
  h.freedInto (p.get_lt C.IN_PIPE) rfl fun _ _ => rfl

theorem Dev.discard_regsKept (d : Dev) (c : Nat) (p : Pkt) : d.regsKept (d.discard c p) [Reg.PWR_ACC (p.get C.IN_PIPE), Reg.PWR_ACC 8] :=
  (d.noteDiscard p.pid (p.get C.REASON)).account_regsKept _ _

/-- A discard changes no register but the accumulators. -/
theorem Dev.discard_reg (d : Dev) (c : Nat) (p : Pkt) {a : Nat} (h : a < 0x40700 ∨ 0x40748 ≤ a) : (d.discard c p).reg a = d.reg a := by
  have hp : p.get C.IN_PIPE < 8 := p.get_lt C.IN_PIPE
  apply d.discard_regsKept c p
  simp only [List.mem_cons, List.not_mem_nil, or_false, Reg.PWR_ACC]
  omega

end Sys2Proof.Machine
end

section
/-! PROOFS. ACTION_MERGE (R43, R244 to R246). -/

namespace Sys2Proof.Machine

/-- The HASH that the action unit gives a packet (R250 to R253). -/
def Dev.actionHash (d : Dev) (ws : List Nat) (p : Pkt) : Nat :=
  d.hashOf p (match spreadGroup ws with
    | some k => d.fld (Reg.ACT_GROUP k) F.ACT_GROUP_PROFILE
    | none => 0)

/-- A packet after its forecast: COUNTER updates, then to an engine or to step 6. -/
def Dev.actionSend (c : Nat) (errs : List ReadErr) (x : Dev × Pkt) : Dev :=
  let e := x.1.counterUpdates x.2 x.2.counts errs
  let q := { x.2 with counts := [] }
  if q.get C.DISP = Disp.engine then e.toEngine c q else e.setPkt c { q with stage := .police }

/-- The action unit after the checks of the edits: a dropped packet is discarded, another gets its hash and its forecast and goes on. -/
def Dev.actionEnd (d : Dev) (c : Nat) (errs : List ReadErr) (merge : List Byte) (ws : List Nat) (p : Pkt) : Dev :=
  if p.get C.DISP = Disp.drop then d.discard c p else .actionSend c errs (d.forecast merge (p.put C.HASH (d.actionHash ws p)))

/-- The action unit where each of its steps gives what the hypotheses say. -/
theorem Dev.actionUnit_steps {d d1 : Dev} {c : Nat} {errs : List ReadErr} {p p1 q r : Pkt} {ws : List Nat} {bad layer : Bool} {note : MergeNote}
    (hcharge : d.charge p 5 = (d1, p1)) (hmal : malReplace (policyBody (d1.sec (p.get C.G) T.MALFORMED_POLICY 0)) p1 = p1)
    (hlist : mergeList (d.secOr0 (p.get C.G) T.ACTION_MERGE (p.get C.IN_PIPE)) p1 = (ws, bad))
    (hmerge : mergeDisp ws bad (mergeFields ws p1) = (q, note)) (hedit : resolveEdits ws q = (r, layer)) (hcheck : checkEdits layer r = (r, none)) :
    d.actionUnit c errs p = ((d1.mergeNote note).count (Reg.ACT_COUNT 0) 1).actionEnd c errs
      (d.secOr0 (p.get C.G) T.ACTION_MERGE (p.get C.IN_PIPE)) ws r := by
  obtain ⟨x, hx⟩ : ∃ x, ((d1.mergeNote note).count (Reg.ACT_COUNT 0) 1).forecast (d.secOr0 (p.get C.G) T.ACTION_MERGE (p.get C.IN_PIPE))
      (r.put C.HASH (((d1.mergeNote note).count (Reg.ACT_COUNT 0) 1).actionHash ws r)) = x := ⟨_, rfl⟩
  unfold Dev.actionEnd
  rw [hx]
  unfold Dev.actionHash at hx
  unfold Dev.actionUnit Dev.actionSend
  cases hgroup : spreadGroup ws <;> simp only [hgroup] at hx <;> simp only [hcharge, hmal, hlist, hmerge, hedit, hcheck, hgroup, hx]

/-- A packet that is neither MALFORMED nor of a reserved disposition keeps it (R157). -/
theorem malReplace_forward (pol : List Byte) (p : Pkt) (h : p.get C.DISP = Disp.forward) : malReplace pol p = p := by
  unfold malReplace
  rw [if_neg (by simp [h, Disp.forward, Disp.malformed]), if_neg (by simp [h, Disp.forward])]

/-- The action unit on a FORWARD packet whose edits pass. -/
theorem Dev.actionUnit_forward (d : Dev) (c : Nat) (errs : List ReadErr) (p : Pkt) (hf : p.get C.DISP = Disp.forward) {l : List Nat × Bool}
    (hlist : mergeList (d.secOr0 (p.get C.G) T.ACTION_MERGE (p.get C.IN_PIPE)) (d.charge p 5).2 = l) {q : Pkt} {note : MergeNote}
    (hmerge : mergeDisp l.1 l.2 (mergeFields l.1 (d.charge p 5).2) = (q, note))
    (hpass : q.get C.DISP = Disp.drop ∨ (resolveEdits l.1 q).2 = false ∧ (resolveEdits l.1 q).1.flag C.DEC_TTL = false) :
    d.actionUnit c errs p = (((d.charge p 5).1.mergeNote note).count (Reg.ACT_COUNT 0) 1).actionEnd c errs
      (d.secOr0 (p.get C.G) T.ACTION_MERGE (p.get C.IN_PIPE)) l.1 (resolveEdits l.1 q).1 := by
  have hdisp : (d.charge p 5).2.get C.DISP = Disp.forward := by rw [d.charge_get p 5 (by decide) (by decide) (by decide), hf]
  have hedit : (resolveEdits l.1 q).1.get C.DISP = q.get C.DISP := Pkt.get_of_word ((resolveEdits_editsOnly l.1 q).word _ (by decide) (by decide))
  exact Dev.actionUnit_steps rfl (malReplace_forward _ _ hdisp) hlist hmerge rfl (checkEdits_pass _ _ (by rw [hedit]; exact hpass))

/-- Notes of the merge change registers and messages only, and neither accumulators nor ACT_COUNT0. -/
theorem Dev.mergeNote_messageOnly (d : Dev) (n : MergeNote) : d.MessageOnly (d.mergeNote n) := by
  cases n with
  | none => rfl
  | bad => exact (d.count (Reg.ACT_COUNT 1) 1).raise_messageOnly 4 0
  | noDest => rfl
  | recirc => exact (d.count (Reg.PRS_COUNT 8) 1).raise_messageOnly 1 2

theorem Dev.actionEnd_drop (d : Dev) (c : Nat) (errs : List ReadErr) (merge : List Byte) (ws : List Nat) (p : Pkt) (h : p.get C.DISP = Disp.drop) :
    d.actionEnd c errs merge ws p = d.discard c p := if_pos h

/-- A FORWARD packet without COUNTER updates goes on to step 6. -/
theorem Dev.actionSend_forward (c : Nat) (errs : List ReadErr) (x : Dev × Pkt) (hd : x.2.get C.DISP = Disp.forward) (hc : x.2.counts = []) :
    Dev.actionSend c errs x = x.1.setPkt c { x.2 with counts := [], stage := .police } := by
  unfold Dev.actionSend
  rw [hc]
  exact if_neg (by show x.2.get C.DISP ≠ _; rw [hd]; decide)

theorem Dev.actionEnd_forward (d : Dev) (c : Nat) (errs : List ReadErr) (merge : List Byte) (ws : List Nat) (p : Pkt)
    (h : p.get C.DISP = Disp.forward) (hc : p.counts = []) :
    let x := d.forecast merge (p.put C.HASH (d.actionHash ws p))
    d.actionEnd c errs merge ws p = x.1.setPkt c { x.2 with counts := [], stage := .police } := by
  intro x
  have hch := d.forecast_charged merge (p.put C.HASH (d.actionHash ws p))
  have hdisp : x.2.get C.DISP = Disp.forward := by
    rw [hch.get (by decide) (by decide), Pkt.get_put_other _ _ (by decide), h]
  have hcounts : x.2.counts = [] := by
    obtain ⟨l, hl, _⟩ := hch.pkt
    rw [hl]
    exact hc
  unfold Dev.actionEnd
  rw [if_neg (by rw [h]; decide), Dev.actionSend_forward c errs x hdisp hcounts]

/-! ### The device before the packet leaves the action unit -/

/-- The registers that a note of the merge may change. -/
def noteRegs : List Nat := [Reg.ACT_COUNT 1, Reg.ACT_COUNT 9, Reg.PRS_COUNT 8] ++ eventRegs Reg.ACT_EVENT ++ eventRegs Reg.PRS_EVENT

theorem Dev.mergeNote_regsKept (d : Dev) (n : MergeNote) : d.regsKept (d.mergeNote n) noteRegs := by
  cases n with
  | none => exact .refl d _
  | bad =>
    exact (d.count_regsKept 1 (by decide)).trans ((Dev.raise_regsKept _ (s := 4) (a := Reg.ACT_EVENT) 0 rfl).mono (by decide))
  | noDest => exact d.count_regsKept 1 (by decide)
  | recirc =>
    exact (d.count_regsKept 1 (by decide)).trans ((Dev.raise_regsKept _ (s := 1) (a := Reg.PRS_EVENT) 2 rfl).mono (by decide))

/-- The counters of the action unit stand behind the class accumulators. -/
theorem not_classReg_count (n : Nat) : ¬ ClassReg (Reg.ACT_COUNT n) := by
  simp only [ClassReg, Reg.ACT_COUNT]
  omega

/-- The device after the charge of the action unit, the merge's note and the count of the packet. -/
def Dev.mergeStart (d : Dev) (p : Pkt) (note : MergeNote) : Dev := ((d.charge p 5).1.mergeNote note).count (Reg.ACT_COUNT 0) 1

theorem Dev.mergeStart_reg (d : Dev) (p : Pkt) (note : MergeNote) {a : Nat} (h0 : a ≠ Reg.ACT_COUNT 0) (hn : a ∉ noteRegs) (hc : ¬ ClassReg a) :
    (d.mergeStart p note).reg a = d.reg a := by
  unfold Dev.mergeStart
  rw [Dev.reg_count_other _ _ _ _ h0, Dev.mergeNote_regsKept _ _ _ hn, d.charge_reg p (by omega) hc]

/-- The action unit counts the packet (R241). -/
theorem Dev.mergeStart_count (d : Dev) (p : Pkt) (note : MergeNote) :
    (d.mergeStart p note).reg (Reg.ACT_COUNT 0) = d.plus (Reg.ACT_COUNT 0) 1 := by
  unfold Dev.mergeStart
  rw [Dev.reg_count, Dev.plus, Dev.mergeNote_regsKept _ _ _ (by decide), d.charge_reg p (by omega) (not_classReg_count _)]
  rfl

/-- A missing destination is counted (R246). -/
theorem Dev.mergeStart_noDest (d : Dev) (p : Pkt) : (d.mergeStart p .noDest).reg (Reg.ACT_COUNT 9) = d.plus (Reg.ACT_COUNT 9) 1 := by
  unfold Dev.mergeStart Dev.mergeNote
  rw [Dev.reg_count_other _ _ _ _ (by decide), Dev.reg_count, Dev.plus, d.charge_reg p (by omega) (not_classReg_count _)]
  rfl

/-- A bad word is counted (R245). -/
theorem Dev.mergeStart_bad (d : Dev) (p : Pkt) : (d.mergeStart p .bad).reg (Reg.ACT_COUNT 1) = d.plus (Reg.ACT_COUNT 1) 1 := by
  unfold Dev.mergeStart Dev.mergeNote
  dsimp only
  rw [Dev.reg_count_other _ _ _ _ (by decide), Dev.raise_regsKept _ (s := 4) (a := Reg.ACT_EVENT) 0 rfl _ (by decide), Dev.reg_count, Dev.plus,
    d.charge_reg p (by omega) (not_classReg_count _)]
  rfl

theorem Dev.mergeStart_messageOnly (d : Dev) (p : Pkt) (note : MergeNote) :
    (d.charge p 5).1.MessageOnly ((d.charge p 5).1.mergeNote note) := Dev.mergeNote_messageOnly _ _

theorem Dev.mergeStart_pkts (d : Dev) (p : Pkt) (note : MergeNote) : (d.mergeStart p note).pkts = d.pkts := by
  show ((d.charge p 5).1.mergeNote note).pkts = d.pkts
  rw [Dev.mergeNote_messageOnly, d.charge_regsOnly p 5]

theorem Dev.mergeStart_tables (d : Dev) (p : Pkt) (note : MergeNote) : (d.mergeStart p note).tables = d.tables := by
  show ((d.charge p 5).1.mergeNote note).tables = d.tables
  rw [Dev.mergeNote_messageOnly, d.charge_regsOnly p 5]

theorem Dev.mergeStart_accKept (d : Dev) (p : Pkt) (note : MergeNote) : d.AccKept (d.mergeStart p note) where
  pkts := d.mergeStart_pkts p note
  acc := fun k hk => by
    apply d.mergeStart_reg
    · simp only [Reg.PWR_ACC, Reg.ACT_COUNT]
      omega
    · simp only [noteRegs, eventRegs, List.cons_append, List.nil_append, List.mem_cons, List.not_mem_nil, or_false, Reg.PWR_ACC, Reg.ACT_COUNT,
        Reg.PRS_COUNT, Reg.ACT_EVENT, Reg.PRS_EVENT, Reg.HIF_COUNT, Reg.SYS_MSIX_PBA]
      omega
    · simp only [ClassReg, Reg.PWR_ACC]
      omega

/-! ### ACTION_MERGE -/

theorem Dev.RegsOnly.pkts {d e : Dev} (h : d.RegsOnly e) : e.pkts = d.pkts := by rw [h]
theorem Dev.RegsOnly.tables {d e : Dev} (h : d.RegsOnly e) : e.tables = d.tables := by rw [h]

/-- The action unit takes a packet at its stage while its line is up. -/
theorem exec_actionMerge (c : Nat) (bad : Bool) (errs : List ReadErr) (s : State) (p : Pkt) (hr : s.dev.running = true) (hp : s.dev.pkt c = some p)
    (hs : p.stage = .merge) (hl : s.dev.lineUp 99 = true) (hc : p.counts = []) :
    exec (.actionMerge c bad errs) s =
      .next (s.withDev (if s.dev.inOrder c p then (if bad then s.dev.ctxBad c p else s.dev.actionUnit c errs p) else s.dev)) := by
  have h : exec (.actionMerge c bad errs) s = .next (s.withDev (s.dev.mergePkt c bad errs p)) := by
    show execActionMerge c bad errs s = _
    unfold execActionMerge
    rw [Dev.withPkt_acts _ _ _ _ p hr hp (by simp [hs, hl])]
    rfl
  rw [h]
  unfold Dev.mergePkt
  cases s.dev.inOrder c p <;> simp [hc]

/-- A FORWARD packet that the merge drops is discarded, with its energy after the charge less what it forecast before. -/
theorem Dev.actionUnit_drops (d : Dev) (c : Nat) (errs : List ReadErr) (p : Pkt) (hf : p.get C.DISP = Disp.forward)
    {l : List Nat × Bool} (hlist : mergeList (d.secOr0 (p.get C.G) T.ACTION_MERGE (p.get C.IN_PIPE)) (d.charge p 5).2 = l) {q : Pkt} {note : MergeNote}
    (hmerge : mergeDisp l.1 l.2 (mergeFields l.1 (d.charge p 5).2) = (q, note)) {reason : Nat}
    (hq : q = (mergeFields l.1 (d.charge p 5).2).dispose Disp.drop reason) (hl : p.words.length = 32) :
    d.freedInto (d.actionUnit c errs p) c (p.get C.IN_PIPE) ((d.charge p 5).2.get C.ENERGY - p.get C.FORECAST) ∧
    ∀ a, a < 0x40700 ∨ 0x40748 ≤ a → (d.actionUnit c errs p).reg a = (d.mergeStart p note).reg a := by
  have hdrop : q.get C.DISP = Disp.drop := by rw [hq, Pkt.get_dispose_disp _ _ _ (length_mergeFields _ _) (by decide)]
  have hkeep : ∀ {f : CtxFld}, f.word ≠ 23 ∧ f.word ≠ 24 ∧ f.word < 28 → f.apart C.DISP = true → f.apart C.REASON = true →
      [C.TC, C.COLOR, C.POLICE_EN, C.POLICER, C.MIRROR, C.REWRITE_PTR].all f.apart = true →
      (resolveEdits l.1 q).1.get f = (d.charge p 5).2.get f := by
    rintro f ⟨h23, h24, h28⟩ h1 h2 h3
    rw [Pkt.get_of_word ((resolveEdits_editsOnly l.1 q).word _ h23 h24), hq, Pkt.get_dispose_other _ _ _ h1 h2,
      mergeFields_get _ _ (by simpa using hl) h28, groupFields_other _ _ h3]
  have hdisp : (resolveEdits l.1 q).1.get C.DISP = Disp.drop := by
    rw [Pkt.get_of_word ((resolveEdits_editsOnly l.1 q).word _ (by decide) (by decide)), hdrop]
  have hunit : d.actionUnit c errs p = (d.mergeStart p note).discard c (resolveEdits l.1 q).1 := by
    rw [d.actionUnit_forward c errs p hf hlist hmerge (.inl hdrop), Dev.actionEnd_drop _ _ _ _ _ _ hdisp]
    rfl
  have hpipe : (resolveEdits l.1 q).1.get C.IN_PIPE = p.get C.IN_PIPE := by
    rw [hkeep (by decide) (by decide) (by decide) (by decide), d.charge_get p 5 (by decide) (by decide) (by decide)]
  rw [hunit]
  refine ⟨?_, fun a ha => Dev.discard_reg _ _ _ ha⟩
  have h := (d.mergeStart_accKept p note).discard (c := c) (p := (resolveEdits l.1 q).1)
  rwa [hpipe, hkeep (by decide) (by decide) (by decide) (by decide), hkeep (by decide) (by decide) (by decide) (by decide),
    d.charge_get p 5 (f := C.FORECAST) (by decide) (by decide) (by decide)] at h

@[simp] theorem Pkt.put_bytes (p : Pkt) (f : CtxFld) (v : Nat) : (p.put f v).bytes = p.bytes := rfl
@[simp] theorem Pkt.put_counts (p : Pkt) (f : CtxFld) (v : Nat) : (p.put f v).counts = p.counts := rfl
@[simp] theorem Pkt.dispose_bytes (p : Pkt) (x y : Nat) : (p.dispose x y).bytes = p.bytes := rfl
@[simp] theorem Pkt.dispose_counts (p : Pkt) (x y : Nat) : (p.dispose x y).counts = p.counts := rfl
@[simp] theorem Dev.charge_bytes (d : Dev) (p : Pkt) (s : Nat) : (d.charge p s).2.bytes = p.bytes := rfl
@[simp] theorem Dev.charge_counts (d : Dev) (p : Pkt) (s : Nat) : (d.charge p s).2.counts = p.counts := rfl

/-- The merge leaves the frame's bytes and the COUNTER updates that are due. -/
theorem mergeFields_kept (ws : List Nat) (p : Pkt) : (mergeFields ws p).bytes = p.bytes ∧ (mergeFields ws p).counts = p.counts := by
  simp [mergeFields, Pkt.putBytes]

/-- A FORWARD packet that a DEST word sends to a port, without edits, goes on to step 6. -/
theorem Dev.actionUnit_sends (d : Dev) (c : Nat) (errs : List ReadErr) (p : Pkt) (hf : p.get C.DISP = Disp.forward) (hc : p.counts = [])
    {l : List Nat × Bool} (hlist : mergeList (d.secOr0 (p.get C.G) T.ACTION_MERGE (p.get C.IN_PIPE)) (d.charge p 5).2 = l) {q : Pkt}
    (hmerge : mergeDisp l.1 l.2 (mergeFields l.1 (d.charge p 5).2) = (q, .none)) (he : firstOf l.1 3 0 = none) (hq : q.get C.DISP = Disp.forward)
    (hlen : q.words.length = 32) (hqc : q.counts = p.counts) :
    ∃ e r, d.actionUnit c errs p = e.setPkt c r ∧ (d.mergeStart p .none).RegsOnly e ∧
      (∀ a, ¬ ClassReg a → e.reg a = (d.mergeStart p .none).reg a) ∧ r.stage = .police ∧ r.bytes = q.bytes ∧
      ∀ f : CtxFld, f.word = 2 ∨ f.word = 22 → r.get f = q.get f := by
  have hkeep : ∀ f : CtxFld, f.word = 2 ∨ f.word = 22 → (resolveEdits l.1 q).1.get f = q.get f := fun f hw =>
    Pkt.get_of_word ((resolveEdits_editsOnly l.1 q).word _ (by omega) (by omega))
  obtain ⟨m, hm, -⟩ := (resolveEdits_editsOnly l.1 q).pkt
  have hcounts : (resolveEdits l.1 q).1.counts = [] := by rw [hm, ← hc, ← hqc]
  obtain ⟨y, hy⟩ : ∃ y, (d.mergeStart p .none).forecast (d.secOr0 (p.get C.G) T.ACTION_MERGE (p.get C.IN_PIPE))
    ((resolveEdits l.1 q).1.put C.HASH ((d.mergeStart p .none).actionHash l.1 (resolveEdits l.1 q).1)) = y := ⟨_, rfl⟩
  have hend := (d.mergeStart p .none).actionEnd_forward c errs (d.secOr0 (p.get C.G) T.ACTION_MERGE (p.get C.IN_PIPE)) l.1 _
    ((hkeep _ (.inl rfl)).trans hq) hcounts
  have hch := (d.mergeStart p .none).forecast_charged (d.secOr0 (p.get C.G) T.ACTION_MERGE (p.get C.IN_PIPE))
    ((resolveEdits l.1 q).1.put C.HASH ((d.mergeStart p .none).actionHash l.1 (resolveEdits l.1 q).1))
  rw [hy] at hend hch
  refine ⟨_, _, (d.actionUnit_forward c errs p hf hlist hmerge (.inr (resolveEdits_none _ _ hlen he))).trans hend, hch.dev, hch.regs, rfl, ?_,
    fun f hw => ?_⟩
  · obtain ⟨n, hn, -⟩ := hch.pkt
    exact (congrArg Pkt.bytes hn).trans (show (resolveEdits l.1 q).1.bytes = q.bytes by rw [hm])
  · have hput : ∀ v, ((resolveEdits l.1 q).1.put C.HASH v).get f = (resolveEdits l.1 q).1.get f := fun v =>
      Pkt.get_of_word (Pkt.word_put_other _ _ _ (by simp only [C.HASH]; omega))
    exact (hch.get (by omega) (by omega)).trans ((hput _).trans (hkeep f hw))

/-- Settles O12: the action unit's two branches, the merge of a FORWARD packet in its four cases. -/
theorem actionMergeActs : Obligations.ActionMergeActs := by
  unfold Obligations.ActionMergeActs
  intro c errs p s hr hp hs hl hlen hc p1 l word
  have hexec := fun bad => exec_actionMerge c bad errs s p hr hp hs hl hc
  refine ⟨fun ho => ?_, fun ho => ⟨?_, fun hf => ⟨?_, ?_, ?_, ?_⟩⟩⟩
  · rw [hexec, ho]
    rfl
  · refine ⟨_, hexec true, ?_⟩
    rw [if_pos ho, if_pos rfl]
    exact ⟨(Dev.AccKept.mk rfl fun _ _ => rfl).freedInto (e := s.dev.noteDiscard p.pid (p.get C.REASON)) (p.get_lt C.IN_PIPE) rfl fun _ _ => rfl, rfl, rfl⟩
  all_goals
    have hact : exec (.actionMerge c false errs) s = .next (s.withDev (s.dev.actionUnit c errs p)) := by
      rw [hexec, if_pos ho]
      rfl
    have hdisp : (mergeFields l.1 p1).get C.DISP = Disp.forward := by
      rw [mergeFields_get _ _ (by simpa [p1] using hlen) (by decide), groupFields_other _ _ (by decide),
        s.dev.charge_get p 5 (by decide) (by decide) (by decide), hf]
    obtain ⟨hbad, hnone, hsome⟩ := mergeDisp_forward l.1 l.2 _ hdisp
  · intro w hb hw h0 hd he
    have hport := mergeDest_port w (mergeFields l.1 p1) h0 hd
    have hlen' := length_mergeFields l.1 p1
    have hfwd : (mergeDest w (mergeFields l.1 p1)).get C.DISP = Disp.forward := by
      rw [hport, Pkt.get_put_other _ _ (by decide), Pkt.get_put_other _ _ (by decide), Pkt.get_dispose_disp _ _ _ hlen' (by decide)]
    have hfields : ∀ f : CtxFld, f.word < 28 → [C.DISP, C.REASON, C.DEST, C.MCAST].all f.apart = true →
        (mergeDest w (mergeFields l.1 p1)).get f = (groupFields l.1 p1).get f := by
      intro f hw hap
      simp only [List.all_cons, List.all_nil, Bool.and_eq_true] at hap
      obtain ⟨h1, h2, h3, h4, -⟩ := hap
      rw [hport, Pkt.get_put_other _ _ h4, Pkt.get_put_other _ _ h3, Pkt.get_dispose_other _ _ _ h1 h2,
        mergeFields_get _ _ (by simpa [p1] using hlen) hw]
    obtain ⟨htc, hcolor, hpol, hmir⟩ := groupFields_get l.1 p1 (by simpa [p1] using hlen)
    have hmerge := hsome w hb hw (by rw [hfwd]; decide)
    obtain ⟨hbytes1, hcounts1⟩ := mergeFields_kept l.1 p1
    have hcounts : (mergeDest w (mergeFields l.1 p1)).counts = p.counts := by rw [hport]; simp [hcounts1, p1]
    obtain ⟨e, r, hunit, hregs, hreg, hstage, hbytes, hget⟩ :=
      s.dev.actionUnit_sends c errs p hf hc (l := l) rfl hmerge he hfwd (by rw [hport]; simp) hcounts
    have hpkts : e.pkts = s.dev.pkts := hregs.pkts.trans (s.dev.mergeStart_pkts p .none)
    rw [hunit] at hact
    refine ⟨_, r, hact, Dev.pkt_setPkt_same _ _ _, fun k hk => ?_, hstage, ?_, ?_, ?_, ?_, ?_, ?_, ?_, ?_, ?_, ?_⟩
    · exact (Dev.pkt_setPkt_other _ _ _ _ hk).trans (congrArg (Map.find · k) hpkts)
    · rw [hbytes, hport]
      simp [hbytes1, p1]
    · rw [hget _ (.inl rfl), hfwd]
    · rw [hget _ (.inr rfl), hport, Pkt.get_put_other _ _ (by decide), Pkt.get_put_same _ _ (by simp) (by decide)]
      exact Nat.mod_eq_of_lt (by simp only [C.DEST]; omega)
    · rw [hget _ (.inr rfl), hport, Pkt.get_put_same _ _ (by simp) (by decide)]
      rfl
    · rw [hget _ (.inl rfl), hfields _ (by decide) (by decide), htc]
      rfl
    · rw [hget _ (.inl rfl), hfields _ (by decide) (by decide), hcolor]
      rfl
    · rw [hget _ (.inr rfl), hfields _ (by decide) (by decide), hpol]
      rfl
    · rw [hget _ (.inr rfl), hfields _ (by decide) (by decide), hmir]
      rfl
    · exact (hreg _ (not_classReg_count 0)).trans (s.dev.mergeStart_count p .none)
    · exact hregs.tables.trans (s.dev.mergeStart_tables p .none)
  · intro w hb hw h3 he
    have hdrop := mergeDest_drop w (mergeFields l.1 p1) h3
    have hmerge := hsome w hb hw (by rw [hdrop, Pkt.get_dispose_disp _ _ _ (length_mergeFields _ _) (by decide)]; decide)
    obtain ⟨hfreed, hreg⟩ := s.dev.actionUnit_drops c errs p hf rfl hmerge hdrop hlen
    exact ⟨_, hact, hfreed, (hreg _ (by decide)).trans (s.dev.mergeStart_count p .none)⟩
  · intro hb hn
    obtain ⟨⟨hgone, hkept, -, -⟩, hreg⟩ := s.dev.actionUnit_drops c errs p hf rfl (hnone hb hn) rfl hlen
    exact ⟨_, hact, hgone, hkept, (hreg _ (by decide)).trans (s.dev.mergeStart_noDest p)⟩
  · intro hb
    obtain ⟨⟨hgone, hkept, -, -⟩, hreg⟩ := s.dev.actionUnit_drops c errs p hf rfl (hbad hb) rfl hlen
    exact ⟨_, hact, hgone, hkept, (hreg _ (by decide)).trans (s.dev.mergeStart_bad p)⟩

end Sys2Proof.Machine
end

section
/-! PROOFS. Admission and replication (R319, R320, R324, R327 to R330): the data that a packet stores and the record that joins its intake. -/

namespace Sys2Proof.Machine

/-! ### Lists of the buffer -/

theorem Dev.ready_congr {d e : Dev} (hi : e.intakes = d.intakes) (hr : e.residue = d.residue) (hm : e.repls = d.repls) (n : Nat) :
    e.ready n = d.ready n := by
  unfold Dev.ready Dev.made Dev.intake Dev.residueOf
  rw [hi, hr, hm]

/-- A record of a ready port goes to its intake (R325). -/
theorem Dev.enterRec_ready (d : Dev) (r : Rec) (h : d.ready r.port = true) :
    d.enterRec r = d.setIntake r.port (d.intake r.port ++ [r]) := if_pos h

/-- A packet without a session passes the sessions (R333). -/
theorem Dev.session_none (d : Dev) (c : Nat) (p : Pkt) (id : Option Nat) (outcome reason : Nat) (h : p.get C.MIRROR = 0) :
    d.session c p id outcome reason = d := if_pos (.inl h)

/-! ### Unicast admission -/

/-- The device with the data of an admitted unicast packet, before its record is entered (R319). -/
def Dev.storeData (d : Dev) (p : Pkt) (onchip : Nat) (spill : List Nat) : Dev :=
  (({ d with
      freeCtr := d.freeCtr + 1
      pidCtr := d.pidCtr + 1
      data := Map.put d.data (d.pidCtr + 1) ⟨p.bytes, 2, onchip, false, spill, false⟩
      spillQ := d.spillQ ++ spillCells p.bytes spill }.count (Reg.BUF_COUNT 0) 1).account (p.get C.IN_PIPE) (p.get C.ENERGY)).newTag.2

/-- The record of an admitted unicast packet. -/
def Dev.storeRec (d : Dev) (p : Pkt) (onchip : Nat) (spill : List Nat) : Rec :=
  (p.put C.HEAD_CELL (Config.free d.freeCtr % bufCells)).toRec (d.pidCtr + 1) p.bytes.length onchip 0 spill.length (d.pidCtr + 1 + 1)

theorem Dev.store_eq (d : Dev) (c : Nat) (p : Pkt) (onchip : Nat) (spill : List Nat) (hm : p.get C.MIRROR = 0) :
    d.store c p onchip spill = (((d.storeData p onchip spill).enterRec (d.storeRec p onchip spill)).dropRef (d.pidCtr + 1)).dropPkt c := by
  unfold Dev.store
  dsimp only
  rw [Dev.session_none _ _ _ _ _ _ ((Pkt.get_put_other _ _ (by decide)).trans hm), Pkt.get_put_other _ _ (by decide),
    Pkt.get_put_other _ _ (by decide)]
  rfl

/-- What the admission of a unicast packet of a ready port leaves. -/
structure Dev.Stored (d : Dev) (c : Nat) (p : Pkt) (onchip : Nat) (spill : List Nat) (e : Dev) (r : Rec) : Prop where
  pkts : e.pkts = Map.del d.pkts c
  reg : ∀ a, a ∉ eventRegs Reg.BUF_EVENT → e.reg a = ((d.count (Reg.BUF_COUNT 0) 1).account (p.get C.IN_PIPE) (p.get C.ENERGY)).reg a
  intakes : e.intakes = putList d.intakes (p.get C.DEST) (d.intake (p.get C.DEST) ++ [r])
  queues : e.queues = d.queues
  residue : e.residue = d.residue
  spillQ : e.spillQ = d.spillQ ++ spillCells p.bytes spill
  data : Map.find e.data r.data = some ⟨p.bytes, 1, onchip, false, spill, false⟩
  pid : r.pid = p.pid
  queue : r.queue = p.get C.QUEUE
  len : r.len = p.bytes.length
  cells : r.cells = onchip
  spilled : r.spill = spill.length

theorem Dev.store_stored (d : Dev) (c : Nat) (p : Pkt) (onchip : Nat) (spill : List Nat) (hm : p.get C.MIRROR = 0)
    (hr : d.ready (p.get C.DEST) = true) : d.Stored c p onchip spill (d.store c p onchip spill) (d.storeRec p onchip spill) := by
  have hport : (d.storeRec p onchip spill).port = p.get C.DEST := p.get_put_other _ (by decide)
  have henter := (d.storeData p onchip spill).enterRec_ready (d.storeRec p onchip spill) (by rw [hport]; exact (Dev.ready_congr rfl rfl rfl _).trans hr)
  have hdata : Map.find ((d.storeData p onchip spill).setIntake (p.get C.DEST)
      ((d.storeData p onchip spill).intake (p.get C.DEST) ++ [d.storeRec p onchip spill])).data (d.pidCtr + 1) =
      some ⟨p.bytes, 2, onchip, false, spill, false⟩ := Map.find_put_same _ _ _
  rw [d.store_eq c p onchip spill hm, henter, hport, Dev.dropRef_shared _ hdata Nat.one_lt_two]
  exact ⟨rfl, fun _ _ => rfl, rfl, rfl, rfl, rfl, Map.find_put_same _ _ _, rfl, p.get_put_other _ (by decide), rfl, rfl, rfl⟩

/-- An event of the buffer leaves what the admission left. -/
theorem Dev.Stored.raise {d e : Dev} {c : Nat} {p : Pkt} {onchip : Nat} {spill : List Nat} {r : Rec} (h : d.Stored c p onchip spill e r) (b : Nat) :
    d.Stored c p onchip spill (e.raise 6 b) r where
  pkts := (e.raise_pkts 6 b).trans h.pkts
  reg := fun a ha => (e.raise_regsKept (s := 6) (a := Reg.BUF_EVENT) b rfl a ha).trans (h.reg a ha)
  intakes := (e.raise_intakes 6 b).trans h.intakes
  queues := (e.raise_queues 6 b).trans h.queues
  residue := (e.raise_residue 6 b).trans h.residue
  spillQ := (e.raise_spillQ 6 b).trans h.spillQ
  data := by rw [e.raise_data 6 b, h.data]
  pid := h.pid
  queue := h.queue
  len := h.len
  cells := h.cells
  spilled := h.spilled

/-- The energy of an admitted packet goes to the accumulators (R53). -/
theorem Dev.Stored.freedInto {d e f : Dev} {c : Nat} {p : Pkt} {onchip : Nat} {spill : List Nat} {r : Rec} (h : d.Stored c p onchip spill e r)
    (hd : f.AccKept d) : f.freedInto e c (p.get C.IN_PIPE) (p.get C.ENERGY) :=
  Dev.AccKept.freedInto (e := d.count (Reg.BUF_COUNT 0) 1)
    ⟨hd.pkts, fun k hk => (d.reg_count_other _ _ _ (by simp only [Reg.PWR_ACC, Reg.BUF_COUNT]; omega)).trans (hd.acc k hk)⟩ (p.get_lt C.IN_PIPE)
    h.pkts fun k hk => h.reg _ (by
      simp only [eventRegs, List.mem_cons, List.not_mem_nil, or_false, Reg.PWR_ACC, Reg.BUF_EVENT, Reg.HIF_COUNT, Reg.SYS_MSIX_PBA]
      omega)

/-- Other registers than the accumulators and those of the event are as the count leaves them. -/
theorem Dev.Stored.reg_count {d e : Dev} {c : Nat} {p : Pkt} {onchip : Nat} {spill : List Nat} {r : Rec} (h : d.Stored c p onchip spill e r) (a : Nat)
    (ha : a ∉ eventRegs Reg.BUF_EVENT) (hacc : a < 0x40700 ∨ 0x40748 ≤ a) : e.reg a = (d.count (Reg.BUF_COUNT 0) 1).reg a := by
  have hp : p.get C.IN_PIPE < 8 := p.get_lt C.IN_PIPE
  rw [h.reg a ha, Dev.account_regsKept _ _ _ _ (by simp only [List.mem_cons, List.not_mem_nil, or_false, Reg.PWR_ACC]; omega)]

/-! ### Spilled packets (R320, R321) -/

theorem Dev.spillFree_congr {d e : Dev} (h : ∀ k, e.spillAddr k = d.spillAddr k) (used : List Nat) (fuel k n : Nat) :
    e.spillFree used fuel k n = d.spillFree used fuel k n := by
  induction fuel generalizing k n with
  | zero => rfl
  | succ fuel ih =>
    cases n with
    | zero => rfl
    | succ n => simp only [Dev.spillFree, h, ih]

/-- The free spill cells depend on the buffer's data and on the area set for them. -/
theorem Dev.spillPlaces_congr {d e : Dev} (hd : e.data = d.data) (hr : e.reg Reg.BUF_SPILL_CTRL = d.reg Reg.BUF_SPILL_CTRL) (n : Nat) :
    e.spillPlaces n = d.spillPlaces n := by
  have haddr : ∀ k, e.spillAddr k = d.spillAddr k := fun k => by simp only [Dev.spillAddr, Dev.fld, hr]
  unfold Dev.spillPlaces
  rw [hd]
  exact Dev.spillFree_congr haddr _ _ _ _

/-- The device of a packet that spills, charged for it and with its count (R320). -/
def Dev.spillBase (d : Dev) (p : Pkt) : Dev := (d.charge (p.put C.SPILLED 1) 9).1.count (Reg.BUF_COUNT 10) 1

theorem Dev.spillBase_regsOnly (d : Dev) (p : Pkt) : d.RegsOnly (d.spillBase p) := (d.charge_regsOnly _ 9).trans (Dev.count_regsOnly _ _ _)

theorem Dev.RegsOnly.intakes {d e : Dev} (h : d.RegsOnly e) : e.intakes = d.intakes := by rw [h]
theorem Dev.RegsOnly.intake {d e : Dev} (h : d.RegsOnly e) (n : Nat) : e.intake n = d.intake n := by rw [h]; rfl
theorem Dev.RegsOnly.spillQ {d e : Dev} (h : d.RegsOnly e) : e.spillQ = d.spillQ := by rw [h]

theorem Dev.spillBase_reg (d : Dev) (p : Pkt) {a : Nat} (h : a ≠ Reg.BUF_COUNT 10) (hc : ¬ ClassReg a) : (d.spillBase p).reg a = d.reg a :=
  (Dev.reg_count_other _ _ _ _ h).trans (d.charge_reg _ (by omega) hc)

/-- A packet that spills is stored; the event says that the last spill cell is taken. -/
theorem Dev.spillStore_cases (d : Dev) (c : Nat) (p : Pkt) (n : Nat) {d1 : Dev} {q : Pkt} (h : d.charge (p.put C.SPILLED 1) 9 = (d1, q)) :
    d.spillStore c p n = (d1.count (Reg.BUF_COUNT 10) 1).store c q 1 (d1.spillPlaces (n - 1)) ∨
    d.spillStore c p n = ((d1.count (Reg.BUF_COUNT 10) 1).store c q 1 (d1.spillPlaces (n - 1))).raise 6 3 := by
  unfold Dev.spillStore
  simp only [h]
  split
  · exact .inr rfl
  · exact .inl rfl

theorem Dev.spillStore_stored (d : Dev) (c : Nat) (p : Pkt) (n : Nat) (hm : p.get C.MIRROR = 0) (hr : d.ready (p.get C.DEST) = true) :
    let q := (d.charge (p.put C.SPILLED 1) 9).2
    let places := d.spillPlaces (n - 1)
    (d.spillBase p).Stored c q 1 places (d.spillStore c p n) ((d.spillBase p).storeRec q 1 places) := by
  intro q places
  have hget : ∀ {f : CtxFld}, f.word = 22 → q.get f = p.get f := fun {f} hf =>
    (Pkt.get_of_word (d.charge_word _ 9 (by omega) (by omega))).trans (Pkt.get_of_word (Pkt.word_put_other _ _ _ (by simp only [C.SPILLED]; omega)))
  have hplaces : (d.charge (p.put C.SPILLED 1) 9).1.spillPlaces (n - 1) = places :=
    Dev.spillPlaces_congr (by rw [d.charge_regsOnly _ 9]) (d.charge_reg _ (by omega) (by unfold ClassReg; decide)) _
  have hready : (d.spillBase p).ready (q.get C.DEST) = true := by
    rw [hget rfl, d.spillBase_regsOnly p]
    exact hr
  have hstored := (d.spillBase p).store_stored c q 1 places (by rw [hget rfl, hm]) hready
  have hspill := d.spillStore_cases c p n (d1 := (d.charge (p.put C.SPILLED 1) 9).1) (q := q) rfl
  rw [hplaces] at hspill
  rcases hspill with h | h <;> rw [h]
  · exact hstored
  · exact hstored.raise 3

/-! ### Refused packets (R319, R53) -/

/-- The registers that a refusal may change. -/
def refusalRegs : List Nat :=
  [Reg.SCH_COUNT 5, Reg.PWR_COUNT 9, Reg.BUF_COUNT 3, Reg.BUF_COUNT 2] ++ eventRegs Reg.SCH_EVENT ++ eventRegs Reg.BUF_EVENT

theorem Dev.noteRefusal_regsKept (d : Dev) (why : Nat) : d.regsKept (d.noteRefusal why) refusalRegs := by
  unfold Dev.noteRefusal
  split
  · exact (d.count_regsKept 1 (by decide)).trans ((Dev.raise_regsKept _ (s := 7) (a := Reg.SCH_EVENT) 1 rfl).mono (by decide))
  · split
    · exact d.count_regsKept 1 (by decide)
    · split
      · exact (d.count_regsKept 1 (by decide)).trans ((Dev.raise_regsKept _ (s := 6) (a := Reg.BUF_EVENT) 0 rfl).mono (by decide))
      · exact d.count_regsKept 1 (by decide)

theorem Dev.noteRefusal_messageOnly (d : Dev) (why : Nat) : d.MessageOnly (d.noteRefusal why) := by
  unfold Dev.noteRefusal
  split
  · exact (d.count (Reg.SCH_COUNT 5) 1).raise_messageOnly 7 1
  · split
    · rfl
    · split
      · exact (d.count (Reg.BUF_COUNT 3) 1).raise_messageOnly 6 0
      · rfl

theorem Dev.noteRefusal_accKept (d : Dev) (why : Nat) : d.AccKept (d.noteRefusal why) where
  pkts := by rw [Dev.noteRefusal_messageOnly]
  acc := fun k hk => d.noteRefusal_regsKept why _ (by
    simp only [refusalRegs, eventRegs, List.cons_append, List.nil_append, List.mem_cons, List.not_mem_nil, or_false, Reg.PWR_ACC, Reg.SCH_COUNT,
      Reg.PWR_COUNT, Reg.BUF_COUNT, Reg.SCH_EVENT, Reg.BUF_EVENT, Reg.HIF_COUNT, Reg.SYS_MSIX_PBA]
    omega)

/-- A packet without a session that is refused is discarded. -/
theorem Dev.refuse_eq (d : Dev) (c : Nat) (p : Pkt) (why : Nat) (hm : p.get C.MIRROR = 0) :
    d.refuse c p why = (d.noteRefusal why).discard c (p.dispose Disp.drop why) := by
  unfold Dev.refuse
  dsimp only
  rw [Dev.session_none _ _ _ _ _ _ hm]

/-- A dropped packet's disposition leaves its pipe, its energy and its forecast. -/
theorem Dev.AccKept.discard_dispose {d e : Dev} (h : d.AccKept e) (c : Nat) (p : Pkt) (x why : Nat) :
    d.freedInto (e.discard c (p.dispose x why)) c (p.get C.IN_PIPE) (p.get C.ENERGY - p.get C.FORECAST) := by
  have hd := h.discard (c := c) (p := p.dispose x why)
  rwa [Pkt.get_dispose_other _ _ _ (by decide) (by decide), Pkt.get_dispose_other _ _ _ (by decide) (by decide),
    Pkt.get_dispose_other _ _ _ (by decide) (by decide)] at hd

/-! ### ADMISSION of a unicast packet -/

theorem exec_admission (c : Nat) (s : State) (p : Pkt) (hr : s.dev.running = true) (hp : s.dev.pkt c = some p) (hs : p.stage = .admission)
    (hl : s.dev.lineUp 80 = true) (ho : s.dev.inOrder c p = true) :
    exec (.admission c false) s = .next (s.withDev (if p.get C.MCAST = 0 then s.dev.admitUnicast c p else s.dev.admitMulticast c p)) := by
  have h : exec (.admission c false) s = .next (s.withDev (s.dev.admitPkt c false p)) := by
    show execAdmission c false s = _
    unfold execAdmission
    rw [Dev.withPkt_acts _ _ _ _ p hr hp (by simp [hs, hl])]
    rfl
  rw [h]
  unfold Dev.admitPkt
  by_cases hm : p.get C.MCAST = 0 <;> simp [ho, hm, Pkt.flag]

/-- Admission of a unicast packet follows what its queue answers (R319, R320). -/
theorem Dev.admitUnicast_refusal (d : Dev) (c : Nat) (p : Pkt) (hd : d.downDiscard (p.get C.DEST) = false) :
    let n := dataCells p.bytes.length
    (d.refusal (p.get C.QUEUE) n (p.get C.COLOR) = none → d.admitUnicast c p = d.store c p n []) ∧
    (d.refusal (p.get C.QUEUE) n (p.get C.COLOR) = some 0x38 → d.maySpill (p.get C.QUEUE) n (p.get C.COLOR) = true →
      d.admitUnicast c p = d.spillStore c p n) ∧
    (∀ why, d.refusal (p.get C.QUEUE) n (p.get C.COLOR) = some why → d.maySpill (p.get C.QUEUE) n (p.get C.COLOR) = false →
      d.admitUnicast c p = d.refuse c p why) := by
  unfold Dev.admitUnicast
  dsimp only
  rw [if_neg (by simp [hd])]
  refine ⟨fun h => by rw [h], fun h hs => ?_, fun why h hs => ?_⟩
  · rw [h]
    exact if_pos (by simp [hs])
  · rw [h]
    exact if_neg (by simp [hs])

/-! ### Multicast admission (R327, R328) -/

/-- The device with the data of an admitted multicast packet. -/
def Dev.mcData (d : Dev) (p : Pkt) (n : Nat) : Dev :=
  ({ d with
      freeCtr := d.freeCtr + 1
      pidCtr := d.pidCtr + 1
      data := Map.put d.data (d.pidCtr + 1) ⟨p.bytes, 1, n, true, [], false⟩ }.count (Reg.BUF_COUNT 0) 1).account (p.get C.IN_PIPE) (p.get C.ENERGY)

/-- An admitted multicast packet: its data is stored once and its replication begins. -/
theorem Dev.admitMulticast_stores (d : Dev) (c : Nat) (p : Pkt) (hm : p.get C.MIRROR = 0) :
    let g := p.get C.DEST
    let n := dataCells p.bytes.length
    let cnt := d.fld (Reg.BUF_MCGROUP g) F.BUF_MCGROUP_COUNT
    let base := d.fld (Reg.BUF_MCGROUP g) F.BUF_MCGROUP_BASE
    g < 16384 → 0 < cnt → cnt ≤ 512 → d.mcUsed + n ≤ d.fld Reg.BUF_MC_LIMIT F.BUF_MC_LIMIT_LIMIT → n ≤ d.freeCells →
    d.admitMulticast c p = { d.mcData p n with repls := d.repls ++ [(⟨c, d.pidCtr + 1, base, base + cnt, 0, []⟩ : Repl)] }.setPkt c
      { p.put C.HEAD_CELL (Config.free d.freeCtr % bufCells) with stage := .replicate } := by
  intro g n cnt base hg h0 h512 hlim hfree
  unfold Dev.admitMulticast
  dsimp only
  rw [if_neg (Nat.not_le.mpr hg), if_neg (not_or.mpr ⟨Nat.pos_iff_ne_zero.mp h0, Nat.not_lt.mpr h512⟩),
    if_neg (not_or.mpr ⟨Nat.not_lt.mpr hlim, Nat.not_lt.mpr hfree⟩)]
  rw [Dev.session_none _ _ _ _ _ _ ((Pkt.get_put_other _ _ (by decide)).trans hm), Pkt.get_put_other _ _ (by decide),
    Pkt.get_put_other _ _ (by decide)]
  rfl

/-- A group that does not exist, or has no list or too long a list, drops the packet. -/
theorem Dev.admitMulticast_drops (d : Dev) (c : Nat) (p : Pkt)
    (h : 16384 ≤ p.get C.DEST ∨ d.fld (Reg.BUF_MCGROUP (p.get C.DEST)) F.BUF_MCGROUP_COUNT = 0 ∨
      512 < d.fld (Reg.BUF_MCGROUP (p.get C.DEST)) F.BUF_MCGROUP_COUNT) :
    ∃ why, d.admitMulticast c p = (d.count (Reg.BUF_COUNT 4) 1).discard c (p.dispose Disp.drop why) := by
  unfold Dev.admitMulticast
  dsimp only
  by_cases hg : 16384 ≤ p.get C.DEST
  · exact ⟨_, if_pos hg⟩
  · rw [if_neg hg]
    exact ⟨_, if_pos (h.resolve_left hg)⟩

/-! ### MC_COPY (R328, R329) -/

theorem Dev.addRef_data (d : Dev) {id : Nat} {x : Data} (h : Map.find d.data id = some x) :
    d.addRef id = { d with data := Map.put d.data id { x with refs := x.refs + 1 } } := by
  unfold Dev.addRef
  rw [h]

/-- A list entry that gives a copy changes nothing itself. -/
theorem Dev.mcEntry_some (d : Dev) (p : Pkt) (i : Nat) {x : Nat × Nat} (h : (d.mcEntry p i).2 = some x) : d.mcEntry p i = (d, some x) := by
  unfold Dev.mcEntry at h ⊢
  dsimp only at h ⊢
  iterate 5
    split at h
    · cases h
    rw [if_neg ‹_›]
  split at h
  next => cases h
  next hnone =>
    cases h
    rfl

/-- The packet of a copy, before it is charged as one. -/
def Dev.copyPkt (d : Dev) (p : Pkt) (r : Repl) (i q port : Nat) : Pkt :=
  let rw := d.fld (Reg.BUF_MCLIST i) F.BUF_MCLIST_REWRITE_PTR
  let x := ((p.put C.QUEUE q).put C.DEST port).put C.MCAST 0
  (if rw ≠ 0 then x.put C.REWRITE_PTR rw else x).put C.ORIG_CTX r.ctx

theorem Dev.copyPkt_get (d : Dev) (p : Pkt) (r : Repl) (i q port : Nat) (hl : p.words.length = 32) (hq : q < 131072) (hport : port < 65536) :
    (d.copyPkt p r i q port).get C.QUEUE = q ∧ (d.copyPkt p r i q port).get C.DEST = port := by
  unfold Dev.copyPkt
  dsimp only
  rw [Pkt.get_put_other _ _ (by decide), Pkt.get_put_other _ _ (by decide)]
  split
  all_goals
    simp (disch := decide) only [Pkt.get_put_other]
    rw [Pkt.get_put_same _ _ hl (by decide), Pkt.get_put_same _ _ (by simpa using hl) (by decide)]
    exact ⟨Nat.mod_eq_of_lt hq, Nat.mod_eq_of_lt hport⟩

/-- The device and the packet of a copy after its charge: the first copy pays nothing, a further one REPLICATE (R329). -/
def Dev.copyPaid (d : Dev) (p : Pkt) (r : Repl) (x : Pkt) : Dev × Pkt :=
  if r.made = 0 then (d, x.put C.COPY 0)
  else
    let e := x.get C.ENERGY
    let (d, x) := d.charge (x.put C.COPY 1) 18
    (d.account (p.get C.IN_PIPE) (x.get C.ENERGY - e + p.get C.FORECAST), x)

theorem Dev.copyPaid_regsOnly (d : Dev) (p : Pkt) (r : Repl) (x : Pkt) : d.RegsOnly (d.copyPaid p r x).1 := by
  unfold Dev.copyPaid
  split
  · exact .refl d
  · exact (d.charge_regsOnly _ 18).trans (Dev.account_regsOnly _ _ _)

theorem Dev.copyPaid_reg (d : Dev) (p : Pkt) (r : Repl) (x : Pkt) {a : Nat} (hc : ¬ ClassReg a) (hacc : a < 0x40700 ∨ 0x40748 ≤ a) :
    (d.copyPaid p r x).1.reg a = d.reg a := by
  have hp : p.get C.IN_PIPE < 8 := p.get_lt C.IN_PIPE
  unfold Dev.copyPaid
  split
  · rfl
  · dsimp only
    rw [Dev.account_regsKept _ _ _ _ (by simp only [List.mem_cons, List.not_mem_nil, or_false, Reg.PWR_ACC]; omega), d.charge_reg _ (by omega) hc]

/-- The copy keeps its queue and its port. -/
theorem Dev.copyPaid_get (d : Dev) (p : Pkt) (r : Repl) (x : Pkt) {f : CtxFld} (h : f.word = 2 ∨ f.word = 22) : (d.copyPaid p r x).2.get f = x.get f := by
  have hput : ∀ v, (x.put C.COPY v).get f = x.get f := fun v => Pkt.get_of_word (Pkt.word_put_other _ _ _ (by simp only [C.COPY]; omega))
  unfold Dev.copyPaid
  split
  · exact hput 0
  · dsimp only
    rw [Pkt.get_of_word (d.charge_word (x.put C.COPY 1) 18 (by omega) (by omega)), hput]

/-- The device when the record of a copy is made. -/
def Dev.copyBase (d : Dev) (p : Pkt) (r : Repl) (i q port : Nat) : Dev :=
  (((d.copyPaid p r (d.copyPkt p r i q port)).1.count (Reg.BUF_COUNT 1) 1).addRef r.data).newTag.2

/-- The record of a copy. -/
def Dev.copyRec (d : Dev) (p : Pkt) (r : Repl) (i q port : Nat) : Rec :=
  (d.copyPaid p r (d.copyPkt p r i q port)).2.toRec r.data p.bytes.length 1 1 0
    (((d.copyPaid p r (d.copyPkt p r i q port)).1.count (Reg.BUF_COUNT 1) 1).addRef r.data).newTag.1

theorem Dev.makeCopy_eq (d : Dev) (p : Pkt) (r : Repl) (i q port : Nat) :
    d.makeCopy p r i q port =
      if (d.copyBase p r i q port).ready port then
        ((d.copyBase p r i q port).enterRec (d.copyRec p r i q port), { r with made := r.made + 1, next := i + 1 })
      else (d.copyBase p r i q port, { r with made := r.made + 1, next := i + 1, notReady := r.notReady ++ [d.copyRec p r i q port] }) := rfl

/-- What a copy of an entry leaves: its record, the reference it takes, and no change of the lists before the record is entered. -/
structure Dev.CopyMade (d : Dev) (p : Pkt) (r : Repl) (q port : Nat) (x : Data) (e : Dev) (y : Rec) : Prop where
  pkts : e.pkts = d.pkts
  intakes : e.intakes = d.intakes
  residue : e.residue = d.residue
  repls : e.repls = d.repls
  data : Map.find e.data r.data = some { x with refs := x.refs + 1 }
  count : e.reg (Reg.BUF_COUNT 1) = d.plus (Reg.BUF_COUNT 1) 1
  queue : y.queue = q
  port : y.port = port
  len : y.len = p.bytes.length
  ref : y.data = r.data
  cells : y.cells = 1

theorem Dev.copyMade (d : Dev) (p : Pkt) (r : Repl) (i : Nat) {q port : Nat} {x : Data} (hl : p.words.length = 32) (hq : q < 131072)
    (hport : port < 65536) (hx : Map.find d.data r.data = some x) :
    d.CopyMade p r q port x (d.copyBase p r i q port) (d.copyRec p r i q port) := by
  obtain ⟨e, he⟩ : ∃ e, (d.copyPaid p r (d.copyPkt p r i q port)).1 = e := ⟨_, rfl⟩
  have honly : d.RegsOnly e := he ▸ d.copyPaid_regsOnly p r _
  have hreg : e.reg (Reg.BUF_COUNT 1) = d.reg (Reg.BUF_COUNT 1) :=
    he ▸ d.copyPaid_reg p r _ (by simp only [ClassReg, Reg.BUF_COUNT]; omega) (by decide)
  have hdata : Map.find (e.count (Reg.BUF_COUNT 1) 1).data r.data = some x := by
    rw [← hx, e.count_regsOnly, honly]
  obtain ⟨hqueue, hdest⟩ := d.copyPkt_get p r i q port hl hq hport
  unfold Dev.copyBase
  rw [he, Dev.addRef_data _ hdata]
  refine ⟨?_, ?_, ?_, ?_, Map.find_put_same _ _ _, ?_, ?_, ?_, rfl, rfl, rfl⟩
  · show e.pkts = _
    rw [honly]
  · show e.intakes = _
    rw [honly]
  · show e.residue = _
    rw [honly]
  · show e.repls = _
    rw [honly]
  · show (e.count (Reg.BUF_COUNT 1) 1).reg _ = _
    rw [Dev.reg_count, Dev.plus, hreg]
    rfl
  · exact (d.copyPaid_get p r _ (.inl rfl)).trans hqueue
  · exact (d.copyPaid_get p r _ (.inr rfl)).trans hdest

/-- The next entry of the list, where it gives a copy. -/
theorem Dev.mcScan_copy (d : Dev) (p : Pkt) (r : Repl) {q port : Nat} (fuel : Nat) (h : r.next < r.last) (he : (d.mcEntry p r.next).2 = some (q, port)) :
    d.mcScan p r r.next (fuel + 1) = d.makeCopy p r r.next q port := by
  unfold Dev.mcScan
  rw [if_neg (Nat.not_le.mpr h), d.mcEntry_some p r.next he]

/-- A copy for a port that is ready joins its intake. -/
theorem Dev.mcScan_ready (d : Dev) (p : Pkt) (r : Repl) {q port : Nat} {x : Data} (fuel : Nat) (h : r.next < r.last)
    (he : (d.mcEntry p r.next).2 = some (q, port)) (hm : d.CopyMade p r q port x (d.copyBase p r r.next q port) (d.copyRec p r r.next q port))
    (hr : d.ready port = true) :
    d.mcScan p r r.next (fuel + 1) = ((d.copyBase p r r.next q port).setIntake port (d.intake port ++ [d.copyRec p r r.next q port]),
      { r with made := r.made + 1, next := r.next + 1 }) := by
  have hready : (d.copyBase p r r.next q port).ready port = true := (Dev.ready_congr hm.intakes hm.residue hm.repls port).trans hr
  have hintake : (d.copyBase p r r.next q port).intake port = d.intake port := congrArg (Map.getD · port []) hm.intakes
  rw [d.mcScan_copy p r fuel h he, d.makeCopy_eq, if_pos hready, Dev.enterRec_ready _ _ (hm.port.symm ▸ hready), hm.port, hintake]

/-- A copy for a port that is not ready waits for the end of the list. -/
theorem Dev.mcScan_notReady (d : Dev) (p : Pkt) (r : Repl) {q port : Nat} {x : Data} (fuel : Nat) (h : r.next < r.last)
    (he : (d.mcEntry p r.next).2 = some (q, port)) (hm : d.CopyMade p r q port x (d.copyBase p r r.next q port) (d.copyRec p r r.next q port))
    (hr : d.ready port = false) :
    d.mcScan p r r.next (fuel + 1) = (d.copyBase p r r.next q port,
      { r with made := r.made + 1, next := r.next + 1, notReady := r.notReady ++ [d.copyRec p r r.next q port] }) := by
  rw [d.mcScan_copy p r fuel h he, d.makeCopy_eq, if_neg (by rw [Dev.ready_congr hm.intakes hm.residue hm.repls port, hr]; decide)]

/-- At the end of the list there is nothing to copy. -/
theorem Dev.mcScan_end (d : Dev) (p : Pkt) (r : Repl) (fuel : Nat) (h : r.last ≤ r.next) :
    d.mcScan p r r.next (fuel + 1) = (d, { r with next := r.last }) := if_pos h

/-- A step that scans up to an entry of the list leaves the replication where the scan left it. -/
theorem Dev.mcStep_scanned (d : Dev) (c : Nat) (p : Pkt) {r r' : Repl} {e : Dev} (hf : (d.repls.find? fun x => x.ctx = c) = some r)
    (hpool : d.poolFree = true) (hs : d.mcScan p r r.next 513 = (e, r')) :
    d.mcStep c p = if r'.next ≥ r'.last then e.mcEnd r' else { e with repls := e.repls.map fun x => if x.ctx = c then r' else x } := by
  unfold Dev.mcStep
  simp only [hf, hpool, hs, Bool.not_true, Bool.false_eq_true, if_false]

@[simp] theorem Dev.dropRef_pkts (d : Dev) (id : Nat) : (d.dropRef id).pkts = d.pkts := by rw [d.dropRef_eq id]
@[simp] theorem Dev.dropRef_intakes (d : Dev) (id : Nat) : (d.dropRef id).intakes = d.intakes := by rw [d.dropRef_eq id]
@[simp] theorem Dev.dropRef_queues (d : Dev) (id : Nat) : (d.dropRef id).queues = d.queues := by rw [d.dropRef_eq id]
@[simp] theorem Dev.dropRef_residue (d : Dev) (id : Nat) : (d.dropRef id).residue = d.residue := by rw [d.dropRef_eq id]
@[simp] theorem Dev.dropRef_repls (d : Dev) (id : Nat) : (d.dropRef id).repls = d.repls := by rw [d.dropRef_eq id]
@[simp] theorem Dev.dropRef_discards (d : Dev) (id : Nat) : (d.dropRef id).discards = d.discards := by rw [d.dropRef_eq id]
@[simp] theorem Dev.dropRef_wire (d : Dev) (id : Nat) : (d.dropRef id).wire = d.wire := by rw [d.dropRef_eq id]
@[simp] theorem Dev.dropRef_regs (d : Dev) (id : Nat) : (d.dropRef id).regs = d.regs := by rw [d.dropRef_eq id]

theorem exec_mcCopy (c : Nat) (s : State) (p : Pkt) (hr : s.dev.running = true) (hp : s.dev.pkt c = some p) (hs : p.stage = .replicate)
    (hl : s.dev.lineUp 80 = true) : exec (.mcCopy c) s = .next (s.withDev (s.dev.mcStep c p)) := by
  show execMcCopy c s = _
  unfold execMcCopy
  rw [Dev.withPkt_acts _ _ _ _ p hr hp (by simp [hs, hl])]
  rfl

/-- Replacing the replication of a context by another of the same context. -/
theorem find_map_ctx {l : List Repl} {c : Nat} {r r' : Repl} (h : (l.find? fun x => x.ctx = c) = some r) (hc : r'.ctx = c) :
    ((l.map fun x => if x.ctx = c then r' else x).find? fun x => x.ctx = c) = some r' := by
  induction l with
  | nil => cases h
  | cons y l ih =>
    by_cases hy : y.ctx = c
    · simp [hy, hc]
    · simp only [List.find?_cons, hy, decide_false] at h
      simp [hy, ih h]

theorem find_filter_ctx (l : List Repl) (c : Nat) : ((l.filter fun x => x.ctx != c).find? fun x => x.ctx = c) = none := by
  rw [List.find?_eq_none]
  intro x hx
  simpa using (List.mem_filter.mp hx).2

/-- Settles O14: what the packet's queue answers, the checks of a multicast packet, and the next entry of a list decide. -/
theorem admission : Obligations.Admission := by
  unfold Obligations.Admission
  refine ⟨?_, ?_, ?_⟩
  · intro c p s hr hp hs hl hlen ho hmc hm hd n port
    obtain ⟨hadmit, hspill, hrefuse⟩ := s.dev.admitUnicast_refusal c p hd
    have hexec := exec_admission c s p hr hp hs hl ho
    rw [if_pos hmc] at hexec
    refine ⟨fun hq hready => ?_, fun hq hmay hready => ?_, fun why hq hmay => ?_⟩
    · have h := s.dev.store_stored c p n [] hm hready
      rw [hadmit hq] at hexec
      refine ⟨_, _, hexec, h.freedInto ⟨rfl, fun _ _ => rfl⟩, ?_, fun k hk => ?_, h.queues, h.residue, h.pid, h.queue, h.len, h.cells, h.data, ?_⟩
      · exact (congrArg (Map.getD · port []) h.intakes).trans (getD_putList_same _ _ _)
      · exact (congrArg (Map.getD · k []) h.intakes).trans (getD_putList_other _ _ hk)
      · exact (h.reg_count _ (by decide) (by decide)).trans (s.dev.reg_count _ _)
    · have h := s.dev.spillStore_stored c p n hm hready
      have hget : ∀ {f : CtxFld}, f.word = 0 ∨ f.word = 2 → f.apart C.SPILLED = true → (s.dev.charge (p.put C.SPILLED 1) 9).2.get f = p.get f :=
        fun {f} hf ha => (Pkt.get_of_word (s.dev.charge_word _ 9 (by omega) (by omega))).trans (Pkt.get_put_other _ _ ha)
      have henergy : (s.dev.charge (p.put C.SPILLED 1) 9).2.get C.ENERGY = min (p.get C.ENERGY + s.dev.cost 9 (p.get C.FRAME_LEN)) energyMax := by
        rw [s.dev.charge_energy _ 9 (by simpa using hlen), Pkt.get_put_other _ _ (by decide), Pkt.get_put_other _ _ (by decide)]
      have hdest : (s.dev.charge (p.put C.SPILLED 1) 9).2.get C.DEST = port :=
        (Pkt.get_of_word (s.dev.charge_word _ 9 (by decide) (by decide))).trans (Pkt.get_put_other _ _ (by decide))
      have hkept : s.dev.AccKept (s.dev.spillBase p) := ⟨(s.dev.spillBase_regsOnly p).pkts, fun k hk => s.dev.spillBase_reg p
        (by simp only [Reg.PWR_ACC, Reg.BUF_COUNT]; omega) (by simp only [ClassReg, Reg.PWR_ACC]; omega)⟩
      have hfreed := h.freedInto hkept
      rw [henergy, hget (.inl rfl) (by decide)] at hfreed
      have hintakes := h.intakes
      rw [hdest, (s.dev.spillBase_regsOnly p).intakes, (s.dev.spillBase_regsOnly p).intake] at hintakes
      have hclass : ∀ {k : Nat}, ¬ ClassReg (Reg.BUF_COUNT k) := fun {k} => by simp only [ClassReg, Reg.BUF_COUNT]; omega
      rw [hspill hq hmay] at hexec
      refine ⟨_, _, hexec, hfreed, ?_, h.pid, h.queue.trans (hget (.inr rfl) (by decide)), h.len, h.cells, h.spilled, h.data, ?_, ?_, ?_⟩
      · exact (congrArg (Map.getD · port []) hintakes).trans (getD_putList_same _ _ _)
      · refine h.spillQ.trans ?_
        rw [(s.dev.spillBase_regsOnly p).spillQ]
        rfl
      · refine (h.reg_count _ (by decide) (by decide)).trans ?_
        rw [Dev.reg_count, Dev.plus, s.dev.spillBase_reg p (by decide) hclass]
        rfl
      · refine (h.reg_count _ (by decide) (by decide)).trans ((Dev.reg_count_other _ _ _ _ (by decide)).trans ((Dev.reg_count _ _ _).trans ?_))
        rw [Dev.plus, s.dev.charge_reg _ (by omega) hclass]
        rfl
    · rw [hrefuse why hq hmay, s.dev.refuse_eq c p why hm] at hexec
      refine ⟨_, hexec, (s.dev.noteRefusal_accKept why).discard_dispose c p _ why, ?_, ?_, ?_⟩
      · show (s.dev.noteRefusal why).intakes = _
        rw [Dev.noteRefusal_messageOnly]
      · show (s.dev.noteRefusal why).queues = _
        rw [Dev.noteRefusal_messageOnly]
      · show (s.dev.noteRefusal why).data = _
        rw [Dev.noteRefusal_messageOnly]
  · intro c p s hr hp hs hl hlen ho hmc hm g n cnt base
    have hexec := exec_admission c s p hr hp hs hl ho
    rw [if_neg (by rw [hmc]; decide)] at hexec
    refine ⟨fun hg h0 h512 hlim hfree => ?_, fun h => ?_⟩
    · have hpipe : p.get C.IN_PIPE < 8 := p.get_lt C.IN_PIPE
      rw [s.dev.admitMulticast_stores c p hm hg h0 h512 hlim hfree] at hexec
      refine ⟨_, _, _, hexec, Dev.pkt_setPkt_same _ _ _, rfl, fun k hk => Dev.pkt_setPkt_other _ _ _ _ hk, rfl, Map.find_put_same _ _ _, ?_, rfl, rfl⟩
      exact (Dev.account_regsKept _ _ _ _ (by
        simp only [List.mem_cons, List.not_mem_nil, or_false, Reg.PWR_ACC, Reg.BUF_COUNT]; omega)).trans (Dev.reg_count _ _ _)
    · obtain ⟨why, hdrop⟩ := s.dev.admitMulticast_drops c p h
      rw [hdrop] at hexec
      have hkept : s.dev.AccKept (s.dev.count (Reg.BUF_COUNT 4) 1) :=
        ⟨rfl, fun k hk => Dev.reg_count_other _ _ _ _ (by simp only [Reg.PWR_ACC, Reg.BUF_COUNT]; omega)⟩
      exact ⟨_, hexec, hkept.discard_dispose c p _ why, (Dev.discard_reg _ _ _ (by decide)).trans (s.dev.reg_count _ _), rfl, rfl⟩
  · intro c q port p r x s hr hp hs hl hlen hpool hf hc hx
    have hexec := exec_mcCopy c s p hr hp hs hl
    refine ⟨fun hn he hq hport hready => ?_, fun hn he hq hport hready => ?_, fun hn hnone => ?_⟩
    · have hm := s.dev.copyMade p r r.next hlen hq hport hx
      have hfind : ((s.dev.copyBase p r r.next q port).repls.find? fun y => y.ctx = c) = some r := by rw [hm.repls, hf]
      rw [s.dev.mcStep_scanned c p hf hpool (s.dev.mcScan_ready p r 512 (by omega) he hm hready), if_neg (Nat.not_le.mpr hn)] at hexec
      generalize s.dev.copyBase p r r.next q port = e at *
      generalize s.dev.copyRec p r r.next q port = y at *
      refine ⟨_, y, hexec, hm.pkts.symm, getD_putList_same _ _ _, fun k hk => (getD_putList_other _ _ hk).trans ?_, hm.queue, hm.len, hm.ref,
        hm.cells, hm.data, find_map_ctx hfind hc, hm.count⟩
      exact congrArg (Map.getD · k []) hm.intakes
    · have hm := s.dev.copyMade p r r.next hlen hq hport hx
      have hfind : ((s.dev.copyBase p r r.next q port).repls.find? fun y => y.ctx = c) = some r := by rw [hm.repls, hf]
      rw [s.dev.mcStep_scanned c p hf hpool (s.dev.mcScan_notReady p r 512 (by omega) he hm hready), if_neg (Nat.not_le.mpr hn)] at hexec
      generalize s.dev.copyBase p r r.next q port = e at *
      generalize s.dev.copyRec p r r.next q port = y at *
      exact ⟨_, y, hexec, hm.pkts.symm, hm.intakes, hm.residue, hm.queue, hm.port, hm.ref, hm.data,
        find_map_ctx hfind hc, hm.count⟩
    · rw [s.dev.mcStep_scanned c p hf hpool (s.dev.mcScan_end p r 512 hn), if_pos (Nat.le_refl _)] at hexec
      have hend : s.dev.mcEnd { r with next := r.last } =
          ({ s.dev with repls := s.dev.repls.filter fun x => x.ctx != c }.dropRef r.data).dropPkt c := by
        unfold Dev.mcEnd
        rw [hnone, hc]
        rfl
      rw [hend] at hexec
      refine ⟨_, hexec, Map.find_del_same _ _, fun k hk => (Map.find_del_other _ _ _ hk).trans ?_, Dev.dropRef_intakes _ _, ?_, Dev.dropRef_data _ _ hx⟩
      · exact congrArg (Map.find · k) (Dev.dropRef_pkts _ _)
      · exact (congrArg (List.find? _) (Dev.dropRef_repls _ _)).trans (find_filter_ctx _ _)

end Sys2Proof.Machine
end

section
/-! PROOFS. Dequeued packets that are freed or lost (R315, R45), and FRAME_TX (R32, R122, R123, R262, R383, R403, R404). -/

namespace Sys2Proof.Machine

/-! ### A dequeued packet leaves -/

theorem Dev.freePkt_eq (d : Dev) (c : Nat) (p : Pkt) :
    d.freePkt c p = { d with pkts := Map.del d.pkts c, data := (d.dropRef p.data).data, spillQ := (d.dropRef p.data).spillQ } := by
  unfold Dev.freePkt
  rw [Dev.dropRef_eq]
  rfl

@[simp] theorem Dev.freePkt_regs (d : Dev) (c : Nat) (p : Pkt) : (d.freePkt c p).regs = d.regs := by rw [d.freePkt_eq]
@[simp] theorem Dev.freePkt_tim (d : Dev) (c : Nat) (p : Pkt) : (d.freePkt c p).tim = d.tim := by rw [d.freePkt_eq]
@[simp] theorem Dev.freePkt_wire (d : Dev) (c : Nat) (p : Pkt) : (d.freePkt c p).wire = d.wire := by rw [d.freePkt_eq]
@[simp] theorem Dev.freePkt_discards (d : Dev) (c : Nat) (p : Pkt) : (d.freePkt c p).discards = d.discards := by rw [d.freePkt_eq]

@[simp] theorem Dev.freePkt_reg (d : Dev) (c : Nat) (p : Pkt) (a : Nat) : (d.freePkt c p).reg a = d.reg a := by rw [d.freePkt_eq]; rfl

/-- The packet's context is free and its record's data has one reference less. -/
structure Dev.Freed (d e : Dev) (c : Nat) (p : Pkt) : Prop where
  gone : e.pkt c = none
  kept : d.pktsKept e c
  data : d.dataFreed e p.data

theorem Dev.freePkt_freed {d e : Dev} (c : Nat) (p : Pkt) (hp : e.pkts = d.pkts) (hd : e.data = d.data) : d.Freed (e.freePkt c p) c p where
  gone := by rw [Dev.pkt, e.freePkt_pkts, Map.find_del_same]
  kept := fun k hk => by
    rw [Dev.pkt, e.freePkt_pkts, Map.find_del_other _ _ _ hk, hp]
    rfl
  data := fun x hx => by
    rw [e.freePkt_eq]
    exact e.dropRef_data p.data (hd ▸ hx)

/-- The packet is discarded with its record: its serial number and the REASON are noted, and nothing is sent. -/
structure Dev.Lost (d e : Dev) (c : Nat) (p : Pkt) (why : Nat) : Prop extends d.Freed e c p where
  discards : e.discards = (p.pid, why) :: d.discards
  wire : e.wire = d.wire

theorem Dev.losePkt_lost {d e : Dev} (c : Nat) (p : Pkt) (why : Nat) (hp : e.pkts = d.pkts) (hd : e.data = d.data) (hn : e.discards = d.discards)
    (hw : e.wire = d.wire) : d.Lost (e.losePkt c p why) c p why where
  toFreed := Dev.freePkt_freed (e := e.noteDiscard p.pid why) c p hp hd
  discards := by
    unfold Dev.losePkt
    rw [Dev.freePkt_discards, ← hn]
    rfl
  wire := by
    unfold Dev.losePkt
    rw [Dev.freePkt_wire, ← hw]
    rfl

@[simp] theorem Dev.losePkt_reg (d : Dev) (c : Nat) (p : Pkt) (why a : Nat) : (d.losePkt c p why).reg a = d.reg a :=
  (d.noteDiscard p.pid why).freePkt_reg c p a

/-! ### The counts of a frame sent (R122) -/

theorem Dev.countTx_counts (d : Dev) (n : Nat) (bs : List Byte) :
    let e := (d.count (Reg.PRT_COUNT n 9) 1).count (Reg.PRT_COUNT n 10) bs.length
    e.RegsOnly (d.countTx n bs) ∧ e.regsKept (d.countTx n bs) ([11, 12].map (Reg.PRT_COUNT n)) := by
  intro e
  unfold Dev.countTx
  dsimp only
  split
  · exact ⟨Dev.count_regsOnly _ _ _, Dev.count_portCounts _ _ _ _ _ (by decide)⟩
  · split
    · exact ⟨Dev.count_regsOnly _ _ _, Dev.count_portCounts _ _ _ _ _ (by decide)⟩
    · exact ⟨.refl _, .refl _ _⟩

theorem Dev.countTx_regsOnly (d : Dev) (n : Nat) (bs : List Byte) : d.RegsOnly (d.countTx n bs) :=
  ((d.count_regsOnly _ _).trans (Dev.count_regsOnly _ _ _)).trans (d.countTx_counts n bs).1

theorem Dev.countTx_regsKept (d : Dev) (n : Nat) (bs : List Byte) : d.regsKept (d.countTx n bs) ([9, 10, 11, 12].map (Reg.PRT_COUNT n)) :=
  ((d.count_portCounts n 9 1 _ (by decide)).trans (Dev.count_portCounts _ n 10 _ _ (by decide))).trans
    ((d.countTx_counts n bs).2.mono (List.map_subset _ (by decide)))

theorem Dev.countTx_frames (d : Dev) (n : Nat) (bs : List Byte) :
    (d.countTx n bs).reg (Reg.PRT_COUNT n 9) = d.plus (Reg.PRT_COUNT n 9) 1 := by
  rw [(d.countTx_counts n bs).2 _ (not_mem_portCounts _ _ _ (by decide)), Dev.reg_count_other _ _ _ _ (by simp [Reg.PRT_COUNT_inj]), Dev.reg_count]

theorem Dev.countTx_octets (d : Dev) (n : Nat) (bs : List Byte) :
    (d.countTx n bs).reg (Reg.PRT_COUNT n 10) = d.plus (Reg.PRT_COUNT n 10) bs.length := by
  rw [(d.countTx_counts n bs).2 _ (not_mem_portCounts _ _ _ (by decide))]
  exact (d.count_portCounts n 9 1 [9] (by decide)).count (not_mem_portCounts _ _ _ (by decide)) _

/-! ### FRAME_TX -/

theorem exec_frameTx (c n : Nat) (dev : BitVec 40) (cut : Option Nat) (p : Pkt) (s : State) (hr : s.dev.running = true) (hp : s.dev.pkt c = some p)
    (hs : p.stage = .txRim n) : exec (.frameTx c dev cut) s = .next (s.withDev (s.dev.txFrame c n dev cut false p)) := by
  show execFrameTx c dev cut s = _
  unfold execFrameTx
  rw [Dev.withPkt_acts _ _ _ _ p hr hp (by simp [Pkt.inRim, hs]), Dev.txStep, hs]
  rfl

/-- A port that is down discards the frame. -/
theorem Dev.txFrame_down (d : Dev) (c n : Nat) (dev : BitVec 40) (cut : Option Nat) (p : Pkt) (h : d.portUp n = false) :
    d.txFrame c n dev cut false p = (d.count (Reg.PRT_COUNT n 13) 1).losePkt c p 0 := if_pos (by simp [h])

/-- A frame that nothing holds back, of a port that is up, starts now. -/
theorem Dev.txFrame_starts (d : Dev) (c n : Nat) (dev : BitVec 40) (cut : Option Nat) (p : Pkt) (h : d.portUp n = true)
    (ho : d.older p (fun g => g == .egress n || g == .txRim n || g == .preempted n) = false) (hb : d.txBlocked n false p = false) {e : Dev}
    (he : d.overrun n p = e) :
    d.txFrame c n dev cut false p = match e.cutPoint n p cut with
      | some k => (e.count (Reg.PRT_COUNT n 20) 1).setPkt c { p with stage := .preempted n, sent := p.sent + k, txStart := d.txTime n dev }
      | none => e.sendWhole c n p (d.txTime n dev) := by
  unfold Dev.txFrame
  rw [if_neg (by simp [h]), if_neg (by simp [ho, hb])]
  subst he
  rfl

/-- A port without gates, or a class that may be preempted, overruns no gate. -/
theorem Dev.overrun_none (d : Dev) (n : Nat) (p : Pkt) (h : d.gatesEn n = false ∨ d.preemptable n (p.queue % 8) = true) : d.overrun n p = d := by
  unfold Dev.overrun
  exact if_neg (by rcases h with h | h <;> simp [h])

theorem Dev.txBlocked_express (d : Dev) (n : Nat) (p : Pkt) (h : d.preemptable n (p.queue % 8) = false) : d.txBlocked n false p = false := by
  simp [Dev.txBlocked, h]

theorem Dev.txBlocked_free (d : Dev) (n : Nat) (p : Pkt) (hr : d.remainder n = false) (hh : d.bit (Reg.GAT_STATUS n) F.GAT_STATUS_HOLD = false) :
    d.txBlocked n false p = false := by
  simp [Dev.txBlocked, hr, hh]

/-- A frame that may not be preempted is not cut. -/
theorem Dev.cutPoint_express (d : Dev) (n : Nat) (p : Pkt) (cut : Option Nat) (h : d.preemptable n (p.queue % 8) = false) :
    d.cutPoint n p cut = none := if_pos (by simp [h])

theorem Dev.preemptable_of_mayCut {d : Dev} {n : Nat} {p : Pkt} {k : Nat} (h : d.mayCut n p k = true) : d.preemptable n (p.queue % 8) = true := by
  simp only [Dev.mayCut, Bool.and_eq_true] at h
  exact h.1.1

/-- A frame that nothing forces to be cut is cut where the command says. -/
theorem Dev.cutPoint_given (d : Dev) (n : Nat) (p : Pkt) (k : Nat) (hk : d.mayCut n p k = true) (hw : d.expressWaits n = false)
    (hc : d.cutIn n (p.queue % 8) = none) : d.cutPoint n p (some k) = some k := by
  have hforced : d.forcedCut n p = none := by simp [Dev.forcedCut, hw, hc]
  unfold Dev.cutPoint
  rw [if_neg (by simp [Dev.preemptable_of_mayCut hk]), hforced]
  simp [Option.filter, hk]

/-- A frame for which an express frame waits is cut as soon as a fragment may be. -/
theorem Dev.cutPoint_forced (d : Dev) (n : Nat) (p : Pkt) (hw : d.expressWaits n = true) (hk : d.mayCut n p (d.minFrag n - 4) = true) :
    d.cutPoint n p none = some (d.minFrag n - 4) := by
  have hforced : d.forcedCut n p = some (d.minFrag n - 4) := by simp [Dev.forcedCut, hw]
  unfold Dev.cutPoint
  rw [if_neg (by simp [Dev.preemptable_of_mayCut hk]), hforced]
  simp [Option.filter, hk]

/-- A frame that asks for no correction is sent as it is, padded. -/
theorem Dev.sendWhole_plain (d : Dev) (c n : Nat) (p : Pkt) (tx : Nat) (h : p.get C.TS < 2) {e : Dev} (he : d.pushReport p n tx false = e) :
    d.sendWhole c n p tx = ({ e with wire := ⟨n, padFrame p.bytes, true⟩ :: e.wire }.countTx n (padFrame p.bytes)).freePkt c p := by
  have hcorrect : d.correct p tx = (d, p.bytes, false) := if_neg (by omega)
  unfold Dev.sendWhole
  simp only [hcorrect, he]

/-- A whole frame without a report leaves the port, counted and freed. -/
theorem Dev.sendWhole_sent (d : Dev) (c n : Nat) (p : Pkt) (tx : Nat) (h : p.get C.TS = 0) :
    let e := d.sendWhole c n p tx
    d.Freed e c p ∧ e.wire = ⟨n, padFrame p.bytes, true⟩ :: d.wire ∧ e.reg (Reg.PRT_COUNT n 9) = d.plus (Reg.PRT_COUNT n 9) 1 ∧
      e.reg (Reg.PRT_COUNT n 10) = d.plus (Reg.PRT_COUNT n 10) (padFrame p.bytes).length ∧ d.regsKept e ([9, 10, 11, 12].map (Reg.PRT_COUNT n)) ∧
      e.tim = d.tim := by
  intro e
  have hreport : d.pushReport p n tx false = d := if_neg (by omega)
  obtain ⟨f, hf⟩ : ∃ f : Dev, { d with wire := ⟨n, padFrame p.bytes, true⟩ :: d.wire } = f := ⟨_, rfl⟩
  have he : e = (f.countTx n (padFrame p.bytes)).freePkt c p := hf ▸ d.sendWhole_plain c n p tx (by omega) hreport
  have hc := f.countTx_regsOnly n (padFrame p.bytes)
  have hreg : ∀ a, f.reg a = d.reg a := fun a => hf ▸ rfl
  rw [he]
  refine ⟨Dev.freePkt_freed c p ?_ ?_, ?_, ?_, ?_, fun a ha => ?_, ?_⟩
  · rw [hc, ← hf]
  · rw [hc, ← hf]
  · rw [Dev.freePkt_wire, hc, ← hf]
  · rw [Dev.freePkt_reg, Dev.countTx_frames, Dev.plus, hreg]
    rfl
  · rw [Dev.freePkt_reg, Dev.countTx_octets, Dev.plus, hreg]
    rfl
  · rw [Dev.freePkt_reg, f.countTx_regsKept n _ a ha, hreg]
  · rw [Dev.freePkt_tim, hc, ← hf]

/-- What a frame sent whole leaves of the time unit and its registers is what its report left. -/
theorem Dev.sendWhole_report (d : Dev) (c n : Nat) (p : Pkt) (tx : Nat) (h : p.get C.TS = 1) :
    (d.sendWhole c n p tx).tim = (d.pushReport p n tx false).tim ∧
    ∀ a, a ∉ [9, 10, 11, 12].map (Reg.PRT_COUNT n) → (d.sendWhole c n p tx).reg a = (d.pushReport p n tx false).reg a := by
  obtain ⟨e, he⟩ : ∃ e, d.pushReport p n tx false = e := ⟨_, rfl⟩
  rw [d.sendWhole_plain c n p tx (by omega) he, he]
  refine ⟨?_, fun a ha => ?_⟩
  · rw [Dev.freePkt_tim, Dev.countTx_regsOnly]
  · rw [Dev.freePkt_reg, Dev.countTx_regsKept _ _ _ a ha]
    rfl

/-- A report finds room, or is lost with an event (R383). -/
theorem Dev.pushReport_room (d : Dev) (p : Pkt) (n tx : Nat) (found : Bool) (h : p.get C.TS = 1) :
    (d.tim.tsq.length < 1024 → d.pushReport p n tx found = { d with tim := { d.tim with tsq := d.tim.tsq ++ [tsReport p n tx found] } }) ∧
    (1024 ≤ d.tim.tsq.length → d.pushReport p n tx found = (d.count (Reg.TIM_COUNT 3) 1).raise 8 6) := by
  unfold Dev.pushReport
  dsimp only
  rw [if_pos (.inl h)]
  exact ⟨fun hr => if_pos hr, fun hr => if_neg (by omega)⟩

/-- Settles O16: what the port's state, the gates and preemption let the frame do. -/
theorem frameTransmit : Obligations.FrameTransmit := by
  unfold Obligations.FrameTransmit
  refine ⟨?_, ?_⟩
  · intro c n dev p s hr hp hs hn least
    have hexec := fun cut => exec_frameTx c n dev cut p s hr hp hs
    refine ⟨fun hdown => ?_, fun hup ho => ⟨fun hpre hgates hts => ?_, fun hrem hhold => ⟨fun k hk hw hcut => ?_, fun hw hk => ?_⟩⟩⟩
    · have hlost : s.dev.Lost ((s.dev.count (Reg.PRT_COUNT n 13) 1).losePkt c p 0) c p 0 := Dev.losePkt_lost c p 0 rfl rfl rfl rfl
      have h := hexec none
      rw [s.dev.txFrame_down c n dev none p hdown] at h
      refine ⟨_, h, hlost.gone, hlost.kept, hlost.wire, hlost.data, ?_, fun a ha => ?_⟩
      · exact (Dev.losePkt_reg _ _ _ _ _).trans (Dev.reg_count _ _ _)
      · exact (Dev.losePkt_reg _ _ _ _ _).trans (s.dev.count_regsKept 1 (List.mem_singleton_self _) a ha)
    · have h := hexec none
      rw [s.dev.txFrame_starts c n dev none p hup ho (s.dev.txBlocked_express n p hpre) (s.dev.overrun_none n p (.inl hgates)),
        s.dev.cutPoint_express n p none hpre] at h
      obtain ⟨hfreed, hwire, h9, h10, hkept, htim⟩ := s.dev.sendWhole_sent c n p (s.dev.txTime n dev) hts
      exact ⟨_, h, hfreed.gone, hfreed.kept, hwire, h9, h10, hkept, htim, hfreed.data⟩
    · have h := hexec (some k)
      rw [s.dev.txFrame_starts c n dev (some k) p hup ho (s.dev.txBlocked_free n p hrem hhold)
        (s.dev.overrun_none n p (.inr (Dev.preemptable_of_mayCut hk))), s.dev.cutPoint_given n p k hk hw hcut] at h
      exact ⟨_, _, h, Dev.pkt_setPkt_same _ _ _, fun j hj => Dev.pkt_setPkt_other _ _ _ _ hj, rfl, rfl, rfl, rfl, rfl, Dev.reg_count _ _ _⟩
    · have h := hexec none
      rw [s.dev.txFrame_starts c n dev none p hup ho (s.dev.txBlocked_free n p hrem hhold)
        (s.dev.overrun_none n p (.inr (Dev.preemptable_of_mayCut hk))), s.dev.cutPoint_forced n p hw hk] at h
      exact ⟨_, _, h, Dev.pkt_setPkt_same _ _ _, fun j hj => Dev.pkt_setPkt_other _ _ _ _ hj, rfl, rfl, rfl, rfl, Dev.reg_count _ _ _⟩
  · intro c n dev p s hr hp hs hn hup ho hpre hgates hts
    have h := exec_frameTx c n dev none p s hr hp hs
    rw [s.dev.txFrame_starts c n dev none p hup ho (s.dev.txBlocked_express n p hpre) (s.dev.overrun_none n p (.inl hgates)),
      s.dev.cutPoint_express n p none hpre] at h
    obtain ⟨htim, hreg⟩ := s.dev.sendWhole_report c n p (s.dev.txTime n dev) hts
    obtain ⟨hroom, hfull⟩ := s.dev.pushReport_room p n (s.dev.txTime n dev) false hts
    refine ⟨fun hq => ⟨_, h, htim.trans (by rw [hroom hq])⟩, fun hq => ⟨_, h, htim.trans ?_, (hreg _ ?_).trans ?_, ?_⟩⟩
    · rw [hfull hq, Dev.raise_tim]
      rfl
    · simp only [List.map, List.mem_cons, List.not_mem_nil, or_false, Reg.PRT_COUNT, Reg.TIM_COUNT]
      omega
    · rw [hfull hq, Dev.raise_regsKept _ (s := 8) (a := Reg.TIM_EVENT) 6 rfl _ (by decide), Dev.reg_count]
    · show ((s.dev.sendWhole c n p (s.dev.txTime n dev)).reg Reg.TIM_EVENT).getLsbD 6 = true
      rw [hreg _ (by simp only [List.map, List.mem_cons, List.not_mem_nil, or_false, Reg.PRT_COUNT, Reg.TIM_EVENT]; omega), hfull hq]
      exact Dev.raise_reg_bit _ (s := 8) rfl (by decide) (by decide) (by decide) (by decide)

end Sys2Proof.Machine
end

section
/-! PROOFS. DEQUEUE (R356, R358): a queue beyond the 131,072 that exist, whose subscriber's address is a counter of the DRAM controller. -/

namespace Sys2Proof.Machine

/-- A queue number whose subscriber record would stand at DMC_COUNT7 of channel 0. -/
def farQueue : Nat := 6230072

/-- A record of 145 bytes for port 130. -/
def farRec (queue : Nat) : Rec :=
  { pid := 1, words := ctxZero, len := 145, data := 4, cells := 1, own := 0, spill := 1, port := 130, queue := queue, since := 0, headAt := some 0,
    adm := 1, flight := [] }

/-- Queue 8 of port 130 holds a record with a spill cell while DRAM is down; a record stands in the far queue, whose parent reads as the group of
queue 8 until the counter at that address next counts. -/
def farState : State :=
  State.reset.withDev { Dev.reset with
    regs := [(Reg.SYS_STAGE, 15), (Reg.SCH_GROUP 1, BitVec.ofNat 64 (2 ^ 63 + 130 * 2 ^ 48)), (Reg.SCH_SUB 1, BitVec.ofNat 64 (2 ^ 63 + 2 ^ 48)),
      (Reg.DMC_COUNT 0 7, BitVec.ofNat 64 (2 ^ 48))]
    data := [(4, ⟨List.replicate 145 0, 1, 1, false, [0], false⟩)]
    queues := [(8, [farRec 8]), (farQueue, [farRec farQueue])]
    drr := [(drrKey 0 8, ⟨none, 300⟩), (drrKey 1 1, ⟨some 8, 300⟩), (drrKey 2 1, ⟨some 1, 300⟩), (drrKey 3 130, ⟨some 1, 0⟩)] }

theorem farQueue_address : Reg.SCH_SUB (farQueue / 8) = Reg.DMC_COUNT 0 7 := by decide

theorem farState_picks :
    let e := farState.dev.refillUsed 130
    farState.dev.running = true ∧ farState.dev.lineUp 80 = true ∧ farState.dev.lineUp 81 = true ∧ e.portElig 130 = true ∧ e.eligQueues 130 = [8] ∧
    (e.pickFrom 130 [8]).1 = ⟨1, 1, 8, false⟩ ∧ farState.dev.stale 130 8 (farRec 8) = false ∧
    farState.dev.reserveFree (egressPipe 130 (farRec 8)) = true ∧ farState.dev.queue 8 = [farRec 8] ∧
    Map.find farState.dev.data 4 = some ⟨List.replicate 145 0, 1, 1, false, [0], false⟩ ∧ farState.dev.pkts.length < 65536 := by decide +kernel

/-- The far queue's record stands below the group when the deficits are cleaned, and below another group when the step has ended. -/
theorem farState_deficit :
    let t := farState.dev.dequeueStep 130 .none
    t.recordBelow 2 1 = false ∧ (t.drrOf 2 1).dc = 131 := by decide +kernel

/-- Refutes O15: with a record in a queue past the last one, a node that has no record below it when the step has ended keeps its deficit. -/
theorem not_bufferAndDequeue : ¬ Obligations.BufferAndDequeue := by
  unfold Obligations.BufferAndDequeue
  rintro ⟨-, h⟩
  obtain ⟨hrun, h80, h81, helig, hqueues, hpick, hstale, hreserve, hqueue, hdata, hpkts⟩ := farState_picks
  obtain ⟨hbelow, hdc⟩ := farState_deficit
  have hk : ((farState.dev.refillUsed 130).pickFrom 130 ((farState.dev.refillUsed 130).eligQueues 130)).1 = ⟨1, 1, 8, false⟩ := by
    rw [hqueues, hpick]
  obtain ⟨-, h⟩ := h 130 farState hrun h80 h81
  obtain ⟨t, c, p, hexec, -, -, -, -, -, -, -, -, -, -, -, -, -, -, hdeficit, -⟩ := h (farRec 8) [] _ helig (by rw [hqueues]; nofun)
    (by rw [hk]; decide) (by rw [hk]; exact hqueue) (by rw [hk]; exact hstale) hreserve hdata rfl rfl hpkts
  have ht : t.dev = farState.dev.dequeueStep 130 .none := by
    have hstep : exec (.dequeue 130 .none) farState = .next (farState.withDev (farState.dev.dequeueStep 130 .none)) := by
      show Host.Outcome.next _ = _
      rw [hrun, h80, h81]
      rfl
    rw [hstep] at hexec
    cases hexec
    rfl
  have hgroup := hdeficit (2, 1) (.inl (by rw [hk]; exact List.mem_cons_self ..))
  rw [ht] at hgroup
  simp only [hbelow, hdc] at hgroup
  exact absurd hgroup (by decide)

end Sys2Proof.Machine
end

section
/-! PROOFS. The egress rewrite and the return of a recirculated packet (R35, R41, R125, R161, R258 to R262, R269). -/

namespace Sys2Proof.Machine

/-! ### Discards of the egress pipe -/

theorem Dev.egCount_messageOnly (d : Dev) (e : EgDrop) : d.MessageOnly (d.egCount e) := by
  cases e with
  | editLayer => rfl
  | miss => exact (d.count (Reg.ACT_COUNT 7) 1).raise_messageOnly 4 2
  | bad => exact (d.count (Reg.ACT_COUNT 7) 1).raise_messageOnly 4 3
  | tooLong => exact (d.count (Reg.ACT_COUNT 8) 1).raise_messageOnly 4 4
  | ecc => rfl

theorem Dev.egLose_lost (d : Dev) (c : Nat) (p : Pkt) (e : EgDrop) : d.Lost (d.egLose c p e) c p e.reason := by
  have h := d.egCount_messageOnly e
  exact Dev.losePkt_lost c p e.reason (by rw [h]) (by rw [h]) (by rw [h]) (by rw [h])

/-- A count of the action unit with its event. -/
theorem Dev.countRaise_act (d : Dev) {k b : Nat} (hk : k < 64) (hb : b < 64) :
    ((d.count (Reg.ACT_COUNT k) 1).raise 4 b).reg (Reg.ACT_COUNT k) = d.plus (Reg.ACT_COUNT k) 1 ∧
    (((d.count (Reg.ACT_COUNT k) 1).raise 4 b).reg Reg.ACT_EVENT).getLsbD b = true := by
  refine ⟨?_, Dev.raise_reg_bit _ (s := 4) rfl hb (by decide) (by decide) (by decide)⟩
  rw [Dev.raise_regsKept _ (s := 4) (a := Reg.ACT_EVENT) b rfl, Dev.reg_count]
  simp only [eventRegs, List.mem_cons, List.not_mem_nil, or_false, Reg.ACT_COUNT, Reg.ACT_EVENT, Reg.HIF_COUNT, Reg.SYS_MSIX_PBA]
  omega

/-! ### EGRESS_REWRITE -/

theorem exec_egressRewrite (c n : Nat) (p : Pkt) (s : State) (hr : s.dev.running = true) (hp : s.dev.pkt c = some p) (hs : p.stage = .egress n)
    (hl : s.dev.lineUp (8 + p.epipe) = true) (ht : p.get C.REWRITE_PTR = 0 ∨ s.dev.tableUp (s.dev.egTable p) = true)
    (ho : s.dev.older p (· == .egress n) = false) (hsp : p.spill = none) :
    exec (.egressRewrite c .none .none) s = .next (s.withDev (s.dev.egressPkt c n .none .none p)) := by
  have hstep : s.dev.egressStep c .none .none p = s.dev.egressPkt c n .none .none p := by
    have htake : s.dev.spillTake p = some (s.dev, p, false) := by
      unfold Dev.spillTake
      rw [hsp]
    unfold Dev.egressStep
    rw [hs]
    dsimp only
    rw [if_pos (by simpa [hl, ho] using ht), htake]
    rfl
  show execEgressRewrite c .none .none s = _
  unfold execEgressRewrite
  rw [Dev.withPkt_acts _ _ _ _ p hr hp (by simp [Pkt.atEgress, hs]), hstep]
  rfl

/-- The packet with the stages of the egress pipe that it passed. -/
def Pkt.egPassed (p : Pkt) : Pkt :=
  let p := if p.get C.REWRITE_PTR ≠ 0 then p.pass 12 else p
  if p.flag C.MPLS_OP || p.flag C.STRIP_MODE || p.flag C.VLAN_POP then p.pass 13 else p

theorem Pkt.egPassed_eq (p : Pkt) : p.egPassed = { p with words := p.egPassed.words } := by
  unfold Pkt.egPassed
  split <;> dsimp only <;> split <;> rfl

/-- The frame leaves the egress pipe for its port's rim, the delivery stage or the return, which count it. -/
def Dev.egSent (d : Dev) (c n : Nat) (p : Pkt) (out : List Byte) : Dev :=
  let e := if n < 130 then d else (d.count (Reg.PRT_COUNT n 9) 1).count (Reg.PRT_COUNT n 10) (padFrame out).length
  e.setPkt c { p.egPassed with bytes := padFrame out, stage := afterEgress n, flight := e.egFlight p.egPassed }

/-- What becomes of the bytes that the edits give. -/
theorem Dev.egressPkt_edited (d : Dev) (c n : Nat) (p : Pkt) {bs out : List Byte} (h : ingressEdits p = some bs)
    (hr : (if p.get C.REWRITE_PTR = 0 then (d, .ok bs) else d.egEntry p bs .none .none) = (d, .ok out)) :
    d.egressPkt c n .none .none p =
      if d.tooLong n (padFrame out) then d.egLose c p .tooLong
      else if !d.portUp n then (d.count (Reg.PRT_COUNT n 13) 1).losePkt c p 0
      else d.egSent c n p out := by
  unfold Dev.egressPkt
  rw [h]
  simp only [hr]
  rfl

/-- Edits that the frame does not fit discard it. -/
theorem Dev.egressPkt_unfit (d : Dev) (c n : Nat) (p : Pkt) (h : ingressEdits p = none) :
    d.egressPkt c n .none .none p = d.egLose c p .editLayer := by
  unfold Dev.egressPkt
  rw [h]

/-- An egress entry that gives no bytes discards the frame. -/
theorem Dev.egressPkt_refused (d : Dev) (c n : Nat) (p : Pkt) {bs : List Byte} {e : EgDrop} (h : ingressEdits p = some bs)
    (h0 : p.get C.REWRITE_PTR ≠ 0) (hr : d.egEntry p bs .none .none = (d, .error e)) : d.egressPkt c n .none .none p = d.egLose c p e := by
  unfold Dev.egressPkt
  rw [h]
  simp only [if_neg h0, hr]

/-- The egress entry's table and place (R258). -/
theorem Dev.egEntry_tile (d : Dev) (p : Pkt) (bs b : List Byte) (hen : bodyFld (d.secOr0 (p.get C.G) T.REWRITE_LAYOUT 0) 0 8 1 = 1)
    (ht : d.tblIn (p.get C.G) (bodyFld (d.secOr0 (p.get C.G) T.REWRITE_LAYOUT 0) 0 0 8) = .tile b) {r : Except EgDrop (List Word)}
    (hr : d.egRead (bodyFld (d.secOr0 (p.get C.G) T.REWRITE_LAYOUT 0) 0 0 8) b (p.get C.REWRITE_PTR) .none = (d, r)) :
    (∀ e, r = .error e → d.egEntry p bs .none .none = (d, .error e)) ∧
    (∀ ws out, r = .ok ws → egFld ws 23 1 = 0 → form0 ws bs = some out → d.egEntry p bs .none .none = (d, .ok out)) ∧
    (∀ ws t1 out, r = .ok ws → egFld ws 23 1 ≠ 0 → egFld ws 44 20 = 0 → tplOf ws = some t1 → form1 ws t1 (p.get C.HASH) bs = some out →
      d.egEntry p bs .none .none = (d, .ok out)) := by
  unfold Dev.egEntry
  simp only [if_pos hen, ht, hr]
  refine ⟨fun e he => ?_, fun ws out hw h0 hf => ?_, fun ws t1 out hw h1 hn htpl hf => ?_⟩
  · rw [he]
  · rw [hw]
    simp only [if_pos h0, hf]
  · rw [hw]
    simp only [if_neg h1, htpl, if_pos hn, List.append_nil, hf]

/-- A place of the table, read without an error (R258). -/
theorem Dev.egRead_place (d : Dev) (t : Nat) (b : List Byte) (pl : Nat) :
    (tmPlaces b ≤ pl → d.egRead t b pl .none = (d, .error .miss)) ∧
    (pl < tmPlaces b → (d.tbl t).poisoned pl = false → rwValid (wordAt ((d.tbl t).image pl (tmW b)) (tmW b - 1)) = true →
      d.egRead t b pl .none = (d, .ok ((d.tbl t).image pl (tmW b)))) := by
  unfold Dev.egRead
  refine ⟨fun h => if_pos h, fun h hp hv => ?_⟩
  rw [if_neg (Nat.not_le.mpr h)]
  simp [hp, hv]

/-! ### RECIRC_RETURN (R35, R41, R161) -/

/-- The words that a returning packet keeps, before its PASS and SATURATED. -/
theorem wordAt_recircWords (ws : List Word) (hl : ws.length = 32) {i : Nat} (h0 : i ≠ 0) (h26 : i ≠ 26) :
    wordAt (recircWords ws) i = if i = 1 ∨ i = 27 ∨ 28 ≤ i then wordAt ws i else 0 := by
  unfold recircWords
  dsimp only
  rw [wordAt_ctxPut_other _ _ h26, wordAt_ctxPut_other _ _ h0]
  by_cases hi : i < 32
  · unfold wordAt
    rw [List.getElem?_map, List.getElem?_range hi]
    simp [h0]
  · rw [wordAt_eq_zero (by simpa using hi), wordAt_eq_zero (by omega), ite_self]

@[simp] theorem length_recircWords (ws : List Word) : (recircWords ws).length = 32 := by simp [recircWords]

/-- The fields of word 0 but PASS stay; PASS is one higher. -/
theorem ctxGet_recircWords_word0 (ws : List Word) {f : CtxFld} (hf : f.word = 0) (hp : f.apart C.PASS = true) (hs : f.apart C.SATURATED = true) :
    ctxGet (recircWords ws) f = ctxGet ws f := by
  unfold recircWords
  dsimp only
  rw [ctxGet_put_other _ _ hs, ctxGet_put_other _ _ hp]
  unfold ctxGet wordAt
  rw [hf, List.getElem?_map, List.getElem?_range (by decide)]
  rfl

theorem ctxGet_recircWords_pass (ws : List Word) : ctxGet (recircWords ws) C.PASS = (ctxGet ws C.PASS + 1) % 8 := by
  unfold recircWords
  dsimp only
  rw [ctxGet_put_other _ _ (by decide), ctxGet_put_same _ _ (by simp) (by decide)]
  rfl

/-- The device when a packet returns: the turn is used, its record is freed, and port 131 counts it. -/
def Dev.recircBase (d : Dev) (c : Nat) (p : Pkt) : Dev :=
  let e := (((d.granted (p.get C.IN_PIPE) 131).freePkt c p).count (Reg.PRT_COUNT 131 0) 1).count (Reg.PRT_COUNT 131 1) p.bytes.length
  { e with pidCtr := e.pidCtr + 1 }

/-- The packet that returns, before its charge. -/
def Pkt.returned (p : Pkt) (seq : Nat) : Pkt :=
  { p with
    egressPool := false, epipe := 0, words := recircWords p.words, stage := .crossed, next := 0, counts := [], seq := seq
    reads := [], dram := none, group := none, pin := none, sub := none, tsFixed := false
    recCell := 0, recOwn := 0, recSpill := 0, spill := none, data := 0, queue := 0, sent := 0, txStart := 0 }

theorem Dev.recircPkt_returns (d : Dev) (c : Nat) (p : Pkt) (hpool : d.poolFree = true) (hm : d.mayReturn p = true)
    (ht : d.inTurn (p.get C.IN_PIPE) 131 = true) {e : Dev} {q : Pkt}
    (hc : (d.recircBase c p).charge (p.returned (d.recircBase c p).pidCtr) 17 = (e, q)) :
    d.recircPkt c p = e.newCtx.2.setPkt e.newCtx.1 q := by
  unfold Dev.recircBase Pkt.returned at hc
  unfold Dev.recircPkt
  rw [if_neg (by simp [hpool, hm, ht])]
  simp only [hc]

/-- Without a free context, or out of its turn, the packet waits. -/
theorem Dev.recircPkt_waits (d : Dev) (c : Nat) (p : Pkt) (h : d.poolFree = false ∨ d.inTurn (p.get C.IN_PIPE) 131 = false) : d.recircPkt c p = d :=
  if_pos (by rcases h with h | h <;> simp [h])

theorem exec_recircReturn (c : Nat) (p : Pkt) (s : State) (hr : s.dev.running = true) (hp : s.dev.pkt c = some p) (hm : s.dev.mayReturn p = true) :
    exec (.recircReturn c) s = .next (s.withDev (s.dev.recircPkt c p)) := by
  simp only [Dev.mayReturn, Bool.and_eq_true] at hm
  obtain ⟨⟨⟨hs, h8⟩, hin⟩, -⟩ := hm
  show execRecircReturn c s = _
  unfold execRecircReturn
  rw [Dev.withPkt_acts _ _ _ _ p hr hp (by simp [hs, h8, hin])]
  rfl

/-- The device after the charge of a returning packet. -/
theorem Dev.recircBase_spec (d : Dev) (c : Nat) (p : Pkt) :
    let e := d.recircBase c p
    d.Freed e c p ∧ e.pkts = Map.del d.pkts c ∧ e.turns = Map.put d.turns (p.get C.IN_PIPE) 131 ∧
      d.regsKept e [Reg.PRT_COUNT 131 0, Reg.PRT_COUNT 131 1] ∧ e.reg (Reg.PRT_COUNT 131 0) = d.plus (Reg.PRT_COUNT 131 0) 1 ∧
      e.reg (Reg.PRT_COUNT 131 1) = d.plus (Reg.PRT_COUNT 131 1) p.bytes.length := by
  intro e
  obtain ⟨f, hf⟩ : ∃ f, (d.granted (p.get C.IN_PIPE) 131).freePkt c p = f := ⟨_, rfl⟩
  have hfreed : d.Freed f c p := hf ▸ Dev.freePkt_freed c p rfl rfl
  have hpkts : f.pkts = Map.del d.pkts c := hf ▸ Dev.freePkt_pkts _ c p
  have hturns : f.turns = Map.put d.turns (p.get C.IN_PIPE) 131 := by
    rw [← hf, Dev.freePkt_eq]
    rfl
  have hreg : ∀ a, f.reg a = d.reg a := fun a => hf ▸ Dev.freePkt_reg _ c p a
  have he : e = { (f.count (Reg.PRT_COUNT 131 0) 1).count (Reg.PRT_COUNT 131 1) p.bytes.length with pidCtr := f.pidCtr + 1 } := hf ▸ rfl
  have hkept : d.regsKept (f.count (Reg.PRT_COUNT 131 0) 1) [Reg.PRT_COUNT 131 0, Reg.PRT_COUNT 131 1] :=
    (show d.regsKept f _ from fun a _ => hreg a).trans (f.count_regsKept 1 (by simp))
  have hsame : e.pkts = f.pkts := he ▸ rfl
  refine ⟨⟨?_, fun k hk => ?_, fun x hx => ?_⟩, hsame.trans hpkts, he ▸ hturns, ?_, ?_, ?_⟩
  · exact (congrArg (Map.find · c) hsame).trans hfreed.gone
  · exact (congrArg (Map.find · k) hsame).trans (hfreed.kept k hk)
  · exact he ▸ hfreed.data x hx
  · exact he ▸ hkept.trans (Dev.count_regsKept _ _ (by simp))
  · rw [he]
    refine (Dev.reg_count_other _ _ _ _ (by decide)).trans ((f.reg_count _ _).trans ?_)
    rw [Dev.plus, hreg]
    rfl
  · rw [he]
    refine (Dev.reg_count _ _ _).trans ?_
    rw [Dev.plus, Dev.reg_count_other _ _ _ _ (by decide), hreg]
    rfl

/-- The words of the packet that returns, charged for the pass. -/
theorem Dev.returned_get (d : Dev) (p : Pkt) (seq : Nat) {f : CtxFld} (hf : f.word = 0) (hp : f.apart C.PASS = true)
    (hs : f.apart C.SATURATED = true) : (d.charge (p.returned seq) 17).2.get f = p.get f :=
  (Pkt.get_of_word (d.charge_word _ 17 (by omega) (by omega))).trans (ctxGet_recircWords_word0 p.words hf hp hs)

theorem Dev.returned_word (d : Dev) (p : Pkt) (seq : Nat) (hl : p.words.length = 32) {i : Nat} (h0 : i ≠ 0) (h1 : i ≠ 1) (h26 : i ≠ 26) :
    (d.charge (p.returned seq) 17).2.word i = if i = 27 ∨ 28 ≤ i then p.word i else 0 := by
  rw [d.charge_word _ 17 h1 h26]
  refine (wordAt_recircWords p.words hl h0 h26).trans ?_
  simp [h1, Pkt.word]

theorem Map.length_del_le {α : Type} (m : List (Nat × α)) (k : Nat) : (Map.del m k).length ≤ m.length := by
  induction m with
  | nil => exact Nat.le_refl _
  | cons e r ih =>
    obtain ⟨j, v⟩ := e
    unfold Map.del
    split
    · exact Nat.le_succ_of_le ih
    · exact Nat.succ_le_succ ih

/-- A charge of a returning packet is counted. -/
theorem Dev.charge_count (d : Dev) (p : Pkt) (s : Nat) :
    (d.charge p s).1.reg (Reg.ACT_CLASS_CNT s) = d.plus (Reg.ACT_CLASS_CNT s) 1 := by
  show (d.classCount s _ _).reg _ = _
  unfold Dev.classCount
  rw [Dev.reg_count_other _ _ _ _ (by simp only [Reg.ACT_CLASS_CNT, Reg.ACT_CLASS_BYTES]; omega), Dev.reg_count, Dev.plus,
    Dev.reg_count_other _ _ _ _ (by simp only [Reg.ACT_CLASS_CNT, Reg.ACT_CLASS_PJ]; omega)]
  rfl

/-- Word 1 of the packet that returns, with its receive time and its energy, is the packet's. -/
theorem Pkt.returned_word1 (p : Pkt) (seq : Nat) (hl : p.words.length = 32) {f : CtxFld} (hf : f.word = 1) : (p.returned seq).get f = p.get f :=
  Pkt.get_of_word (hf ▸ wordAt_recircWords p.words hl (i := 1) (by decide) (by decide))

/-- Settles O17: the outcome of the edits and of the entry's read, and a returning packet's turn. -/
theorem egressAndRecirculation : Obligations.EgressAndRecirculation := by
  unfold Obligations.EgressAndRecirculation
  refine ⟨?_, ?_⟩
  · intro c n p s hr hp hs hl ht ho hsp hlen ptr lay lost sent
    have hexec := exec_egressRewrite c n p s hr hp hs hl ht ho hsp
    have hlost : ∀ e : EgDrop, s.dev.egressPkt c n .none .none p = s.dev.egLose c p e →
        exec (.egressRewrite c .none .none) s = .next (s.withDev (s.dev.egLose c p e)) ∧ lost (s.withDev (s.dev.egLose c p e)) e.reason := by
      intro e he
      have h := s.dev.egLose_lost c p e
      exact ⟨by rw [hexec, he], h.gone, h.kept, h.data, h.discards, h.wire⟩
    have hsent : ∀ out : List Byte, s.dev.egressPkt c n .none .none p = (if s.dev.tooLong n (padFrame out) then s.dev.egLose c p .tooLong
        else if !s.dev.portUp n then (s.dev.count (Reg.PRT_COUNT n 13) 1).losePkt c p 0
        else s.dev.egSent c n p out) →
        s.dev.tooLong n (padFrame out) = false → s.dev.portUp n = true → n < 130 →
        ∃ t, exec (.egressRewrite c .none .none) s = .next t ∧ sent t out := by
      intro out h hlong hup hn
      rw [h, if_neg (by simp [hlong]), if_neg (by simp [hup]), Dev.egSent, if_pos hn] at hexec
      refine ⟨_, hexec, rfl, fun k hk => Dev.pkt_setPkt_other _ _ _ _ hk, _, Dev.pkt_setPkt_same _ _ _, rfl, if_pos hn, ?_, ?_⟩
      · rw [p.egPassed_eq]
      · rw [p.egPassed_eq]
    refine ⟨fun h => ?_, fun bs h h0 hlong => ?_, fun bs h h0 hlong hup => ?_, fun bs h h0 hlong hup hn => ?_, fun bs h h0 hlong hn => ?_,
      fun bs b h h0 hen htile => ⟨fun hpl => ?_, fun out hpl hpoison hvalid hform hlong hup hn => ?_⟩⟩
    · obtain ⟨h1, h2⟩ := hlost .editLayer (s.dev.egressPkt_unfit c n p h)
      exact ⟨_, h1, h2, (Dev.losePkt_reg _ _ _ _ _).trans (s.dev.reg_count _ _)⟩
    · have hpkt := s.dev.egressPkt_edited c n p h (if_pos h0)
      rw [if_pos hlong] at hpkt
      obtain ⟨h1, h2⟩ := hlost .tooLong hpkt
      obtain ⟨hcount, hevent⟩ := s.dev.countRaise_act (k := 8) (b := 4) (by decide) (by decide)
      refine ⟨_, h1, h2, (Dev.losePkt_reg _ _ _ _ _).trans hcount, ?_⟩
      exact (congrArg (BitVec.getLsbD · 4) (Dev.losePkt_reg _ _ _ _ _)).trans hevent
    · have hpkt := s.dev.egressPkt_edited c n p h (if_pos h0)
      rw [if_neg (by simp [hlong]), if_pos (by simp [hup])] at hpkt
      have hl := Dev.losePkt_lost (d := s.dev) (e := s.dev.count (Reg.PRT_COUNT n 13) 1) c p 0 rfl rfl rfl rfl
      rw [hpkt] at hexec
      exact ⟨_, hexec, ⟨hl.gone, hl.kept, hl.data, hl.discards, hl.wire⟩, (Dev.losePkt_reg _ _ _ _ _).trans (s.dev.reg_count _ _)⟩
    · exact hsent bs (s.dev.egressPkt_edited c n p h (if_pos h0)) hlong hup hn
    · have hup : s.dev.portUp n = true := if_neg (by omega)
      have hnot : ¬ n < 130 := by omega
      rw [s.dev.egressPkt_edited c n p h (if_pos h0), if_neg (by simp [hlong]), if_neg (by simp [hup]), Dev.egSent, if_neg hnot] at hexec
      refine ⟨_, _, hexec, Dev.pkt_setPkt_same _ _ _, fun k hk => Dev.pkt_setPkt_other _ _ _ _ hk, rfl, if_neg hnot, ?_, ?_, ?_⟩
      · rw [p.egPassed_eq]
      · exact (Dev.reg_count_other _ _ _ _ (by simp [Reg.PRT_COUNT_inj])).trans (Dev.reg_count _ _ _)
      · refine (Dev.reg_count _ _ _).trans ?_
        rw [Dev.plus, Dev.reg_count_other _ _ _ _ (by simp [Reg.PRT_COUNT_inj])]
        rfl
    · have hread := (s.dev.egRead_place (bodyFld lay 0 0 8) b ptr).1 hpl
      obtain ⟨h1, h2⟩ := hlost .miss (s.dev.egressPkt_refused c n p h h0 ((s.dev.egEntry_tile p bs b hen htile hread).1 _ rfl))
      obtain ⟨hcount, hevent⟩ := s.dev.countRaise_act (k := 7) (b := 2) (by decide) (by decide)
      refine ⟨_, h1, h2, (Dev.losePkt_reg _ _ _ _ _).trans hcount, ?_⟩
      exact (congrArg (BitVec.getLsbD · 2) (Dev.losePkt_reg _ _ _ _ _)).trans hevent
    · have hread := (s.dev.egRead_place (bodyFld lay 0 0 8) b ptr).2 hpl hpoison hvalid
      obtain ⟨-, hform0, hform1⟩ := s.dev.egEntry_tile p bs b hen htile hread
      have hentry : s.dev.egEntry p bs .none .none = (s.dev, .ok out) := by
        rcases hform with ⟨hf, ho⟩ | ⟨hf, hnext, t1, htpl, ho⟩
        · exact hform0 _ _ rfl hf ho
        · exact hform1 _ _ _ rfl hf hnext htpl ho
      exact hsent out (s.dev.egressPkt_edited c n p h ((if_neg h0).trans hentry)) hlong hup hn
  · intro c p s hr hp hm hlen hpkts
    have hexec := exec_recircReturn c p s hr hp hm
    refine ⟨fun h => ?_, fun hpool hturn => ?_⟩
    · rw [hexec, s.dev.recircPkt_waits c p h]
      rfl
    · obtain ⟨hfreed, hdel, hturns, hkept, h0, h1⟩ := s.dev.recircBase_spec c p
      obtain ⟨e, he⟩ : ∃ e, s.dev.recircBase c p = e := ⟨_, rfl⟩
      rw [he] at hfreed hdel hturns hkept h0 h1
      obtain ⟨f, q, hf⟩ : ∃ f q, e.charge (p.returned e.pidCtr) 17 = (f, q) := ⟨_, _, rfl⟩
      have hf1 : (e.charge (p.returned e.pidCtr) 17).1 = f := congrArg Prod.fst hf
      have honly : e.RegsOnly f := hf1 ▸ e.charge_regsOnly _ 17
      have hq : (e.charge (p.returned e.pidCtr) 17).2 = q := congrArg Prod.snd hf
      have hreg : ∀ {a : Nat}, ¬ ClassReg a → f.reg a = e.reg a := fun {a} ha => hf1 ▸ e.charge_reg _ (by omega) ha
      have hpq : q = { p.returned e.pidCtr with words := q.words } := hq ▸ e.charge_pkt _ 17
      have hfpkts : f.pkts = Map.del s.dev.pkts c := honly.pkts.trans hdel
      obtain ⟨-, hfree⟩ := f.newCtx_free (by rw [hfpkts]; exact Nat.lt_of_le_of_lt (Map.length_del_le _ _) hpkts)
      rw [s.dev.recircPkt_returns c p hpool hm hturn (by rw [he, hf])] at hexec
      have hother : ∀ j, j ≠ f.newCtx.1 → (f.newCtx.2.setPkt f.newCtx.1 q).pkt j = Map.find (Map.del s.dev.pkts c) j := fun j hj => by
        rw [Dev.pkt_setPkt_other _ _ _ _ hj, f.newCtx_snd, ← hfpkts]
        rfl
      have hget : ∀ {g : CtxFld}, g.word = 0 → g.apart C.PASS = true → g.apart C.SATURATED = true → q.get g = p.get g := fun {g} hw h1 h2 =>
        hq ▸ e.returned_get p e.pidCtr hw h1 h2
      have hword : ∀ {i : Nat}, i ≠ 0 → i ≠ 1 → i ≠ 26 → q.word i = if i = 27 ∨ 28 ≤ i then p.word i else 0 := fun {i} h0 h1 h26 =>
        hq ▸ e.returned_word p e.pidCtr hlen h0 h1 h26
      refine ⟨_, f.newCtx.1, q, hexec, ?_, Dev.pkt_setPkt_same _ _ _, fun j hjc hjk => ?_,
        ?_, ?_, ?_, ?_, ?_, ?_, ?_, ?_, ?_, ?_, ?_, ?_, ?_, ?_, ?_, ?_, ?_, ?_, ?_⟩
      · by_cases hk : f.newCtx.1 = c
        · exact .inl hk
        · refine .inr ⟨?_, (hother c (Ne.symm hk)).trans (Map.find_del_same _ _)⟩
          rw [Dev.pkt, hfpkts, Map.find_del_other _ _ _ hk] at hfree
          exact hfree
      · exact (hother j hjk).trans (Map.find_del_other _ _ _ hjc)
      · rw [hpq]
        rfl
      · rw [hpq]
        rfl
      · rw [hpq]
        rfl
      · rw [hpq]
        rfl
      · rw [← hq]
        exact (Pkt.get_of_word (e.charge_word _ 17 (by decide) (by decide))).trans (ctxGet_recircWords_pass p.words)
      · exact hget rfl (by decide) (by decide)
      · exact hget rfl (by decide) (by decide)
      · exact hget rfl (by decide) (by decide)
      · rw [← hq, e.charge_get _ 17 (by decide) (by decide) (by decide), p.returned_word1 _ hlen rfl]
      · rw [← hq, e.charge_get _ 17 (by decide) (by decide) (by decide), p.returned_word1 _ hlen rfl]
      · exact Pkt.get_of_word (hword (by decide) (by decide) (by decide))
      · have hcost : e.cost 17 (p.get C.FRAME_LEN) = s.dev.cost 17 (p.get C.FRAME_LEN) := by
          simp only [Dev.cost, Dev.fld, hkept (Reg.ACT_COST 17) (by decide)]
        have hlen1 : (p.returned e.pidCtr).get C.FRAME_LEN = p.get C.FRAME_LEN := ctxGet_recircWords_word0 p.words rfl (by decide) (by decide)
        rw [← hq, e.charge_energy _ 17 (length_recircWords _), p.returned_word1 _ hlen rfl, hlen1, hcost]
      · intro i hi
        rw [hword (by omega) (by omega) (by omega), if_pos (.inr hi)]
      · intro i h2 h25
        rw [hword (by omega) (by omega) (by omega), if_neg (by omega)]
      · intro x hx
        have hdata : f.data = e.data := by rw [honly]
        exact (congrArg (Map.find · p.data) hdata).trans (hfreed.data x hx)
      · exact (show f.turns = e.turns by rw [honly]).trans hturns
      · exact (hreg (by simp only [ClassReg, Reg.PRT_COUNT]; omega)).trans h0
      · exact (hreg (by simp only [ClassReg, Reg.PRT_COUNT]; omega)).trans h1
      · have hcnt := e.charge_count (p.returned e.pidCtr) 17
        rw [hf1, Dev.plus, hkept _ (by decide)] at hcnt
        exact hcnt

end Sys2Proof.Machine
end

section
/-! PROOFS. Packets delivered to host rings and packets injected from them (R35, R246, R255, R503 to R508). -/

namespace Sys2Proof.Machine

theorem Dev.hifOn_running {d : Dev} (h : d.hifOn = true) : d.running = true := by
  simp only [Dev.hifOn, Bool.and_eq_true] at h
  exact h.1

/-! ### HOST_DELIVERY (R503, R506) -/

theorem exec_hostDelivery (c : Nat) (p : Pkt) (s : State) (hon : s.dev.hifOn = true) (hp : s.dev.pkt c = some p) (hs : p.stage = .hostWait)
    (hl : s.dev.lineUp (8 + p.epipe) = true) : exec (.hostDelivery c) s = .next (s.withDev (s.dev.deliver c p)) := by
  show execHostDelivery c s = _
  unfold execHostDelivery
  rw [Dev.withPkt_acts _ _ _ _ p (Dev.hifOn_running hon) hp (by simp [hs, hon, hl])]
  rfl

/-- A packet that the delivery stage discards is counted, with the event of the host interface. -/
theorem Dev.hostDrop_lost (d : Dev) (c : Nat) (p : Pkt) (why : Nat) :
    d.Lost (d.hostDrop c p why) c p why ∧ (d.hostDrop c p why).reg (Reg.HIF_COUNT 6) = d.plus (Reg.HIF_COUNT 6) 1 ∧
    ((d.hostDrop c p why).reg Reg.HIF_EVENT).getLsbD 5 = true := by
  obtain ⟨e, he⟩ : ∃ e, (d.losePkt c p why).count (Reg.HIF_COUNT 6) 1 = e := ⟨_, rfl⟩
  have hdrop : d.hostDrop c p why = e.raise 14 5 := he ▸ rfl
  have hlost : d.Lost e c p why := by
    obtain ⟨⟨h1, h2, h3⟩, h4, h5⟩ := Dev.losePkt_lost (d := d) (e := d) c p why rfl rfl rfl rfl
    exact he ▸ ⟨⟨h1, h2, h3⟩, h4, h5⟩
  have hcount : e.reg (Reg.HIF_COUNT 6) = d.plus (Reg.HIF_COUNT 6) 1 := by
    rw [← he, Dev.reg_count, Dev.plus, Dev.losePkt_reg]
    rfl
  obtain ⟨⟨hgone, hkept, hdata⟩, hdis, hwire⟩ := hlost
  rw [hdrop]
  refine ⟨⟨⟨?_, fun k hk => ?_, fun x hx => ?_⟩, ?_, ?_⟩, ?_, Dev.raise_hif_bit _ (by decide)⟩
  · rw [Dev.pkt, Dev.raise_pkts]
    exact hgone
  · rw [Dev.pkt, Dev.raise_pkts]
    exact hkept k hk
  · rw [Dev.raise_data]
    exact hdata x hx
  · rw [Dev.raise_discards, hdis]
  · rw [Dev.raise_wire, hwire]
  · rw [Dev.raise_hif_reg _ _ (by decide) (by decide) (by decide), hcount]

/-- A packet finds its ring and room there, or is discarded. -/
theorem Dev.deliver_cases (d : Dev) (c : Nat) (p : Pkt) :
    (d.rxRing p = none → d.deliver c p = d.hostDrop c p 0x1A) ∧
    (∀ r, d.rxRing p = some r →
      let waiting := (d.pkts.filter fun e => e.2.stage == .delivery r).length
      (16 ≤ waiting → d.deliver c p = d.hostDrop c p 0x1B) ∧
      (waiting < 16 → d.deliver c p = { d with pidCtr := d.pidCtr + 1 }.setPkt c { p.pass 20 with stage := .delivery r, seq := d.pidCtr + 1 })) := by
  unfold Dev.deliver
  refine ⟨fun h => by rw [h], fun r h => ?_⟩
  rw [h]
  exact ⟨fun hw => if_pos hw, fun hw => if_neg (Nat.not_le.mpr hw)⟩

/-! ### RX_ASSIGN (R504, R505) -/

theorem exec_rxAssign (r : Nat) (s : State) (hon : s.dev.hifOn = true) : exec (.rxAssign r) s = .next (s.wrote (s.dev.rxAssign r)) := by
  show execRxAssign r s = _
  unfold execRxAssign
  rw [if_pos hon]

theorem Dev.sub_setSub (d : Dev) (r : Nat) (x : Sub) : (d.setSub r x).sub r = x := by
  unfold Dev.sub Dev.setSub Map.getD
  dsimp only
  split
  next h => simp [h]
  next => simp

/-- A completion that waits changes its entry and the hold, and leaves the buffers that the ring has fetched. -/
theorem Dev.finishWith_spec (d : Dev) (r : Nat) (e : Entry) (status : Nat) (rest : List Word) :
    let f := d.finishWith r e status rest
    f = { d with hif := f.hif } ∧ (f.sub r).rx = (d.sub r).rx ∧ f.hif.injects = d.hif.injects ∧
      f.hif.held = d.hif.held ++ [⟨d.subCq r, r, e.index, e.completion r status rest, !(e.fence || e.ordered)⟩] := by
  intro f
  have hsub : ∃ l, f.sub r = { d.sub r with prog := l } := ⟨_, d.sub_setSub r _⟩
  obtain ⟨l, hl⟩ := hsub
  exact ⟨rfl, by rw [hl], rfl, rfl⟩

/-- A packet is written into the buffer of its entry, where that is translated. -/
theorem Dev.writeRx_some (d : Dev) (r c : Nat) (p : Pkt) (e : Entry) {w : HostWrites}
    (hw : d.hostWrites r (bitsOf (e.w 1) 0 48) (p.bytes.take (bitsOf (e.w 2) 0 15)) (!e.fence) = some w) :
    d.writeRx r c p e =
      (((d.count (Reg.HIF_COUNT 3) (p.bytes.take (bitsOf (e.w 2) 0 15)).length).finishWith r e 0 (rxWords p (bitsOf (e.w 2) 0 15))).setPkt c
        { p with stage := .delivered r e.index }, w) := by
  unfold Dev.writeRx
  dsimp only
  rw [hw]

theorem Dev.writeRx_none (d : Dev) (r c : Nat) (p : Pkt) (e : Entry)
    (hw : d.hostWrites r (bitsOf (e.w 1) 0 48) (p.bytes.take (bitsOf (e.w 2) 0 15)) (!e.fence) = none) : d.writeRx r c p e = (d, []) := by
  unfold Dev.writeRx
  dsimp only
  rw [hw]

/-- The ring's completion ring does not rest on the counts of the host interface. -/
theorem Dev.subCq_count (d : Dev) (k n r : Nat) (hk : k < 64) : (d.count (Reg.HIF_COUNT k) n).subCq r = d.subCq r := by
  unfold Dev.subCq Dev.fld
  rw [Dev.reg_count_other _ _ _ _ (by simp only [Reg.RNG_CFG_S, Reg.HIF_COUNT]; omega)]

/-- With a packet assigned the ring writes it; without, the packet that has waited longest claims a buffer first. -/
theorem Dev.rxAssign_assigned (d : Dev) (r : Nat) {c : Nat} {p : Pkt} {e : Entry} (h : d.assignedPkt r = some (c, p, e)) :
    d.rxAssign r = d.writeRx r c p e := by
  unfold Dev.rxAssign
  dsimp only
  rw [if_pos (by rw [h]; rfl), h]

theorem Dev.rxAssign_claim (d : Dev) (r : Nat) (h : d.assignedPkt r = none) {c : Nat} {p : Pkt} {e : Entry}
    (hn : (d.claim r).assignedPkt r = some (c, p, e)) : d.rxAssign r = (d.claim r).writeRx r c p e := by
  unfold Dev.rxAssign
  dsimp only
  rw [if_neg (by rw [h]; decide), hn]

theorem Dev.rxAssign_claim_none (d : Dev) (r : Nat) (h : d.assignedPkt r = none) (hn : (d.claim r).assignedPkt r = none) :
    d.rxAssign r = (d.claim r, []) := by
  unfold Dev.rxAssign
  dsimp only
  rw [if_neg (by rw [h]; decide), hn]

theorem Dev.claim_none (d : Dev) (r : Nat) (h : d.firstWaiting r = none) : d.claim r = d := by
  unfold Dev.claim
  rw [h]

/-- The packet that waits takes the next posted buffer of an ACTIVE ring with room. -/
theorem Dev.claim_takes (d : Dev) (r : Nat) {c : Nat} {p : Pkt} {e : Entry} {rest : List Entry} (hw : d.firstWaiting r = some (c, p))
    (hrx : (d.sub r).rx = e :: rest) (ha : d.ringState r = rsActive) (hroom : d.inProgress r < 4) :
    d.claim r = (d.setSub r { d.sub r with rx := rest, prog := (d.sub r).prog ++ [{ e with started := true }] }).setPkt c
      { p with stage := .assigned r e.index } := by
  unfold Dev.claim
  rw [hw, hrx]
  refine if_pos ⟨by rw [ha]; decide, ?_, hroom⟩
  unfold Dev.mayRun
  simp [ha, rsActive, rsError, rsFaultWait]

/-- The packet that waits is among the packets, at its stage. -/
theorem Dev.firstWaiting_mem (d : Dev) (r : Nat) {c : Nat} {p : Pkt} (h : d.firstWaiting r = some (c, p)) : (c, p) ∈ d.pkts := by
  have hfold : ∀ (l : List (Nat × Pkt)) (b : Option (Nat × Pkt)) (x : Nat × Pkt), l.foldl (fun b e =>
      match b with
      | none => some e
      | some x => if e.2.seq < x.2.seq then some e else b) b = some x → b = some x ∨ x ∈ l := by
    intro l
    induction l with
    | nil => exact fun b x h => .inl h
    | cons y l ih =>
      intro b x h
      rcases ih _ x h with h | h
      · cases b with
        | none => exact .inr (List.mem_cons.mpr (.inl (Option.some.inj h).symm))
        | some z =>
          dsimp only at h
          split at h
          · exact .inr (List.mem_cons.mpr (.inl (Option.some.inj h).symm))
          · exact .inl h
      · exact .inr (List.mem_cons_of_mem _ h)
  rcases hfold _ none _ h with h | h
  · cases h
  · exact (List.mem_filter.mp h).1

/-- An assigned packet is among the packets, with the entry of the index that its stage names. -/
theorem Dev.assignedPkt_spec (d : Dev) (r : Nat) {c : Nat} {p : Pkt} {e : Entry} (h : d.assignedPkt r = some (c, p, e)) :
    (c, p) ∈ d.pkts ∧ p.stage = .assigned r e.index := by
  unfold Dev.assignedPkt at h
  obtain ⟨x, hx, hf⟩ := List.exists_of_findSome?_eq_some h
  split at hf
  next q i hs =>
    split at hf
    next hq =>
      obtain ⟨y, hy, hxy⟩ := Option.map_eq_some_iff.mp hf
      cases hxy
      have hi := List.find?_some hy
      simp only [decide_eq_true_eq] at hi
      exact ⟨hx, by rw [hs, hq.1, hi]⟩
    next => cases hf
  next => cases hf

/-- What the write of an assigned packet leaves: its context, the hold, the count of bytes. -/
theorem Dev.writeRx_written (d : Dev) (r c : Nat) (p : Pkt) (e : Entry) {w : HostWrites}
    (hw : d.hostWrites r (bitsOf (e.w 1) 0 48) (p.bytes.take (bitsOf (e.w 2) 0 15)) (!e.fence) = some w) :
    let f := (d.writeRx r c p e).1
    (d.writeRx r c p e).2 = w ∧ f.pkts = Map.put d.pkts c { p with stage := .delivered r e.index } ∧ (f.sub r).rx = (d.sub r).rx ∧
      f.hif.held = d.hif.held ++ [⟨d.subCq r, r, e.index, e.completion r 0 (rxWords p (bitsOf (e.w 2) 0 15)), !(e.fence || e.ordered)⟩] ∧
      f.reg (Reg.HIF_COUNT 3) = d.plus (Reg.HIF_COUNT 3) (p.bytes.take (bitsOf (e.w 2) 0 15)).length ∧ d.regsKept f [Reg.HIF_COUNT 3] := by
  rw [d.writeRx_some r c p e hw]
  obtain ⟨g, hg⟩ : ∃ g, d.count (Reg.HIF_COUNT 3) (p.bytes.take (bitsOf (e.w 2) 0 15)).length = g := ⟨_, rfl⟩
  obtain ⟨honly, hrx, -, hheld⟩ := g.finishWith_spec r e 0 (rxWords p (bitsOf (e.w 2) 0 15))
  have hregs : (g.finishWith r e 0 (rxWords p (bitsOf (e.w 2) 0 15))).regs = g.regs := by rw [honly]
  have hpkts : (g.finishWith r e 0 (rxWords p (bitsOf (e.w 2) 0 15))).pkts = d.pkts := by
    rw [honly, ← hg]
    rfl
  have hcq : g.subCq r = d.subCq r := hg ▸ d.subCq_count 3 _ r (by decide)
  rw [hg]
  refine ⟨rfl, ?_, ?_, ?_, ?_, fun a ha => ?_⟩
  · exact congrArg (Map.put · c _) hpkts
  · exact hrx.trans (hg ▸ rfl)
  · refine hheld.trans ?_
    rw [hcq, ← hg]
    rfl
  · refine (congrArg (fun m => (Map.find m (Reg.HIF_COUNT 3)).getD _) hregs).trans ?_
    rw [← hg]
    exact d.reg_count _ _
  · have hreg : (g.finishWith r e 0 (rxWords p (bitsOf (e.w 2) 0 15))).reg a = g.reg a := by
      unfold Dev.reg
      rw [hregs]
    exact hreg.trans (hg ▸ d.count_regsKept _ (List.mem_singleton_self _) a ha)

/-- A packet that waits leaves RX_ASSIGN with a buffer, and perhaps written: the ring's next buffer is taken. -/
theorem Dev.rxAssign_claimed (d : Dev) (r : Nat) {c : Nat} {p : Pkt} {e : Entry} {rest : List Entry} (hrise : Map.rising d.pkts = true)
    (ha : d.assignedPkt r = none) (hw : d.firstWaiting r = some (c, p)) (hrx : (d.sub r).rx = e :: rest) (hact : d.ringState r = rsActive)
    (hroom : d.inProgress r < 4) :
    ∃ q, (d.rxAssign r).1.pkt c = some q ∧ (q.stage = .assigned r e.index ∨ q.stage = .delivered r e.index) ∧
      ((d.rxAssign r).1.sub r).rx = rest ∧ q.bytes = p.bytes := by
  obtain ⟨f, hf⟩ : ∃ f, d.claim r = f := ⟨_, rfl⟩
  have hclaim := d.claim_takes r hw hrx hact hroom
  have hpkts : f.pkts = Map.put d.pkts c { p with stage := .assigned r e.index } := by rw [← hf, hclaim]; rfl
  have hsub : (f.sub r).rx = rest := by
    rw [← hf, hclaim]
    exact congrArg Sub.rx (d.sub_setSub r { d.sub r with rx := rest, prog := (d.sub r).prog ++ [{ e with started := true }] })
  have hpkt : f.pkt c = some { p with stage := .assigned r e.index } := by rw [Dev.pkt, hpkts, Map.find_put_same]
  cases hn : f.assignedPkt r with
  | none =>
    rw [d.rxAssign_claim_none r ha (hf ▸ hn), hf]
    exact ⟨_, hpkt, .inl rfl, hsub, rfl⟩
  | some x =>
    obtain ⟨c', p', e'⟩ := x
    obtain ⟨hmem, hstage⟩ := f.assignedPkt_spec r hn
    rw [d.rxAssign_claim r ha (hf ▸ hn), hf]
    cases hwr : f.hostWrites r (bitsOf (e'.w 1) 0 48) (p'.bytes.take (bitsOf (e'.w 2) 0 15)) (!e'.fence) with
    | none =>
      rw [f.writeRx_none r c' p' e' hwr]
      exact ⟨_, hpkt, .inl rfl, hsub, rfl⟩
    | some w =>
      obtain ⟨-, hput, hrx', -⟩ := f.writeRx_written r c' p' e' hwr
      by_cases hc : c = c'
      · subst hc
        have hfind : f.pkt c = some p' := (Map.find_eq_some_iff (hpkts ▸ Map.rising_put _ _ _ hrise) _ _).mpr hmem
        obtain rfl := Option.some.inj (hpkt.symm.trans hfind)
        have hindex : e.index = e'.index := by
          simp only [Stage.assigned.injEq, true_and] at hstage
          exact hstage
        exact ⟨_, (congrArg (Map.find · c) hput).trans (Map.find_put_same _ _ _), .inr (by rw [hindex]), hrx'.trans hsub, rfl⟩
      · exact ⟨_, ((congrArg (Map.find · c) hput).trans (Map.find_put_other _ _ _ _ hc)).trans hpkt, .inl rfl, hrx'.trans hsub, rfl⟩

/-! ### HOST_INJECT (R35, R246, R255, R508) -/

theorem exec_hostInject (s : State) (hon : s.dev.hifOn = true) : exec .hostInject s = .next (s.withDev s.dev.hostInject) := by
  show execHostInject s = _
  unfold execHostInject
  rw [if_pos hon]
  rfl

/-- The device when the oldest packet read is taken: the turn is used unless the packet is DIRECT. -/
def Dev.injectTurn (d : Dev) (j : Inject) (rest : List Inject) : Dev :=
  { if bitOf (wordAt j.words 2).toNat 20 then d else d.granted (bitsOf (wordAt j.words 2).toNat 16 3) 130 with hif := { d.hif with injects := rest } }

/-- The counts of a packet injected. -/
def Dev.injectCount (d : Dev) (j : Inject) : Dev :=
  ((d.count (Reg.HIF_COUNT 4) 1).count (Reg.PRT_COUNT 130 0) 1).count (Reg.PRT_COUNT 130 1) j.bytes.length

/-- The packet is counted and its TX entry completes. -/
def Dev.injectDone (d : Dev) (j : Inject) : Dev :=
  match (d.injectCount j).entry j.ring j.index with
  | some e => (d.injectCount j).finish j.ring e 0 0
  | none => d.injectCount j

theorem Dev.hostInject_takes (d : Dev) {j : Inject} {rest : List Inject} (h : d.hif.injects = j :: rest) (hpool : d.poolFree = true)
    (hl : d.lineUp (bitsOf (wordAt j.words 2).toNat 16 3) = true)
    (ht : bitOf (wordAt j.words 2).toNat 20 = true ∨ d.inTurn (bitsOf (wordAt j.words 2).toNat 16 3) 130 = true) {c : Nat} {p : Pkt} {e : Dev}
    (hn : (d.injectTurn j rest).newPkt 130 130 (bitsOf (wordAt j.words 2).toNat 16 3) ((d.injectTurn j rest).ns256 % 2 ^ 40) j.bytes = (c, p, e)) :
    d.hostInject = if bitOf (wordAt j.words 2).toNat 20 then (e.injectDone j).injectDirect c (injectPkt p j) (wordAt j.words 3).toNat
      else (e.injectDone j).setPkt c (injectPkt p j) := by
  unfold Dev.injectTurn at hn
  unfold Dev.hostInject
  rw [h]
  dsimp only
  rw [if_neg (by rcases ht with ht | ht <;> simp [hpool, hl, ht])]
  simp only [hn]
  rfl

/-- While the pool is empty, the pipe restarts, or another source has the turn, the packet waits. -/
theorem Dev.hostInject_waits (d : Dev) {j : Inject} {rest : List Inject} (h : d.hif.injects = j :: rest)
    (hw : d.poolFree = false ∨ d.lineUp (bitsOf (wordAt j.words 2).toNat 16 3) = false ∨
      bitOf (wordAt j.words 2).toNat 20 = false ∧ d.inTurn (bitsOf (wordAt j.words 2).toNat 16 3) 130 = false) : d.hostInject = d := by
  unfold Dev.hostInject
  rw [h]
  dsimp only
  rw [if_pos (by rcases hw with hw | hw | ⟨hw, ht⟩ <;> simp [*])]

/-- What the packet's count and its entry's completion leave. -/
structure Dev.Injected (d : Dev) (j : Inject) (e : Dev) : Prop where
  pkts : e.pkts = d.pkts
  turns : e.turns = d.turns
  injects : e.hif.injects = d.hif.injects
  discards : e.discards = d.discards
  kept : d.regsKept e [Reg.HIF_COUNT 4, Reg.PRT_COUNT 130 0, Reg.PRT_COUNT 130 1]
  host : e.reg (Reg.HIF_COUNT 4) = d.plus (Reg.HIF_COUNT 4) 1
  frames : e.reg (Reg.PRT_COUNT 130 0) = d.plus (Reg.PRT_COUNT 130 0) 1
  octets : e.reg (Reg.PRT_COUNT 130 1) = d.plus (Reg.PRT_COUNT 130 1) j.bytes.length

theorem Dev.injectCount_injected (d : Dev) (j : Inject) : d.Injected j (d.injectCount j) where
  pkts := rfl
  turns := rfl
  injects := rfl
  discards := rfl
  kept := ((d.count_regsKept 1 (by simp)).trans (Dev.count_regsKept _ 1 (by simp))).trans (Dev.count_regsKept _ _ (by simp))
  host := by
    unfold Dev.injectCount
    rw [Dev.reg_count_other _ _ _ _ (by decide), Dev.reg_count_other _ _ _ _ (by decide), Dev.reg_count]
  frames := by
    unfold Dev.injectCount
    rw [Dev.reg_count_other _ _ _ _ (by decide)]
    exact (d.count_regsKept 1 (List.mem_singleton_self _)).count (by decide) 1
  octets := ((d.count_regsKept 1 (by simp)).trans (Dev.count_regsKept _ 1 (as := [Reg.HIF_COUNT 4, Reg.PRT_COUNT 130 0]) (by simp))).count
    (by decide) _

theorem Dev.injectDone_injected (d : Dev) (j : Inject) : d.Injected j (d.injectDone j) := by
  have h := d.injectCount_injected j
  unfold Dev.injectDone
  split
  next e he =>
    obtain ⟨honly, -, hinj, -⟩ := (d.injectCount j).finishWith_spec j.ring e 0 (e.rest 0)
    have hregs : ((d.injectCount j).finish j.ring e 0 0).regs = (d.injectCount j).regs := by
      rw [Dev.finish, honly]
    have hreg : ∀ a, ((d.injectCount j).finish j.ring e 0 0).reg a = (d.injectCount j).reg a := fun a => by
      unfold Dev.reg
      rw [hregs]
    refine ⟨?_, ?_, hinj.trans h.injects, ?_, fun a ha => (hreg a).trans (h.kept a ha), (hreg _).trans h.host, (hreg _).trans h.frames,
      (hreg _).trans h.octets⟩
    · rw [Dev.finish, honly, ← h.pkts]
    · rw [Dev.finish, honly, ← h.turns]
    · rw [Dev.finish, honly, ← h.discards]
  next => exact h

@[simp] theorem Pkt.put_pid (p : Pkt) (f : CtxFld) (v : Nat) : (p.put f v).pid = p.pid := rfl
@[simp] theorem Pkt.put_stage (p : Pkt) (f : CtxFld) (v : Nat) : (p.put f v).stage = p.stage := rfl
@[simp] theorem Pkt.put_fromHost (p : Pkt) (f : CtxFld) (v : Nat) : (p.put f v).fromHost = p.fromHost := rfl
@[simp] theorem Pkt.putWord_pid (p : Pkt) (i : Nat) (v : Word) : (p.putWord i v).pid = p.pid := rfl
@[simp] theorem Pkt.putWord_stage (p : Pkt) (i : Nat) (v : Word) : (p.putWord i v).stage = p.stage := rfl
@[simp] theorem Pkt.putWord_bytes (p : Pkt) (i : Nat) (v : Word) : (p.putWord i v).bytes = p.bytes := rfl
@[simp] theorem Pkt.putWord_fromHost (p : Pkt) (i : Nat) (v : Word) : (p.putWord i v).fromHost = p.fromHost := rfl

theorem injectPkt_kept (p : Pkt) (j : Inject) : (injectPkt p j).pid = p.pid ∧ (injectPkt p j).stage = p.stage ∧
    (injectPkt p j).bytes = p.bytes ∧ (injectPkt p j).fromHost = p.fromHost := by
  simp [injectPkt]

/-- The fields that a TX entry gives its context, and those that it leaves. -/
theorem injectPkt_spec (p : Pkt) (j : Inject) (hl : p.words.length = 32) :
    let q := injectPkt p j
    q.get C.TS = bitsOf (wordAt j.words 2).toNat 21 2 ∧ q.word 28 = wordAt j.words 4 ∧ q.word 29 = wordAt j.words 5 ∧ q.word 30 = wordAt j.words 6 ∧
      q.word 31 = wordAt j.words 7 ∧ q.words.length = 32 ∧ (∀ i, i < 23 → q.word i = p.word i) ∧ q.pid = p.pid ∧ q.stage = p.stage ∧
      q.bytes = p.bytes ∧ q.fromHost = p.fromHost := by
  obtain ⟨q, hq⟩ : ∃ q, (((p.putWord 28 (wordAt j.words 4)).putWord 29 (wordAt j.words 5)).putWord 30 (wordAt j.words 6)).putWord 31
    (wordAt j.words 7) = q := ⟨_, rfl⟩
  have hinject : injectPkt p j = { q.put C.TS (bitsOf (wordAt j.words 2).toNat 21 2) with tsFixed := true } := hq ▸ rfl
  have hlen : q.words.length = 32 := by
    rw [← hq]
    simpa using hl
  have hput : ∀ i, i ≠ 23 → (injectPkt p j).word i = q.word i := fun i hi => hinject ▸ Pkt.word_put_other _ _ _ hi
  intro r
  refine ⟨?_, (hput 28 (by decide)).trans ?_, (hput 29 (by decide)).trans ?_, (hput 30 (by decide)).trans ?_, (hput 31 (by decide)).trans ?_, ?_,
    fun i hi => (hput i (by omega)).trans ?_, injectPkt_kept p j⟩
  · have hts : (q.put C.TS (bitsOf (wordAt j.words 2).toNat 21 2)).get C.TS = _ :=
      (Pkt.get_put_same q (f := C.TS) _ hlen (by decide)).trans (Nat.mod_eq_of_lt (bitsOf_lt _ _ _))
    exact (congrArg (Pkt.get · C.TS) hinject).trans hts
  · rw [← hq, Pkt.word_putWord_other _ _ (by decide), Pkt.word_putWord_other _ _ (by decide), Pkt.word_putWord_other _ _ (by decide),
      Pkt.word_putWord_same _ _ (by omega)]
  · rw [← hq, Pkt.word_putWord_other _ _ (by decide), Pkt.word_putWord_other _ _ (by decide), Pkt.word_putWord_same _ _ (by simp [hl])]
  · rw [← hq, Pkt.word_putWord_other _ _ (by decide), Pkt.word_putWord_same _ _ (by simp [hl])]
  · rw [← hq, Pkt.word_putWord_same _ _ (by simp [hl])]
  · exact (show r.words.length = q.words.length by simp only [r, hinject, Pkt.length_put]).trans hlen
  · rw [← hq, Pkt.word_putWord_other _ _ (by omega), Pkt.word_putWord_other _ _ (by omega), Pkt.word_putWord_other _ _ (by omega),
      Pkt.word_putWord_other _ _ (by omega)]

/-- The packet that a DIRECT injection sends: FORWARD, with the destination, the queue and the egress entry of its TX entry. -/
def directPkt (p : Pkt) (dest q ptr : Nat) : Pkt :=
  let p := ((p.dispose Disp.forward 0).put C.QUEUE q).put C.TC (q % 8)
  ((p.put C.DEST dest).put C.MCAST 0).put C.REWRITE_PTR ptr

@[simp] theorem Pkt.dispose_pid (p : Pkt) (x y : Nat) : (p.dispose x y).pid = p.pid := rfl

theorem directPkt_kept (p : Pkt) (dest q ptr : Nat) : (directPkt p dest q ptr).bytes = p.bytes ∧ (directPkt p dest q ptr).pid = p.pid := by
  simp [directPkt]

theorem Dev.discard_discards (d : Dev) (c : Nat) (p : Pkt) : (d.discard c p).discards = (p.pid, p.get C.REASON) :: d.discards := rfl

/-- The checks of a DIRECT packet (R246, R255). -/
theorem Dev.injectDirect_cases (d : Dev) (c : Nat) (p : Pkt) {w3 dest q : Nat} (hd : bitsOf w3 0 8 = dest) (hq : bitsOf w3 8 17 = q) :
    let x := directPkt p dest q (bitsOf w3 32 20)
    (129 < dest → d.injectDirect c p w3 = d.discard c (x.dispose Disp.drop 0x28)) ∧
    (dest ≤ 129 → d.subPort (q / 8) ≠ some dest → d.injectDirect c p w3 = (d.count (Reg.ACT_COUNT 4) 1).discard c (x.dispose Disp.drop 0x23)) ∧
    (dest ≤ 129 → d.subPort (q / 8) = some dest →
      ∃ y, Charged (d, x) y ∧ d.injectDirect c p w3 = y.1.setPkt c { y.2 with stage := .admission, seq := 0 }) := by
  obtain ⟨x, hx⟩ : ∃ x, directPkt p dest q (bitsOf w3 32 20) = x := ⟨_, rfl⟩
  rw [hx]
  unfold directPkt at hx
  unfold Dev.injectDirect
  simp only [hd, hq, hx]
  refine ⟨fun h => ?_, fun h hs => ?_, fun h hs => ?_⟩
  · rw [if_pos h]
  · rw [if_neg (Nat.not_lt.mpr h), if_pos hs]
  · rw [if_neg (Nat.not_lt.mpr h), if_neg (not_not.mpr hs)]
    exact ⟨_, d.forecast_charged (d.secOr0 (x.get C.G) T.ACTION_MERGE (x.get C.IN_PIPE)) x, rfl⟩

/-- What a DIRECT packet's context says, and what it keeps. -/
theorem directPkt_spec (p : Pkt) (dest q ptr : Nat) (hl : p.words.length = 32) (hd : dest < 256) (hq : q < 131072) (hp : ptr < 1048576) :
    let x := directPkt p dest q ptr
    x.get C.DISP = Disp.forward ∧ x.get C.DEST = dest ∧ x.get C.MCAST = 0 ∧ x.get C.QUEUE = q ∧ x.get C.TC = q % 8 ∧ x.get C.REWRITE_PTR = ptr ∧
      x.words.length = 32 ∧ (∀ i, 23 ≤ i → x.word i = p.word i) := by
  unfold directPkt
  dsimp only
  refine ⟨?_, ?_, ?_, ?_, ?_, ?_, by simpa using hl, fun i hi => ?_⟩
  · simp (disch := decide) only [Pkt.get_put_other]
    exact Pkt.get_dispose_disp _ _ _ hl (by decide)
  · simp (disch := decide) only [Pkt.get_put_other]
    rw [Pkt.get_put_same _ _ (by simpa using hl) (by decide)]
    exact Nat.mod_eq_of_lt (by simp only [C.DEST]; omega)
  · rw [Pkt.get_put_other _ _ (by decide), Pkt.get_put_same _ _ (by simpa using hl) (by decide)]
    rfl
  · simp (disch := decide) only [Pkt.get_put_other]
    rw [Pkt.get_put_same _ _ (by simpa using hl) (by decide)]
    exact Nat.mod_eq_of_lt hq
  · simp (disch := decide) only [Pkt.get_put_other]
    rw [Pkt.get_put_same _ _ (by simpa using hl) (by decide)]
    exact Nat.mod_eq_of_lt (Nat.mod_lt _ (by decide))
  · rw [Pkt.get_put_same _ _ (by simpa using hl) (by decide)]
    exact Nat.mod_eq_of_lt hp
  · have hput : ∀ (y : Pkt) (f : CtxFld) (v : Nat), f.word < 23 → (y.put f v).word i = y.word i := fun y f v hf =>
      y.word_put_other f v (by omega)
    unfold Pkt.dispose
    rw [hput _ _ _ (by decide), hput _ _ _ (by decide), hput _ _ _ (by decide), hput _ _ _ (by decide), hput _ _ _ (by decide),
      hput _ _ _ (by decide), hput _ _ _ (by decide)]

/-- The port of a subscriber that exists does not rest on the counts of an injection. -/
theorem Dev.Injected.subPort {d e : Dev} {j : Inject} (h : d.Injected j e) {k : Nat} (hk : k < 16384) : e.subPort k = d.subPort k := by
  have hsub : e.reg (Reg.SCH_SUB k) = d.reg (Reg.SCH_SUB k) := h.kept _ (by
    simp only [List.mem_cons, List.not_mem_nil, or_false, Reg.SCH_SUB, Reg.HIF_COUNT, Reg.PRT_COUNT]
    omega)
  have hgroup : ∀ g, g < 2048 → e.groupPort g = d.groupPort g := fun g hg => by
    unfold Dev.groupPort Dev.bit Dev.fld
    rw [h.kept (Reg.SCH_GROUP g) (by
      simp only [List.mem_cons, List.not_mem_nil, or_false, Reg.SCH_GROUP, Reg.HIF_COUNT, Reg.PRT_COUNT]
      omega)]
  unfold Dev.subPort Dev.bit Dev.fld
  rw [hsub, hgroup _ (Fld.of_lt F.SCH_SUB_PARENT _)]

/-- The packet of an injection before it goes on: a context that was free, its words, and what the device has counted. -/
structure Dev.InjectTaken (d : Dev) (j : Inject) (rest : List Inject) (c : Nat) (p : Pkt) (f : Dev) : Prop where
  free : d.pkt c = none
  pkts : f.pkts = d.pkts
  injects : f.hif.injects = rest
  discards : f.discards = d.discards
  turns : bitOf (wordAt j.words 2).toNat 20 = false → f.turns = Map.put d.turns (bitsOf (wordAt j.words 2).toNat 16 3) 130
  subPort : ∀ k, k < 16384 → f.subPort k = d.subPort k
  host : f.reg (Reg.HIF_COUNT 4) = d.plus (Reg.HIF_COUNT 4) 1
  frames : f.reg (Reg.PRT_COUNT 130 0) = d.plus (Reg.PRT_COUNT 130 0) 1
  octets : f.reg (Reg.PRT_COUNT 130 1) = d.plus (Reg.PRT_COUNT 130 1) j.bytes.length
  length : p.words.length = 32
  port : p.get C.IN_PORT = 130
  pipe : p.get C.IN_PIPE = bitsOf (wordAt j.words 2).toNat 16 3
  frameLen : p.get C.FRAME_LEN = j.bytes.length + 4
  ts : p.get C.TS = bitsOf (wordAt j.words 2).toNat 21 2
  word : p.word 28 = wordAt j.words 4 ∧ p.word 29 = wordAt j.words 5 ∧ p.word 30 = wordAt j.words 6 ∧ p.word 31 = wordAt j.words 7
  pid : p.pid = d.pidCtr + 1
  stage : p.stage = .crossed
  bytes : p.bytes = j.bytes
  fromHost : p.fromHost = true
  step : d.hostInject = if bitOf (wordAt j.words 2).toNat 20 then f.injectDirect c p (wordAt j.words 3).toNat else f.setPkt c p

theorem Dev.hostInject_taken (d : Dev) {j : Inject} {rest : List Inject} (h : d.hif.injects = j :: rest) (hpool : d.poolFree = true)
    (hl : d.lineUp (bitsOf (wordAt j.words 2).toNat 16 3) = true)
    (ht : bitOf (wordAt j.words 2).toNat 20 = true ∨ d.inTurn (bitsOf (wordAt j.words 2).toNat 16 3) 130 = true) (hlen : d.pkts.length < 65536)
    (hb : j.bytes.length + 4 < 16384) : ∃ c p f, d.InjectTaken j rest c p f := by
  obtain ⟨d0, hd0⟩ : ∃ d0, d.injectTurn j rest = d0 := ⟨_, rfl⟩
  have hpkts : d0.pkts = d.pkts := by
    rw [← hd0]
    unfold Dev.injectTurn
    split <;> rfl
  have hpid : d0.pidCtr = d.pidCtr := by
    rw [← hd0]
    unfold Dev.injectTurn
    split <;> rfl
  have hdis : d0.discards = d.discards := by
    rw [← hd0]
    unfold Dev.injectTurn
    split <;> rfl
  have hregs : d0.regs = d.regs := by
    rw [← hd0]
    unfold Dev.injectTurn
    split <;> rfl
  have hinj : d0.hif.injects = rest := hd0 ▸ rfl
  have hturns : bitOf (wordAt j.words 2).toNat 20 = false → d0.turns = Map.put d.turns (bitsOf (wordAt j.words 2).toNat 16 3) 130 := fun hdirect => by
    rw [← hd0]
    unfold Dev.injectTurn
    rw [if_neg (by simp [hdirect])]
    rfl
  obtain ⟨x, hx⟩ : ∃ x, d0.newPkt 130 130 (bitsOf (wordAt j.words 2).toNat 16 3) (d0.ns256 % 2 ^ 40) j.bytes = x := ⟨_, rfl⟩
  obtain ⟨c, p, e⟩ := x
  have hnew : d0.NewPkt 130 130 (bitsOf (wordAt j.words 2).toNat 16 3) (d0.ns256 % 2 ^ 40) j.bytes c p e := by
    have hspec := d0.newPkt_spec 130 130 (bitsOf (wordAt j.words 2).toNat 16 3) (d0.ns256 % 2 ^ 40) j.bytes (hpkts ▸ hlen)
    rw [hx] at hspec
    exact hspec
  obtain ⟨k, l, he⟩ := hnew.dev
  obtain ⟨g, hg, -, hwords⟩ := hnew.words
  have hpipe : bitsOf (wordAt j.words 2).toNat 16 3 < 8 := bitsOf_lt _ _ _
  obtain ⟨hin, hip, -, hfl, -⟩ := newWords_fields (by decide : 130 < 256) hpipe hg hb (Nat.mod_lt _ (by decide) : d0.ns256 % 2 ^ 40 < 2 ^ 40) hnew.ctx
  rw [← hwords] at hin hip hfl
  obtain ⟨hts, h28, h29, h30, h31, hlen', hword, hpid', hstage, hbytes, hhost⟩ := injectPkt_spec p j (by rw [hwords]; exact length_newWords ..)
  have hdone := e.injectDone_injected j
  have hreg : ∀ a, e.reg a = d.reg a := fun a => by
    unfold Dev.reg
    rw [he, hregs]
  have hplus : ∀ a n, e.plus a n = d.plus a n := fun a n => by
    unfold Dev.plus
    rw [hreg]
  refine ⟨c, injectPkt p j, e.injectDone j, ?_⟩
  exact
    { free := by rw [Dev.pkt, ← hpkts]; exact hnew.free
      pkts := by rw [hdone.pkts, he, hpkts]
      injects := by rw [hdone.injects, he, hinj]
      discards := by rw [hdone.discards, he, hdis]
      turns := fun hdirect => by rw [hdone.turns, he, ← hturns hdirect]
      subPort := fun k hk => by
        rw [hdone.subPort hk]
        unfold Dev.subPort Dev.groupPort Dev.bit Dev.fld
        rw [funext hreg]
      host := hdone.host.trans (hplus _ _)
      frames := hdone.frames.trans (hplus _ _)
      octets := hdone.octets.trans (hplus _ _)
      length := hlen'
      port := (Pkt.get_of_word (hword _ (by decide))).trans hin
      pipe := (Pkt.get_of_word (hword _ (by decide))).trans hip
      frameLen := (Pkt.get_of_word (hword _ (by decide))).trans hfl
      ts := hts
      word := ⟨h28, h29, h30, h31⟩
      pid := by rw [hpid', hnew.pid, hpid]
      stage := hstage.trans hnew.stage
      bytes := hbytes.trans hnew.bytes
      fromHost := hhost.trans hnew.fromHost
      step := d.hostInject_takes h hpool hl ht (hd0 ▸ hx) }

/-- Settles O18: the ring that the maps name, the packet that a ring writes next, and the oldest packet that the host sends. -/
theorem hostPackets : Obligations.HostPackets := by
  unfold Obligations.HostPackets
  refine ⟨?_, ?_, ?_⟩
  · intro c p s hon hp hs hl lost
    have hexec := exec_hostDelivery c p s hon hp hs hl
    obtain ⟨hnone, hsome⟩ := s.dev.deliver_cases c p
    have hdrop : ∀ why, s.dev.deliver c p = s.dev.hostDrop c p why → ∃ t, exec (.hostDelivery c) s = .next t ∧ lost t why := by
      intro why h
      obtain ⟨hlost, hcount, hevent⟩ := s.dev.hostDrop_lost c p why
      rw [h] at hexec
      exact ⟨_, hexec, hlost.gone, hlost.kept, hlost.data, hlost.discards, hcount, hevent⟩
    refine ⟨fun h => hdrop _ (hnone h), fun r h => ⟨fun hw => ?_, fun hw => hdrop _ ((hsome r h).1 hw)⟩⟩
    rw [(hsome r h).2 hw] at hexec
    exact ⟨_, _, hexec, Dev.pkt_setPkt_same _ _ _, fun k hk => Dev.pkt_setPkt_other _ _ _ _ hk, rfl, rfl, rfl⟩
  · intro r s hon
    have hexec := exec_rxAssign r s hon
    refine ⟨fun ha hw => ?_, fun c p e w ha => ?_, fun c p e rest hrise ha hw hrx hact hroom => ?_⟩
    · have hclaim := s.dev.claim_none r hw
      rw [hexec, s.dev.rxAssign_claim_none r ha (hclaim.symm ▸ ha), hclaim]
      rfl
    · intro bs hw
      obtain ⟨hwrites, hpkts, -, hheld, hcount, hkept⟩ := s.dev.writeRx_written r c p e hw
      rw [s.dev.rxAssign_assigned r ha] at hexec
      refine ⟨_, _, hexec, ⟨?_, fun a h => ?_⟩, (congrArg (Map.find · c) hpkts).trans (Map.find_put_same _ _ _),
        fun k hk => (congrArg (Map.find · k) hpkts).trans (Map.find_put_other _ _ _ _ hk), rfl, hheld, hcount, hkept⟩
      · rw [← hwrites]
        rfl
      · exact State.read_wrote_other s _ a (hwrites ▸ h)
    · obtain ⟨q, hq, hstage, hrest, hbytes⟩ := s.dev.rxAssign_claimed r hrise ha hw hrx hact hroom
      exact ⟨_, q, hexec, hq, hstage, hrest, hbytes⟩
  · intro j rest s hon hinj w2 w3 pipe dest q
    have hexec := exec_hostInject s hon
    have h8 : dest < 256 := bitsOf_lt _ _ _
    have h17 : q < 131072 := bitsOf_lt _ _ _
    have h20 : bitsOf w3 32 20 < 1048576 := bitsOf_lt _ _ _
    refine ⟨fun hw => ?_, fun hpool hl hdirect hlen hb => ?_, fun hpool hl hdirect hturn hlen hb => ?_⟩
    · rw [hexec, s.dev.hostInject_waits hinj hw]
      rfl
    · obtain ⟨c, p, f, ht⟩ := s.dev.hostInject_taken hinj hpool hl (.inl hdirect) hlen hb
      have hstep := ht.step
      rw [if_pos hdirect] at hstep
      obtain ⟨hfar, hbad, hgood⟩ := f.injectDirect_cases c p (w3 := w3) (dest := dest) (q := q) rfl rfl
      obtain ⟨hdisp, hdest, hmcast, hqueue, htc, hptr, hxl, hxw⟩ := directPkt_spec p dest q (bitsOf w3 32 20) ht.length h8 h17 h20
      obtain ⟨hxbytes, hxpid⟩ := directPkt_kept p dest q (bitsOf w3 32 20)
      have hreason : ∀ why, ((f.discard c ((directPkt p dest q (bitsOf w3 32 20)).dispose Disp.drop why)).discards) =
          (s.dev.pidCtr + 1, why % 256) :: s.dev.discards := fun why => by
        rw [Dev.discard_discards, Pkt.dispose_pid, hxpid, ht.pid, Pkt.get_dispose_reason _ _ _ hxl, ht.discards]
      rw [ht.subPort _ (by omega)] at hbad hgood
      refine ⟨fun hd hsub => ?_, fun h => ?_⟩
      · obtain ⟨y, hy, hsent⟩ := hgood hd hsub
        rw [hstep.trans hsent] at hexec
        have hword : ∀ i, i ≠ 1 → i ≠ 26 → y.2.word i = (directPkt p dest q (bitsOf w3 32 20)).word i := hy.word
        have hget : ∀ {g : CtxFld}, g.word ≠ 1 → g.word ≠ 26 → y.2.get g = (directPkt p dest q (bitsOf w3 32 20)).get g := fun {g} h1 h26 =>
          hy.get h1 h26
        have hkept : y.1.pkts = s.dev.pkts := hy.dev.pkts.trans ht.pkts
        have hbytes : y.2.bytes = j.bytes := by
          obtain ⟨m, hm, -⟩ := hy.pkt
          rw [hm, ← ht.bytes, ← hxbytes]
        have hinjects : y.1.hif.injects = rest := by
          rw [hy.dev]
          exact ht.injects
        refine ⟨_, c, { y.2 with stage := .admission, seq := 0 }, hexec, ht.free, Dev.pkt_setPkt_same _ _ _,
          fun k hk => (Dev.pkt_setPkt_other _ _ _ _ hk).trans (congrArg (Map.find · k) hkept), hinjects, rfl, hbytes,
          (hget (by decide) (by decide)).trans hdisp, (hget (by decide) (by decide)).trans hdest, (hget (by decide) (by decide)).trans hmcast,
          (hget (by decide) (by decide)).trans hqueue, (hget (by decide) (by decide)).trans htc, (hget (by decide) (by decide)).trans hptr,
          ((hget (by decide) (by decide)).trans (Pkt.get_of_word (hxw _ (by decide)))).trans ht.ts, ?_⟩
        exact ((hword 28 (by decide) (by decide)).trans (hxw 28 (by decide))).trans ht.word.1
      · have hgone : ∀ (e : Dev) (r : Pkt), e.pkts = s.dev.pkts → ∀ k, (e.discard c r).pkt k = s.dev.pkt k := by
          intro e r he k
          show Map.find (Map.del e.pkts c) k = Map.find s.dev.pkts k
          rw [he]
          by_cases hk : k = c
          · rw [hk, Map.find_del_same]
            exact ht.free.symm
          · exact Map.find_del_other _ _ _ hk
        by_cases hd : 129 < dest
        · rw [hstep.trans (hfar hd)] at hexec
          refine ⟨_, hexec, hgone f _ ht.pkts, ht.injects, ?_⟩
          rw [if_pos hd]
          exact hreason 0x28
        · rw [hstep.trans (hbad (Nat.not_lt.mp hd) (h.resolve_left hd))] at hexec
          refine ⟨_, hexec, hgone (f.count (Reg.ACT_COUNT 4) 1) _ ht.pkts, ht.injects, ?_⟩
          rw [if_neg hd]
          exact hreason 0x23
    · obtain ⟨c, p, f, ht⟩ := s.dev.hostInject_taken hinj hpool hl (.inr hturn) hlen hb
      have hstep := ht.step
      rw [if_neg (Bool.eq_false_iff.mp hdirect)] at hstep
      rw [hstep] at hexec
      obtain ⟨h28, h29, h30, h31⟩ := ht.word
      exact ⟨_, c, p, hexec, ht.free, Dev.pkt_setPkt_same _ _ _,
        fun k hk => (Dev.pkt_setPkt_other _ _ _ _ hk).trans (congrArg (Map.find · k) ht.pkts), ht.injects, ht.stage, ht.fromHost, ht.bytes, ht.port, ht.pipe,
        ht.turns hdirect, ht.frameLen, ht.ts, h28, h29, h30, h31, ht.host, ht.frames, ht.octets⟩

end Sys2Proof.Machine
end

section
/-! PROOFS. What the statements about streams, generations and bring-up rest on: fields of registers (R11), generations of a device (R38, R86), and
what goes with a generation that becomes EMPTY (R83, R86, R304). -/

namespace Sys2Proof.Machine

/-! ### Fields of registers (R11) -/

theorem Dev.fld_of_reg {d e : Dev} {a : Nat} (h : e.reg a = d.reg a) (f : Fld) : e.fld a f = d.fld a f := congrArg f.of h

theorem Dev.fld_of_regs {d e : Dev} (h : e.regs = d.regs) (a : Nat) (f : Fld) : e.fld a f = d.fld a f :=
  Dev.fld_of_reg (d.regsKept_of_regs h [] a (by simp)) f

theorem Dev.fld_setFld_same (d : Dev) (a : Nat) {f : Fld} (v : Nat) (h : f.lo + f.w ≤ 64) : (d.setFld a f v).fld a f = v % 2 ^ f.w := by
  unfold Dev.fld
  rw [Dev.reg_setFld_same, Fld.of_put_same _ _ _ h]

/-- Field `f` shares no bit with field `g` of the same register. -/
def Fld.apart (f g : Fld) : Bool := decide (f.lo + f.w ≤ 64) && (decide (f.lo + f.w ≤ g.lo) || decide (g.lo + g.w ≤ f.lo))

theorem Fld.of_put_apart {f g : Fld} (x : Word) (v : Nat) (h : f.apart g = true) : f.of (g.put x v) = f.of x := by
  simp only [Fld.apart, Bool.and_eq_true, Bool.or_eq_true, decide_eq_true_eq] at h
  exact Fld.of_put_other g f x v h.1 h.2

/-- A field of another register, or of other bits of the same one, keeps its value. -/
theorem Dev.fld_setFld_other (d : Dev) {a b : Nat} {f g : Fld} (v : Nat) (h : b ≠ a ∨ g.apart f = true) : (d.setFld a f v).fld b g = d.fld b g := by
  by_cases hb : b = a
  · subst hb
    unfold Dev.fld
    rw [Dev.reg_setFld_same, Fld.of_put_apart _ _ (h.resolve_left fun hn => hn rfl)]
  · exact Dev.fld_of_reg (d.reg_setFld_other _ _ _ _ hb) g

theorem Dev.fld_setReg_other (d : Dev) {a b : Nat} {g : Fld} (v : Word) (h : b ≠ a) : (d.setReg a v).fld b g = d.fld b g :=
  Dev.fld_of_reg (d.reg_setReg_other _ _ _ h) g

theorem Dev.bit_of_fld {d : Dev} {a : Nat} {f : Fld} {n : Nat} (h : d.fld a f = n) : d.bit a f = (n != 0) := by rw [Dev.bit, h]

theorem Dev.setFld_regsKept (d : Dev) {a : Nat} (f : Fld) (v : Nat) {as : List Nat} (h : a ∈ as) : d.regsKept (d.setFld a f v) as :=
  d.setReg_regsKept _ h

/-- A register access in RUN that no restart holds takes effect (R536, R564). -/
theorem Dev.access_running (d : Dev) {a : Nat} (v : Option Word) (f : Dev → Dev) (hr : d.running = true) (ho : d.accessOpen a = true) :
    d.access a v f = f d := d.access_open a v f (d.up_of_running hr) ho

/-! ### Events of the stream loader (R81 to R95) -/

/-- An event of STR touches STR_EVENT and what its message touches. -/
theorem Dev.raise_str_regsKept (d : Dev) (b : Nat) : d.regsKept (d.raise 0 b) (eventRegs Reg.STR_EVENT) := d.raise_regsKept b rfl

theorem Dev.raise_str_fld (d : Dev) (b : Nat) {a : Nat} (f : Fld) (h : a ∉ eventRegs Reg.STR_EVENT) : (d.raise 0 b).fld a f = d.fld a f :=
  Dev.fld_of_reg (d.raise_str_regsKept b a h) f

theorem Dev.raise_str_bit (d : Dev) {b : Nat} (hb : b < 64) : ((d.raise 0 b).reg Reg.STR_EVENT).getLsbD b = true :=
  d.raise_reg_bit rfl hb (by decide) (by decide) (by decide)

/-- An event bit of STR that is set stays set when another is raised. -/
theorem Dev.raise_str_bit_kept (d : Dev) (b : Nat) {k : Nat} (h : (d.reg Reg.STR_EVENT).getLsbD k = true) :
    ((d.raise 0 b).reg Reg.STR_EVENT).getLsbD k = true := by
  rw [Dev.raise, Dev.raiseMask_reg_eq _ _ _ (by decide) (by decide) (by decide), if_pos (by rfl), BitVec.getLsbD_or, h, Bool.true_or]

theorem Dev.MessageOnly.pkts {d e : Dev} (h : d.MessageOnly e) : e.pkts = d.pkts := by rw [h]
theorem Dev.MessageOnly.gens {d e : Dev} (h : d.MessageOnly e) : e.gens = d.gens := by rw [h]
theorem Dev.MessageOnly.tables {d e : Dev} (h : d.MessageOnly e) : e.tables = d.tables := by rw [h]
theorem Dev.MessageOnly.flipping {d e : Dev} (h : d.MessageOnly e) : e.flipping = d.flipping := by rw [h]
theorem Dev.MessageOnly.drainFrom {d e : Dev} (h : d.MessageOnly e) : e.drainFrom = d.drainFrom := by rw [h]
theorem Dev.MessageOnly.loader {d e : Dev} (h : d.MessageOnly e) : e.loader = d.loader := by rw [h]

/-! ### Generations (R38, R86) -/

theorem Dev.gen_of_gens {d e : Dev} (h : e.gens = d.gens) (g : Nat) : e.gen g = d.gen g := by
  unfold Dev.gen
  rw [h]

theorem Dev.gen_of_set_same {d e : Dev} {g : Nat} {x : Gen} (h : e.gens = d.gens.set g x) (hg : g < d.gens.length) : e.gen g = x := by
  unfold Dev.gen
  simp [h, hg]

theorem Dev.gen_of_set_other {d e : Dev} {g k : Nat} {x : Gen} (h : e.gens = d.gens.set g x) (hk : k ≠ g) : e.gen k = d.gen k := by
  unfold Dev.gen
  rw [h, List.getElem?_set_ne hk.symm]

theorem Dev.activeG_of_reg {d e : Dev} (h : e.reg Reg.STR_GEN = d.reg Reg.STR_GEN) : e.activeG = d.activeG := Dev.fld_of_reg h _

theorem Dev.activeG_of_regs {d e : Dev} (h : e.regs = d.regs) : e.activeG = d.activeG := Dev.fld_of_regs h _ _

theorem Dev.activeG_setFld (d : Dev) {a : Nat} (f : Fld) (v : Nat) (h : Reg.STR_GEN ≠ a) : (d.setFld a f v).activeG = d.activeG :=
  Dev.activeG_of_reg (d.reg_setFld_other _ _ _ _ h)

/-- The active generation and the idle one are two. -/
theorem Dev.activeG_ne_idle (d : Dev) : d.activeG ≠ 1 - d.activeG := by omega

/-! ### Engines, and the contents of tables (R83, R86, R304) -/

/-- Of the device only engines and their data memory changed. -/
def Dev.EnginesOnly (d e : Dev) : Prop := e = { d with engines := e.engines, dmem := e.dmem, dmemBad := e.dmemBad }

theorem Dev.EnginesOnly.refl (d : Dev) : d.EnginesOnly d := rfl

theorem Dev.EnginesOnly.trans {d e f : Dev} (h : d.EnginesOnly e) (k : e.EnginesOnly f) : d.EnginesOnly f := Eq.trans k (by rw [h])

theorem Dev.EnginesOnly.gens {d e : Dev} (h : d.EnginesOnly e) : e.gens = d.gens := by rw [h]
theorem Dev.EnginesOnly.pkts {d e : Dev} (h : d.EnginesOnly e) : e.pkts = d.pkts := by rw [h]
theorem Dev.EnginesOnly.tables {d e : Dev} (h : d.EnginesOnly e) : e.tables = d.tables := by rw [h]
theorem Dev.EnginesOnly.loader {d e : Dev} (h : d.EnginesOnly e) : e.loader = d.loader := by rw [h]
theorem Dev.EnginesOnly.tim {d e : Dev} (h : d.EnginesOnly e) : e.tim = d.tim := by rw [h]
theorem Dev.EnginesOnly.buckets {d e : Dev} (h : d.EnginesOnly e) : e.buckets = d.buckets := by rw [h]
theorem Dev.EnginesOnly.regs {d e : Dev} (h : d.EnginesOnly e) : e.regs = d.regs := by rw [h]

/-- Of the device only engines, the contents of tables and the commands of rings changed. -/
def Dev.ContentsOnly (d e : Dev) : Prop :=
  e = { d with
    engines := e.engines, dmem := e.dmem, dmemBad := e.dmemBad, hif := e.hif, chQueues := e.chQueues, tables := e.tables, fawn := e.fawn
    cands := e.cands, hitSets := e.hitSets, writeBacks := e.writeBacks, cham := e.cham }

theorem Dev.ContentsOnly.refl (d : Dev) : d.ContentsOnly d := rfl

theorem Dev.ContentsOnly.trans {d e f : Dev} (h : d.ContentsOnly e) (k : e.ContentsOnly f) : d.ContentsOnly f := Eq.trans k (by rw [h])

theorem Dev.EnginesOnly.contentsOnly {d e : Dev} (h : d.EnginesOnly e) : d.ContentsOnly e := by
  unfold Dev.ContentsOnly
  rw [h]

theorem Dev.engLoad_enginesOnly (d : Dev) (g e : Nat) : d.EnginesOnly (d.engLoad g e) := rfl

theorem Dev.engLoadAll_enginesOnly (d : Dev) (g : Nat) : d.EnginesOnly (d.engLoadAll g) := by
  unfold Dev.engLoadAll
  refine List.foldlRecOn _ _ (Dev.EnginesOnly.refl d) fun x hx s _ => hx.trans ?_
  split
  · exact .refl x
  · exact x.engLoad_enginesOnly g s.inst

theorem Dev.startResidents_enginesOnly (d : Dev) (e : Nat) : d.EnginesOnly (d.startResidents e) := by
  unfold Dev.startResidents
  split <;> rfl

theorem Dev.stopResidents_enginesOnly (d : Dev) (e : Nat) : d.EnginesOnly (d.stopResidents e) := by
  unfold Dev.stopResidents
  split <;> rfl

theorem Dev.unloadEngines_enginesOnly (d : Dev) : d.EnginesOnly d.unloadEngines := rfl

/-- A finished command touches its ring only. -/
theorem Dev.finish_contentsOnly (d : Dev) (r : Nat) (e : Entry) (status : Nat) (value : Word) : d.ContentsOnly (d.finish r e status value) := rfl

theorem Dev.endScans_contentsOnly (d : Dev) (live : List Nat) : d.ContentsOnly (d.endScans live) := by
  unfold Dev.endScans
  refine List.foldlRecOn _ _ (Dev.ContentsOnly.refl d) fun x hx s _ => hx.trans ?_
  split
  · exact x.finish_contentsOnly _ _ _ _
  · exact .refl x

theorem Dev.endUpdates_contentsOnly (d : Dev) (live : List Nat) : d.ContentsOnly (d.endUpdates live) := by
  unfold Dev.endUpdates
  refine List.foldlRecOn _ _ ?_ fun x hx _ _ => hx.trans rfl
  refine List.foldlRecOn _ _ (Dev.ContentsOnly.refl d) fun x hx u _ => hx.trans ?_
  cases u.cmd with
  | none => exact .refl x
  | some ri =>
    dsimp only
    cases x.entry ri.1 ri.2 with
    | none => exact .refl x
    | some e => exact x.finish_contentsOnly _ _ _ _

theorem Dev.dropTables_contentsOnly (d : Dev) : d.ContentsOnly d.dropTables :=
  ((d.endScans_contentsOnly _).trans (Dev.endUpdates_contentsOnly _ _)).trans rfl

theorem Dev.dropSegments_contentsOnly (d : Dev) : d.ContentsOnly d.dropSegments := rfl

/-- A generation that becomes EMPTY takes engines and contents of tables with it, and nothing else (R86). -/
theorem Dev.genEmpty_contentsOnly (d : Dev) (g : Nat) : (d.setGen g Gen.none).ContentsOnly (d.genEmpty g) :=
  (Dev.dropTables_contentsOnly _).trans ((Dev.dropSegments_contentsOnly _).trans (Dev.unloadEngines_enginesOnly _).contentsOnly)

theorem Dev.genEmpty_gens (d : Dev) (g : Nat) : (d.genEmpty g).gens = d.gens.set g Gen.none := by
  rw [d.genEmpty_contentsOnly g]
  rfl
@[simp] theorem Dev.genEmpty_regs (d : Dev) (g : Nat) : (d.genEmpty g).regs = d.regs := by
  rw [d.genEmpty_contentsOnly g]; rfl
@[simp] theorem Dev.genEmpty_pkts (d : Dev) (g : Nat) : (d.genEmpty g).pkts = d.pkts := by
  rw [d.genEmpty_contentsOnly g]; rfl
@[simp] theorem Dev.genEmpty_loader (d : Dev) (g : Nat) : (d.genEmpty g).loader = d.loader := by
  rw [d.genEmpty_contentsOnly g]; rfl

end Sys2Proof.Machine
end

section
/-! PROOFS. Loads of an overlay in RUN (R69, R81 to R86). -/

namespace Sys2Proof.Machine

/-! ### The loader's status and its errors (R85, R86) -/

theorem Dev.loadStatus_fld (d : Dev) {st err : Nat} (hs : st < 8) (he : err < 256) :
    (d.loadStatus st err).fld Reg.STR_LOAD_STATUS F.STR_LOAD_STATUS_STATE = st ∧
    (d.loadStatus st err).fld Reg.STR_LOAD_STATUS F.STR_LOAD_STATUS_ERR = err := by
  unfold Dev.loadStatus
  constructor
  · rw [Dev.fld_setFld_other _ _ (.inl (by decide)), Dev.fld_setFld_other _ _ (.inr (by decide)), Dev.fld_setFld_same _ _ _ (by decide)]
    exact Nat.mod_eq_of_lt hs
  · rw [Dev.fld_setFld_other _ _ (.inl (by decide)), Dev.fld_setFld_same _ _ _ (by decide)]
    exact Nat.mod_eq_of_lt he

/-- STATE FAILED with the error, its detail and LOAD_ERROR. -/
def Dev.loadError (d : Dev) (e : LoadErr) : Dev := ((d.loadStatus 4 e.err).loadDetail e).raise 0 1

theorem Dev.loadError_messageOnly (d : Dev) (e : LoadErr) : d.MessageOnly (d.loadError e) := ((d.loadStatus 4 e.err).loadDetail e).raise_messageOnly 0 1

theorem Dev.loadError_shows (d : Dev) {e : LoadErr} (he : e.err < 256) :
    (d.loadError e).fld Reg.STR_LOAD_STATUS F.STR_LOAD_STATUS_STATE = 4 ∧
    (d.loadError e).fld Reg.STR_LOAD_STATUS F.STR_LOAD_STATUS_ERR = e.err ∧ ((d.loadError e).reg Reg.STR_EVENT).getLsbD 1 = true := by
  have hkept : ∀ f, (d.loadError e).fld Reg.STR_LOAD_STATUS f = (d.loadStatus 4 e.err).fld Reg.STR_LOAD_STATUS f := fun f => by
    unfold Dev.loadError Dev.loadDetail
    rw [Dev.raise_str_fld _ _ _ (by decide), Dev.fld_setReg_other _ _ (by decide)]
  obtain ⟨hst, herr⟩ := d.loadStatus_fld (st := 4) (by decide) he
  exact ⟨(hkept _).trans hst, (hkept _).trans herr, Dev.raise_str_bit _ (by decide)⟩

/-- A load of an overlay runs. -/
def LoadSrc.inRun (x : LoadSrc) : Bool := x == .host || x == .flash

theorem LoadSrc.inRun_iff (x : LoadSrc) : x.inRun = true ↔ x = .host ∨ x = .flash := by cases x <;> decide

/-- The load of `d` has ended in `e` with the error `err`. -/
structure Dev.LoadFailed (d e : Dev) (err : Nat) : Prop where
  gens : e.gens = d.gens.set (1 - d.activeG) Gen.none
  pkts : e.pkts = d.pkts
  src : e.loader.src = .none
  shows : e.fld Reg.STR_LOAD_STATUS F.STR_LOAD_STATUS_STATE = 4 ∧ e.fld Reg.STR_LOAD_STATUS F.STR_LOAD_STATUS_ERR = err
  event : (e.reg Reg.STR_EVENT).getLsbD 1 = true

theorem Dev.loadFail_eq (d : Dev) (e : LoadErr) (h : d.loader.src.inRun = true) :
    d.loadFail e = (d.loaderIdle.genEmpty (1 - d.activeG)).loadError e := by
  unfold Dev.loadFail
  rcases (LoadSrc.inRun_iff _).mp h with h | h <;> rw [h] <;> rfl

/-- In RUN a load that fails leaves the idle generation EMPTY (R86). -/
theorem Dev.loadFail_failed (d : Dev) {e : LoadErr} (h : d.loader.src.inRun = true) (he : e.err < 256) : d.LoadFailed (d.loadFail e) e.err := by
  rw [d.loadFail_eq e h]
  have hmsg := (d.loaderIdle.genEmpty (1 - d.activeG)).loadError_messageOnly e
  obtain ⟨hst, herr, hevent⟩ := (d.loaderIdle.genEmpty (1 - d.activeG)).loadError_shows he
  exact
    { gens := hmsg.gens.trans (d.loaderIdle.genEmpty_gens _)
      pkts := hmsg.pkts.trans (d.loaderIdle.genEmpty_pkts _)
      src := congrArg Loader.src (hmsg.loader.trans (d.loaderIdle.genEmpty_loader _))
      shows := ⟨hst, herr⟩
      event := hevent }

/-! ### The error that a check finds (R85) -/

/-- The device may give a REG_INIT error a BLOCK_CODE of its own; the error and all else stay. -/
theorem Dev.ownCode_cases (d : Dev) (b : List Byte) (x : LoadErr) :
    ∃ k n, d.ownCode b x = ({ x with block := k }, { d with freeCtr := n }) := by
  unfold Dev.ownCode
  split
  · exact ⟨_, _, rfl⟩
  · exact ⟨x.block, d.freeCtr, rfl⟩

/-- A load whose checks find the one error `e`. -/
theorem Dev.ownCode_loadFail_failed (d : Dev) (b : List Byte) {e : LoadErr} (h : d.loader.src.inRun = true) (he : e.err < 256) :
    d.LoadFailed ((d.ownCode b e).2.loadFail (d.ownCode b e).1) e.err := by
  obtain ⟨k, n, heq⟩ := d.ownCode_cases b e
  rw [heq]
  have hf := Dev.loadFail_failed { d with freeCtr := n } (e := { e with block := k }) h he
  exact ⟨hf.gens, hf.pkts, hf.src, hf.shows, hf.event⟩

/-! ### STR_LOAD_START and STR_LOAD_ABORT (R69, R81, R85, R86) -/

theorem exec_strLoadStart (v : Word) (s : State) (hr : s.dev.running = true) (ho : s.dev.accessOpen Reg.STR_LOAD_CTRL = true) :
    exec (.strLoadStart v) s = .next (s.withDev (s.dev.loadStart v)) :=
  congrArg (Host.Outcome.next <| s.withDev ·) (s.dev.access_running _ _ hr ho)

theorem exec_strLoadAbort (s : State) (hr : s.dev.running = true) (ho : s.dev.accessOpen Reg.STR_LOAD_CTRL = true) :
    exec .strLoadAbort s = .next (s.withDev s.dev.loadAbort) :=
  congrArg (Host.Outcome.next <| s.withDev ·) (s.dev.access_running _ _ hr ho)

/-- A START stores SRC first. -/
def Dev.startSrc (d : Dev) (v : Word) : Dev := d.setFld Reg.STR_LOAD_CTRL F.STR_LOAD_CTRL_SRC (F.STR_LOAD_CTRL_SRC.of v)

theorem Dev.startSrc_activeG (d : Dev) (v : Word) : (d.startSrc v).activeG = d.activeG := d.activeG_setFld _ _ (by decide)

theorem Dev.loadStart_busy (d : Dev) (v : Word) (h : d.loader.src ≠ .none) : d.loadStart v = d.startSrc v :=
  if_pos (by simp [h])

theorem Dev.loadStart_refused (d : Dev) {v : Word} (h1 : F.STR_LOAD_CTRL_START.of v = 1) (h2 : F.STR_LOAD_CTRL_SRC.of v < 2)
    (hs : d.loader.src = .none) (hb : (d.gen (1 - d.activeG)).st = .draining ∨ d.flipping = true) :
    d.loadStart v = (d.startSrc v).loadError ⟨0x0C, 0x1FF, 0, 0⟩ := by
  have hbusy : ((d.startSrc v).gen (1 - (d.startSrc v).activeG)).st == .draining || (d.startSrc v).flipping := by
    rw [d.startSrc_activeG]
    simpa [Dev.startSrc, Dev.gen] using hb
  exact (if_neg (by simp [h1, hs, h2])).trans (if_pos hbusy)

theorem Dev.loadStart_begins (d : Dev) {v : Word} (h1 : F.STR_LOAD_CTRL_START.of v = 1) (h2 : F.STR_LOAD_CTRL_SRC.of v < 2)
    (hs : d.loader.src = .none) (hg : (d.gen (1 - d.activeG)).st ≠ .draining) (hf : d.flipping = false) :
    d.loadStart v = (d.startSrc v).loadBegin (F.STR_LOAD_CTRL_SRC.of v = 1) := by
  have hidle : ¬ (((d.startSrc v).gen (1 - (d.startSrc v).activeG)).st == .draining || (d.startSrc v).flipping) = true := by
    rw [d.startSrc_activeG]
    simpa [Dev.startSrc, Dev.gen, hf] using hg
  exact (if_neg (by simp [h1, hs, h2])).trans (if_neg hidle)

/-- A load into the idle generation of `d` begins in `e`, from flash or from the host. -/
structure Dev.LoadBegun (d e : Dev) (flash : Bool) : Prop where
  gens : e.gens = d.gens.set (1 - d.activeG) ⟨.loading, 0, (d.gen d.activeG).secs, []⟩
  pkts : e.pkts = d.pkts
  bytes : e.loader.bytes = []
  src : e.loader.src = if flash then .flash else .host
  state : e.fld Reg.STR_LOAD_STATUS F.STR_LOAD_STATUS_STATE = 1

/-- The idle generation becomes a copy of the active one (R69). -/
theorem Dev.loadBegin_begun (d : Dev) (flash : Bool) : d.LoadBegun (d.loadBegin flash) flash := by
  have hgen : (d.genEmpty (1 - d.activeG)).gen (d.genEmpty (1 - d.activeG)).activeG = d.gen d.activeG := by
    rw [Dev.activeG_of_regs (d.genEmpty_regs _)]
    exact Dev.gen_of_set_other (d.genEmpty_gens _) d.activeG_ne_idle
  exact
    { gens := by simp [Dev.loadBegin, Dev.setGen, hgen, d.genEmpty_gens]
      pkts := by simp [Dev.loadBegin]
      bytes := rfl
      src := rfl
      state := by
        unfold Dev.loadBegin
        rw [Dev.fld_setFld_other _ _ (.inr (by decide)), Dev.fld_setFld_same _ _ _ (by decide)]
        rfl }

theorem Dev.loadStart_begun (d : Dev) {v : Word} (h1 : F.STR_LOAD_CTRL_START.of v = 1) (h2 : F.STR_LOAD_CTRL_SRC.of v < 2)
    (hs : d.loader.src = .none) (hg : (d.gen (1 - d.activeG)).st ≠ .draining) (hf : d.flipping = false) :
    d.LoadBegun (d.loadStart v) (F.STR_LOAD_CTRL_SRC.of v = 1) := by
  have hb := (d.startSrc v).loadBegin_begun (F.STR_LOAD_CTRL_SRC.of v = 1)
  rw [d.loadStart_begins h1 h2 hs hg hf]
  refine ⟨?_, hb.pkts, hb.bytes, hb.src, hb.state⟩
  rw [hb.gens, d.startSrc_activeG]
  rfl

theorem Dev.loadAbort_run (d : Dev) (h : d.loader.src.inRun = true) : d.loadAbort = d.loadFail ⟨0x0D, 0x1FF, 0, 0⟩ := if_pos h

theorem Dev.loadAbort_none (d : Dev) (h : d.loader.src.inRun = false) : d.loadAbort = d := if_neg (ne_true_of_eq_false h)

/-! ### Bytes arrive (R78, R82, R83) -/

theorem exec_strLoadData (v : Word) (s : State) (hr : s.dev.running = true) (ho : s.dev.accessOpen Reg.STR_LOAD_DATA = true) :
    exec (.strLoadData v) s = .next (s.withDev (s.dev.loadData v)) :=
  congrArg (Host.Outcome.next <| s.withDev ·) (s.dev.access_running _ _ hr ho)

theorem Dev.loadData_takes (d : Dev) (v : Word) (hs : d.loader.src = .host) (hr : d.receiving = true) : d.loadData v = d.loadFeed (wordBytes v) :=
  if_pos (by simp [hs, hr])

theorem Dev.loadData_stray (d : Dev) (v : Word) (h : d.loader.src ≠ .host ∨ d.receiving = false) :
    d.loadData v = d.setFld Reg.STR_LOAD_STATUS F.STR_LOAD_STATUS_STRAY 1 :=
  if_neg (by rcases h with h | h <;> simp [h])

theorem exec_strFlashRead (data : Option (List Byte)) (s : State) : exec (.strFlashRead data) s = .next (s.withDev (s.dev.flashRead data)) := rfl

theorem Dev.flashRead_takes (d : Dev) (hs : d.loader.src = .flash) (hr : d.receiving = true) :
    d.flashRead none = d.loadFail ⟨0x0E, 0x1FF, 0, d.loader.bytes.length⟩ ∧ ∀ bs, d.flashRead (some bs) = d.loadFeed bs := by
  have h : ((d.loader.src == .flash || d.loader.src == .bootFlash) && d.receiving) = true := by simp [hs, hr]
  exact ⟨if_pos h, fun _ => if_pos h⟩

/-- The loader holds the bytes `b` after `n` more, and shows how many they are. -/
def Dev.fedBytes (d : Dev) (b : List Byte) (n : Nat) : Dev :=
  ({ d with loader := { d.loader with bytes := b, flashAt := d.loader.flashAt + n } }).setFld Reg.STR_LOAD_STATUS F.STR_LOAD_STATUS_BYTES b.length

theorem Dev.fedBytes_activeG (d : Dev) (b : List Byte) (n : Nat) : (d.fedBytes b n).activeG = d.activeG :=
  Dev.activeG_setFld _ _ _ (by decide)

/-- An overlay's bytes, within the stream's length, that pass their checks: the sections complete in them are decoded. -/
def Dev.fedGood (d : Dev) (b : List Byte) (n : Nat) : Dev :=
  (d.fedBytes b n).setGen (1 - d.activeG) ((d.gen (1 - d.activeG)).decode b (arrived b d.loader.bytes.length))

theorem Dev.loadFeed_good (d : Dev) {b bs : List Byte} (hb : d.loader.bytes ++ bs = b) (hs : d.loader.src.inRun = true) (h64 : 64 ≤ b.length)
    (hlen : b.length ≤ stTotal b)
    (hok : arriveErrs true (d.reg Reg.STR_BASE_ID).toNat (d.gen d.activeG).secs b d.loader.bytes.length = []) :
    d.loadFeed bs = if stTotal b ≤ b.length then (d.fedGood b bs.length).setFld Reg.STR_LOAD_STATUS F.STR_LOAD_STATUS_STATE 2
      else d.fedGood b bs.length := by
  have htake : (if 16 ≤ b.length then b.take (max 64 (stTotal b)) else b) = b := by
    rw [if_pos (by omega)]
    exact List.take_of_length_le (by omega)
  have hbase : (d.fedBytes b bs.length).reg Reg.STR_BASE_ID = d.reg Reg.STR_BASE_ID := Dev.reg_setFld_other _ _ _ _ _ (by decide)
  have hsrc : (d.loader.src == .host || d.loader.src == .flash) = true := hs
  have hdone : (64 ≤ b.length ∧ stTotal b ≤ b.length) ↔ stTotal b ≤ b.length := and_iff_right h64
  unfold Dev.loadFeed
  simp only [hb, htake, hsrc, if_true]
  rw [← Dev.fedBytes, hbase, d.fedBytes_activeG]
  have hgen : ∀ k, (d.fedBytes b bs.length).gen k = d.gen k := fun k => Dev.gen_of_gens rfl k
  rw [hgen, hok]
  simp only [Dev.pickErr, hdone, hgen]
  rfl

/-- The device `e` has taken the bytes that make `b` of the load in `d`. -/
structure Dev.Fed (d e : Dev) (b : List Byte) : Prop where
  bytes : e.loader.bytes = b
  gens : e.gens = d.gens.set (1 - d.activeG) ((d.gen (1 - d.activeG)).decode b (arrived b d.loader.bytes.length))
  pkts : e.pkts = d.pkts
  tables : e.tables = d.tables
  kept : d.regsKept e [Reg.STR_LOAD_STATUS]

theorem Dev.fedGood_fed (d : Dev) (b : List Byte) (n : Nat) : d.Fed (d.fedGood b n) b where
  bytes := rfl
  gens := rfl
  pkts := rfl
  tables := rfl
  kept := Dev.setFld_regsKept { d with loader := _ } _ _ (List.mem_singleton_self _)

theorem Dev.loadFeed_fed (d : Dev) {b bs : List Byte} (hb : d.loader.bytes ++ bs = b) (hs : d.loader.src.inRun = true) (h64 : 64 ≤ b.length)
    (hlen : b.length ≤ stTotal b)
    (hok : arriveErrs true (d.reg Reg.STR_BASE_ID).toNat (d.gen d.activeG).secs b d.loader.bytes.length = []) :
    d.Fed (d.loadFeed bs) b ∧ (stTotal b = b.length → (d.loadFeed bs).fld Reg.STR_LOAD_STATUS F.STR_LOAD_STATUS_STATE = 2) := by
  have hfed := d.fedGood_fed b bs.length
  rw [d.loadFeed_good hb hs h64 hlen hok]
  split
  next =>
    exact ⟨⟨hfed.bytes, hfed.gens, hfed.pkts, hfed.tables, hfed.kept.trans (Dev.setFld_regsKept _ _ _ (List.mem_singleton_self _))⟩,
      fun _ => Dev.fld_setFld_same _ _ _ (by decide)⟩
  next hmore => exact ⟨hfed, fun heq => absurd heq.le hmore⟩

/-! ### LOAD_DONE (R86) -/

theorem exec_loadDone (s : State) (hr : s.dev.running = true) : exec .loadDone s = .next (s.withDev s.dev.loadDone) :=
  congrArg (Host.Outcome.next <| s.withDev ·) (if_pos hr)

/-- The load of `d` has ended in `e` with the idle generation READY. -/
structure Dev.LoadReady (d e : Dev) : Prop where
  gens : e.gens = d.gens.set (1 - d.activeG) { d.gen (1 - d.activeG) with st := .ready, id := BitVec.ofNat 64 (stId d.loader.bytes) }
  pkts : e.pkts = d.pkts
  tables : e.tables = d.tables
  src : e.loader.src = .none
  shows : e.fld Reg.STR_LOAD_STATUS F.STR_LOAD_STATUS_STATE = 3 ∧ e.fld Reg.STR_LOAD_STATUS F.STR_LOAD_STATUS_ERR = 0
  event : (e.reg Reg.STR_EVENT).getLsbD 0 = true

/-- The idle generation is READY with its STREAM_ID, and the loader idle. -/
def Dev.readyGen (d : Dev) : Dev :=
  (d.setGen (1 - d.activeG) { d.gen (1 - d.activeG) with st := .ready, id := BitVec.ofNat 64 (stId d.loader.bytes) }).loaderIdle

/-- Beside it the engines that it alone holds are loaded, and the signature's key slot and the end of the load shown. -/
def Dev.loadReady (d : Dev) : Dev :=
  (((d.readyGen.engLoadAll (1 - d.activeG)).setFld Reg.STR_KEY_STATE F.STR_KEY_STATE_OVL_SLOT
    (byteAt d.loader.bytes (stTotal d.loader.bytes - 252))).loadStatus 3 0).raise 0 0

theorem Dev.loadReady_ready (d : Dev) : d.LoadReady d.loadReady := by
  unfold Dev.loadReady
  obtain ⟨x, hx⟩ : ∃ x, (d.readyGen.engLoadAll (1 - d.activeG)).setFld Reg.STR_KEY_STATE F.STR_KEY_STATE_OVL_SLOT
    (byteAt d.loader.bytes (stTotal d.loader.bytes - 252)) = x := ⟨_, rfl⟩
  have heng := d.readyGen.engLoadAll_enginesOnly (1 - d.activeG)
  have hmsg := (x.loadStatus 3 0).raise_messageOnly 0 0
  have hfld : ∀ f, ((x.loadStatus 3 0).raise 0 0).fld Reg.STR_LOAD_STATUS f = (x.loadStatus 3 0).fld Reg.STR_LOAD_STATUS f :=
    fun f => Dev.raise_str_fld _ _ _ (by decide)
  obtain ⟨hst, herr⟩ := x.loadStatus_fld (st := 3) (err := 0) (by decide) (by decide)
  rw [hx]
  exact
    { gens := hmsg.gens.trans (hx ▸ heng.gens)
      pkts := hmsg.pkts.trans (hx ▸ heng.pkts)
      tables := hmsg.tables.trans (hx ▸ heng.tables)
      src := congrArg Loader.src (hmsg.loader.trans (hx ▸ heng.loader : x.loader = d.readyGen.loader))
      shows := ⟨(hfld _).trans hst, (hfld _).trans herr⟩
      event := Dev.raise_str_bit _ (by decide) }

theorem Dev.loadDone_good (d : Dev) (hs : d.loader.src.inRun = true) (hr : d.receiving = false) (hv : d.verifyErrs true (1 - d.activeG) = []) :
    d.loadDone = d.loadReady := by
  have hgo : ((d.loader.src == .host || d.loader.src == .flash) && !d.receiving) = true := by rw [hr, Bool.not_false, Bool.and_true]; exact hs
  unfold Dev.loadDone
  rw [if_pos hgo]
  dsimp only
  rw [hv]
  rfl

theorem Dev.loadDone_bad (d : Dev) {e : LoadErr} (hs : d.loader.src.inRun = true) (hr : d.receiving = false)
    (hv : d.verifyErrs true (1 - d.activeG) = [e]) :
    d.loadDone = (d.ownCode d.loader.bytes e).2.loadFail (d.ownCode d.loader.bytes e).1 := by
  have hgo : ((d.loader.src == .host || d.loader.src == .flash) && !d.receiving) = true := by rw [hr, Bool.not_false, Bool.and_true]; exact hs
  unfold Dev.loadDone
  rw [if_pos hgo]
  dsimp only
  rw [hv]
  rfl

end Sys2Proof.Machine
end

section
/-! PROOFS. Key fuses (R77, R99). -/

namespace Sys2Proof.Machine

/-! ### FUSE_PROGRAM and FUSE_REVOKE (R77) -/

theorem exec_fuse (v : Word) {c : Instr} {op : Nat} (s : State) (hc : c = .fuseProgram v ∧ op = 1 ∨ c = .fuseRevoke v ∧ op = 2)
    (hr : s.dev.running = true) (ho : s.dev.accessOpen Reg.STR_FUSE_CMD = true) : exec c s = .next (s.withDev (s.dev.fuseStart op v)) := by
  rcases hc with ⟨rfl, rfl⟩ | ⟨rfl, rfl⟩ <;>
    exact congrArg (Host.Outcome.next <| s.withDev ·) (s.dev.access_running _ _ hr ho)

/-- A write of STR_FUSE_CMD stores SLOT and OP. -/
def Dev.fuseStored (d : Dev) (op : Nat) (v : Word) : Dev :=
  (d.setFld Reg.STR_FUSE_CMD F.STR_FUSE_CMD_SLOT (F.STR_FUSE_CMD_SLOT.of v)).setFld Reg.STR_FUSE_CMD F.STR_FUSE_CMD_OP op

theorem Dev.fuseStored_stored (d : Dev) {op : Nat} (v : Word) (hop : op < 4) :
    d.regsKept (d.fuseStored op v) [Reg.STR_FUSE_CMD] ∧
    (d.fuseStored op v).fld Reg.STR_FUSE_CMD F.STR_FUSE_CMD_SLOT = F.STR_FUSE_CMD_SLOT.of v ∧
    (d.fuseStored op v).fld Reg.STR_FUSE_CMD F.STR_FUSE_CMD_OP = op := by
  unfold Dev.fuseStored
  refine ⟨(d.setFld_regsKept _ _ (by simp)).trans (Dev.setFld_regsKept _ _ _ (by simp)), ?_, ?_⟩
  · rw [Dev.fld_setFld_other _ _ (.inr (by decide)), Dev.fld_setFld_same _ _ _ (by decide)]
    exact Nat.mod_eq_of_lt (Fld.of_lt F.STR_FUSE_CMD_SLOT v)
  · rw [Dev.fld_setFld_same _ _ _ (by decide)]
    exact Nat.mod_eq_of_lt hop

theorem Dev.fuseStored_go (d : Dev) (op : Nat) (v : Word) :
    (d.fuseStored op v).fld Reg.STR_FUSE_CMD F.STR_FUSE_CMD_GO = d.fld Reg.STR_FUSE_CMD F.STR_FUSE_CMD_GO := by
  unfold Dev.fuseStored
  rw [Dev.fld_setFld_other _ _ (.inr (by decide)), Dev.fld_setFld_other _ _ (.inr (by decide))]

/-- With an operation in progress, without GO or without UNLOCK nothing starts. -/
theorem Dev.fuseStart_stays (d : Dev) {op : Nat} {v : Word} (hop : F.STR_FUSE_CMD_OP.of v = op)
    (h : d.loader.fuse.isSome = true ∨ F.STR_FUSE_CMD_GO.of v = 0 ∨ F.STR_FUSE_CMD_UNLOCK.of v ≠ 0xA5C3) : d.fuseStart op v = d.fuseStored op v :=
  (if_neg fun hn => hn hop).trans (if_pos (by simpa [or_assoc] using h))

/-- An operation starts; whether its supply is present is a free value (R580). -/
theorem Dev.fuseStart_starts (d : Dev) {op : Nat} {v : Word} (hop : F.STR_FUSE_CMD_OP.of v = op) (hf : d.loader.fuse = none)
    (hg : F.STR_FUSE_CMD_GO.of v = 1) (hu : F.STR_FUSE_CMD_UNLOCK.of v = 0xA5C3) : ∃ n supply, d.fuseStart op v =
      ({ d.fuseStored op v with
        freeCtr := n
        loader := { d.loader with fuse := some (BitVec.ofNat 2 op, BitVec.ofNat 3 (F.STR_FUSE_CMD_SLOT.of v)), fuseSupply := supply } } : Dev).setFld
        Reg.STR_FUSE_CMD F.STR_FUSE_CMD_GO 1 :=
  ⟨_, _, (if_neg fun hn => hn hop).trans (if_neg (by simp [hf, hg, hu]))⟩

/-! ### FUSE_OP_DONE (R99) -/

theorem exec_fuseOpDone (ok : Bool) (s : State) (hr : s.dev.running = true) : exec (.fuseOpDone ok) s = .next (s.withDev (s.dev.fuseDone ok)) :=
  congrArg (Host.Outcome.next <| s.withDev ·) (if_pos hr)

/-- The keys of slots are those of the loader. -/
theorem Dev.keySlot_of_slots {d e : Dev} (h : e.loader.slots = d.loader.slots) (k : Nat) : e.keySlot k = d.keySlot k := by
  unfold Dev.keySlot
  rw [h]

theorem Dev.keySlot_setSlot_same (d : Dev) {k : Nat} (x : BitVec 2 × List Byte) (hk : k < 4) (hl : d.loader.slots.length = 4) :
    (d.setSlot k x).keySlot k = x := by
  show (if k = 4 then _ else ((d.loader.slots.set k x)[k]?).getD _) = x
  simp [hk.ne, hl, hk]

theorem Dev.keySlot_setSlot_other (d : Dev) {j k : Nat} (x : BitVec 2 × List Byte) (h : j ≠ k) : (d.setSlot k x).keySlot j = d.keySlot j := by
  show (if j = 4 then _ else ((d.loader.slots.set k x)[j]?).getD _) = _
  rw [List.getElem?_set_ne h.symm]
  rfl

/-- The operation of `d` has ended in `e` with RESULT `r`. -/
structure Dev.FuseEnded (d e : Dev) (r : Nat) : Prop where
  fuse : e.loader.fuse = none
  result : e.fld Reg.STR_FUSE_CMD F.STR_FUSE_CMD_RESULT = r
  go : e.bit Reg.STR_FUSE_CMD F.STR_FUSE_CMD_GO = false
  slots : e.loader.slots = d.loader.slots

theorem Dev.fuseResult_ended (d : Dev) {r : Nat} (hr : r < 16) : d.FuseEnded (d.fuseResult r) r where
  fuse := rfl
  result := by
    unfold Dev.fuseResult
    rw [Dev.fld_setFld_other _ _ (.inr (by decide)), Dev.fld_setFld_same _ _ _ (by decide)]
    exact Nat.mod_eq_of_lt hr
  go := by
    unfold Dev.fuseResult
    rw [Dev.bit_of_fld (Dev.fld_setFld_same _ _ _ (by decide))]
    rfl
  slots := rfl

/-- The slot of an operation in progress, and its state. -/
structure Dev.FuseOp (d : Dev) (op : BitVec 2) (k : Nat) (st : BitVec 2) : Prop where
  slot : ∃ slot, d.loader.fuse = some (op, slot) ∧ slot.toNat = k
  state : (d.keySlot k).1 = st

section
variable {d : Dev} {op st : BitVec 2} {k : Nat} (h : d.FuseOp op k st) (ok : Bool)
include h

theorem Dev.FuseOp.done_eq : d.fuseDone ok =
    if k ≥ 4 then d.fuseResult 1
    else if op = 1 ∧ st ≠ 0 then d.fuseResult 2
    else if op = 2 ∧ st ≠ 1 ∧ st ≠ 3 then d.fuseResult 3
    else if !d.loader.fuseSupply then d.fuseResult 4
    else if op = 1 then
      if ok then (d.setSlot k (1, d.fuseDigest)).fuseResult 0 else (d.setSlot k (3, (d.keySlot k).2)).fuseResult 5
    else if ok then (d.setSlot k (2, (d.keySlot k).2)).fuseResult 0
    else d.fuseResult 5 := by
  obtain ⟨⟨slot, hf, rfl⟩, rfl⟩ := h
  unfold Dev.fuseDone
  rw [hf]

theorem Dev.FuseOp.done_noSlot (hk : 4 ≤ k) : d.fuseDone ok = d.fuseResult 1 := by rw [h.done_eq, if_pos hk]

theorem Dev.FuseOp.done_notEmpty (hk : k < 4) (hop : op = 1) (hst : st ≠ 0) : d.fuseDone ok = d.fuseResult 2 := by
  rw [h.done_eq, if_neg (by omega), if_pos ⟨hop, hst⟩]

theorem Dev.FuseOp.done_notValid (hk : k < 4) (hop : op = 2) (h1 : st ≠ 1) (h3 : st ≠ 3) : d.fuseDone ok = d.fuseResult 3 := by
  rw [h.done_eq, if_neg (by omega), if_neg (by simp [hop]), if_pos ⟨hop, h1, h3⟩]

theorem Dev.FuseOp.done_noSupply (hk : k < 4) (hfit : op = 1 ∧ st = 0 ∨ op = 2 ∧ (st = 1 ∨ st = 3)) (hs : d.loader.fuseSupply = false) :
    d.fuseDone ok = d.fuseResult 4 := by
  rw [h.done_eq, if_neg (by omega), if_neg (by rcases hfit with ⟨-, rfl⟩ | ⟨rfl, -⟩ <;> simp),
    if_neg (by rcases hfit with ⟨rfl, -⟩ | ⟨-, rfl | rfl⟩ <;> simp), if_pos (by simp [hs])]

theorem Dev.FuseOp.done_program (hk : k < 4) (hop : op = 1) (hst : st = 0) (hs : d.loader.fuseSupply = true) : d.fuseDone ok =
    (d.setSlot k (if ok then (1, d.fuseDigest) else (3, (d.keySlot k).2))).fuseResult (if ok then 0 else 5) := by
  rw [h.done_eq, if_neg (by omega), if_neg (by simp [hst]), if_neg (by simp [hop]), if_neg (by simp [hs]), if_pos hop]
  cases ok <;> rfl

theorem Dev.FuseOp.done_revoke (hk : k < 4) (hop : op = 2) (hst : st = 1 ∨ st = 3) (hs : d.loader.fuseSupply = true) : d.fuseDone ok =
    if ok then (d.setSlot k (2, (d.keySlot k).2)).fuseResult 0 else d.fuseResult 5 := by
  rw [h.done_eq, if_neg (by omega), if_neg (by simp [hop]), if_neg (by rcases hst with rfl | rfl <;> simp), if_neg (by simp [hs]),
    if_neg (by simp [hop])]

end

end Sys2Proof.Machine
end

section
/-! PROOFS. The statement of loads and keys (R69, R77, R81 to R86, R99). -/

namespace Sys2Proof.Machine

/-- Settles O37: the loader's commands, each with what it leaves of the idle generation, and the fuse operations, each with its RESULT. -/
theorem streamAndKeys : Obligations.StreamAndKeys := by
  unfold Obligations.StreamAndKeys
  refine ⟨?_, ?_⟩
  · intro v s hr hgens o g src bytes kept shows failed
    have hg : g < s.dev.gens.length := by omega
    have ho : o ≠ g := s.dev.activeG_ne_idle
    have hrun : ∀ {x : LoadSrc}, x = .host ∨ x = .flash → x.inRun = true := fun h => (LoadSrc.inRun_iff _).mpr h
    have hkept : ∀ {d : Dev} {x : Gen}, d.gens = s.dev.gens.set g x → d.pkts = s.dev.pkts → kept (s.withDev d) := fun hd hp =>
      ⟨Dev.gen_of_set_other hd ho, hp, rfl⟩
    have hfailed : ∀ {c : Instr} {d : Dev} {err : Nat}, exec c s = .next (s.withDev d) → s.dev.LoadFailed d err → failed c err := fun hc hd =>
      ⟨_, hc, hkept hd.gens hd.pkts, Dev.gen_of_set_same hd.gens hg, hd.src, hd.shows, hd.event⟩
    refine ⟨fun hopen => ⟨fun hstart hsrc => ⟨fun hbusy => ?_, fun hidle hst hflip => ?_, fun hidle hbusy => ?_⟩, fun hs => ?_, fun hh hf => ?_⟩,
      fun hopen => ⟨fun hs hrecv => ?_, fun hs => ?_⟩, fun hs hrecv => ?_, ?_, fun hs hrecv => ⟨fun hv => ?_, fun e hv he => ?_⟩⟩
    · rw [exec_strLoadStart v s hr hopen, s.dev.loadStart_busy v hbusy]
      rfl
    · have hb := s.dev.loadStart_begun hstart hsrc hidle hst hflip
      exact ⟨_, exec_strLoadStart v s hr hopen, hkept hb.gens hb.pkts, Dev.gen_of_set_same hb.gens hg, hb.bytes,
        hb.src.trans (by simp only [decide_eq_true_eq]), hb.state⟩
    · have hmsg := (s.dev.startSrc v).loadError_messageOnly ⟨0x0C, 0x1FF, 0, 0⟩
      obtain ⟨hst, herr, hevent⟩ := (s.dev.startSrc v).loadError_shows (e := ⟨0x0C, 0x1FF, 0, 0⟩) (by decide)
      have hexec := exec_strLoadStart v s hr hopen
      rw [s.dev.loadStart_refused hstart hsrc hidle hbusy] at hexec
      exact ⟨_, hexec, ⟨Dev.gen_of_gens hmsg.gens _, hmsg.pkts, rfl⟩, hmsg.gens, hmsg.loader, ⟨hst, herr⟩, hevent⟩
    · refine hfailed (exec_strLoadAbort s hr hopen) ?_
      rw [s.dev.loadAbort_run (hrun hs)]
      exact s.dev.loadFail_failed (hrun hs) (by decide)
    · have hnone : s.dev.loader.src.inRun = false := Bool.eq_false_iff.mpr fun h => ((LoadSrc.inRun_iff _).mp h).elim hh hf
      rw [exec_strLoadAbort s hr hopen, s.dev.loadAbort_none hnone]
      rfl
    · rw [exec_strLoadData v s hr hopen, Dev.loadData_takes _ _ hs hrecv]
    · rw [exec_strLoadData v s hr hopen, Dev.loadData_stray _ _ hs]
    · obtain ⟨hnone, hsome⟩ := s.dev.flashRead_takes hs hrecv
      refine ⟨hfailed (exec_strFlashRead none s) ?_, fun bs => ?_⟩
      · rw [hnone]
        exact s.dev.loadFail_failed (e := ⟨0x0E, _, _, _⟩) (hrun (.inr hs)) (show 0x0E < 256 by decide)
      · rw [exec_strFlashRead, hsome]
    · intro bs hs h64 hlen b hok d
      obtain ⟨hfed, hstate⟩ := s.dev.loadFeed_fed rfl (hrun hs) (h64.trans (List.sublist_append_left _ _).length_le) hlen hok
      exact ⟨hfed.bytes, Dev.gen_of_set_same hfed.gens hg, hkept hfed.gens hfed.pkts, hfed.tables, hfed.kept, hstate⟩
    · have hready := s.dev.loadReady_ready
      have hexec := exec_loadDone s hr
      rw [s.dev.loadDone_good (hrun hs) hrecv hv] at hexec
      exact ⟨_, hexec, hkept hready.gens hready.pkts, hready.src, hready.shows, hready.event,
        hready.tables, Dev.gen_of_set_same hready.gens hg⟩
    · refine hfailed (exec_loadDone s hr) ?_
      rw [s.dev.loadDone_bad (hrun hs) hrecv hv]
      exact s.dev.ownCode_loadFail_failed _ (hrun hs) he
  · intro v ok s hr
    refine ⟨?_, ?_⟩
    · intro c op hc hopen hop stored
      have hexec := exec_fuse v s hc hr hopen
      have hop4 : op < 4 := by rcases hc with ⟨-, rfl⟩ | ⟨-, rfl⟩ <;> decide
      obtain ⟨hkept, hslot, hstored⟩ := s.dev.fuseStored_stored v hop4
      refine ⟨fun hf hgo hunlock => ?_, fun hstays => ?_⟩
      · obtain ⟨n, supply, hstart⟩ := s.dev.fuseStart_starts hop hf hgo hunlock
        rw [hstart] at hexec
        exact ⟨_, hexec, ⟨hkept.trans (Dev.setFld_regsKept { s.dev.fuseStored op v with freeCtr := n, loader := _ } _ _ (List.mem_singleton_self _)),
          (Dev.fld_setFld_other _ _ (.inr (by decide))).trans hslot, (Dev.fld_setFld_other _ _ (.inr (by decide))).trans hstored⟩,
          Dev.bit_of_fld (Dev.fld_setFld_same _ _ _ (by decide)), rfl⟩
      · rw [s.dev.fuseStart_stays hop hstays] at hexec
        exact ⟨_, hexec, ⟨hkept, hslot, hstored⟩, rfl, s.dev.fuseStored_go op v⟩
    · intro op slot hf hl k st old ends
      have hop : s.dev.FuseOp op k st := ⟨⟨slot, hf, rfl⟩, rfl⟩
      have hends : ∀ {d : Dev} {r : Nat} {x : BitVec 2 × List Byte}, s.dev.fuseDone ok = d.fuseResult r → r < 16 → d.keySlot k = x →
          (∀ j, j ≠ k → d.keySlot j = s.dev.keySlot j) → ends r x := by
        intro d r x hd h16 hk hj
        have he := d.fuseResult_ended h16
        rw [← hd] at he
        exact ⟨_, exec_fuseOpDone ok s hr, he.fuse, he.result, he.go, (Dev.keySlot_of_slots he.slots k).trans hk,
          fun j h => (Dev.keySlot_of_slots he.slots j).trans (hj j h)⟩
      have hstays : ∀ {r : Nat}, s.dev.fuseDone ok = s.dev.fuseResult r → r < 16 → ends r (st, old) := fun hd h16 =>
        hends hd h16 rfl fun _ _ => rfl
      have hset : ∀ {r : Nat} {x : BitVec 2 × List Byte}, k < 4 → s.dev.fuseDone ok = (s.dev.setSlot k x).fuseResult r → r < 16 → ends r x :=
        fun hk hd h16 => hends hd h16 (s.dev.keySlot_setSlot_same _ hk hl) fun j hj => s.dev.keySlot_setSlot_other _ hj
      have h16 : (if ok then 0 else 5) < 16 := by split <;> decide
      refine ⟨fun hk => hstays (hop.done_noSlot ok hk) (by decide), fun hk => ⟨fun h1 hst => hstays (hop.done_notEmpty ok hk h1 hst) (by decide),
        fun h2 hn1 hn3 => hstays (hop.done_notValid ok hk h2 hn1 hn3) (by decide), fun hfit hs => hstays (hop.done_noSupply ok hk hfit hs) (by decide),
        fun hs => ⟨fun h1 hst => hset hk (hop.done_program ok hk h1 hst hs) h16, fun h2 hst => ?_⟩⟩⟩
      have hrev := hop.done_revoke ok hk h2 hst hs
      cases ok with
      | true => exact hset hk hrev (by decide)
      | false => exact hstays hrev (by decide)

end Sys2Proof.Machine
end

section
/-! PROOFS. Flips between generations (R87, R88), and the end of a drain (R86). -/

namespace Sys2Proof.Machine

/-! ### STR_FLIP (R87) -/

theorem exec_strFlip (s : State) (hr : s.dev.running = true) (ho : s.dev.accessOpen Reg.STR_FLIP = true) :
    exec .strFlip s = .next (s.withDev s.dev.flipWrite) :=
  congrArg (Host.Outcome.next <| s.withDev ·) (s.dev.access_running _ _ hr ho)

theorem Dev.flipCode_notReady (d : Dev) (h : (d.gen (1 - d.activeG)).st ≠ .ready) : d.flipCode = 1 :=
  if_pos (bne_iff_ne.mpr h)

theorem Dev.flipCode_lt (d : Dev) : d.flipCode < 16 := by
  unfold Dev.flipCode
  repeat' split
  all_goals decide

/-- The answer to a write of STR_FLIP. -/
def Dev.flipAnswered (d : Dev) : Dev := d.setFld Reg.STR_FLIP_STATUS F.STR_FLIP_STATUS_CODE d.flipCode

theorem Dev.flipAnswered_code (d : Dev) : d.flipAnswered.fld Reg.STR_FLIP_STATUS F.STR_FLIP_STATUS_CODE = d.flipCode :=
  (Dev.fld_setFld_same _ _ _ (by decide)).trans (Nat.mod_eq_of_lt d.flipCode_lt)

theorem Dev.flipWrite_refused (d : Dev) (hb : d.bit Reg.STR_FLIP F.STR_FLIP_FLIP = false) (hc : d.flipCode ≠ 0) :
    d.flipWrite = d.flipAnswered.raise 0 3 :=
  (if_neg (ne_true_of_eq_false hb)).trans (if_pos hc)

/-- An accepted flip is counted, and STR_FLIP reads 1. -/
def Dev.flipCounted (d : Dev) : Dev :=
  (d.flipAnswered.setFld Reg.STR_FLIP_STATUS F.STR_FLIP_STATUS_FLIPS
    ((d.flipAnswered.fld Reg.STR_FLIP_STATUS F.STR_FLIP_STATUS_FLIPS + 1) % 4294967296)).setFld Reg.STR_FLIP F.STR_FLIP_FLIP 1

theorem Dev.flipCounted_status (d : Dev) : d.flipCounted.fld Reg.STR_FLIP_STATUS F.STR_FLIP_STATUS_CODE = d.flipCode ∧
    d.flipCounted.fld Reg.STR_FLIP_STATUS F.STR_FLIP_STATUS_FLIPS = (d.fld Reg.STR_FLIP_STATUS F.STR_FLIP_STATUS_FLIPS + 1) % 2 ^ 32 := by
  have hflips : d.flipAnswered.fld Reg.STR_FLIP_STATUS F.STR_FLIP_STATUS_FLIPS = d.fld Reg.STR_FLIP_STATUS F.STR_FLIP_STATUS_FLIPS :=
    Dev.fld_setFld_other _ _ (.inr (by decide))
  unfold Dev.flipCounted
  constructor
  · rw [Dev.fld_setFld_other _ _ (.inl (by decide)), Dev.fld_setFld_other _ _ (.inr (by decide)), d.flipAnswered_code]
  · rw [Dev.fld_setFld_other _ _ (.inl (by decide)), Dev.fld_setFld_same _ _ _ (by decide), hflips]
    exact Nat.mod_mod _ _

theorem Dev.flipCounted_regsKept (d : Dev) : d.regsKept d.flipCounted [Reg.STR_FLIP, Reg.STR_FLIP_STATUS] :=
  (d.setFld_regsKept _ _ (by simp)).trans ((Dev.setFld_regsKept _ _ _ (by simp)).trans (Dev.setFld_regsKept _ _ _ (by simp)))

/-- Without class D sections an accepted flip changes nothing else. -/
theorem Dev.flipWrite_accepted (d : Dev) (hb : d.bit Reg.STR_FLIP F.STR_FLIP_FLIP = false) (hc : d.flipCode = 0) (hs : d.flipSecs = []) :
    d.flipWrite = { d.flipCounted with flipping := true, flipped := [] } := by
  have hactive : d.flipCounted.activeG = d.activeG := Dev.activeG_of_reg (d.flipCounted_regsKept _ (by decide))
  have hsecs : d.flipCounted.flipSecs = [] := by
    unfold Dev.flipSecs Dev.idleG
    rw [hactive]
    exact hs
  have hwrite : d.flipWrite = { d.flipCounted.applyD d.flipCounted.flipSecs with flipping := true, flipped := [] } :=
    (if_neg (ne_true_of_eq_false hb)).trans (if_neg fun hn => hn hc)
  rw [hwrite, hsecs]
  rfl

/-! ### FLIP_DONE (R88) -/

theorem exec_flipDone (s : State) (hr : s.dev.running = true) : exec .flipDone s = .next (s.withDev s.dev.flipDone) :=
  congrArg (Host.Outcome.next <| s.withDev ·) (if_pos hr)

/-- The residents of a list of engines stop, or start. -/
theorem Dev.foldl_stopResidents_enginesOnly (d : Dev) (l : List Nat) : d.EnginesOnly (l.foldl (fun (x : Dev) e => x.stopResidents e) d) :=
  List.foldlRecOn _ _ (.refl d) fun x hx e _ => hx.trans (x.stopResidents_enginesOnly e)

theorem Dev.foldl_startResidents_enginesOnly (d : Dev) (l : List Nat) : d.EnginesOnly (l.foldl (fun (x : Dev) e => x.startResidents e) d) :=
  List.foldlRecOn _ _ (.refl d) fun x hx e _ => hx.trans (x.startResidents_enginesOnly e)

/-- The two generations change state. -/
def Dev.gensFlipped (d : Dev) : Dev :=
  (d.setGen d.activeG { d.gen d.activeG with st := .draining }).setGen (1 - d.activeG)
    { d.gen (1 - d.activeG) with st := .active, flipSecs := [] }

/-- STR_GEN and STR_FLIP show the end of a flip to generation `n`, and the drain timer starts. -/
def Dev.flipShown (d : Dev) (n : Nat) : Dev :=
  { (d.setFld Reg.STR_GEN F.STR_GEN_ACTIVE n).setFld Reg.STR_FLIP F.STR_FLIP_FLIP 0 with
    flipping := false, flipped := [], drainFrom := some d.free, drainSlow := false }

/-- Beside that a flip's end touches engines only: residents stop before, and start after the generations change. -/
theorem Dev.flipEnd_eq (d : Dev) : ∃ x y, d.EnginesOnly x ∧ x.gensFlipped.EnginesOnly y ∧ d.flipEnd = y.flipShown (1 - d.activeG) := by
  obtain ⟨x, hx⟩ : ∃ x, ((d.engNumbers d.activeG).filter fun e => !(d.engNumbers d.idleG).contains e).foldl
    (fun (x : Dev) e => x.stopResidents e) d = x := ⟨_, rfl⟩
  have honly : d.EnginesOnly x := hx ▸ d.foldl_stopResidents_enginesOnly _
  refine ⟨x, _, honly, x.gensFlipped.foldl_startResidents_enginesOnly
    ((d.engNumbers d.idleG).filter fun e => !(d.engNumbers d.activeG).contains e), ?_⟩
  unfold Dev.flipEnd
  dsimp only
  rw [hx]
  unfold Dev.gensFlipped
  rw [Dev.activeG_of_regs honly.regs]
  rfl

/-- The flip of `d` has ended in `e`. -/
structure Dev.Flipped (d e : Dev) : Prop where
  gens : e.gens = (d.gens.set d.activeG { d.gen d.activeG with st := .draining }).set (1 - d.activeG)
    { d.gen (1 - d.activeG) with st := .active, flipSecs := [] }
  active : e.activeG = 1 - d.activeG
  flipping : e.flipping = false
  flip : e.bit Reg.STR_FLIP F.STR_FLIP_FLIP = false
  drainFrom : e.drainFrom = some d.free
  pkts : e.pkts = d.pkts
  tables : e.tables = d.tables

theorem Dev.Flipped.gen {d e : Dev} (h : d.Flipped e) (hl : d.gens.length = 2) :
    e.gen d.activeG = { d.gen d.activeG with st := .draining } ∧
    e.gen (1 - d.activeG) = { d.gen (1 - d.activeG) with st := .active, flipSecs := [] } := by
  have hlt := d.activeG_lt
  unfold Dev.gen
  rw [h.gens, List.getElem?_set_ne d.activeG_ne_idle.symm, List.getElem?_set_self (by omega), List.getElem?_set_self (by rw [List.length_set]; omega)]
  exact ⟨rfl, rfl⟩

theorem Dev.gensFlipped_gens {d x : Dev} (h : d.EnginesOnly x) : x.gensFlipped.gens =
    (d.gens.set d.activeG { d.gen d.activeG with st := .draining }).set (1 - d.activeG)
      { d.gen (1 - d.activeG) with st := .active, flipSecs := [] } := by
  unfold Dev.gensFlipped Dev.setGen
  simp only [Dev.activeG_of_regs h.regs, Dev.gen_of_gens h.gens, h.gens]

theorem Dev.flipEnd_flipped (d : Dev) : d.Flipped d.flipEnd := by
  obtain ⟨x, y, hx, hy, hend⟩ := d.flipEnd_eq
  rw [hend]
  exact
    { gens := hy.gens.trans (Dev.gensFlipped_gens hx)
      active := by
        show (y.flipShown _).fld Reg.STR_GEN F.STR_GEN_ACTIVE = _
        refine (Dev.fld_setFld_other _ _ (.inl (by decide))).trans ((Dev.fld_setFld_same _ _ _ (by decide)).trans (Nat.mod_eq_of_lt ?_))
        show 1 - d.activeG < 2
        omega
      flipping := rfl
      flip := Dev.bit_of_fld (Dev.fld_setFld_same _ _ _ (by decide))
      drainFrom := by
        show some y.free = some d.free
        unfold Dev.free
        rw [hy.tim, Dev.gensFlipped, Dev.setGen_tim, Dev.setGen_tim, hx.tim]
      pkts := hy.pkts.trans hx.pkts
      tables := hy.tables.trans hx.tables }

/-- A flip that ends raises FLIP_DONE. -/
theorem Dev.flipDone_flipped (d : Dev) (h : d.flipping = true) : d.Flipped d.flipDone ∧ (d.flipDone.reg Reg.STR_EVENT).getLsbD 2 = true := by
  have hdone : d.flipDone = d.flipEnd.raise 0 2 := if_pos h
  have hf := d.flipEnd_flipped
  have hmsg := d.flipEnd.raise_messageOnly 0 2
  rw [hdone]
  refine ⟨?_, Dev.raise_str_bit _ (by decide)⟩
  exact
    { gens := hmsg.gens.trans hf.gens
      active := (Dev.raise_str_fld _ _ _ (by decide)).trans hf.active
      flipping := hmsg.flipping.trans hf.flipping
      flip := (Dev.bit_of_fld (Dev.raise_str_fld _ _ _ (by decide))).trans hf.flip
      drainFrom := hmsg.drainFrom.trans hf.drainFrom
      pkts := hmsg.pkts.trans hf.pkts
      tables := hmsg.tables.trans hf.tables }

theorem Dev.flipDone_none (d : Dev) (h : d.flipping = false) : d.flipDone = d := if_neg (ne_true_of_eq_false h)

/-! ### DRAIN_DONE (R86) -/

theorem exec_drainDone (s : State) (hr : s.dev.running = true) : exec .drainDone s = .next (s.withDev s.dev.drainDone) :=
  congrArg (Host.Outcome.next <| s.withDev ·) (if_pos hr)

/-- Packets in flight and generations stay. -/
structure Dev.FlightKept (d e : Dev) : Prop where
  pkts : e.pkts = d.pkts
  gens : e.gens = d.gens

theorem Dev.FlightKept.refl (d : Dev) : d.FlightKept d := ⟨rfl, rfl⟩

theorem Dev.FlightKept.trans {d e f : Dev} (h : d.FlightKept e) (k : e.FlightKept f) : d.FlightKept f :=
  ⟨k.pkts.trans h.pkts, k.gens.trans h.gens⟩

theorem Dev.tileUncorr_flightKept (d : Dev) (t : Nat) (b : List Byte) (p i : Nat) : d.FlightKept (d.tileUncorr t b p i) :=
  ⟨by simp [Dev.tileUncorr], by simp [Dev.tileUncorr]⟩

theorem Dev.poisonSeen_flightKept (d : Dev) (t : Nat) (b : List Byte) (pl w : Nat) : d.FlightKept (d.poisonSeen t b pl w) := by
  unfold Dev.poisonSeen
  dsimp only
  split
  · exact ⟨rfl, rfl⟩
  · exact FlightKept.trans (e := (d.fresh 2).2) ⟨rfl, rfl⟩ (Dev.tileUncorr_flightKept _ t b pl w)

/-- A read that finds a poisoned place. -/
theorem Dev.badRead_flightKept (d : Dev) (t : Nat) (b : List Byte) (pl : Nat) : d.FlightKept (d.badRead t b pl .none) :=
  d.poisonSeen_flightKept t b pl _

/-- An update of a COUNTER entry whose read is good touches tables, and a poisoned place's report. -/
theorem Dev.counterAdd_flightKept (d : Dev) (t : Nat) (b : List Byte) (pl bytes pj : Nat) : d.FlightKept (d.counterAdd t b pl bytes pj .none) := by
  unfold Dev.counterAdd
  dsimp only
  split
  · exact FlightKept.trans (e := d.setTbl t _) ⟨rfl, rfl⟩ (Dev.badRead_flightKept _ t b pl)
  · exact ⟨rfl, rfl⟩

theorem Dev.settleCnts_flightKept (d : Dev) (g : Nat) : d.FlightKept (d.settleCnts g) := by
  unfold Dev.settleCnts
  refine FlightKept.trans (List.foldlRecOn _ _ (.refl d) fun x hx o _ => hx.trans ?_) ⟨rfl, rfl⟩
  split
  · split
    · exact x.counterAdd_flightKept ..
    · exact .refl x
  · exact .refl x

/-- A drained generation is EMPTY, with DRAIN_DONE. -/
structure Dev.Drained (d e : Dev) (g : Nat) : Prop where
  gens : e.gens = d.gens.set g Gen.none
  pkts : e.pkts = d.pkts
  event : (e.reg Reg.STR_EVENT).getLsbD 5 = true

theorem Dev.drainEnd_drained (d : Dev) (g : Nat) : d.Drained (d.drainEnd g) g := by
  have hkept := d.settleCnts_flightKept g
  have hmsg := ((d.settleCnts g).genEmpty g).raise_messageOnly 0 5
  have hdone : d.Drained (((d.settleCnts g).genEmpty g).raise 0 5) g :=
    { gens := by rw [hmsg.gens, Dev.genEmpty_gens, hkept.gens]
      pkts := by rw [hmsg.pkts, Dev.genEmpty_pkts, hkept.pkts]
      event := Dev.raise_str_bit _ (by decide) }
  unfold Dev.drainEnd
  dsimp only
  split
  · obtain ⟨e, he⟩ : ∃ e, ((d.settleCnts g).genEmpty g).raise 0 5 = e := ⟨_, rfl⟩
    rw [he] at hdone ⊢
    have hforced := (e.setFld Reg.STR_FORCE F.STR_FORCE_FORCE 0).raise_messageOnly 0 6
    have hbit : ((e.setFld Reg.STR_FORCE F.STR_FORCE_FORCE 0).reg Reg.STR_EVENT).getLsbD 5 = true := by
      rw [Dev.reg_setFld_other _ _ _ _ _ (by decide)]
      exact hdone.event
    exact ⟨hforced.gens.trans hdone.gens, hforced.pkts.trans hdone.pkts, Dev.raise_str_bit_kept _ _ hbit⟩
  · exact hdone

section
variable {d : Dev} {g : Nat} (h : d.drainG = some g)
include h

theorem Dev.drainDone_ends (hf : d.flightOf g = 0) : d.drainDone = d.drainEnd g := by
  unfold Dev.drainDone
  rw [h]
  exact if_pos hf

/-- While packets of the generation are in flight it goes on draining. -/
theorem Dev.drainDone_waits (hf : d.flightOf g ≠ 0) : d.drainDone = d := by
  unfold Dev.drainDone
  rw [h]
  exact if_neg hf

theorem Dev.drainG_lt : g < 2 := List.mem_range.mp (List.mem_of_find?_eq_some h)

theorem Dev.drainCount_eq : d.drainCount = d.flightOf g := by
  unfold Dev.drainCount
  rw [h]

end

/-! ### DRAIN_SLOW (R86) -/

theorem exec_drainSlow (s : State) (hr : s.dev.running = true) : exec .drainSlow s = .next (s.withDev s.dev.drainLate) :=
  congrArg (Host.Outcome.next <| s.withDev ·) (if_pos hr)

theorem Dev.drainLate_raises (d : Dev) (hc : d.drainCount ≠ 0) (hl : d.fld Reg.STR_DRAIN_LIMIT F.STR_DRAIN_LIMIT_LIMIT ≠ 0)
    (hs : d.drainSlow = false) (ht : d.fld Reg.STR_DRAIN_LIMIT F.STR_DRAIN_LIMIT_LIMIT ≤ d.drainUs) :
    d.drainLate = ({ d with drainSlow := true } : Dev).raise 0 4 :=
  if_neg (by simp [hc, hl, hs, ht])

theorem Dev.drainLate_quiet (d : Dev) (h : d.fld Reg.STR_DRAIN_LIMIT F.STR_DRAIN_LIMIT_LIMIT = 0 ∨ d.drainSlow = true ∨
    d.drainUs < d.fld Reg.STR_DRAIN_LIMIT F.STR_DRAIN_LIMIT_LIMIT) : d.drainLate = d :=
  if_pos (by rcases h with h | h | h <;> simp [h])

end Sys2Proof.Machine
end

section
/-! PROOFS. STR_FORCE (R94), and the statement of flips and drains (R86 to R95). -/

namespace Sys2Proof.Machine

/-! ### Packets that are discarded wherever they stand (R94) -/

theorem Dev.dropRef_flightKept (d : Dev) (id : Nat) : d.FlightKept (d.dropRef id) := by
  rw [d.dropRef_eq id]
  exact ⟨rfl, rfl⟩

theorem Dev.freeRec_flightKept (d : Dev) (why : Nat) (r : Rec) : d.FlightKept (d.freeRec why r) :=
  FlightKept.trans (e := d.noteDiscard r.pid why) ⟨rfl, rfl⟩ (Dev.dropRef_flightKept _ _)

theorem Dev.foldl_freeRec_flightKept (d : Dev) (why : Nat) (l : List Rec) : d.FlightKept (l.foldl (Dev.freeRec · why ·) d) :=
  List.foldlRecOn _ _ (.refl d) fun x hx r _ => hx.trans (x.freeRec_flightKept why r)

theorem Dev.setThread_flightKept (d : Dev) (e t : Nat) (th : Thread) : d.FlightKept (d.setThread e t th) := by
  unfold Dev.setThread
  cases Map.find d.engines e <;> exact ⟨rfl, rfl⟩

theorem Dev.leaveEngine_flightKept (d : Dev) (c : Nat) (x : Stage) : d.FlightKept (d.leaveEngine c x) := by
  unfold Dev.leaveEngine
  split
  · split <;> exact ⟨rfl, rfl⟩
  · split
    · exact d.setThread_flightKept _ _ _
    · exact .refl d
  · exact .refl d

theorem Dev.leaveRepl_flightKept (d : Dev) (c : Nat) : d.FlightKept (d.leaveRepl c) := by
  unfold Dev.leaveRepl
  cases d.repls.find? fun r => r.ctx = c with
  | none => exact .refl d
  | some r =>
    refine FlightKept.trans ?_ (Dev.dropRef_flightKept _ _)
    exact FlightKept.trans (e := { d with repls := d.repls.filter fun x => x.ctx != c }) ⟨rfl, rfl⟩ (Dev.foldl_freeRec_flightKept _ 0 _)

theorem Dev.unassign_flightKept (d : Dev) (r i : Nat) : d.FlightKept (d.unassign r i) := by
  unfold Dev.unassign
  cases d.entry r i <;> exact ⟨rfl, rfl⟩

/-- The packet of context `c` is gone; no other packet and no generation changes. -/
structure Dev.PktGone (d e : Dev) (c : Nat) : Prop where
  pkts : e.pkts = Map.del d.pkts c
  gens : e.gens = d.gens

theorem Dev.FlightKept.gone {d e : Dev} (h : d.FlightKept e) (c : Nat) (p : Pkt) :
    d.PktGone (if p.notAdmitted then e.discard c p else e.losePkt c p 0) c := by
  split
  · exact ⟨congrArg (Map.del · c) h.pkts, h.gens⟩
  · have hkept := h.trans (FlightKept.trans (e := e.noteDiscard p.pid 0) ⟨rfl, rfl⟩ (Dev.dropRef_flightKept _ p.data))
    exact ⟨congrArg (Map.del · c) hkept.pkts, hkept.gens⟩

theorem Dev.scrap_gone (d : Dev) (c : Nat) (p : Pkt) : d.PktGone (d.scrap c p) c := by
  have hleave : d.FlightKept ((d.leaveEngine c p.stage).leaveRepl c) := (d.leaveEngine_flightKept c p.stage).trans (Dev.leaveRepl_flightKept _ c)
  unfold Dev.scrap
  refine FlightKept.gone ?_ c p
  split
  · exact hleave.trans (Dev.unassign_flightKept _ _ _)
  · exact hleave

/-- Of the packets listed none is left, and no other packet changes. -/
theorem Dev.foldl_scrap_left (l : List (Nat × Pkt)) (x : Dev × Nat) {c : Nat} {q : Pkt}
    (h : (l.foldl (fun (x : Dev × Nat) (e : Nat × Pkt) => (x.1.scrap e.1 e.2, x.2 + x.1.pktCount e.1)) x).1.pkt c = some q) :
    x.1.pkt c = some q ∧ ∀ e ∈ l, e.1 ≠ c := by
  induction l generalizing x with
  | nil => exact ⟨h, by simp⟩
  | cons e l ih =>
    obtain ⟨hq, hl⟩ := ih _ h
    replace hq : Map.find (x.1.scrap e.1 e.2).pkts c = some q := hq
    rw [(x.1.scrap_gone e.1 e.2).pkts] at hq
    by_cases hc : c = e.1
    · rw [hc, Map.find_del_same] at hq
      exact absurd hq (by simp)
    · rw [Map.find_del_other _ _ _ hc] at hq
      exact ⟨hq, List.forall_mem_cons.mpr ⟨Ne.symm hc, hl⟩⟩

theorem Map.mem_of_find {α : Type} {m : List (Nat × α)} {k : Nat} {v : α} (h : Map.find m k = some v) : (k, v) ∈ m := by
  induction m with
  | nil => simp [Map.find] at h
  | cons e r ih =>
    obtain ⟨j, w⟩ := e
    simp only [Map.find] at h
    split at h
    next hj =>
      obtain rfl := Option.some.inj h
      simp [hj]
    next => exact List.mem_cons_of_mem _ (ih h)

/-- After a discard of all packets for which `f` holds, those left are packets for which it does not. -/
theorem Dev.scrapAll_left (d : Dev) (f : Pkt → Bool) {c : Nat} {q : Pkt} (h : (d.scrapAll f).1.pkt c = some q) :
    d.pkt c = some q ∧ f q = false := by
  obtain ⟨hq, hl⟩ := Dev.foldl_scrap_left _ _ h
  refine ⟨hq, Bool.eq_false_iff.mpr fun hf => ?_⟩
  exact hl (c, q) (List.mem_filter.mpr ⟨Map.mem_of_find hq, hf⟩) rfl

theorem Dev.scrapAll_gens (d : Dev) (f : Pkt → Bool) : (d.scrapAll f).1.gens = d.gens :=
  List.foldlRecOn (motive := fun x : Dev × Nat => x.1.gens = d.gens) _ _ rfl fun x hx e _ => (x.1.scrap_gone e.1 e.2).gens.trans hx

/-! ### Records that are removed (R94, R315, R361) -/

/-- Of each list of a map the records for which `f` does not hold; lists without any are not kept. -/
def keepRecs (f : Rec → Bool) (m : List (Nat × List Rec)) : List (Nat × List Rec) :=
  (m.map fun e => (e.1, e.2.filter fun r => !f r)).filter fun e => !e.2.isEmpty

theorem mem_keepRecs {f : Rec → Bool} {m : List (Nat × List Rec)} {r : Rec} :
    r ∈ (keepRecs f m).flatMap (·.2) ↔ r ∈ m.flatMap (·.2) ∧ f r = false := by
  simp only [keepRecs, List.mem_flatMap, List.mem_filter, List.mem_map]
  constructor
  · rintro ⟨-, ⟨⟨e, he, rfl⟩, -⟩, hr⟩
    obtain ⟨hmem, hf⟩ := List.mem_filter.mp hr
    exact ⟨⟨e, he, hmem⟩, by simpa using hf⟩
  · rintro ⟨⟨e, he, hr⟩, hf⟩
    have hmem : r ∈ e.2.filter fun r => !f r := List.mem_filter.mpr ⟨hr, by simp [hf]⟩
    refine ⟨(e.1, e.2.filter fun r => !f r), ⟨⟨e, he, rfl⟩, ?_⟩, hmem⟩
    simpa using List.ne_nil_of_mem hmem

/-- The head of a queue carries a mark; its words are those of the record. -/
theorem words_of_mem_headMark {now : Nat} {l : List Rec} {r : Rec} (h : r ∈ headMark now l) : ∃ x ∈ l, r.words = x.words := by
  cases l with
  | nil => simp [headMark] at h
  | cons x l =>
    rcases List.mem_cons.mp h with rfl | h
    · refine ⟨x, List.mem_cons_self, ?_⟩
      split <;> rfl
    · exact ⟨r, List.mem_cons_of_mem _ h, rfl⟩

/-- The device without the records for which `f` holds, their data not yet freed. -/
def Dev.cutRecs (d : Dev) (f : Rec → Bool) : Dev :=
  { d with
    queues := (keepRecs f d.queues).map fun e => (e.1, headMark d.free e.2), intakes := keepRecs f d.intakes, residue := keepRecs f d.residue }

theorem Dev.removeRecs_eq (d : Dev) (why : Nat) (f : Rec → Bool) :
    (d.removeRecs why f).1 = ((d.recs.filter f).foldl (Dev.freeRec · why ·) (d.cutRecs f)).drrClean := rfl

theorem Dev.freeRec_recs (d : Dev) (why : Nat) (r : Rec) : (d.freeRec why r).recs = d.recs := by
  unfold Dev.freeRec
  rw [Dev.dropRef_eq]
  rfl

theorem Dev.removeRecs_recs (d : Dev) (why : Nat) (f : Rec → Bool) : (d.removeRecs why f).1.recs = (d.cutRecs f).recs := by
  rw [d.removeRecs_eq]
  exact List.foldlRecOn (motive := fun x : Dev => x.drrClean.recs = (d.cutRecs f).recs) _ _ rfl fun x hx r _ => (x.freeRec_recs why r).trans hx

theorem Dev.removeRecs_flightKept (d : Dev) (why : Nat) (f : Rec → Bool) : d.FlightKept (d.removeRecs why f).1 := by
  rw [d.removeRecs_eq]
  refine FlightKept.trans (e := d.cutRecs f) ⟨rfl, rfl⟩ ?_
  exact (Dev.foldl_freeRec_flightKept _ why _).trans ⟨rfl, rfl⟩

/-- A record that is left has the words of one for which `f` does not hold. -/
theorem Dev.removeRecs_left (d : Dev) (why : Nat) (f : Rec → Bool) {r : Rec} (h : r ∈ (d.removeRecs why f).1.recs) :
    ∃ x, f x = false ∧ r.words = x.words := by
  rw [d.removeRecs_recs] at h
  unfold Dev.recs Dev.cutRecs at h
  simp only [List.mem_append] at h
  rcases h with (h | h) | h
  · obtain ⟨e, he, hr⟩ := List.mem_flatMap.mp h
    obtain ⟨y, hy, rfl⟩ := List.mem_map.mp he
    obtain ⟨x, hx, hwords⟩ := words_of_mem_headMark hr
    exact ⟨x, (mem_keepRecs.mp (List.mem_flatMap.mpr ⟨y, hy, hx⟩)).2, hwords⟩
  · exact ⟨r, (mem_keepRecs.mp h).2, rfl⟩
  · exact ⟨r, (mem_keepRecs.mp h).2, rfl⟩

/-! ### STR_FORCE (R94) -/

theorem exec_strForce (s : State) (hr : s.dev.running = true) (ho : s.dev.accessOpen Reg.STR_FORCE = true) :
    exec .strForce s = .next (s.withDev s.dev.forceDrain) :=
  congrArg (Host.Outcome.next <| s.withDev ·) (s.dev.access_running _ _ hr ho)

/-- The drain of generation `g` of `d` has been forced in `e`. -/
structure Dev.Forced (d e : Dev) (g : Nat) : Prop where
  force : e.bit Reg.STR_FORCE F.STR_FORCE_FORCE = true
  gens : e.gens = d.gens
  recs : ∀ r ∈ e.recs, ctxGet r.words C.G ≠ g
  pkts : ∀ c q, e.pkt c = some q → q.get C.G = g → ∃ p, d.pkt c = some p ∧ d.dmaBegun p = true

section
variable {d : Dev} {g : Nat} (h : d.drainG = some g)
include h

theorem Dev.forceDrain_again (hf : d.bit Reg.STR_FORCE F.STR_FORCE_FORCE = true) : d.forceDrain = d := by
  unfold Dev.forceDrain
  rw [h]
  exact if_pos (by simp [hf])

theorem Dev.forceDrain_forced (hl : d.flightOf g ≠ 0) (hf : d.bit Reg.STR_FORCE F.STR_FORCE_FORCE = false) : d.Forced d.forceDrain g := by
  obtain ⟨x, hx⟩ : ∃ x, (d.scrapAll fun p => p.get C.G = g && !d.dmaBegun p).1 = x := ⟨_, rfl⟩
  obtain ⟨y, hy⟩ : ∃ y, (x.removeRecs 0 fun r => ctxGet r.words C.G = g).1 = y := ⟨_, rfl⟩
  have hforce : ∃ n, d.forceDrain =
      (y.setFld Reg.STR_FORCE_DISCARDS F.STR_FORCE_DISCARDS_COUNT n).setFld Reg.STR_FORCE F.STR_FORCE_FORCE 1 := by
    unfold Dev.forceDrain
    rw [h, ← hy, ← hx]
    exact ⟨_, if_neg (by simp [hl, hf])⟩
  obtain ⟨n, hn⟩ := hforce
  have hkept : x.FlightKept y := hy ▸ x.removeRecs_flightKept 0 _
  rw [hn]
  refine ⟨Dev.bit_of_fld (Dev.fld_setFld_same _ _ _ (by decide)), ?_, fun r hr => ?_, fun c q hq hg => ?_⟩
  · exact hkept.gens.trans (hx ▸ d.scrapAll_gens _)
  · replace hr : r ∈ y.recs := hr
    rw [← hy] at hr
    obtain ⟨r0, hr0, hwords⟩ := x.removeRecs_left 0 _ hr
    rw [hwords]
    exact of_decide_eq_false hr0
  · replace hq : y.pkt c = some q := hq
    rw [Dev.pkt, hkept.pkts, ← Dev.pkt, ← hx] at hq
    obtain ⟨hp, hleft⟩ := d.scrapAll_left _ hq
    exact ⟨q, hp, by simpa [hg] using hleft⟩

end

/-! ### The statement -/

/-- Settles O38: an answered flip, its end, the end of a drain, a slow drain and a forced one. -/
theorem generationFlips : Obligations.GenerationFlips := by
  unfold Obligations.GenerationFlips
  intro s hr hgens o n
  refine ⟨fun hopen hbit => ⟨s.dev.flipCode_notReady, fun hc => ?_, fun hc hs => ?_⟩, fun hf => ?_, fun hf => ?_,
    fun g hg => ⟨fun hl => ?_, fun hl => ?_⟩⟩
  · have hexec := exec_strFlip s hr hopen
    rw [s.dev.flipWrite_refused hbit hc] at hexec
    have hmsg := s.dev.flipAnswered.raise_messageOnly 0 3
    exact ⟨_, hexec, (Dev.raise_str_fld _ _ _ (by decide)).trans s.dev.flipAnswered_code, hmsg.gens, hmsg.flipping, Dev.raise_str_bit _ (by decide)⟩
  · have hexec := exec_strFlip s hr hopen
    rw [s.dev.flipWrite_accepted hbit hc hs] at hexec
    obtain ⟨hcode, hflips⟩ := s.dev.flipCounted_status
    exact ⟨_, hexec, hcode.trans hc, hflips, Dev.bit_of_fld (Dev.fld_setFld_same _ _ _ (by decide)), s.dev.flipCounted_regsKept, rfl⟩
  · obtain ⟨hd, hevent⟩ := s.dev.flipDone_flipped hf
    obtain ⟨hold, hnew⟩ := hd.gen hgens
    exact ⟨_, exec_flipDone s hr, hd.active, hd.flipping, hd.flip, hold, hnew, hd.drainFrom, hevent, hd.pkts, hd.tables⟩
  · rw [exec_flipDone s hr, s.dev.flipDone_none hf]
    rfl
  · have hd := s.dev.drainEnd_drained g
    have hexec := exec_drainDone s hr
    rw [s.dev.drainDone_ends hg hl] at hexec
    exact ⟨_, hexec, Dev.gen_of_set_same hd.gens (hgens ▸ Dev.drainG_lt hg), fun k hk => Dev.gen_of_set_other hd.gens hk, hd.event, hd.pkts⟩
  · have hcount : s.dev.drainCount ≠ 0 := Dev.drainCount_eq hg ▸ hl
    refine ⟨?_, ⟨fun hlim hslow ht => ?_, fun hquiet => ?_⟩, fun hopen hbit => ?_, fun hopen hbit => ?_⟩
    · rw [exec_drainDone s hr, Dev.drainDone_waits hg hl]
      rfl
    · rw [exec_drainSlow s hr, s.dev.drainLate_raises hcount hlim hslow ht]
    · rw [exec_drainSlow s hr, s.dev.drainLate_quiet hquiet]
      rfl
    · rw [exec_strForce s hr hopen, Dev.forceDrain_again hg hbit]
      rfl
    · have hforced := Dev.forceDrain_forced hg hl hbit
      exact ⟨_, exec_strForce s hr hopen, hforced.force, hforced.gens, hforced.recs, hforced.pkts⟩

end Sys2Proof.Machine
end

section
/-! PROOFS. Bring-up (R79, R560 to R567, R574): stages and halts, the end of a boot load, and the statement of the stages. -/

namespace Sys2Proof.Machine

/-! ### Stages and halts (R557, R566, R574) -/

theorem Dev.enterStage_stage (d : Dev) {n : Nat} (h : n < 16) : (d.enterStage n).stage = n := by
  unfold Dev.enterStage Dev.stage
  rw [Dev.fld_setFld_other _ _ (.inr (by decide)), Dev.fld_setFld_same _ _ _ (by decide)]
  exact Nat.mod_eq_of_lt h

theorem Dev.enterStage_regsKept (d : Dev) (n : Nat) {as : List Nat} (h : Reg.SYS_STAGE ∈ as) : d.regsKept (d.enterStage n) as :=
  (d.setFld_regsKept _ _ h).trans (Dev.setFld_regsKept _ _ _ h)

theorem Dev.stage_setFld (d : Dev) {a : Nat} (f : Fld) (v : Nat) (h : Reg.SYS_STAGE ≠ a) : (d.setFld a f v).stage = d.stage :=
  Dev.fld_setFld_other _ _ (.inl h)

/-- The device of `d` has halted in `e` with a code and a detail. -/
structure Dev.Halted (d e : Dev) (code detail : Nat) : Prop where
  stage : e.stage = 14
  code : e.fld Reg.SYS_REASON F.SYS_REASON_CODE = code
  detail : e.fld Reg.SYS_REASON F.SYS_REASON_DETAIL = detail % 2 ^ 24
  found : e.fld Reg.SYS_REASON F.SYS_REASON_STAGE = d.stage
  pkts : e.pkts = d.pkts

theorem Dev.Halted.of_regs {d e f : Dev} {code detail : Nat} (h : d.Halted e code detail) (hr : f.regs = e.regs) (hp : f.pkts = e.pkts) :
    d.Halted f code detail where
  stage := (Dev.fld_of_regs hr _ _).trans h.stage
  code := (Dev.fld_of_regs hr _ _).trans h.code
  detail := (Dev.fld_of_regs hr _ _).trans h.detail
  found := (Dev.fld_of_regs hr _ _).trans h.found
  pkts := hp.trans h.pkts

theorem Dev.halt_halted (d : Dev) {code : Nat} (detail : Nat) (hs : d.stage ≠ 14) (hc : code < 256) : d.Halted (d.halt code detail) code detail := by
  obtain ⟨w, hw⟩ : ∃ w, F.SYS_REASON_STAGE.put (F.SYS_REASON_DETAIL.put (F.SYS_REASON_CODE.put 0 code) detail) d.stage = w := ⟨_, rfl⟩
  have hhalt : d.halt code detail = (d.setReg Reg.SYS_REASON w).enterStage 14 := hw ▸ if_neg hs
  have hfld : ∀ f : Fld, (d.halt code detail).fld Reg.SYS_REASON f = f.of w := fun f => by
    rw [hhalt]
    refine (Dev.fld_of_reg (Dev.enterStage_regsKept _ 14 (List.mem_singleton_self _) _ (by decide)) f).trans ?_
    rw [Dev.fld, Dev.reg_setReg_same]
  refine ⟨?_, ?_, ?_, ?_, ?_⟩
  · rw [hhalt]
    exact Dev.enterStage_stage _ (by decide)
  · rw [hfld, ← hw, Fld.of_put_apart _ _ (by decide), Fld.of_put_apart _ _ (by decide), Fld.of_put_same _ _ _ (by decide)]
    exact Nat.mod_eq_of_lt hc
  · rw [hfld, ← hw, Fld.of_put_apart _ _ (by decide), Fld.of_put_same _ _ _ (by decide)]
    rfl
  · rw [hfld, ← hw, Fld.of_put_same _ _ _ (by decide)]
    exact Nat.mod_eq_of_lt (Fld.of_lt F.SYS_STAGE_STAGE _)
  · rw [hhalt]
    rfl

/-- A halt ends a warm restart, which no register shows (R563). -/
theorem Dev.haltWarm_halted (d : Dev) {code : Nat} (detail : Nat) (hs : d.stage ≠ 14) (hc : code < 256) :
    d.Halted (d.haltWarm code detail) code detail := by
  unfold Dev.haltWarm
  exact (d.halt_halted detail hs hc).of_regs rfl rfl

theorem Dev.stageEnd_bad (d : Dev) {n : Nat} (code x : Nat) (f : Dev → Dev) (h : d.stage = n) : d.stageEnd n code (some x) f = d.halt code x :=
  if_neg fun hn => hn h

theorem Dev.stageEnd_good (d : Dev) {n : Nat} (code : Nat) (f : Dev → Dev) (h : d.stage = n) : d.stageEnd n code none f = f d :=
  if_neg fun hn => hn h

/-! ### FUSE, SELFTEST and RIMS (R560) -/

theorem exec_fuseStageDone (bad : Option Nat) (s : State) : exec (.fuseStageDone bad) s =
    .next (s.withDev (s.dev.stageEnd 1 0x01 bad fun d => d.showKeys.enterStage 2)) := rfl

theorem exec_selftestDone (bad : Option Nat) (s : State) : exec (.selftestDone bad) s =
    .next (s.withDev (s.dev.stageEnd 2 0x02 bad fun d => d.enterStage 3)) := rfl

theorem exec_rimsDone (bad : Option Nat) (s : State) : exec (.rimsDone bad) s = .next (s.withDev (s.dev.stageEnd 3 0x03 bad Dev.rimsDone)) := rfl

theorem Dev.showKeys_regsKept (d : Dev) : d.regsKept d.showKeys [Reg.STR_KEY_STATE] :=
  (d.setFld_regsKept _ _ (List.mem_singleton_self _)).trans (Dev.setFld_regsKept _ _ _ (List.mem_singleton_self _))

theorem Dev.showKeys_open (d : Dev) : d.showKeys.bit Reg.STR_KEY_STATE F.STR_KEY_STATE_OPEN = d.openMode := by
  unfold Dev.showKeys
  rw [Dev.bit_of_fld (Dev.fld_setFld_same _ _ _ (by decide))]
  cases d.openMode <;> rfl

/-- The time counter runs, and the loader waits for the full stream. -/
structure Dev.RimsUp (d e : Dev) : Prop where
  stage : e.stage = 4
  locked : e.tim.locked = true
  gens : e.gens = d.gens.set 0 ⟨.loading, 0, [], []⟩
  src : e.loader.src = if d.bootSrc = 0 then .bootFlash else .bootHost
  kept : d.regsKept e [Reg.SYS_LOAD_STATUS, Reg.SYS_STAGE]

theorem Dev.rimsDone_up (d : Dev) : d.RimsUp d.rimsDone where
  stage := Dev.enterStage_stage _ (by decide)
  locked := rfl
  gens := rfl
  src := rfl
  kept := (Dev.setFld_regsKept (Dev.setGen { d with tim := _, loader := _ } 0 _) _ _ (by simp)).trans (Dev.enterStage_regsKept _ 4 (by simp))

/-! ### SYS_LOAD_DATA (R567) -/

theorem exec_sysLoadData (v : Word) (f size : Nat) (s : State) : exec (.sysLoadData v f size) s = .next (s.withDev (s.dev.sysLoad v f size)) := rfl

section
variable (d : Dev) (v : Word) (h : d.stage = 4)
include h

theorem Dev.sysLoad_takes (hs : d.loader.src = .bootHost) (hr : d.receiving = true) : d.sysLoad v 0 8 = d.loadFeed (wordBytes v) :=
  (if_neg (by simp [h])).trans (if_pos (by simp [h, hs, hr]))

theorem Dev.sysLoad_stray {f size : Nat} (hn : d.loader.src ≠ .bootHost ∨ f ≠ 0 ∨ size ≠ 8 ∨ d.receiving = false) :
    d.sysLoad v f size = d.setFld Reg.SYS_LOAD_STATUS F.SYS_LOAD_STATUS_STRAY 1 :=
  (if_neg (by simp [h])).trans (if_neg (by rcases hn with hn | hn | hn | hn <;> simp [hn]))

end

/-! ### The end of a boot load (R79) -/

theorem exec_streamStageDone (s : State) : exec .streamStageDone s = .next (s.withDev s.dev.streamStageDone) := rfl

section
variable (d : Dev) (h : d.stage = 4) (hs : d.loader.src ≠ .none) (hr : d.receiving = false)
include h hs hr

theorem Dev.streamStageDone_good (hv : d.verifyErrs false 0 = []) : d.streamStageDone = d.streamLoaded := by
  unfold Dev.streamStageDone
  rw [if_neg (by simp [h, hs, hr]), hv]
  rfl

theorem Dev.streamStageDone_bad {e : LoadErr} (hv : d.verifyErrs false 0 = [e]) :
    d.streamStageDone = (d.ownCode d.loader.bytes e).2.loadFail (d.ownCode d.loader.bytes e).1 := by
  unfold Dev.streamStageDone
  rw [if_neg (by simp [h, hs, hr]), hv]
  rfl

end

/-- Training starts with registers of the DRAM controller and its channels. -/
structure Dev.DramOnly (d e : Dev) : Prop where
  only : e = { d with regs := e.regs, chans := e.chans }
  kept : ∀ a, a < 0x1000000 → e.reg a = d.reg a

theorem Dev.dramInit_dramOnly (d : Dev) : d.DramOnly d.dramInit := by
  unfold Dev.dramInit
  refine List.foldlRecOn _ _ ⟨rfl, fun _ _ => rfl⟩ fun x hx n _ => ?_
  dsimp only
  split
  · refine ⟨by rw [hx.only]; rfl, fun a ha => ?_⟩
    have hne : a ≠ Reg.DMC_CHAN_STATUS n := by
      simp only [Reg.DMC_CHAN_STATUS]
      omega
    exact ((Dev.reg_setFld_other _ _ _ _ _ hne).trans (Dev.reg_setFld_other _ _ _ _ _ hne)).trans (hx.kept a ha)
  · exact hx

/-- Generation 0 is ACTIVE with its STREAM_ID, which STR_BASE_ID shows too. -/
def Dev.streamGen (d : Dev) : Dev :=
  ((d.setGen 0 { d.gen 0 with st := .active, id := BitVec.ofNat 64 (stId d.loader.bytes) }).setReg Reg.STR_BASE_ID
    (BitVec.ofNat 64 (stId d.loader.bytes))).setFld Reg.STR_KEY_STATE F.STR_KEY_STATE_BOOT_SLOT
    (byteAt d.loader.bytes (stTotal d.loader.bytes - 252))

/-- Engines are loaded, class D sections act, and training starts. -/
def Dev.streamActs (d : Dev) : Dev := ((d.streamGen.loaderIdle.engLoadAll 0).applyD (d.streamGen.gen 0).flipSecs).dramInit

/-- The class D sections of generation 0 have acted: the stage ends. -/
def Dev.streamEnd (d : Dev) : Dev :=
  (((d.setGen 0 { d.gen 0 with flipSecs := [] }).setFld Reg.SYS_LOAD_STATUS F.SYS_LOAD_STATUS_STATE 3).setFld
    Reg.SYS_LOAD_STATUS F.SYS_LOAD_STATUS_ERR 0).enterStage 5

theorem Dev.streamEnd_gen (d : Dev) (h : 0 < d.gens.length) : d.streamEnd.gen 0 = { d.gen 0 with flipSecs := [] } := Dev.gen_of_set_same rfl h

theorem Dev.streamEnd_regsKept (d : Dev) : d.regsKept d.streamEnd [Reg.SYS_LOAD_STATUS, Reg.SYS_STAGE] :=
  (Dev.setFld_regsKept (d.setGen 0 { d.gen 0 with flipSecs := [] }) _ _ (by simp)).trans
    ((Dev.setFld_regsKept _ _ _ (by simp)).trans (Dev.enterStage_regsKept _ 5 (by simp)))

theorem Dev.streamLoaded_eq (d : Dev) : d.streamLoaded = d.streamActs.streamEnd := rfl

theorem Dev.streamLoaded_stage (d : Dev) : d.streamLoaded.stage = 5 := Dev.enterStage_stage _ (by decide)

theorem Dev.streamGen_gen (d : Dev) (h : 0 < d.gens.length) :
    d.streamGen.gen 0 = { d.gen 0 with st := .active, id := BitVec.ofNat 64 (stId d.loader.bytes) } := Dev.gen_of_set_same rfl h

theorem Dev.streamGen_base (d : Dev) : d.streamGen.reg Reg.STR_BASE_ID = BitVec.ofNat 64 (stId d.loader.bytes) := by
  unfold Dev.streamGen
  rw [Dev.reg_setFld_other _ _ _ _ _ (by decide), Dev.reg_setReg_same]

/-- Without class D sections the generations stay, and of the registers those below the DRAM controller's. -/
theorem Dev.streamActs_kept (d : Dev) (h : (d.streamGen.gen 0).flipSecs = []) :
    d.streamActs.gens = d.streamGen.gens ∧ ∀ a, a < 0x1000000 → d.streamActs.reg a = d.streamGen.reg a := by
  obtain ⟨x, hx⟩ : ∃ x, d.streamGen.loaderIdle.engLoadAll 0 = x := ⟨_, rfl⟩
  have hload : d.streamGen.loaderIdle.EnginesOnly x := hx ▸ d.streamGen.loaderIdle.engLoadAll_enginesOnly 0
  have hacts : d.streamActs = x.dramInit := by
    unfold Dev.streamActs
    rw [h, hx]
    rfl
  have hdram := x.dramInit_dramOnly
  rw [hacts]
  refine ⟨?_, fun a ha => (hdram.kept a ha).trans (Dev.regsKept_of_regs hload.regs [] a (by simp))⟩
  rw [hdram.only]
  exact hload.gens

/-- Without class D sections the full stream leaves generation 0 ACTIVE. -/
theorem Dev.streamLoaded_active (d : Dev) (hl : d.gens.length = 2) (hs : (d.gen 0).flipSecs = []) :
    (d.streamLoaded.gen 0).st = .active ∧ d.streamLoaded.reg Reg.STR_BASE_ID = BitVec.ofNat 64 (stId d.loader.bytes) := by
  have hgen := d.streamGen_gen (by omega)
  obtain ⟨hgens, hregs⟩ := d.streamActs_kept (by rw [hgen]; exact hs)
  have hlen : 0 < d.streamActs.gens.length := by
    rw [hgens, Dev.streamGen, Dev.setFld_gens, Dev.setReg_gens, Dev.setGen, List.length_set]
    omega
  rw [d.streamLoaded_eq]
  constructor
  · rw [Dev.streamEnd_gen _ hlen, Dev.gen_of_gens hgens, hgen]
  · rw [Dev.streamEnd_regsKept _ _ (by decide), hregs _ (by decide), d.streamGen_base]

/-! ### Copies that fail (R79, R566) -/

/-- The first copy in flash has failed: the loader turns to the other one. -/
structure Dev.OtherCopy (d e : Dev) : Prop where
  stage : e.stage = d.stage
  bytes : e.loader.bytes = []
  flashAt : e.loader.flashAt = 0x02000000
  gens : e.gens = d.gens.set 0 Gen.none

theorem Dev.loadFail_otherCopy (d : Dev) (e : LoadErr) (hs : d.loader.src = .bootFlash) (hc : d.loader.copyErr = []) : d.OtherCopy (d.loadFail e) := by
  unfold Dev.loadFail
  rw [hs, hc]
  dsimp only
  rw [if_pos (by rfl)]
  refine ⟨?_, rfl, rfl, rfl⟩
  rw [Dev.stage_setFld _ _ _ (by decide), Dev.stage_setFld _ _ _ (by decide), Dev.stage_setFld _ _ _ (by decide)]
  exact Dev.stage_setFld _ _ _ (by decide)

/-- With no copy left the device halts. -/
theorem Dev.loadFail_halts (d : Dev) (e : LoadErr) (hs : d.stage ≠ 14)
    (h : d.loader.src = .bootFlash ∧ (∃ c, d.loader.copyErr = [c]) ∨ d.loader.src = .bootHost) :
    (d.loadFail e).stage = 14 ∧ (d.loadFail e).fld Reg.SYS_REASON F.SYS_REASON_CODE = 4 := by
  have hhalt : ∃ (x : Dev) (detail : Nat), x.stage = d.stage ∧ d.loadFail e = x.halt 0x04 detail := by
    unfold Dev.loadFail
    rcases h with ⟨hf, c, hc⟩ | hh
    · rw [hf, hc]
      dsimp only
      rw [if_neg (by simp)]
      refine ⟨_, _, ?_, rfl⟩
      exact (Dev.stage_setFld _ _ _ (by decide)).trans (Dev.stage_setFld _ _ _ (by decide))
    · rw [hh]
      refine ⟨_, _, ?_, rfl⟩
      exact (Dev.stage_setFld _ _ _ (by decide)).trans (Dev.stage_setFld _ _ _ (by decide))
  obtain ⟨x, detail, hx, hhalt⟩ := hhalt
  have hd := x.halt_halted (code := 0x04) detail (hx ▸ hs) (by decide)
  rw [hhalt]
  exact ⟨hd.stage, hd.code⟩

/-! ### RETAIN and RELEASE (R541, R560) -/

theorem exec_retainDone (bad : Option Nat) (n : Nat) (s : State) : exec (.retainDone bad n) s = .next (s.withDev (s.dev.retainDone bad n)) := rfl

theorem Dev.retainDone_bad (d : Dev) (x n : Nat) (h : d.stage = 5) : d.Halted (d.retainDone (some x) n) 5 x := by
  have hstage : (d.count (Reg.FLT_COUNT 9) n).stage = d.stage := Dev.fld_of_reg (d.reg_count_other _ _ _ (by decide)) _
  have hdone : d.retainDone (some x) n = (d.count (Reg.FLT_COUNT 9) n).haltWarm 0x05 x := if_neg fun hn => hn h
  have hd := (d.count (Reg.FLT_COUNT 9) n).haltWarm_halted (code := 5) x (by rw [hstage, h]; decide) (by decide)
  rw [hdone]
  exact ⟨hd.stage, hd.code, hd.detail, hd.found.trans hstage, hd.pkts⟩

theorem Dev.retainDone_good (d : Dev) (n : Nat) (h : d.stage = 5) : d.retainDone none n = (d.count (Reg.FLT_COUNT 9) n).enterStage 6 :=
  if_neg fun hn => hn h

theorem exec_releaseDone (bad : Option Nat) (rails : List Nat) (s : State) :
    exec (.releaseDone bad rails) s = .next (s.withDev (s.dev.releaseDone bad rails)) := rfl

section
variable (d : Dev) (rails : List Nat) (hw : d.flt.warm = none)
include hw

theorem Dev.releaseDone_bad (x : Nat) (h : d.stage = 6) : d.releaseDone (some x) rails = d.halt 0x06 x :=
  (if_neg (by simp [hw])).trans (d.stageEnd_bad _ _ _ h)

/-- While a channel trains stage RELEASE goes on (R560). -/
theorem Dev.releaseDone_waits (ht : ∃ k, k < 4 ∧ d.chanState k = 1) : d.releaseDone none rails = d :=
  if_pos (by simpa [hw] using ht)

theorem Dev.releaseDone_good (h : d.stage = 6) (ht : ∀ k, k < 4 → d.chanState k ≠ 1) : d.releaseDone none rails = d.enterRun rails :=
  (if_neg (by simpa [hw] using ht)).trans (d.stageEnd_good _ _ h)

end

theorem Dev.enterRun_running (d : Dev) (rails : List Nat) : (d.enterRun rails).running = true :=
  decide_eq_true (Dev.enterStage_stage _ (by decide))

/-- Every bucket is full: none is listed (R350). -/
theorem Dev.enterRun_buckets (d : Dev) (rails : List Nat) : (d.enterRun rails).buckets = [] := by
  have hstart : ∀ (l : List Section) (x : Dev), x.EnginesOnly (l.foldl (fun (x : Dev) (y : Section) => x.startResidents y.inst) x) := fun l x =>
    List.foldlRecOn _ _ (.refl x) fun z hz y _ => hz.trans (z.startResidents_enginesOnly y.inst)
  unfold Dev.enterRun
  generalize d.pwrRelease rails = x
  exact (hstart _ { x with buckets := [], credit := _, creditAt := _ }).buckets

/-! ### The statement -/

/-- Settles O40: how each stage ends, and how it fails. -/
theorem bringUpStages : Obligations.BringUpStages := by
  unfold Obligations.BringUpStages
  intro x n rails v s stage halts
  have hhalts : ∀ {c : Instr} {d : Dev} {code : Nat}, exec c s = .next (s.withDev d) → s.dev.Halted d code x → halts c code := fun hc hd =>
    ⟨_, hc, hd.stage, hd.code, hd.detail, hd.found, hd.pkts⟩
  have hbad : ∀ {c : Instr} {k code : Nat} {f : Dev → Dev}, stage = k → k ≠ 14 → code < 256 →
      exec c s = .next (s.withDev (s.dev.stageEnd k code (some x) f)) → halts c code := fun hk h14 hcode hc => by
    rw [s.dev.stageEnd_bad _ _ _ hk] at hc
    exact hhalts hc (s.dev.halt_halted x (fun h => h14 (hk.symm.trans h)) hcode)
  have hfails : stage = 4 → s.dev.loader.src ≠ .none → s.dev.receiving = false → ∀ {e : LoadErr}, s.dev.verifyErrs false 0 = [e] →
      s.dev.loader.src = .bootFlash ∧ (∃ c, s.dev.loader.copyErr = [c]) ∨ s.dev.loader.src = .bootHost →
      ∃ t, exec .streamStageDone s = .next t ∧ t.dev.stage = 14 ∧ t.dev.fld Reg.SYS_REASON F.SYS_REASON_CODE = 4 := fun h hs hr e hv hlast => by
    have hexec := exec_streamStageDone s
    obtain ⟨k, m, hown⟩ := s.dev.ownCode_cases s.dev.loader.bytes e
    rw [s.dev.streamStageDone_bad h hs hr hv, hown] at hexec
    exact ⟨_, hexec, Dev.loadFail_halts { s.dev with freeCtr := m } { e with block := k } (fun h14 => absurd (h.symm.trans h14) (by decide)) hlast⟩
  refine ⟨fun h => ⟨?_, ?_⟩, fun h => ⟨?_, ?_⟩, fun h hl => ⟨?_, ?_⟩, fun h hl => ⟨?_, fun f b hn => ?_, fun hs hr => ⟨fun hv => ?_,
    fun e hv hf hc => ?_, fun e c hv hf hc => ?_, fun e hv hh => ?_⟩⟩, fun h => ⟨?_, ?_⟩, fun h hw => ⟨?_, fun ht => ?_, fun ht => ?_⟩⟩
  · exact hbad h (by decide) (by decide) (exec_fuseStageDone (some x) s)
  · have hexec := exec_fuseStageDone none s
    rw [s.dev.stageEnd_good _ _ h] at hexec
    refine ⟨_, hexec, Dev.enterStage_stage _ (by decide), (s.dev.showKeys_regsKept.mono (by simp)).trans (Dev.enterStage_regsKept _ 2 (by simp)), ?_⟩
    exact (Dev.bit_of_fld (Dev.fld_of_reg (Dev.enterStage_regsKept _ 2 (List.mem_singleton_self _) _ (by decide)) _)).trans s.dev.showKeys_open
  · exact hbad h (by decide) (by decide) (exec_selftestDone (some x) s)
  · have hexec := exec_selftestDone none s
    rw [s.dev.stageEnd_good _ _ h] at hexec
    exact ⟨_, hexec, Dev.enterStage_stage _ (by decide), s.dev.enterStage_regsKept 3 (by simp), rfl⟩
  · exact hbad h (by decide) (by decide) (exec_rimsDone (some x) s)
  · have hexec := exec_rimsDone none s
    rw [s.dev.stageEnd_good _ _ h] at hexec
    have hup := s.dev.rimsDone_up
    exact ⟨_, hexec, hup.stage, hup.locked, Dev.gen_of_set_same hup.gens (by omega), hup.src, hup.kept⟩
  · rintro b hs hr rfl
    rw [exec_sysLoadData, s.dev.sysLoad_takes v h hs hr]
  · rw [exec_sysLoadData, s.dev.sysLoad_stray v h hn]
  · rw [exec_streamStageDone, s.dev.streamStageDone_good h hs hr hv]
    exact ⟨rfl, s.dev.streamLoaded_stage, s.dev.streamLoaded_active hl⟩
  · have hexec := exec_streamStageDone s
    obtain ⟨k, m, hown⟩ := s.dev.ownCode_cases s.dev.loader.bytes e
    rw [s.dev.streamStageDone_bad h hs hr hv, hown] at hexec
    have hother := Dev.loadFail_otherCopy { s.dev with freeCtr := m } { e with block := k } hf hc
    exact ⟨_, hexec, hother.stage.trans h, hother.bytes, hother.flashAt, Dev.gen_of_set_same hother.gens (by show 0 < s.dev.gens.length; omega)⟩
  · exact hfails h hs hr hv (.inl ⟨hf, c, hc⟩)
  · exact hfails h hs hr hv (.inr hh)
  · exact hhalts (exec_retainDone (some x) n s) (s.dev.retainDone_bad x n h)
  · have hexec := exec_retainDone none n s
    rw [s.dev.retainDone_good n h] at hexec
    refine ⟨_, hexec, Dev.enterStage_stage _ (by decide), (s.dev.count_regsKept n (by simp)).trans (Dev.enterStage_regsKept _ 6 (by simp)), ?_, rfl⟩
    exact (Dev.enterStage_regsKept _ 6 (List.mem_singleton_self _) _ (by decide)).trans (s.dev.reg_count _ _)
  · have hexec := exec_releaseDone (some x) rails s
    rw [s.dev.releaseDone_bad rails hw x h] at hexec
    exact hhalts hexec (s.dev.halt_halted x (fun h14 => absurd (h.symm.trans h14) (by decide)) (by decide))
  · rw [exec_releaseDone, s.dev.releaseDone_waits rails hw ht]
    rfl
  · rw [exec_releaseDone, s.dev.releaseDone_good rails hw h ht]
    exact ⟨rfl, s.dev.enterRun_running rails, s.dev.enterRun_buckets rails⟩

end Sys2Proof.Machine
end

section
/-! PROOFS. The common mode of two ports' abilities (R115 to R118). -/

namespace Sys2Proof.Machine

/-! ### The resolution of a common mode (R115 to R117) -/

/-- BASE-R is negotiated: FEC_ALLOW allows it, the partner is able, and either side asks for it (R117). -/
def asksBaseR (m adv lp : Word) : Bool :=
  (fecAllow m).testBit 1 && F.PRT_AN_LP_FEC_ABLE.of lp = 1 && (F.PRT_AN_ADV_FEC_REQ.of adv = 1 || F.PRT_AN_LP_FEC_REQ.of lp = 1)

/-- The FEC of a row of `ranks`: BASE-R gives way to none where it is not negotiated. -/
def fecOfRank (baseR : Bool) (row : Nat × Nat × Nat × Nat) : Nat := if row.2.2.2 = 1 && !baseR then 0 else row.2.2.2

/-- A row of `ranks` may be run: both sides advertise it, the width is the port's, and FEC_ALLOW allows its FEC. -/
def rankRuns (m adv lp : Word) (row : Nat × Nat × Nat × Nat) : Bool :=
  (F.PRT_AN_ADV_ABIL.of adv &&& F.PRT_AN_LP_ABIL.of lp).testBit (row.1 - 1) && row.2.1 = 2 ^ (F.PRT_MODE_WIDTH.of m - 1) && F.PRT_MODE_WIDTH.of m ≠ 0 &&
    (fecAllow m).testBit (fecOfRank (asksBaseR m adv lp) row)

theorem resolve_eq (m adv lp : Word) : resolve m adv lp =
    ranks.findSome? fun row => if rankRuns m adv lp row then some (row.1, row.2.2.1, fecOfRank (asksBaseR m adv lp) row) else none := rfl

theorem resolve_eq_none_iff (m adv lp : Word) : resolve m adv lp = none ↔ ∀ row ∈ ranks, rankRuns m adv lp row = false := by
  simp [resolve_eq, List.findSome?_eq_none_iff]

theorem ranks_rise : ranks.Pairwise fun x y => x.1 < y.1 := by decide

theorem exists_rank {r : Nat} (h1 : 1 ≤ r) (h2 : r ≤ 10) : ∃ row ∈ ranks, row.1 = r := by
  have hall : ∀ i < 10, ∃ row ∈ ranks, row.1 = i + 1 := by decide
  obtain ⟨row, hm, hr⟩ := hall (r - 1) (by omega)
  exact ⟨row, hm, by omega⟩

/-- What is resolved is a row that may be run, and no lower one may. -/
theorem resolve_lowest {m adv lp : Word} {r k f : Nat} (h : resolve m adv lp = some (r, k, f)) :
    ∃ row ∈ ranks, rankRuns m adv lp row = true ∧ r = row.1 ∧ k = row.2.2.1 ∧ f = fecOfRank (asksBaseR m adv lp) row ∧
      ∀ x ∈ ranks, x.1 < row.1 → rankRuns m adv lp x = false := by
  rw [resolve_eq, List.findSome?_eq_some_iff] at h
  obtain ⟨before, row, after, hranks, hrow, hbefore⟩ := h
  obtain ⟨hruns, hval⟩ := (Option.ite_none_right_eq_some).mp hrow
  obtain ⟨rfl, rfl, rfl⟩ : row.1 = r ∧ row.2.2.1 = k ∧ fecOfRank (asksBaseR m adv lp) row = f := by simpa using hval
  refine ⟨row, by simp [hranks], hruns, rfl, rfl, rfl, fun x hx hlt => ?_⟩
  have hrise := ranks_rise
  rw [hranks, List.pairwise_append, List.pairwise_cons] at hrise
  obtain ⟨-, ⟨hafter, -⟩, -⟩ := hrise
  rw [hranks, List.mem_append, List.mem_cons] at hx
  rcases hx with hx | rfl | hx
  · simpa using hbefore x hx
  · omega
  · exact absurd (hafter x hx) (by omega)

/-- The ranks of each WIDTH, rank `r` at bit `r - 1` (R115). -/
def widthRanks (w : Nat) : Nat := match w with | 1 => 0b1111001000 | 2 => 0b0000010010 | 3 => 0b0000100101 | _ => 0

/-- The lanes of a row are the port's width exactly where the width has the row's rank. -/
theorem testBit_widthRanks {w : Nat} (hw : w < 8) {row : Nat × Nat × Nat × Nat} (h : row ∈ ranks) :
    (widthRanks w).testBit (row.1 - 1) = (row.2.1 = 2 ^ (w - 1) && w ≠ 0 : Bool) := by
  have hall : ∀ w < 8, ∀ row ∈ ranks, (widthRanks w).testBit (row.1 - 1) = (row.2.1 = 2 ^ (w - 1) && w ≠ 0 : Bool) := by decide
  exact hall w hw row h

/-- RS at ranks 1 to 7, BASE-R at 8 and 9 when negotiated (R115, R117). -/
theorem eq_fecOfRank_iff (b : Bool) {row : Nat × Nat × Nat × Nat} (h : row ∈ ranks) (f : Nat) :
    f = fecOfRank b row ↔ (row.1 ≤ 7 ∧ f = 2) ∨ ((row.1 = 8 ∨ row.1 = 9) ∧ b = true ∧ f = 1) ∨
      ((row.1 = 8 ∨ row.1 = 9) ∧ ¬ b = true ∧ f = 0) ∨ (row.1 = 10 ∧ f = 0) := by
  simp only [ranks, List.mem_cons, List.not_mem_nil, or_false] at h
  rcases h with rfl | rfl | rfl | rfl | rfl | rfl | rfl | rfl | rfl | rfl <;> cases b <;> simp [fecOfRank]

/-- Settles O58: the rows of `ranks` are those the statement names, and the first that may be run is resolved. -/
theorem resolutionOrder : Obligations.ResolutionOrder := by
  unfold Obligations.ResolutionOrder
  intro m adv lp widthMask common negotiated runs
  have hnegotiated : negotiated ↔ asksBaseR m adv lp = true := by simp [negotiated, asksBaseR, and_assoc]
  have hruns : ∀ row ∈ ranks, ∀ f, runs row.1 f ↔ rankRuns m adv lp row = true ∧ f = fecOfRank (asksBaseR m adv lp) row := fun row hrow f => by
    have hrange : ∀ row ∈ ranks, 1 ≤ row.1 ∧ row.1 ≤ 10 := by decide
    have hmask : widthMask.testBit (row.1 - 1) = _ := testBit_widthRanks (Fld.of_lt F.PRT_MODE_WIDTH m) hrow
    simp only [runs, common, Nat.testBit_and _ widthMask, hmask, hnegotiated, ← eq_fecOfRank_iff _ hrow, rankRuns, hrange row hrow, true_and,
      Bool.and_eq_true]
    constructor
    · rintro ⟨⟨ha, hw, h0⟩, hf, rfl⟩
      exact ⟨⟨⟨⟨ha, hw⟩, h0⟩, hf⟩, rfl⟩
    · rintro ⟨⟨⟨⟨ha, hw⟩, h0⟩, hf⟩, rfl⟩
      exact ⟨⟨ha, hw, h0⟩, hf, rfl⟩
  have hnone : ∀ r f, (∀ row ∈ ranks, row.1 = r → rankRuns m adv lp row = false) → ¬ runs r f := fun r f hno hr => by
    obtain ⟨row, hrow, rfl⟩ := exists_rank hr.1 hr.2.1
    exact Bool.false_ne_true ((hno row hrow rfl).symm.trans ((hruns row hrow f).mp hr).1)
  refine ⟨fun r k f h => ?_, fun h r f => hnone r f fun row hrow _ => (resolve_eq_none_iff m adv lp).mp h row hrow⟩
  obtain ⟨row, hrow, hr, rfl, rfl, hf, hlow⟩ := resolve_lowest h
  have hmode : ∀ row ∈ ranks, row.2.2.1 = [0xA, 8, 9, 5, 6, 7, 4, 3, 2, 1].getD (row.1 - 1) 0 := by decide
  exact ⟨(hruns row hrow f).mpr ⟨hr, hf⟩, hmode row hrow, fun q g hq => hnone q g fun x hx hxq => hlow x hx (hxq ▸ hq)⟩

end Sys2Proof.Machine
end

section
/-! PROOFS. What the statements about ports rest on: what an update leaves of the rims and registers of ports, and how a port's records are
flushed, its frames cut off and its lanes set (R101, R125 to R132). -/

namespace Sys2Proof.Machine

/-! ### What an update leaves of ports (R101, R111) -/

theorem Reg.PRT_COUNT_eq (n i : Nat) : Reg.PRT_COUNT n i = Reg.PRT_COUNT 0 i + 0x1000 * n := by
  unfold Reg.PRT_COUNT
  omega

/-- Of the ports only `n` may change: of its registers those in `as`, given as port 0 has them, and of its status the fields in `gs`. The time
stands. -/
structure Dev.PortOnly (d e : Dev) (n : Nat) (as : List Nat) (gs : List Fld) : Prop where
  port : ∀ k, k ≠ n → e.port k = d.port k
  tim : e.tim = d.tim
  regs : ∀ a k, k < 130 → a / 0x1000 = 0x100 → k ≠ n ∨ a ∉ as → e.reg (a + 0x1000 * k) = d.reg (a + 0x1000 * k)
  status : ∀ f : Fld, gs.all (f.apart ·) = true → e.fld (Reg.PRT_STATUS n) f = d.fld (Reg.PRT_STATUS n) f

namespace Dev.PortOnly

variable {d e f : Dev} {n : Nat} {as bs : List Nat} {gs hs : List Fld}

theorem trans (h : d.PortOnly e n as gs) (k : e.PortOnly f n as gs) : d.PortOnly f n as gs where
  port i hi := (k.port i hi).trans (h.port i hi)
  tim := k.tim.trans h.tim
  regs a i hi ha hm := (k.regs a i hi ha hm).trans (h.regs a i hi ha hm)
  status g hg := (k.status g hg).trans (h.status g hg)

theorem mono (h : d.PortOnly e n as gs) (ha : as ⊆ bs) (hg : gs ⊆ hs) : d.PortOnly e n bs hs where
  port := h.port
  tim := h.tim
  regs a i hi hw hm := h.regs a i hi hw (hm.imp_right fun hn hx => hn (ha hx))
  status g hall := h.status g (List.all_eq_true.mpr fun x hx => List.all_eq_true.mp hall x (hg hx))

/-- An update of registers outside those of the ports. -/
theorem of_outside (hp : e.ports = d.ports) (ht : e.tim = d.tim) (hr : ∀ a, 0x100000 ≤ a → a < 0x182000 → e.reg a = d.reg a) (hn : n < 130) :
    d.PortOnly e n as gs where
  port k _ := by
    unfold Dev.port
    rw [hp]
  tim := ht
  regs a k hk ha _ := hr _ (by omega) (by omega)
  status g _ := Dev.fld_of_reg (hr _ (by unfold Reg.PRT_STATUS; omega) (by unfold Reg.PRT_STATUS; omega)) g

/-- A register of the port that is not among those that may change. -/
theorem reg (h : d.PortOnly e n as gs) (hn : n < 130) {a : Nat} (ha : a / 0x1000 = 0x100 ∧ a ∉ as) : e.reg (a + 0x1000 * n) = d.reg (a + 0x1000 * n) :=
  h.regs a n hn ha.1 (.inr ha.2)

theorem reg_event (h : d.PortOnly e n as gs) (hn : n < 130) (ha : Reg.PRT_EVENT 0 ∉ as) : e.reg (Reg.PRT_EVENT n) = d.reg (Reg.PRT_EVENT n) :=
  h.reg hn (a := Reg.PRT_EVENT 0) ⟨by decide, ha⟩

theorem reg_count (h : d.PortOnly e n as gs) (hn : n < 130) {i : Nat} (hi : i < 256) (ha : Reg.PRT_COUNT 0 i ∉ as) :
    e.reg (Reg.PRT_COUNT n i) = d.reg (Reg.PRT_COUNT n i) := by
  rw [Reg.PRT_COUNT_eq]
  exact h.reg hn ⟨by unfold Reg.PRT_COUNT; omega, ha⟩

theorem plus_count (h : d.PortOnly e n as gs) (hn : n < 130) {i : Nat} (hi : i < 256) (ha : Reg.PRT_COUNT 0 i ∉ as) (k : Nat) :
    e.plus (Reg.PRT_COUNT n i) k = d.plus (Reg.PRT_COUNT n i) k := by
  unfold Dev.plus
  rw [h.reg_count hn hi ha]

theorem portState_other (h : d.PortOnly e n as gs) {k : Nat} (hk : k < 130) (hkn : k ≠ n) : e.portState k = d.portState k :=
  Dev.fld_of_reg (h.regs (Reg.PRT_STATUS 0) k hk (by decide) (.inl hkn)) _

theorem free (h : d.PortOnly e n as gs) : e.free = d.free := by
  unfold Dev.free
  rw [h.tim]

end Dev.PortOnly

theorem Dev.PortOnly.refl (d : Dev) (n : Nat) (as : List Nat) (gs : List Fld) : d.PortOnly d n as gs where
  port _ _ := rfl
  tim := rfl
  regs _ _ _ _ _ := rfl
  status _ _ := rfl

@[simp] theorem Dev.port_setPort_same (d : Dev) (n : Nat) (x : Port) : (d.setPort n x).port n = x := by
  simp [Dev.setPort, Dev.port, Map.getD]

theorem Dev.port_setPort_other (d : Dev) {n k : Nat} (x : Port) (h : k ≠ n) : (d.setPort n x).port k = d.port k := by
  simp [Dev.setPort, Dev.port, Map.getD, Map.find_put_other _ _ _ _ h]

theorem Dev.port_of_ports {d e : Dev} (h : e.ports = d.ports) (n : Nat) : e.port n = d.port n := by
  unfold Dev.port
  rw [h]

theorem Dev.setPort_portOnly (d : Dev) (n : Nat) (x : Port) (as : List Nat) (gs : List Fld) : d.PortOnly (d.setPort n x) n as gs where
  port _ hk := d.port_setPort_other x hk
  tim := rfl
  regs _ _ _ _ _ := rfl
  status _ _ := rfl

/-- A write of one of the port's registers but its status. -/
theorem Dev.setReg_portOnly (d : Dev) (n : Nat) {a : Nat} (v : Word) {as : List Nat} (gs : List Fld) (ha : a / 0x1000 = 0x100 ∧ a ≠ Reg.PRT_STATUS 0)
    (hm : a ∈ as) : d.PortOnly (d.setReg (a + 0x1000 * n) v) n as gs where
  port _ _ := rfl
  tim := rfl
  regs b k _ hb hne := d.reg_setReg_other _ _ _ fun heq => by
    rcases hne with hk | hnot
    · omega
    · exact hnot ((show b = a by omega) ▸ hm)
  status f _ := Dev.fld_setReg_other _ _ fun heq => by
    obtain ⟨-, hs⟩ := ha
    unfold Reg.PRT_STATUS at heq hs
    omega

theorem Dev.setFld_portOnly (d : Dev) (n : Nat) {a : Nat} (f : Fld) (v : Nat) {as : List Nat} (gs : List Fld)
    (ha : a / 0x1000 = 0x100 ∧ a ≠ Reg.PRT_STATUS 0) (hm : a ∈ as) : d.PortOnly (d.setFld (a + 0x1000 * n) f v) n as gs :=
  d.setReg_portOnly n _ gs ha hm

/-- A write of a field of the port's status. -/
theorem Dev.setStatus_portOnly (d : Dev) (n : Nat) {g : Fld} (v : Nat) {as : List Nat} {gs : List Fld} (ha : Reg.PRT_STATUS 0 ∈ as) (hg : g ∈ gs) :
    d.PortOnly (d.setFld (Reg.PRT_STATUS n) g v) n as gs where
  port _ _ := rfl
  tim := rfl
  regs b k _ hb hne := d.reg_setFld_other _ _ _ _ fun heq => by
    rcases hne with hk | hnot
    · unfold Reg.PRT_STATUS at heq
      omega
    · exact hnot ((show b = Reg.PRT_STATUS 0 by unfold Reg.PRT_STATUS at heq ⊢; omega) ▸ ha)
  status f hall := Dev.fld_setFld_other _ _ (.inr (List.all_eq_true.mp hall g hg))

theorem Dev.count_portOnly (d : Dev) (n i k : Nat) {as : List Nat} (gs : List Fld) (hi : i < 256) (hm : Reg.PRT_COUNT 0 i ∈ as) :
    d.PortOnly (d.count (Reg.PRT_COUNT n i) k) n as gs := by
  rw [Reg.PRT_COUNT_eq]
  refine d.setReg_portOnly n _ gs ?_ hm
  unfold Reg.PRT_COUNT Reg.PRT_STATUS
  omega

/-! ### Events of ports (R521) -/

theorem evtReg_port {n : Nat} (hn : n < 130) : evtReg (64 + n) = some (Reg.PRT_EVENT n) := by
  unfold evtReg
  repeat rw [if_neg (by omega)]
  rw [if_pos (by omega), Nat.add_sub_cancel_left]

/-- The EVENT register of a port is none of those a message touches. -/
theorem Reg.PRT_EVENT_quiet {n : Nat} (hn : n < 130) :
    Reg.PRT_EVENT n ≠ Reg.HIF_COUNT 13 ∧ Reg.PRT_EVENT n ≠ Reg.SYS_MSIX_PBA 0 ∧ Reg.PRT_EVENT n ≠ Reg.SYS_MSIX_PBA 1 := by
  unfold Reg.PRT_EVENT Reg.HIF_COUNT Reg.SYS_MSIX_PBA
  omega

/-- An event of a port touches its EVENT register and none of another port. -/
theorem Dev.raise_portOnly (d : Dev) {n : Nat} (b : Nat) {as : List Nat} (gs : List Fld) (hn : n < 130) (hm : Reg.PRT_EVENT 0 ∈ as) :
    d.PortOnly (d.raise (64 + n) b) n as gs where
  port k _ := Dev.port_of_ports (d.raise_ports _ _) k
  tim := d.raise_tim _ _
  regs a k hk ha hne := by
    refine d.raise_reg_other _ _ (fun h => ?_) ?_ ?_ ?_
    · have heq := Option.some.inj ((evtReg_port hn).symm.trans h)
      unfold Reg.PRT_EVENT at heq
      rcases hne with hne | hnot
      · omega
      · exact hnot ((show a = Reg.PRT_EVENT 0 by unfold Reg.PRT_EVENT; omega) ▸ hm)
    all_goals
      simp only [Reg.HIF_COUNT, Reg.SYS_MSIX_PBA]
      omega
  status f _ := by
    refine Dev.fld_of_reg (d.raise_reg_other _ _ (fun h => ?_) ?_ ?_ ?_) f
    · have heq := Option.some.inj ((evtReg_port hn).symm.trans h)
      unfold Reg.PRT_EVENT Reg.PRT_STATUS at heq
      omega
    all_goals
      simp only [Reg.PRT_STATUS, Reg.HIF_COUNT, Reg.SYS_MSIX_PBA]
      omega

/-- After an event its bit is set, and every other bit of its EVENT register is what it was. -/
theorem Dev.raise_getLsbD (d : Dev) {s b a : Nat} (he : evtReg s = some a) (hb : b < 64) (hc : a ≠ Reg.HIF_COUNT 13) (h0 : a ≠ Reg.SYS_MSIX_PBA 0)
    (h1 : a ≠ Reg.SYS_MSIX_PBA 1) (k : Nat) : ((d.raise s b).reg a).getLsbD k = (decide (k = b) || (d.reg a).getLsbD k) := by
  rw [Dev.raise, Dev.raiseMask_reg_eq _ _ _ hc h0 h1, if_pos he, BitVec.getLsbD_or, BitVec.getLsbD_ofNat, Nat.testBit_two_pow, Bool.or_comm]
  by_cases hk : k = b
  · simp [hk, hb]
  · simp [hk, Ne.symm hk]

theorem Dev.raise_port_bit (d : Dev) {n b : Nat} (hn : n < 130) (hb : b < 64) (k : Nat) :
    ((d.raise (64 + n) b).reg (Reg.PRT_EVENT n)).getLsbD k = (decide (k = b) || (d.reg (Reg.PRT_EVENT n)).getLsbD k) := by
  obtain ⟨hc, h0, h1⟩ := Reg.PRT_EVENT_quiet hn
  exact d.raise_getLsbD (evtReg_port hn) hb hc h0 h1 k

/-! ### Records that are flushed (R128 to R132, R315) -/

/-- Of the device only records, their data and what follows from them changed. -/
def Dev.RecsOnly (d e : Dev) : Prop :=
  e = { d with
    queues := e.queues, intakes := e.intakes, residue := e.residue, discards := e.discards, data := e.data, spillQ := e.spillQ, drr := e.drr }

theorem Dev.RecsOnly.trans {d e f : Dev} (h : d.RecsOnly e) (k : e.RecsOnly f) : d.RecsOnly f := Eq.trans k (by rw [h])

theorem Dev.freeRec_recsOnly (d : Dev) (why : Nat) (r : Rec) : d.RecsOnly (d.freeRec why r) := by
  unfold Dev.freeRec
  rw [Dev.dropRef_eq]
  rfl

theorem Dev.removeRecs_recsOnly (d : Dev) (why : Nat) (f : Rec → Bool) : d.RecsOnly (d.removeRecs why f).1 := by
  rw [d.removeRecs_eq]
  have hcut : d.RecsOnly (d.cutRecs f) := rfl
  refine (List.foldlRecOn (motive := d.RecsOnly) _ _ hcut fun x hx r _ => hx.trans (x.freeRec_recsOnly why r)).trans rfl

/-- The head of a queue carries a mark; its port is that of the record. -/
theorem port_of_mem_headMark {now : Nat} {l : List Rec} {r : Rec} (h : r ∈ headMark now l) : ∃ x ∈ l, r.port = x.port := by
  cases l with
  | nil => simp [headMark] at h
  | cons x l =>
    rcases List.mem_cons.mp h with rfl | h
    · refine ⟨x, List.mem_cons_self, ?_⟩
      split <;> rfl
    · exact ⟨r, List.mem_cons_of_mem _ h, rfl⟩

/-- A record that is left has the port of one for which `f` does not hold. -/
theorem Dev.removeRecs_port (d : Dev) (why : Nat) (f : Rec → Bool) {r : Rec} (h : r ∈ (d.removeRecs why f).1.recs) :
    ∃ x, f x = false ∧ r.port = x.port := by
  rw [d.removeRecs_recs] at h
  unfold Dev.recs Dev.cutRecs at h
  simp only [List.mem_append] at h
  rcases h with (h | h) | h
  · obtain ⟨e, he, hr⟩ := List.mem_flatMap.mp h
    obtain ⟨y, hy, rfl⟩ := List.mem_map.mp he
    obtain ⟨x, hx, hport⟩ := port_of_mem_headMark hr
    exact ⟨x, (mem_keepRecs.mp (List.mem_flatMap.mpr ⟨y, hy, hx⟩)).2, hport⟩
  · exact ⟨r, (mem_keepRecs.mp h).2, rfl⟩
  · exact ⟨r, (mem_keepRecs.mp h).2, rfl⟩

/-- Flushing a port frees records and counts them. -/
theorem Dev.flushPort_eq (d : Dev) (n k : Nat) (f : Rec → Bool) : ∃ e m, d.RecsOnly e ∧ d.flushPort n k f = e.count (Reg.PRT_COUNT n k) m :=
  ⟨_, _, d.removeRecs_recsOnly 0 fun r => r.port == n && f r, rfl⟩

@[simp] theorem Dev.flushPort_pkts (d : Dev) (n k : Nat) (f : Rec → Bool) : (d.flushPort n k f).pkts = d.pkts := by
  obtain ⟨e, m, he, h⟩ := d.flushPort_eq n k f
  rw [h, Dev.count_pkts, he]

@[simp] theorem Dev.flushPort_ports (d : Dev) (n k : Nat) (f : Rec → Bool) : (d.flushPort n k f).ports = d.ports := by
  obtain ⟨e, m, he, h⟩ := d.flushPort_eq n k f
  rw [h, Dev.count_ports, he]

theorem Dev.flushPort_portOnly (d : Dev) (n : Nat) {k : Nat} (f : Rec → Bool) {as : List Nat} (gs : List Fld) (hn : n < 130) (hk : k < 256)
    (hm : Reg.PRT_COUNT 0 k ∈ as) : d.PortOnly (d.flushPort n k f) n as gs := by
  obtain ⟨e, m, he, h⟩ := d.flushPort_eq n k f
  rw [h]
  exact (Dev.PortOnly.of_outside (by rw [he]) (by rw [he]) (fun a _ _ => by rw [he]; rfl) hn).trans (e.count_portOnly n k m gs hk hm)

/-- No record of a port is left after a flush of all its queues. -/
theorem Dev.flushPort_recs (d : Dev) (n k : Nat) {r : Rec} (h : r ∈ (d.flushPort n k fun _ => true).recs) : r.port ≠ n := by
  obtain ⟨x, hx, hr⟩ := d.removeRecs_port 0 _ h
  rw [hr]
  simpa using hx

/-- All queues of the port are empty, and packets for it are discarded (R130). -/
structure Dev.Flushed (d e : Dev) (n : Nat) : Prop where
  only : d.PortOnly e n [Reg.PRT_COUNT 0 23] []
  port : e.port n = { d.port n with holdEnd := none, discard := true }
  recs : ∀ r ∈ e.recs, r.port ≠ n
  pkts : e.pkts = d.pkts

theorem Dev.flushAll_flushed (d : Dev) {n : Nat} (hn : n < 130) : d.Flushed (d.flushAll n) n where
  only := (d.flushPort_portOnly n _ [] hn (by decide) (by simp)).trans (Dev.setPort_portOnly _ _ _ _ _)
  port := by
    unfold Dev.flushAll
    rw [Dev.port_setPort_same, Dev.port_of_ports (d.flushPort_ports n 23 _)]
  recs _ hr := d.flushPort_recs n 23 hr
  pkts := d.flushPort_pkts n 23 _

/-! ### Frames that are cut off (R125) -/

/-- The packet of context `c` is gone; beside packets, their data and traces only one counter of port `n` changed. -/
structure Dev.FrameCut (d e : Dev) (n c : Nat) : Prop where
  pkts : e.pkts = Map.del d.pkts c
  ports : e.ports = d.ports
  only : d.PortOnly e n [Reg.PRT_COUNT 0 13] []

theorem Dev.abortFrame_cut (d : Dev) {n : Nat} (c : Nat) (p : Pkt) (hn : n < 130) : d.FrameCut (d.abortFrame n c p) n c := by
  have hlose : ∀ e : Dev, e.regs = (d.count (Reg.PRT_COUNT n 13) 1).regs → e.pkts = d.pkts → e.ports = d.ports → e.tim = d.tim →
      d.FrameCut (e.losePkt c p 0) n c := fun e hr hp hports htim => by
    have heq := (e.noteDiscard p.pid 0).freePkt_eq c p
    refine ⟨?_, ?_, (d.count_portOnly n 13 1 [] (by decide) (by simp)).trans ?_⟩
    · exact (Dev.freePkt_pkts _ c p).trans (congrArg (Map.del · c) hp)
    · exact (congrArg Dev.ports heq).trans hports
    · refine Dev.PortOnly.of_outside ((congrArg Dev.ports heq).trans hports) ((congrArg Dev.tim heq).trans htim) (fun a _ _ => ?_) hn
      rw [Dev.losePkt_reg]
      exact Dev.regsKept_of_regs hr [] a (by simp)
  unfold Dev.abortFrame Dev.cutFrame
  dsimp only
  split
  · split <;> exact hlose _ rfl rfl rfl rfl
  · split
    · exact hlose _ rfl rfl rfl rfl
    · split <;> exact hlose _ rfl rfl rfl rfl

/-- The packet is in the transmit rim of the port, whole or in part. -/
def Pkt.inRimOf (p : Pkt) (n : Nat) : Bool := p.stage == .txRim n || p.stage == .preempted n

theorem Pkt.inRimOf_eq_false {p : Pkt} {n : Nat} : p.inRimOf n = false ↔ p.stage ≠ .txRim n ∧ p.stage ≠ .preempted n := by
  simp [Pkt.inRimOf]

/-- One packet as its port goes down: cut off where it is in the port's rim. -/
def Dev.abortIn (n : Nat) (d : Dev) (x : Nat × Pkt) : Dev := if x.2.inRimOf n then d.abortFrame n x.1 x.2 else d

theorem Dev.abortTx_eq (d : Dev) (n : Nat) : d.abortTx n = d.pkts.foldl (Dev.abortIn n) d := rfl

/-- Of the packets in `e` none is new and none of those listed was in the rim of port `n`. -/
structure Dev.RimEmptied (d e : Dev) (n : Nat) (l : List (Nat × Pkt)) : Prop where
  only : d.PortOnly e n [Reg.PRT_COUNT 0 13] []
  ports : e.ports = d.ports
  left : ∀ c q, e.pkt c = some q → d.pkt c = some q ∧ ∀ x ∈ l, x.2.inRimOf n = true → x.1 ≠ c

theorem Dev.abortIn_emptied (d : Dev) {n : Nat} (x : Nat × Pkt) (hn : n < 130) : d.RimEmptied (d.abortIn n x) n [x] := by
  unfold Dev.abortIn
  split
  next hx =>
    obtain ⟨hpkts, hports, honly⟩ := d.abortFrame_cut x.1 x.2 hn
    refine ⟨honly, hports, fun c q h => ?_⟩
    have hc : c ≠ x.1 := fun hc => by simp [Dev.pkt, hpkts, hc] at h
    rw [Dev.pkt, hpkts, Map.find_del_other _ _ _ hc] at h
    exact ⟨h, by simpa using fun _ => Ne.symm hc⟩
  next hx => exact ⟨.refl _ _ _ _, rfl, fun c q h => ⟨h, by simp [hx]⟩⟩

theorem Dev.foldl_abortIn_emptied (l : List (Nat × Pkt)) (d : Dev) {n : Nat} (hn : n < 130) : d.RimEmptied (l.foldl (Dev.abortIn n) d) n l := by
  induction l generalizing d with
  | nil => exact ⟨.refl _ _ _ _, rfl, fun c q h => ⟨h, by simp⟩⟩
  | cons x l ih =>
    obtain ⟨honly, hports, hleft⟩ := ih (d.abortIn n x)
    obtain ⟨hxonly, hxports, hxleft⟩ := d.abortIn_emptied x hn
    refine ⟨hxonly.trans honly, hports.trans hxports, fun c q h => ?_⟩
    obtain ⟨hq, hl⟩ := hleft c q h
    obtain ⟨hq, hx⟩ := hxleft c q hq
    exact ⟨hq, List.forall_mem_cons.mpr ⟨hx x (List.mem_singleton_self x), hl⟩⟩

theorem Dev.abortTx_emptied (d : Dev) {n : Nat} (hn : n < 130) : d.RimEmptied (d.abortTx n) n d.pkts := by
  rw [d.abortTx_eq]
  exact Dev.foldl_abortIn_emptied d.pkts d hn

/-- When a port's frames have been cut off, no packet is in its transmit rim. -/
theorem Dev.abortTx_rim (d : Dev) {n : Nat} (hn : n < 130) {c : Nat} {q : Pkt} (h : (d.abortTx n).pkt c = some q) : q.inRimOf n = false := by
  obtain ⟨hq, hleft⟩ := (d.abortTx_emptied hn).left c q h
  exact Bool.eq_false_iff.mpr fun hr => hleft (c, q) (Map.mem_of_find hq) hr rfl

end Sys2Proof.Machine
end

section
/-! PROOFS. Lanes, the status of a port, and the start of acquisition (R106, R111, R114, R118, R123, R126, R127, R136). -/

namespace Sys2Proof.Machine

/-! ### Lanes (R126, R127) -/

/-- Beside registers outside those of the ports only pins, messages and free values changed. -/
structure Dev.LanesOnly (d e : Dev) : Prop where
  only : e = { d with regs := e.regs, pins := e.pins, hif := e.hif, freeCtr := e.freeCtr }
  regs : ∀ a, 0x100000 ≤ a → a < 0x182000 → e.reg a = d.reg a

namespace Dev.LanesOnly

variable {d e f : Dev}

theorem refl (d : Dev) : d.LanesOnly d := ⟨rfl, fun _ _ _ => rfl⟩

theorem trans (h : d.LanesOnly e) (k : e.LanesOnly f) : d.LanesOnly f where
  only := Eq.trans k.only (by rw [h.only])
  regs a hl hh := (k.regs a hl hh).trans (h.regs a hl hh)

theorem ports (h : d.LanesOnly e) : e.ports = d.ports := by rw [h.only]
theorem tim (h : d.LanesOnly e) : e.tim = d.tim := by rw [h.only]
theorem pkts (h : d.LanesOnly e) : e.pkts = d.pkts := by rw [h.only]
theorem queues (h : d.LanesOnly e) : e.queues = d.queues := by rw [h.only]

theorem portOnly (h : d.LanesOnly e) {n : Nat} (hn : n < 130) (as : List Nat) (gs : List Fld) : d.PortOnly e n as gs :=
  .of_outside h.ports h.tim h.regs hn

end Dev.LanesOnly

theorem Dev.setFld_lanesOnly (d : Dev) {a : Nat} (f : Fld) (v : Nat) (ha : 0x182000 ≤ a) : d.LanesOnly (d.setFld a f v) where
  only := rfl
  regs b _ hb := d.reg_setFld_other _ _ _ _ (by omega)

theorem Dev.setRate_lanesOnly (d : Dev) (n code : Nat) : d.LanesOnly (d.setRate n code) :=
  List.foldlRecOn _ _ (.refl d) fun x hx l _ => hx.trans (x.setFld_lanesOnly _ _ (by unfold Reg.PRT_LANE_STATUS; omega))

theorem Dev.setLane_lanesOnly (d : Dev) (l : Nat) (signal lock : Bool) : d.LanesOnly (d.setLane l signal lock) := by
  have ha : 0x182000 ≤ Reg.PRT_LANE_STATUS l := by unfold Reg.PRT_LANE_STATUS; omega
  unfold Dev.setLane
  split
  · exact (d.setFld_lanesOnly _ _ ha).trans (Dev.setFld_lanesOnly _ _ _ ha)
  · split
    · exact ⟨rfl, fun _ _ _ => rfl⟩
    · exact .refl d

theorem Dev.fresh_lanesOnly (d : Dev) (n : Nat) : d.LanesOnly (d.fresh n).2 := ⟨rfl, fun _ _ _ => rfl⟩

theorem Dev.dropLanes_lanesOnly (d : Dev) (n : Nat) (off : Bool) : d.LanesOnly (d.dropLanes n off) := by
  refine List.foldlRecOn _ _ (.refl d) fun x hx l _ => hx.trans ?_
  refine ((x.fresh_lanesOnly 2).trans (Dev.fresh_lanesOnly _ 2)).trans ?_
  cases off <;> exact Dev.setLane_lanesOnly _ _ _ _

theorem Dev.rclkDrive_lanesOnly (d : Dev) (k : Nat) : d.LanesOnly (d.rclkDrive k) := ⟨rfl, fun _ _ _ => rfl⟩

theorem Dev.raise_rclk_lanesOnly (d : Dev) (k : Nat) : d.LanesOnly (d.raise 13 k) where
  only := by rw [d.raise_messageOnly 13 k]
  regs a hl hh := d.raise_reg_other 13 k (fun h => by
    have ha : Reg.PRT_RCLK_EVENT = a := Option.some.inj h
    unfold Reg.PRT_RCLK_EVENT at ha
    omega) (by unfold Reg.HIF_COUNT; omega) (by unfold Reg.SYS_MSIX_PBA; omega) (by unfold Reg.SYS_MSIX_PBA; omega)

/-- One output follows its source: SQUELCHED, the output itself and, where `ev` holds, the event. -/
def Dev.follow (ev : Bool) (d : Dev) (k : Nat) : Dev :=
  let lost := !d.laneLocked (d.rclkLane k)
  let e := (d.setFld (Reg.PRT_RCLK k) F.PRT_RCLK_SQUELCHED lost.toNat).rclkDrive k
  if ev && lost && !d.bit (Reg.PRT_RCLK k) F.PRT_RCLK_SQUELCHED then e.raise 13 k else e

theorem Dev.rclkFollow_eq (d : Dev) (ev : Bool) : d.rclkFollow ev = (List.range 4).foldl (Dev.follow ev) d := rfl

theorem Dev.follow_lanesOnly (d : Dev) (ev : Bool) (k : Nat) : d.LanesOnly (d.follow ev k) := by
  have hdrive : d.LanesOnly ((d.setFld (Reg.PRT_RCLK k) F.PRT_RCLK_SQUELCHED (!d.laneLocked (d.rclkLane k)).toNat).rclkDrive k) :=
    (d.setFld_lanesOnly _ _ (by unfold Reg.PRT_RCLK; omega)).trans (Dev.rclkDrive_lanesOnly _ k)
  unfold Dev.follow
  dsimp only
  split
  · exact hdrive.trans (Dev.raise_rclk_lanesOnly _ k)
  · exact hdrive

theorem Dev.rclkFollow_lanesOnly (d : Dev) (ev : Bool) : d.LanesOnly (d.rclkFollow ev) :=
  List.foldlRecOn (motive := d.LanesOnly) _ (Dev.follow ev) (.refl d) fun x hx k _ => hx.trans (x.follow_lanesOnly ev k)

/-! ### Status and rim of a port (R111, R123) -/

/-- Of the device only registers and rims changed. -/
def Dev.RimsOnly (d e : Dev) : Prop := e = { d with regs := e.regs, ports := e.ports }

namespace Dev.RimsOnly

variable {d e f : Dev}

theorem trans (h : d.RimsOnly e) (k : e.RimsOnly f) : d.RimsOnly f := Eq.trans k (by rw [h])
theorem pkts (h : d.RimsOnly e) : e.pkts = d.pkts := by rw [h]
theorem queues (h : d.RimsOnly e) : e.queues = d.queues := by rw [h]
theorem recs (h : d.RimsOnly e) : e.recs = d.recs := by
  rw [h]
  rfl

end Dev.RimsOnly

@[simp] theorem Dev.port_setFld (d : Dev) (a : Nat) (f : Fld) (v n : Nat) : (d.setFld a f v).port n = d.port n := rfl
@[simp] theorem Dev.port_setReg (d : Dev) (a : Nat) (v : Word) (n : Nat) : (d.setReg a v).port n = d.port n := rfl
@[simp] theorem Dev.port_raise (d : Dev) (s b n : Nat) : (d.raise s b).port n = d.port n := Dev.port_of_ports (d.raise_ports s b) n
@[simp] theorem Dev.port_setPortState (d : Dev) (n st : Nat) : (d.setPortState n st).port n = { d.port n with since := d.free } :=
  Dev.port_setPort_same _ _ _

theorem Dev.portState_setPortState (d : Dev) (n : Nat) {st : Nat} (h : st < 8) : (d.setPortState n st).portState n = st :=
  (d.fld_setFld_same (Reg.PRT_STATUS n) st (by decide)).trans (Nat.mod_eq_of_lt h)

theorem Dev.setPortState_portOnly (d : Dev) (n st : Nat) {as : List Nat} {gs : List Fld} (ha : Reg.PRT_STATUS 0 ∈ as) (hg : F.PRT_STATUS_STATE ∈ gs) :
    d.PortOnly (d.setPortState n st) n as gs :=
  (d.setStatus_portOnly n st ha hg).trans (Dev.setPort_portOnly _ _ _ _ _)

/-- A result stands in the port's status, and the rate of its lanes follows it. -/
theorem Dev.setResult_portOnly (d : Dev) {n : Nat} (rank mode fec : Nat) (hn : n < 130) :
    d.PortOnly (d.setResult n rank mode fec) n [Reg.PRT_STATUS 0] [F.PRT_STATUS_RES_MODE, F.PRT_STATUS_RES_FEC, F.PRT_STATUS_RES_RANK] :=
  (((d.setStatus_portOnly n mode (by simp) (by simp)).trans (Dev.setStatus_portOnly _ n fec (by simp) (by simp))).trans
    (Dev.setStatus_portOnly _ n rank (by simp) (by simp))).trans ((Dev.setRate_lanesOnly _ n _).portOnly hn _ _)

theorem Dev.setRate_regsOnly (d : Dev) (n code : Nat) : d.RegsOnly (d.setRate n code) :=
  List.foldlRecOn (motive := d.RegsOnly) _ _ (.refl d) fun _ hx _ _ => hx.trans (Dev.setReg_regsOnly _ _ _)

theorem Dev.setResult_regsOnly (d : Dev) (n rank mode fec : Nat) : d.RegsOnly (d.setResult n rank mode fec) :=
  RegsOnly.trans (e := ((d.setFld (Reg.PRT_STATUS n) F.PRT_STATUS_RES_MODE mode).setFld (Reg.PRT_STATUS n) F.PRT_STATUS_RES_FEC fec).setFld
    (Reg.PRT_STATUS n) F.PRT_STATUS_RES_RANK rank) rfl (Dev.setRate_regsOnly _ _ _)

@[simp] theorem Dev.port_setResult (d : Dev) (n rank mode fec k : Nat) : (d.setResult n rank mode fec).port k = d.port k :=
  Dev.port_of_ports (by rw [d.setResult_regsOnly n rank mode fec]) k

/-- What the status reads after a result. -/
theorem Dev.setResult_fld (d : Dev) {n rank mode fec : Nat} (hn : n < 130) (hr : rank < 16) (hm : mode < 16) (hf : fec < 4) :
    let e := d.setResult n rank mode fec
    e.fld (Reg.PRT_STATUS n) F.PRT_STATUS_RES_MODE = mode ∧ e.fld (Reg.PRT_STATUS n) F.PRT_STATUS_RES_FEC = fec ∧
      e.fld (Reg.PRT_STATUS n) F.PRT_STATUS_RES_RANK = rank := by
  intro e
  have hrate := fun x : Dev => (x.setRate_lanesOnly n (laneRate mode)).portOnly hn [] []
  refine ⟨((hrate _).status _ rfl).trans ?_, ((hrate _).status _ rfl).trans ?_, ((hrate _).status _ rfl).trans ?_⟩
  · rw [Dev.fld_setFld_other _ _ (.inr (by decide)), Dev.fld_setFld_other _ _ (.inr (by decide)), Dev.fld_setFld_same _ _ _ (by decide)]
    exact Nat.mod_eq_of_lt hm
  · rw [Dev.fld_setFld_other _ _ (.inr (by decide)), Dev.fld_setFld_same _ _ _ (by decide)]
    exact Nat.mod_eq_of_lt hf
  · rw [Dev.fld_setFld_same _ _ _ (by decide)]
    exact Nat.mod_eq_of_lt hr

@[simp] theorem Dev.port_setMm (d : Dev) (n v : Nat) (a : Bool) (k : Nat) : (d.setMm n v a).port k = d.port k := rfl

theorem Dev.setMm_regsOnly (d : Dev) (n v : Nat) (a : Bool) : d.RegsOnly (d.setMm n v a) := rfl

theorem Dev.setMm_regsKept (d : Dev) (n v : Nat) (a : Bool) : d.regsKept (d.setMm n v a) [Reg.PRT_MM_STATUS n] :=
  (d.setFld_regsKept _ _ (by simp)).trans (Dev.setFld_regsKept _ _ _ (by simp))

theorem Dev.setMm_portOnly (d : Dev) (n v : Nat) (a : Bool) {as : List Nat} (gs : List Fld) (h : Reg.PRT_MM_STATUS 0 ∈ as) :
    d.PortOnly (d.setMm n v a) n as gs :=
  (d.setFld_portOnly n (a := Reg.PRT_MM_STATUS 0) _ _ gs (by decide) h).trans (Dev.setFld_portOnly _ n (a := Reg.PRT_MM_STATUS 0) _ _ gs (by decide) h)

theorem Dev.setMm_fld (d : Dev) (n : Nat) {v : Nat} (a : Bool) (hv : v < 8) :
    (d.setMm n v a).fld (Reg.PRT_MM_STATUS n) F.PRT_MM_STATUS_VERIFY = v ∧ (d.setMm n v a).fld (Reg.PRT_MM_STATUS n) F.PRT_MM_STATUS_ACTIVE = a.toNat := by
  unfold Dev.setMm
  constructor
  · rw [Dev.fld_setFld_other _ _ (.inr (by decide)), Dev.fld_setFld_same _ _ _ (by decide)]
    exact Nat.mod_eq_of_lt hv
  · rw [Dev.fld_setFld_same _ _ _ (by decide)]
    cases a <;> rfl

/-- PRT_MM_STATUS follows the controls in force: it is left, or written anew. -/
theorem Dev.mmFollow_cases (d : Dev) (n : Nat) : d.mmFollow n = d ∨ ∃ v a, d.mmFollow n = d.setMm n v a := by
  unfold Dev.mmFollow
  split
  · exact .inl rfl
  · split <;> exact .inr ⟨_, _, rfl⟩

theorem Dev.mmFollow_portOnly (d : Dev) (n : Nat) : d.PortOnly (d.mmFollow n) n [Reg.PRT_MM_STATUS 0] [] := by
  rcases d.mmFollow_cases n with h | ⟨v, a, h⟩
  · rw [h]
    exact .refl _ _ _ _
  · exact h ▸ d.setMm_portOnly n v a [] (by simp)

theorem Dev.mmFollow_regsOnly (d : Dev) (n : Nat) : d.RegsOnly (d.mmFollow n) := by
  rcases d.mmFollow_cases n with h | ⟨v, a, h⟩
  · rw [h]
    exact .refl d
  · exact h ▸ d.setMm_regsOnly n v a

theorem Dev.mmFollow_regsKept (d : Dev) (n : Nat) : d.regsKept (d.mmFollow n) [Reg.PRT_MM_STATUS n] := by
  rcases d.mmFollow_cases n with h | ⟨v, a, h⟩
  · rw [h]
    exact .refl d _
  · exact h ▸ d.setMm_regsKept n v a

/-! ### PRT_MODE, PRT_AN_ADV and PRT_MM_CTRL take effect (R136) -/

theorem Dev.latchPort_portOnly (d : Dev) (n : Nat) : d.PortOnly (d.latchPort n) n [Reg.PRT_MM_STATUS 0] [] :=
  (d.setPort_portOnly n _ _ _).trans (Dev.mmFollow_portOnly _ n)

theorem Dev.latchPort_rimsOnly (d : Dev) (n : Nat) : d.RimsOnly (d.latchPort n) := by
  unfold Dev.RimsOnly Dev.latchPort
  rw [Dev.mmFollow_regsOnly]
  rfl

theorem Dev.latchPort_regsKept (d : Dev) (n : Nat) : d.regsKept (d.latchPort n) [Reg.PRT_MM_STATUS n] :=
  (Dev.regsKept_of_regs rfl _).trans (Dev.mmFollow_regsKept _ n)

theorem Dev.port_latchPort (d : Dev) (n : Nat) :
    (d.latchPort n).port n = { d.port n with mode := d.reg (Reg.PRT_MODE n), adv := d.reg (Reg.PRT_AN_ADV n), mm := d.reg (Reg.PRT_MM_CTRL n) } := by
  have hports : ∀ x : Dev, (x.mmFollow n).ports = x.ports := fun x => by rw [x.mmFollow_regsOnly n]
  exact (Dev.port_of_ports (hports _) n).trans (Dev.port_setPort_same _ _ _)

/-- ALIGN entered from AN or TRAIN: what the port's registers ask for takes effect, and its status shows it. -/
theorem Dev.toAlign_portOnly (d : Dev) (n : Nat) : d.PortOnly (d.toAlign n) n [Reg.PRT_STATUS 0, Reg.PRT_MM_STATUS 0] [F.PRT_STATUS_STATE] :=
  ((d.latchPort_portOnly n).mono (by simp) (by simp)).trans (Dev.setPortState_portOnly _ _ _ (by simp) (by simp))

theorem Dev.portState_toAlign (d : Dev) (n : Nat) : (d.toAlign n).portState n = stAlign := Dev.portState_setPortState _ _ (by decide)

theorem Dev.toAlign_regsKept (d : Dev) (n : Nat) : d.regsKept (d.toAlign n) [Reg.PRT_STATUS n, Reg.PRT_MM_STATUS n] :=
  ((d.latchPort_regsKept n).mono (by simp)).trans (Dev.setFld_regsKept _ _ _ (by simp))

/-! ### Acquisition begins (R111, R114, R118) -/

/-- The PRT_MODE of a management port marks it unused (R106). -/
def Dev.unbinds (d : Dev) (n : Nat) : Prop := 128 ≤ n ∧ F.PRT_MODE_AN_EN.of (d.reg (Reg.PRT_MODE n)) = 0 ∧ F.PRT_MODE_MODE.of (d.reg (Reg.PRT_MODE n)) = 0

/-- The registers of the port, as port 0 has them, and the fields of its status that a start of acquisition touches. -/
def acqRegs : List Nat := [Reg.PRT_STATUS 0, Reg.PRT_AN_LP 0, Reg.PRT_MM_STATUS 0, Reg.PRT_COUNT 0 23]
def acqFlds : List Fld := [F.PRT_STATUS_STATE, F.PRT_STATUS_RES_MODE, F.PRT_STATUS_RES_FEC, F.PRT_STATUS_RES_RANK]

/-- The state in which acquisition begins under PRT_MODE `m` (R111, R114). -/
def acqState (m : Word) (n : Nat) : Nat := if F.PRT_MODE_AN_EN.of m = 1 ∧ (n < 128 ∨ F.PRT_MODE_MODE.of m = 1) then stAn else stAlign

/-- Acquisition of port `n` has begun: the state follows PRT_MODE; a port that becomes unbound is flushed, and of any other the hold and the
records stay. -/
structure Dev.Acquired (d e : Dev) (n : Nat) : Prop where
  only : d.PortOnly e n acqRegs acqFlds
  state : e.portState n = acqState (d.reg (Reg.PRT_MODE n)) n
  rank : e.fld (Reg.PRT_STATUS n) F.PRT_STATUS_RES_RANK = 0
  mode : (e.port n).mode = d.reg (Reg.PRT_MODE n)
  pkts : e.pkts = d.pkts
  kept : ¬ d.unbinds n → (e.port n).holdEnd = (d.port n).holdEnd ∧ (e.port n).discard = (d.port n).discard ∧ e.queues = d.queues
  flushed : d.unbinds n → (e.port n).holdEnd = none ∧ (e.port n).discard = true ∧ ∀ r ∈ e.recs, r.port ≠ n

/-- The rest of a start of acquisition, once PRT_MODE `m` has taken effect and a port that becomes unbound has been flushed. -/
structure Dev.Entered (d e : Dev) (n st : Nat) : Prop where
  only : d.PortOnly e n acqRegs acqFlds
  rims : d.RimsOnly e
  state : e.portState n = st
  rank : e.fld (Reg.PRT_STATUS n) F.PRT_STATUS_RES_RANK = 0
  port : e.port n = { d.port n with pcs := (e.port n).pcs, since := d.free }

theorem Dev.enterAn_entered (d : Dev) (n : Nat) (x : Dev) (hx : x = d.setFld (Reg.PRT_STATUS n) F.PRT_STATUS_RES_RANK 0) (pcs : Bool) :
    d.Entered (((x.setFld (Reg.PRT_AN_LP n) F.PRT_AN_LP_VALID 0).setPort n { x.port n with pcs := pcs }).setPortState n stAn) n stAn := by
  subst hx
  have hlp : (Reg.PRT_STATUS n) ≠ Reg.PRT_AN_LP n := by unfold Reg.PRT_STATUS Reg.PRT_AN_LP; omega
  refine ⟨?_, rfl, Dev.portState_setPortState _ _ (by decide), ?_, ?_⟩
  · refine (d.setStatus_portOnly n (g := F.PRT_STATUS_RES_RANK) 0 (by simp [acqRegs]) (by simp [acqFlds])).trans ?_
    refine (Dev.setFld_portOnly _ n (a := Reg.PRT_AN_LP 0) F.PRT_AN_LP_VALID 0 _ (by decide) (by simp [acqRegs])).trans ?_
    exact (Dev.setPort_portOnly _ _ _ _ _).trans (Dev.setPortState_portOnly _ _ _ (by simp [acqRegs]) (by simp [acqFlds]))
  · refine (Dev.fld_setFld_other _ _ (.inr (by decide))).trans ((Dev.fld_setFld_other _ _ (.inl hlp)).trans ?_)
    exact Dev.fld_setFld_same _ _ _ (by decide)
  · rw [Dev.port_setPortState, Dev.port_setPort_same]
    rfl

theorem Dev.enterAlign_entered (d : Dev) (n : Nat) (x : Dev) (hx : x = d.setFld (Reg.PRT_STATUS n) F.PRT_STATUS_RES_RANK 0) (pcs : Bool) :
    d.Entered ((x.setPort n { x.port n with pcs := pcs }).setPortState n stAlign) n stAlign := by
  subst hx
  refine ⟨?_, rfl, Dev.portState_setPortState _ _ (by decide), ?_, ?_⟩
  · refine (d.setStatus_portOnly n (g := F.PRT_STATUS_RES_RANK) 0 (by simp [acqRegs]) (by simp [acqFlds])).trans ?_
    exact (Dev.setPort_portOnly _ _ _ _ _).trans (Dev.setPortState_portOnly _ _ _ (by simp [acqRegs]) (by simp [acqFlds]))
  · exact (Dev.fld_setFld_other _ _ (.inr (by decide))).trans (Dev.fld_setFld_same _ _ _ (by decide))
  · rw [Dev.port_setPortState, Dev.port_setPort_same]
    rfl

/-- The result of a forced mode leaves the port in the state it has entered. -/
theorem Dev.Entered.setResult {d e : Dev} {n st : Nat} (h : d.Entered e n st) (hn : n < 130) (mode fec : Nat) :
    d.Entered (e.setResult n 0 mode fec) n st := by
  have hres := e.setResult_portOnly 0 mode fec hn
  refine ⟨h.only.trans (hres.mono (by simp [acqRegs]) (by simp [acqFlds])), h.rims.trans ?_, ?_, ?_, ?_⟩
  · unfold Dev.RimsOnly
    rw [e.setResult_regsOnly n 0 mode fec]
  · exact (hres.status _ (by decide)).trans h.state
  · exact ((Dev.setRate_lanesOnly _ n _).portOnly hn [] []).status _ rfl |>.trans (Dev.fld_setFld_same _ _ _ (by decide))
  · rw [Dev.port_setResult]
    exact h.port

/-- PRT_MODE takes effect, and a port that has become unbound is flushed. -/
theorem Dev.unboundFlush_eq (d : Dev) (n : Nat) :
    (d.unbinds n → (d.latchPort n).unboundFlush n = (d.latchPort n).flushAll n) ∧ (¬ d.unbinds n → (d.latchPort n).unboundFlush n = d.latchPort n) := by
  unfold Dev.unboundFlush Dev.unbinds
  rw [d.port_latchPort n]
  constructor
  · rintro ⟨hn, han, hm⟩
    exact if_pos (by simp [hn, han, hm])
  · intro h
    exact if_neg (by simpa [and_comm, and_left_comm] using h)

theorem Dev.unboundFlush_portOnly (d : Dev) {n : Nat} (hn : n < 130) : d.PortOnly ((d.latchPort n).unboundFlush n) n acqRegs acqFlds := by
  have hlatch := (d.latchPort_portOnly n).mono (bs := acqRegs) (hs := acqFlds) (by simp [acqRegs]) (by simp)
  obtain ⟨hflush, hkeep⟩ := d.unboundFlush_eq n
  by_cases hu : d.unbinds n
  · rw [hflush hu]
    exact hlatch.trans (((d.latchPort n).flushAll_flushed hn).only.mono (by simp [acqRegs]) (by simp))
  · rw [hkeep hu]
    exact hlatch

theorem Dev.Entered.acquired {d f : Dev} {n st : Nat} (h : ((d.latchPort n).unboundFlush n).Entered f n st) (hn : n < 130)
    (hst : st = acqState (d.reg (Reg.PRT_MODE n)) n) : d.Acquired f n := by
  have honly := (d.unboundFlush_portOnly hn).trans h.only
  have hport := d.port_latchPort n
  have hlatch := d.latchPort_rimsOnly n
  obtain ⟨hflush, hkeep⟩ := d.unboundFlush_eq n
  by_cases hu : d.unbinds n
  · rw [hflush hu] at h
    obtain ⟨-, fport, frecs, fpkts⟩ := (d.latchPort n).flushAll_flushed hn
    rw [hport] at fport
    refine ⟨honly, h.state.trans hst, h.rank, ?_, ?_, fun hnu => absurd hu hnu, fun _ => ⟨?_, ?_, ?_⟩⟩
    · rw [h.port, fport]
    · exact h.rims.pkts.trans (fpkts.trans hlatch.pkts)
    · rw [h.port, fport]
    · rw [h.port, fport]
    · exact h.rims.recs ▸ frecs
  · rw [hkeep hu] at h
    refine ⟨honly, h.state.trans hst, h.rank, ?_, ?_, fun _ => ⟨?_, ?_, ?_⟩, fun hu' => absurd hu' hu⟩
    · rw [h.port, hport]
    · exact h.rims.pkts.trans hlatch.pkts
    · rw [h.port, hport]
    · rw [h.port, hport]
    · exact h.rims.queues.trans hlatch.queues

theorem Dev.acquire_acquired (d : Dev) {n : Nat} (hn : n < 130) : d.Acquired (d.acquire n) n := by
  have honly := d.unboundFlush_portOnly hn
  unfold Dev.acquire
  obtain ⟨x, hx⟩ : ∃ x, ((d.latchPort n).unboundFlush n).setFld (Reg.PRT_STATUS n) F.PRT_STATUS_RES_RANK 0 = x := ⟨_, rfl⟩
  have hmode : x.reg (Reg.PRT_MODE n) = d.reg (Reg.PRT_MODE n) := by
    rw [← hx]
    exact (honly.trans (Dev.setStatus_portOnly _ n 0 (by simp [acqRegs]) (by simp [acqFlds]))).reg hn (a := Reg.PRT_MODE 0) (by decide)
  simp only [hx, hmode]
  split
  next han => exact (Dev.enterAn_entered _ n x hx.symm true).acquired hn (if_pos (by simpa using han)).symm
  next han =>
    split
    · exact ((Dev.enterAlign_entered _ n x hx.symm true).setResult hn _ _).acquired hn (if_neg (by simpa using han)).symm
    · exact (Dev.enterAlign_entered _ n x hx.symm false).acquired hn (if_neg (by simpa using han)).symm

end Sys2Proof.Machine
end

section
/-! PROOFS. Counts with their events, ports that go down and ports that stop (R111, R112, R125, R128 to R130). -/

namespace Sys2Proof.Machine

/-! ### A count with its event (R134, R521) -/

/-- Counter `i` of the port has counted one, and event `b` of the port is raised. -/
structure Dev.Noted (d e : Dev) (n i b : Nat) : Prop where
  only : d.PortOnly e n [Reg.PRT_EVENT 0, Reg.PRT_COUNT 0 i] []
  ports : e.ports = d.ports
  count : e.reg (Reg.PRT_COUNT n i) = d.plus (Reg.PRT_COUNT n i) 1
  event : ∀ k, (e.reg (Reg.PRT_EVENT n)).getLsbD k = (decide (k = b) || (d.reg (Reg.PRT_EVENT n)).getLsbD k)

theorem Dev.count_raise_noted (d : Dev) {n i b : Nat} (hn : n < 130) (hi : i < 256) (hb : b < 64) :
    d.Noted ((d.count (Reg.PRT_COUNT n i) 1).raise (64 + n) b) n i b where
  only := (d.count_portOnly n i 1 [] hi (by simp)).trans (Dev.raise_portOnly _ b [] hn (by simp))
  ports := Dev.raise_ports _ _ _
  count := by
    have hkeep := Dev.raise_portOnly (d.count (Reg.PRT_COUNT n i) 1) b (as := [Reg.PRT_EVENT 0]) [] hn (by simp)
    exact (hkeep.reg_count hn hi (by simp only [Reg.PRT_COUNT, Reg.PRT_EVENT, List.mem_singleton]; omega)).trans (d.reg_count _ _)
  event k := by
    rw [Dev.raise_port_bit _ hn hb, Dev.reg_count_other _ _ _ _ (by unfold Reg.PRT_EVENT Reg.PRT_COUNT; omega)]

/-! ### A port goes down (R112, R125, R128, R129) -/

/-- The registers of a port, as port 0 has them, that change as it goes down. -/
def downRegs : List Nat :=
  [Reg.PRT_STATUS 0, Reg.PRT_EVENT 0, Reg.PRT_COUNT 0 28, Reg.PRT_COUNT 0 13, Reg.PRT_COUNT 0 22, Reg.PRT_COUNT 0 23]

/-- Going down was counted, its event raised, and the frames in the port's rim discarded. -/
structure Dev.DownNoted (d e : Dev) (n : Nat) : Prop where
  count : e.reg (Reg.PRT_COUNT n 28) = d.plus (Reg.PRT_COUNT n 28) 1
  event : (e.reg (Reg.PRT_EVENT n)).getLsbD 1 = true
  rim : ∀ c p, e.pkt c = some p → p.inRimOf n = false

/-- A later update that leaves the counter and the event alone keeps the note. -/
theorem Dev.DownNoted.keep {d e f : Dev} {n : Nat} {as : List Nat} {gs : List Fld} (h : d.DownNoted e n) (k : e.PortOnly f n as gs) (hn : n < 130)
    (hp : f.pkts = e.pkts) (hc : Reg.PRT_COUNT 0 28 ∉ as) (he : (e.reg (Reg.PRT_EVENT n)).getLsbD 1 = true → (f.reg (Reg.PRT_EVENT n)).getLsbD 1 = true) :
    d.DownNoted f n where
  count := (k.reg_count hn (by decide) hc).trans h.count
  event := he h.event
  rim c p hq := h.rim c p (by rwa [Dev.pkt, ← hp])

theorem Dev.portUp_eq (d : Dev) {n : Nat} (hn : n < 130) : d.portUp n = (d.fld (Reg.PRT_STATUS n) F.PRT_STATUS_LINK != 0) := if_pos hn

theorem Dev.link_of_down (d : Dev) {n : Nat} (hn : n < 130) (h : d.portUp n = false) : d.fld (Reg.PRT_STATUS n) F.PRT_STATUS_LINK = 0 := by
  simpa [d.portUp_eq hn] using h

/-- The port's link reads 0; where it was up, that was noted. Only its event 1 may have been raised. -/
structure Dev.CutDown (d e : Dev) (n : Nat) : Prop where
  only : d.PortOnly e n downRegs [F.PRT_STATUS_LINK]
  ports : e.ports = d.ports
  link : e.fld (Reg.PRT_STATUS n) F.PRT_STATUS_LINK = 0
  noted : d.portUp n = true → d.DownNoted e n
  event : ∀ b, b ≠ 1 → (e.reg (Reg.PRT_EVENT n)).getLsbD b = (d.reg (Reg.PRT_EVENT n)).getLsbD b

/-- Frames in transmission are cut off and gated queues flushed: no frame of the port's rim is left. -/
theorem Dev.abortTx_flushPort (d : Dev) {n : Nat} (f : Rec → Bool) (hn : n < 130) :
    let e := (d.abortTx n).flushPort n 22 f
    d.PortOnly e n [Reg.PRT_COUNT 0 13, Reg.PRT_COUNT 0 22] [] ∧ e.ports = d.ports ∧ ∀ c p, e.pkt c = some p → p.inRimOf n = false := by
  have habort := d.abortTx_emptied hn
  refine ⟨(habort.only.mono (by simp) (by simp)).trans (Dev.flushPort_portOnly _ n f [] hn (by decide) (by simp)), ?_, fun c p hp => ?_⟩
  · rw [Dev.flushPort_ports, habort.ports]
  · rw [Dev.pkt, Dev.flushPort_pkts] at hp
    exact d.abortTx_rim hn hp

theorem Dev.cutOff_down (d : Dev) (n : Nat) (h : d.portUp n = false) : d.cutOff n = d := if_pos (by simp [h])

/-- A port that is up: its link reads 0 and that is noted, then its frames are cut off and its gated queues flushed. -/
theorem Dev.cutOff_up (d : Dev) (n : Nat) (h : d.portUp n = true) : ∃ f, d.cutOff n =
    ((((d.setFld (Reg.PRT_STATUS n) F.PRT_STATUS_LINK 0).count (Reg.PRT_COUNT n 28) 1).raise (64 + n) 1).abortTx n).flushPort n 22 f :=
  ⟨_, if_neg (by simp [h])⟩

theorem Dev.cutOff_cutDown (d : Dev) {n : Nat} (hn : n < 130) : d.CutDown (d.cutOff n) n := by
  by_cases hup : d.portUp n = true
  · obtain ⟨f, hf⟩ := d.cutOff_up n hup
    obtain ⟨x, hx⟩ : ∃ x, d.setFld (Reg.PRT_STATUS n) F.PRT_STATUS_LINK 0 = x := ⟨_, rfl⟩
    obtain ⟨y, hy⟩ : ∃ y, (x.count (Reg.PRT_COUNT n 28) 1).raise (64 + n) 1 = y := ⟨_, rfl⟩
    have hset : d.PortOnly x n [Reg.PRT_STATUS 0] [F.PRT_STATUS_LINK] := hx ▸ d.setStatus_portOnly n 0 (by simp) (by simp)
    have hnote : x.Noted y n 28 1 := hy ▸ x.count_raise_noted hn (by decide) (by decide)
    obtain ⟨hrest, hports, hrim⟩ := y.abortTx_flushPort f hn
    have hxe := (hnote.only.mono (bs := downRegs) (hs := []) (by simp [downRegs]) (by simp)).trans (hrest.mono (by simp [downRegs]) (by simp))
    have hevent : ∀ b, ((((y.abortTx n).flushPort n 22 f).reg (Reg.PRT_EVENT n)).getLsbD b = (decide (b = 1) || (d.reg (Reg.PRT_EVENT n)).getLsbD b)) :=
      fun b => by rw [hrest.reg_event hn (by decide), hnote.event, hset.reg_event hn (by decide)]
    have hcount := (hrest.reg_count hn (by decide) (by decide)).trans (hnote.count.trans (hset.plus_count hn (by decide) (by decide) 1))
    rw [hf, hx, hy]
    refine ⟨?_, ?_, ?_, fun _ => ⟨hcount, ?_, hrim⟩, fun b hb => ?_⟩
    · exact (hset.mono (by simp [downRegs]) (by simp)).trans (hxe.mono (by simp) (by simp))
    · rw [hports, hnote.ports, ← hx]
      rfl
    · rw [hxe.status _ rfl, ← hx]
      exact Dev.fld_setFld_same _ _ _ (by decide)
    · simp [hevent]
    · simp [hevent, hb]
  · have hdown := Bool.eq_false_iff.mpr hup
    rw [d.cutOff_down n hdown]
    exact ⟨.refl _ _ _ _, rfl, d.link_of_down hn hdown, fun h => absurd h hup, fun _ _ => rfl⟩

/-- The queues of the port are held until the hold time is over; a hold time of 0 flushes them at once (R129). -/
structure Dev.Held (d e : Dev) (n : Nat) : Prop where
  starts : d.fld (Reg.PRT_HOLD n) F.PRT_HOLD_HOLD ≠ 0 →
    (e.port n).holdEnd = some (d.free + 1000 * d.fld (Reg.PRT_HOLD n) F.PRT_HOLD_HOLD) ∧ (e.port n).discard = false
  ends : d.fld (Reg.PRT_HOLD n) F.PRT_HOLD_HOLD = 0 → (e.port n).discard = true ∧ (e.reg (Reg.PRT_EVENT n)).getLsbD 4 = true

/-- The port is down: its link reads 0; where it was up, that was noted and its queues are held. -/
structure Dev.WentDown (d e : Dev) (n : Nat) : Prop where
  only : d.PortOnly e n downRegs [F.PRT_STATUS_LINK]
  link : e.fld (Reg.PRT_STATUS n) F.PRT_STATUS_LINK = 0
  noted : d.portUp n = true → d.DownNoted e n
  held : d.portUp n = true → d.Held e n

/-- The hold timer has run out (R129): the queues are flushed and the event is raised. -/
theorem Dev.holdOut_flushed (d : Dev) {n : Nat} (hn : n < 130) :
    d.PortOnly (d.holdOut n) n [Reg.PRT_COUNT 0 23, Reg.PRT_EVENT 0] [] ∧ (d.holdOut n).port n = { d.port n with holdEnd := none, discard := true } ∧
      (∀ r ∈ (d.holdOut n).recs, r.port ≠ n) ∧ (d.holdOut n).pkts = d.pkts ∧
      ∀ b, ((d.holdOut n).reg (Reg.PRT_EVENT n)).getLsbD b = (decide (b = 4) || (d.reg (Reg.PRT_EVENT n)).getLsbD b) := by
  obtain ⟨honly, hport, hrecs, hpkts⟩ := d.flushAll_flushed hn
  unfold Dev.holdOut
  refine ⟨(honly.mono (by simp) (by simp)).trans (Dev.raise_portOnly _ 4 [] hn (by simp)), ?_, ?_, ?_, fun b => ?_⟩
  · rw [Dev.port_raise, hport]
  · rw [Dev.raise_messageOnly]
    exact hrecs
  · rw [Dev.raise_pkts, hpkts]
  · rw [Dev.raise_port_bit _ hn (by decide), honly.reg_event hn (by decide)]

theorem Dev.goDown_wentDown (d : Dev) {n : Nat} (hn : n < 130) : d.WentDown (d.goDown n) n := by
  obtain ⟨honly, hports, hlink, hnoted, -⟩ := d.cutOff_cutDown hn
  have hhold : (d.cutOff n).fld (Reg.PRT_HOLD n) F.PRT_HOLD_HOLD = d.fld (Reg.PRT_HOLD n) F.PRT_HOLD_HOLD :=
    Dev.fld_of_reg (honly.reg hn (a := Reg.PRT_HOLD 0) (by decide)) _
  unfold Dev.goDown
  dsimp only
  rw [hhold, honly.free]
  split
  next hdown =>
    replace hdown : d.portUp n = false := by simpa using hdown
    exact ⟨.refl _ _ _ _, d.link_of_down hn hdown, fun h => absurd h (by simp [hdown]), fun h => absurd h (by simp [hdown])⟩
  next hup =>
    replace hup : d.portUp n = true := by simpa using hup
    split
    next hzero =>
      obtain ⟨oonly, oport, -, opkts, oevent⟩ := (d.cutOff n).holdOut_flushed hn
      refine ⟨honly.trans (oonly.mono (by simp [downRegs]) (by simp)), (oonly.status _ rfl).trans hlink, fun h => ?_,
        fun _ => ⟨fun h => absurd hzero h, fun _ => ?_⟩⟩
      · exact (hnoted h).keep oonly hn opkts (by decide) fun hb => by simp [oevent, hb]
      · exact ⟨by rw [oport], by simp [oevent]⟩
    next hhold =>
      refine ⟨honly.trans (Dev.setPort_portOnly _ _ _ _ _), hlink, fun h => ?_, fun _ => ⟨fun _ => ?_, fun h => absurd h hhold⟩⟩
      · obtain ⟨hc, he, hr⟩ := hnoted h
        exact ⟨hc, he, hr⟩
      · rw [Dev.port_setPort_same]
        exact ⟨rfl, rfl⟩

/-- A later update of the port that leaves the hold alone, and raises events at most, leaves it held. -/
theorem Dev.Held.keep {d e f : Dev} {n : Nat} (h : d.Held e n) (hh : (f.port n).holdEnd = (e.port n).holdEnd) (hd : (f.port n).discard = (e.port n).discard)
    (he : f.reg (Reg.PRT_EVENT n) = e.reg (Reg.PRT_EVENT n)) : d.Held f n where
  starts hz := by
    rw [hh, hd]
    exact h.starts hz
  ends hz := by
    rw [hd, he]
    exact h.ends hz

/-! ### A port stops (R111, R130) -/

/-- The port has stopped: it is in ADMIN_DOWN, its link reads 0, and its queues are flushed without HOLD_EXPIRED. -/
structure Dev.Stopped (d e : Dev) (n : Nat) : Prop where
  only : d.PortOnly e n downRegs [F.PRT_STATUS_LINK, F.PRT_STATUS_RF, F.PRT_STATUS_LF, F.PRT_STATUS_STATE]
  state : e.portState n = stAdminDown
  link : e.fld (Reg.PRT_STATUS n) F.PRT_STATUS_LINK = 0
  discard : (e.port n).discard = true
  recs : ∀ r ∈ e.recs, r.port ≠ n
  event : ∀ b, b ≠ 1 → (e.reg (Reg.PRT_EVENT n)).getLsbD b = (d.reg (Reg.PRT_EVENT n)).getLsbD b

theorem Dev.stopPort_stopped (d : Dev) {n : Nat} (hn : n < 130) : d.Stopped (d.stopPort n) n := by
  obtain ⟨conly, -, clink, -, cevent⟩ := d.cutOff_cutDown hn
  obtain ⟨x, hx⟩ : ∃ x, (((((d.cutOff n).setFld (Reg.PRT_STATUS n) F.PRT_STATUS_RF 0).setFld (Reg.PRT_STATUS n) F.PRT_STATUS_LF 0).setRate n 0).dropLanes
    n true).rclkFollow true = x := ⟨_, rfl⟩
  have hlanes : ∀ y : Dev, y.LanesOnly (((y.setRate n 0).dropLanes n true).rclkFollow true) := fun y =>
    ((y.setRate_lanesOnly n 0).trans (Dev.dropLanes_lanesOnly _ n true)).trans (Dev.rclkFollow_lanesOnly _ true)
  have hcx : (d.cutOff n).PortOnly x n [Reg.PRT_STATUS 0] [F.PRT_STATUS_RF, F.PRT_STATUS_LF, F.PRT_STATUS_STATE] :=
    hx ▸ ((Dev.setStatus_portOnly _ n 0 (by simp) (by simp)).trans (Dev.setStatus_portOnly _ n 0 (by simp) (by simp))).trans ((hlanes _).portOnly hn _ _)
  obtain ⟨fonly, fport, frecs, -⟩ := (x.setPortState n stAdminDown).flushAll_flushed hn
  have hce := (hcx.trans (x.setPortState_portOnly n stAdminDown (by simp) (by simp))).mono (bs := [Reg.PRT_STATUS 0, Reg.PRT_COUNT 0 23]) (by simp)
    (List.Subset.refl _) |>.trans (fonly.mono (by simp) (by simp))
  have hstop : d.stopPort n = (x.setPortState n stAdminDown).flushAll n := by rw [← hx]; rfl
  rw [hstop]
  refine ⟨(conly.mono (by simp) (by simp)).trans (hce.mono (by simp [downRegs]) (by simp)), ?_, ?_, ?_, frecs, fun b hb => ?_⟩
  · exact (fonly.status F.PRT_STATUS_STATE rfl).trans (x.portState_setPortState n (by decide))
  · exact (hce.status _ (by decide)).trans clink
  · rw [fport]
  · rw [hce.reg_event hn (by decide)]
    exact cevent b hb

end Sys2Proof.Machine
end

section
/-! PROOFS. The statement of acquisition (R111, R114 to R118, R130). -/

namespace Sys2Proof.Machine

/-! ### The commands of a port -/

theorem exec_onPort {c : Instr} {n : Nat} {f : Dev} {s : State} (hc : exec c s = .next (s.withDev (s.dev.onPort n f))) (hu : s.dev.up = true) (hn : n < 130) :
    exec c s = .next (s.withDev f) := by
  rw [hc, Dev.onPort, if_pos (by simp [hu, hn])]

theorem Dev.onPortCtrl_open (d : Dev) {n : Nat} (v : Word) (f : Dev → Dev) (hu : d.up = true) (hn : n < 130) (ho : d.accessOpen (Reg.PRT_CTRL n) = true) :
    d.onPortCtrl n v f = f d := (if_pos hn).trans (d.access_open _ _ _ hu ho)

theorem exec_portAdminUp {n : Nat} {s : State} (hu : s.dev.up = true) (hn : n < 130) (ho : s.dev.accessOpen (Reg.PRT_CTRL n) = true) :
    exec (.portAdminUp n) s = .next (s.withDev (s.dev.adminUp n)) :=
  congrArg (Host.Outcome.next <| s.withDev ·) (s.dev.onPortCtrl_open _ _ hu hn ho)

theorem exec_portAdminDown {n : Nat} {s : State} (hu : s.dev.up = true) (hn : n < 130) (ho : s.dev.accessOpen (Reg.PRT_CTRL n) = true) :
    exec (.portAdminDown n) s = .next (s.withDev (s.dev.adminDown n)) :=
  congrArg (Host.Outcome.next <| s.withDev ·) (s.dev.onPortCtrl_open _ _ hu hn ho)

theorem exec_portRestart {n : Nat} {s : State} (hu : s.dev.up = true) (hn : n < 130) (ho : s.dev.accessOpen (Reg.PRT_CTRL n) = true) :
    exec (.portRestart n) s = .next (s.withDev (s.dev.portRestart n)) :=
  congrArg (Host.Outcome.next <| s.withDev ·) (s.dev.onPortCtrl_open _ _ hu hn ho)

/-! ### Acquisition starts (R111, R114, R118) -/

/-- A start of acquisition after updates that leave PRT_MODE alone. -/
theorem Dev.Acquired.acquiredAs {d e f : Dev} {n : Nat} {as : List Nat} {gs : List Fld} (h : e.Acquired f n) (k : d.PortOnly e n as gs) (hn : n < 130)
    (hm : Reg.PRT_MODE 0 ∉ as) : d.acquiredAs f n := by
  have hmode : e.reg (Reg.PRT_MODE n) = d.reg (Reg.PRT_MODE n) := k.reg hn (a := Reg.PRT_MODE 0) ⟨by decide, hm⟩
  refine ⟨h.state.trans (congrArg (acqState · n) hmode), h.rank, h.mode.trans hmode, fun i hi hn' => ⟨?_, ?_⟩⟩
  · exact (h.only.portState_other hn' hi).trans (k.portState_other hn' hi)
  · exact (h.only.port i hi).trans (k.port i hi)

theorem Dev.acquire_acquiredAs (d : Dev) {n : Nat} (hn : n < 130) : d.acquiredAs (d.acquire n) n :=
  (d.acquire_acquired hn).acquiredAs (.refl d n [] []) hn (by simp)

/-- A bound port in ADMIN_DOWN does not become unbound as it starts. -/
theorem Dev.not_unbinds_of_bound {d : Dev} {n : Nat} (hn : n < 130) (hst : d.portState n = stAdminDown) (hb : d.bound n = true) : ¬ d.unbinds n := by
  rintro ⟨h128, han, hm⟩
  simp [Dev.bound, Dev.modeOf, hst, hn, Nat.not_lt.mpr h128, han, hm] at hb

/-- ADMIN_UP starts a bound port. -/
theorem Dev.adminUp_starts (d : Dev) {n : Nat} (hn : n < 130) (hst : d.portState n = stAdminDown) (hb : d.bound n = true) (hf : (d.port n).forcedDown = false) :
    d.acquiredAs (d.adminUp n) n ∧ (d.adminUp n).bit (Reg.PRT_CTRL n) F.PRT_CTRL_ADMIN_UP = true ∧ (d.adminUp n).queues = d.queues ∧
      (d.adminUp n).pkts = d.pkts := by
  obtain ⟨e, he⟩ : ∃ e, d.setFld (Reg.PRT_CTRL n) F.PRT_CTRL_ADMIN_UP 1 = e := ⟨_, rfl⟩
  have honly : d.PortOnly e n [Reg.PRT_CTRL 0] [] := he ▸ d.setFld_portOnly n (a := Reg.PRT_CTRL 0) _ _ [] (by decide) (by simp)
  have hest : e.portState n = stAdminDown := (honly.status F.PRT_STATUS_STATE rfl).trans hst
  have hmode : e.reg (Reg.PRT_MODE n) = d.reg (Reg.PRT_MODE n) := honly.reg hn (a := Reg.PRT_MODE 0) (by decide)
  have heb : e.bound n = true := by
    rw [← hb]
    unfold Dev.bound Dev.modeOf
    rw [hst, hest, hmode, if_pos rfl, if_pos rfl]
  have hbit : e.fld (Reg.PRT_CTRL n) F.PRT_CTRL_ADMIN_UP = 1 := he ▸ d.fld_setFld_same _ _ (by decide)
  have hstart : d.adminUp n = e.acquire n := by
    unfold Dev.adminUp Dev.startPort
    rw [he, if_pos]
    have hport : (e.port n).forcedDown = false := he ▸ hf
    simp [hest, heb, hport, Dev.bit, hbit]
  obtain h := e.acquire_acquired hn
  obtain ⟨-, -, hqueues⟩ := h.kept (Dev.not_unbinds_of_bound hn hest heb)
  rw [hstart]
  have hctrl : (e.acquire n).reg (Reg.PRT_CTRL n) = e.reg (Reg.PRT_CTRL n) := h.only.reg hn (a := Reg.PRT_CTRL 0) (by decide)
  exact ⟨h.acquiredAs honly hn (by decide), Dev.bit_of_fld ((Dev.fld_of_reg hctrl _).trans hbit), hqueues.trans (he ▸ rfl), h.pkts.trans (he ▸ rfl)⟩

/-- RESTART in any other state than ADMIN_DOWN: the port goes down and starts anew. -/
theorem Dev.leaveUp_acquire (d : Dev) {n : Nat} (hn : n < 130) :
    d.acquiredAs ((d.leaveUp n).acquire n) n ∧ ((d.leaveUp n).acquire n).fld (Reg.PRT_STATUS n) F.PRT_STATUS_LINK = 0 := by
  have hdown := d.goDown_wentDown hn
  have hrf := (d.goDown n).setStatus_portOnly n (g := F.PRT_STATUS_RF) 0 (as := downRegs) (gs := [F.PRT_STATUS_RF]) (by simp [downRegs]) (by simp)
  have h := (d.leaveUp n).acquire_acquired hn
  refine ⟨h.acquiredAs ((hdown.only.mono (List.Subset.refl _) (hs := [F.PRT_STATUS_LINK, F.PRT_STATUS_RF]) (by simp)).trans
    (hrf.mono (List.Subset.refl _) (by simp))) hn (by decide), ?_⟩
  exact (h.only.status _ (by decide)).trans ((hrf.status _ (by decide)).trans hdown.link)

/-- Acquisition that failed: counted, its event raised, and begun anew. -/
theorem Dev.acquire_failed {d x : Dev} {n i b : Nat} (hx : d.PortOnly x n [Reg.PRT_AN_LP 0] []) (hn : n < 130) (hi : 26 ≤ i ∧ i < 256) (hb : b < 64) :
    let f := ((x.count (Reg.PRT_COUNT n i) 1).raise (64 + n) b).acquire n
    d.acquiredAs f n ∧ f.reg (Reg.PRT_COUNT n i) = d.plus (Reg.PRT_COUNT n i) 1 ∧ (f.reg (Reg.PRT_EVENT n)).getLsbD b = true := by
  intro f
  have hnote := x.count_raise_noted hn hi.2 hb
  have h := ((x.count (Reg.PRT_COUNT n i) 1).raise (64 + n) b).acquire_acquired hn
  have hde := (hx.mono (bs := [Reg.PRT_AN_LP 0, Reg.PRT_EVENT 0, Reg.PRT_COUNT 0 i]) (hs := []) (by simp) (by simp)).trans
    (hnote.only.mono (by simp) (by simp))
  have hcount : ∀ as : List Nat, (∀ a ∈ as, a < Reg.PRT_COUNT 0 26) → Reg.PRT_COUNT 0 i ∉ as := fun as has hm => by
    have hlt := has _ hm
    unfold Reg.PRT_COUNT at hlt
    omega
  refine ⟨h.acquiredAs hde hn ?_, ?_, ?_⟩
  · simp only [Reg.PRT_MODE, Reg.PRT_AN_LP, Reg.PRT_EVENT, Reg.PRT_COUNT, List.mem_cons, List.not_mem_nil, or_false]
    omega
  · rw [h.only.reg_count hn hi.2 (hcount _ (by decide)), hnote.count]
    exact hx.plus_count hn hi.2 (hcount _ (by decide)) 1
  · rw [h.only.reg_event hn (by decide), hnote.event]
    simp

/-! ### Base pages (R114, R116) -/

/-- The partner's base page as PRT_AN_LP holds it. -/
def lpPage (lp : Word) : Word :=
  F.PRT_AN_LP_VALID.put (F.PRT_AN_LP_FEC_ABLE.put (F.PRT_AN_LP_FEC_REQ.put (F.PRT_AN_LP_ABIL.put 0 (F.PRT_AN_LP_ABIL.of lp)) (F.PRT_AN_LP_FEC_REQ.of lp))
    (F.PRT_AN_LP_FEC_ABLE.of lp)) 1

theorem lpPage_abil (lp : Word) : F.PRT_AN_LP_ABIL.of (lpPage lp) = F.PRT_AN_LP_ABIL.of lp := by
  unfold lpPage
  rw [Fld.of_put_apart _ _ (by decide), Fld.of_put_apart _ _ (by decide), Fld.of_put_apart _ _ (by decide), Fld.of_put_same _ _ _ (by decide)]
  exact Nat.mod_eq_of_lt (Fld.of_lt _ _)

theorem lpPage_fecReq (lp : Word) : F.PRT_AN_LP_FEC_REQ.of (lpPage lp) = F.PRT_AN_LP_FEC_REQ.of lp := by
  unfold lpPage
  rw [Fld.of_put_apart _ _ (by decide), Fld.of_put_apart _ _ (by decide), Fld.of_put_same _ _ _ (by decide)]
  exact Nat.mod_eq_of_lt (Fld.of_lt _ _)

theorem lpPage_fecAble (lp : Word) : F.PRT_AN_LP_FEC_ABLE.of (lpPage lp) = F.PRT_AN_LP_FEC_ABLE.of lp := by
  unfold lpPage
  rw [Fld.of_put_apart _ _ (by decide), Fld.of_put_same _ _ _ (by decide)]
  exact Nat.mod_eq_of_lt (Fld.of_lt _ _)

theorem lpPage_valid (lp : Word) : F.PRT_AN_LP_VALID.of (lpPage lp) = 1 := Fld.of_put_same _ _ _ (by decide)

/-- What is resolved follows from the page's abilities and FEC bits alone. -/
theorem resolve_lpPage (m adv lp : Word) : resolve m adv (lpPage lp) = resolve m adv lp := by
  unfold resolve
  rw [lpPage_abil, lpPage_fecReq, lpPage_fecAble]

theorem resolve_bounds {m adv lp : Word} {r k f : Nat} (h : resolve m adv lp = some (r, k, f)) : r < 16 ∧ k < 16 ∧ f < 4 := by
  obtain ⟨row, hrow, -, rfl, rfl, rfl, -⟩ := resolve_lowest h
  have hall : ∀ row ∈ ranks, row.1 < 16 ∧ row.2.2.1 < 16 ∧ ∀ b, fecOfRank b row < 4 := by decide
  obtain ⟨hr, hk, hf⟩ := hall row hrow
  exact ⟨hr, hk, hf _⟩

theorem Dev.setLp_portOnly (d : Dev) (n : Nat) (v : Word) : d.PortOnly (d.setReg (Reg.PRT_AN_LP n) v) n [Reg.PRT_AN_LP 0] [] :=
  d.setReg_portOnly n (a := Reg.PRT_AN_LP 0) v [] (by decide) (by simp)

theorem Dev.basePage_mgmt (d : Dev) {n : Nat} (lp : Word) (h : d.portState n = stAn) (hn : 128 ≤ n) :
    d.basePage n lp = ((d.setReg (Reg.PRT_AN_LP n) (lpPage lp)).setResult n 0 1 0).toAlign n := by
  unfold Dev.basePage
  rw [if_neg (by simp [h])]
  exact if_pos hn

theorem Dev.basePage_none (d : Dev) {n : Nat} (lp : Word) (h : d.portState n = stAn) (hn : n < 128) (hr : resolve (d.port n).mode (d.port n).adv lp = none) :
    d.basePage n lp = (((d.setReg (Reg.PRT_AN_LP n) (lpPage lp)).count (Reg.PRT_COUNT n 26) 1).raise (64 + n) 2).acquire n := by
  rw [← resolve_lpPage] at hr
  unfold lpPage at hr ⊢
  unfold Dev.basePage
  rw [if_neg (by simp [h])]
  refine (if_neg (Nat.not_le.mpr hn)).trans ?_
  simp only [Dev.port_setReg, hr]

theorem Dev.basePage_some (d : Dev) {n r k f : Nat} (lp : Word) (h : d.portState n = stAn) (hn : n < 128)
    (hr : resolve (d.port n).mode (d.port n).adv lp = some (r, k, f)) {x : Dev} (hx : (d.setReg (Reg.PRT_AN_LP n) (lpPage lp)).setResult n r k f = x) :
    d.basePage n lp = if r = 10 then x.toAlign n else x.setPortState n stTrain := by
  rw [← resolve_lpPage] at hr
  subst hx
  unfold lpPage at hr ⊢
  unfold Dev.basePage
  rw [if_neg (by simp [h])]
  refine (if_neg (Nat.not_le.mpr hn)).trans ?_
  simp only [Dev.port_setReg, hr]

/-- What the port's status and its PRT_AN_LP show once a mode is resolved, and the state that follows. -/
theorem Dev.basePage_resolved (d : Dev) {n r k f : Nat} (lp : Word) (h : d.portState n = stAn) (hn : n < 128)
    (hr : resolve (d.port n).mode (d.port n).adv lp = some (r, k, f)) :
    let e := d.basePage n lp
    e.portState n = (if r = 10 then stAlign else stTrain) ∧ e.fld (Reg.PRT_STATUS n) F.PRT_STATUS_RES_MODE = k ∧
      e.fld (Reg.PRT_STATUS n) F.PRT_STATUS_RES_FEC = f ∧ e.fld (Reg.PRT_STATUS n) F.PRT_STATUS_RES_RANK = r ∧
      e.reg (Reg.PRT_AN_LP n) = lpPage lp := by
  intro e
  have hn' : n < 130 := by omega
  obtain ⟨x, hx⟩ : ∃ x, (d.setReg (Reg.PRT_AN_LP n) (lpPage lp)).setResult n r k f = x := ⟨_, rfl⟩
  have he : e = if r = 10 then x.toAlign n else x.setPortState n stTrain := d.basePage_some lp h hn hr hx
  have hstate : e.portState n = if r = 10 then stAlign else stTrain := by
    rw [he]
    split
    · exact x.portState_toAlign n
    · exact x.portState_setPortState n (by decide)
  have honly : x.PortOnly e n [Reg.PRT_STATUS 0, Reg.PRT_MM_STATUS 0] [F.PRT_STATUS_STATE] := by
    rw [he]
    split
    · exact x.toAlign_portOnly n
    · exact x.setPortState_portOnly n _ (by simp) (by simp)
  obtain ⟨hr16, hk16, hf4⟩ := resolve_bounds hr
  obtain ⟨hmode, hfec, hrank⟩ := (d.setReg (Reg.PRT_AN_LP n) (lpPage lp)).setResult_fld hn' hr16 hk16 hf4
  rw [hx] at hmode hfec hrank
  refine ⟨hstate, (honly.status _ (by decide)).trans hmode, (honly.status _ (by decide)).trans hfec, (honly.status _ (by decide)).trans hrank, ?_⟩
  refine (honly.reg hn' (a := Reg.PRT_AN_LP 0) (by decide)).trans ?_
  rw [← hx]
  exact ((Dev.setResult_portOnly _ r k f hn').reg hn' (a := Reg.PRT_AN_LP 0) (by decide)).trans (d.reg_setReg_same _ _)

/-! ### The statement -/

/-- Settles O42: the port's own updates, each with the rest of the device it leaves. That AN_EN 0 leads to ALIGN after a failed training or
negotiation is the model's choice (log entry 23). -/
theorem portAcquisition : Obligations.PortAcquisition := by
  unfold Obligations.PortAcquisition
  intro n lp s hu hn st link anew failed
  have hon : ∀ {c : Instr} {f : Dev}, exec c s = .next (s.withDev (s.dev.onPort n f)) → exec c s = .next (s.withDev f) := fun hc => exec_onPort hc hu hn
  have hto : ∀ {c : Instr} {f g : Dev}, exec c s = .next (s.withDev f) → f = g → exec c s = .next (s.withDev g) := fun hc h => h ▸ hc
  have hstays : ∀ {c : Instr} {f : Dev}, exec c s = .next (s.withDev (s.dev.onPort n f)) → f = s.dev → exec c s = .next s :=
    fun hc hf => hto (hon hc) hf
  have hfailed : ∀ {c : Instr} {x : Dev} {i b : Nat}, s.dev.PortOnly x n [Reg.PRT_AN_LP 0] [] → 26 ≤ i ∧ i < 256 → b < 64 →
      exec c s = .next (s.withDev (((x.count (Reg.PRT_COUNT n i) 1).raise (64 + n) b).acquire n)) → failed c i b := fun hx hi hb hc =>
    ⟨_, hc, Dev.acquire_failed hx hn hi hb⟩
  refine ⟨fun ho => ⟨fun hst hb hf => ?_, fun hup => ?_, fun hup => ?_, fun hst => ?_, fun hst => ?_⟩,
    fun hst hn' => ⟨fun r k f hr => ?_, fun hr => ?_⟩, fun hst hn' => ?_, fun hst => ⟨?_, ?_⟩, fun hst ht => ?_,
    fun hst ht => ?_, fun hst => ?_, fun hst => ⟨?_, ?_⟩, fun hst => ?_⟩
  · exact ⟨_, exec_portAdminUp hu hn ho, s.dev.adminUp_starts hn hst hb hf⟩
  · have hdown : s.dev.adminDown n = (s.dev.setFld (Reg.PRT_CTRL n) F.PRT_CTRL_ADMIN_UP 0).stopPort n := if_pos hup
    have hctrl := s.dev.setFld_portOnly n (a := Reg.PRT_CTRL 0) F.PRT_CTRL_ADMIN_UP 0 (as := [Reg.PRT_CTRL 0]) [] (by decide) (by simp)
    obtain ⟨honly, hstate, hlink, hdiscard, hrecs, hevent⟩ := (s.dev.setFld (Reg.PRT_CTRL n) F.PRT_CTRL_ADMIN_UP 0).stopPort_stopped hn
    refine ⟨_, hto (exec_portAdminDown hu hn ho) hdown, hstate, hlink, hdiscard, ?_, hrecs, ?_, fun k hk hk' => ?_⟩
    · have hreg := honly.reg hn (a := Reg.PRT_CTRL 0) (by decide)
      exact Dev.bit_of_fld ((Dev.fld_of_reg hreg _).trans (s.dev.fld_setFld_same _ _ (by decide)))
    · exact (hevent 4 (by decide)).trans (congrArg (BitVec.getLsbD · 4) (hctrl.reg_event hn (by decide)))
    · exact (honly.portState_other hk' hk).trans (hctrl.portState_other hk' hk)
  · exact hto (exec_portAdminDown hu hn ho) (if_neg (by simp [hup]))
  · have hrestart : s.dev.portRestart n = (s.dev.leaveUp n).acquire n := if_neg hst
    exact ⟨_, hto (exec_portRestart hu hn ho) hrestart, s.dev.leaveUp_acquire hn⟩
  · exact hto (exec_portRestart hu hn ho) (if_pos hst)
  · obtain ⟨hstate, hmode, hfec, hrank, hlp⟩ := s.dev.basePage_resolved lp hst hn' hr
    refine ⟨_, hon (c := .basePageExchange n lp) rfl, hstate, hmode, hfec, hrank, ?_, Dev.bit_of_fld (n := 1) ?_⟩
    · exact (congrArg _ hlp).trans (lpPage_abil lp)
    · exact (congrArg _ hlp).trans (lpPage_valid lp)
  · exact hfailed (s.dev.setLp_portOnly n (lpPage lp)) (by decide) (by decide) (hto (hon rfl) (s.dev.basePage_none lp hst hn' hr))
  · have hpage := s.dev.basePage_mgmt lp hst hn'
    refine ⟨_, hto (hon rfl) hpage, Dev.portState_toAlign _ n, ?_⟩
    refine ((Dev.toAlign_portOnly _ n).status _ (by decide)).trans ?_
    exact (Dev.setResult_fld _ hn (by decide) (by decide) (by decide)).1
  · have hfail : s.dev.trainFail n = ((s.dev.count (Reg.PRT_COUNT n 27) 1).raise (64 + n) 3).acquire n := if_pos hst
    exact hfailed (.refl _ _ _ _) (by decide) (by decide) (hto (hon rfl) hfail)
  · refine ⟨s.withDev (s.dev.toAlign n), hto (hon rfl) (if_pos hst), s.dev.portState_toAlign n, s.dev.toAlign_regsKept n⟩
  · have htimeout : s.dev.alignTimeout n = s.dev.acquire n := if_pos (by simp [show s.dev.portState n = stAlign from hst, Dev.passed, ht])
    exact ⟨_, hto (hon rfl) htimeout, s.dev.acquire_acquiredAs hn⟩
  · exact hstays rfl (if_neg (by simp [Dev.passed, ht]))
  · exact hstays rfl (if_pos hst)
  · exact hstays rfl (if_neg hst)
  · exact hstays rfl (if_neg hst)
  · exact hstays rfl (if_neg (by simp [show s.dev.portState n ≠ stAlign from hst]))

end Sys2Proof.Machine
end

section
/-! PROOFS. Recovered clocks (R126, R127). -/

namespace Sys2Proof.Machine

/-! ### Lanes as sources (R126) -/

theorem Dev.laneLocked_congr {d e : Dev} (hr : ∀ l, l < 96 → e.reg (Reg.PRT_LANE_STATUS l) = d.reg (Reg.PRT_LANE_STATUS l))
    (hp : e.pins.mgmtLock = d.pins.mgmtLock) (l : Nat) : e.laneLocked l = d.laneLocked l := by
  unfold Dev.laneLocked Dev.bit
  split
  next hl => rw [Dev.fld_of_reg (hr l hl), Dev.fld_of_reg (hr l hl)]
  next => rw [hp]

/-- A source lane that loses lock has none. -/
theorem Dev.laneLocked_setLane_lost (d : Dev) (l : Nat) (signal : Bool) : (d.setLane l signal false).laneLocked l = false := by
  unfold Dev.setLane Dev.laneLocked
  by_cases h96 : l < 96
  · have hlock := Dev.fld_setFld_same (d.setFld (Reg.PRT_LANE_STATUS l) F.PRT_LANE_STATUS_SIGNAL signal.toNat) (Reg.PRT_LANE_STATUS l)
      (f := F.PRT_LANE_STATUS_CDR_LOCK) false.toNat (by decide)
    rw [if_pos h96, if_pos h96, Dev.bit_of_fld hlock]
    exact Bool.and_false _
  · rw [if_neg h96, if_neg h96]
    by_cases h98 : l < 98
    · rw [if_pos h98, if_pos h98]
      simp only [Bool.and_false, List.getElem?_set_self']
      cases d.pins.mgmtLock[l - 96]? <;> rfl
    · rw [if_neg h98]

/-- A source lane with signal and lock has both. -/
theorem Dev.laneLocked_setLane (d : Dev) {l : Nat} (hl : l < 98) (hm : d.pins.mgmtLock.length = 2) : (d.setLane l true true).laneLocked l = true := by
  unfold Dev.setLane Dev.laneLocked
  by_cases h96 : l < 96
  · have hlock := Dev.fld_setFld_same (d.setFld (Reg.PRT_LANE_STATUS l) F.PRT_LANE_STATUS_SIGNAL true.toNat) (Reg.PRT_LANE_STATUS l)
      (f := F.PRT_LANE_STATUS_CDR_LOCK) true.toNat (by decide)
    have hsignal := (Dev.fld_setFld_other (d.setFld (Reg.PRT_LANE_STATUS l) F.PRT_LANE_STATUS_SIGNAL true.toNat) (a := Reg.PRT_LANE_STATUS l)
      (f := F.PRT_LANE_STATUS_CDR_LOCK) (g := F.PRT_LANE_STATUS_SIGNAL) true.toNat (.inr (by decide))).trans (d.fld_setFld_same _ _ (by decide))
    rw [if_pos h96, if_pos h96, Dev.bit_of_fld hlock, Dev.bit_of_fld hsignal]
    rfl
  · rw [if_neg h96, if_neg h96, if_pos hl, if_pos hl]
    simp [hm, show l - 96 < 2 by omega]

/-- A change of a lane touches no output. -/
theorem Dev.setLane_output (d : Dev) (l : Nat) (signal lock : Bool) :
    (d.setLane l signal lock).pins.rclk = d.pins.rclk ∧ ∀ a, a < Reg.PRT_LANE_STATUS 0 → (d.setLane l signal lock).reg a = d.reg a := by
  unfold Dev.setLane
  split
  · refine ⟨rfl, fun a ha => ?_⟩
    have hne : a ≠ Reg.PRT_LANE_STATUS l := by
      unfold Reg.PRT_LANE_STATUS at ha ⊢
      omega
    rw [Dev.reg_setFld_other _ _ _ _ _ hne, Dev.reg_setFld_other _ _ _ _ _ hne]
  · split <;> exact ⟨rfl, fun _ _ => rfl⟩

/-! ### One output follows its source (R127) -/

/-- Output `j` is as it was, and so are the lanes and the number of outputs; an event of an output that was raised still is. -/
structure Dev.OutputKept (d e : Dev) (j : Nat) : Prop where
  reg : e.reg (Reg.PRT_RCLK j) = d.reg (Reg.PRT_RCLK j)
  out : e.pins.rclk[j]? = d.pins.rclk[j]?
  outs : e.pins.rclk.length = d.pins.rclk.length
  lanes : ∀ l, e.laneLocked l = d.laneLocked l
  event : ∀ b, (d.reg Reg.PRT_RCLK_EVENT).getLsbD b = true → (e.reg Reg.PRT_RCLK_EVENT).getLsbD b = true

theorem Dev.OutputKept.trans {d e f : Dev} {j : Nat} (h : d.OutputKept e j) (k : e.OutputKept f j) : d.OutputKept f j where
  reg := k.reg.trans h.reg
  out := k.out.trans h.out
  outs := k.outs.trans h.outs
  lanes l := (k.lanes l).trans (h.lanes l)
  event b hb := k.event b (h.event b hb)

/-- Output `j` follows its source: SQUELCHED says that the source is lost, and the output runs when it is enabled and not squelched. -/
structure Dev.Followed (ev : Bool) (d e : Dev) (j : Nat) : Prop where
  kept : ∀ f : Fld, f.apart F.PRT_RCLK_SQUELCHED = true → e.fld (Reg.PRT_RCLK j) f = d.fld (Reg.PRT_RCLK j) f
  squelched : e.bit (Reg.PRT_RCLK j) F.PRT_RCLK_SQUELCHED = !d.laneLocked (d.rclkLane j)
  runs : d.pins.rclk.length = 4 → ∃ o, e.pins.rclk[j]? = some o ∧
    o.isSome = (e.bit (Reg.PRT_RCLK j) F.PRT_RCLK_EN && !e.bit (Reg.PRT_RCLK j) F.PRT_RCLK_SQUELCHED)
  lanes : ∀ l, e.laneLocked l = d.laneLocked l
  event : ev = true → d.laneLocked (d.rclkLane j) = false → d.bit (Reg.PRT_RCLK j) F.PRT_RCLK_SQUELCHED = false →
    (e.reg Reg.PRT_RCLK_EVENT).getLsbD j = true

theorem Dev.OutputKept.rclkLane {d e : Dev} {j : Nat} (h : d.OutputKept e j) : e.rclkLane j = d.rclkLane j := Dev.fld_of_reg h.reg _

theorem Dev.Followed.rclkLane {ev : Bool} {d e : Dev} {j : Nat} (h : Dev.Followed ev d e j) : e.rclkLane j = d.rclkLane j := h.kept _ (by decide)

/-- The output written before its event. -/
def Dev.driven (d : Dev) (k : Nat) : Dev :=
  (d.setFld (Reg.PRT_RCLK k) F.PRT_RCLK_SQUELCHED (!d.laneLocked (d.rclkLane k)).toNat).rclkDrive k

theorem Dev.follow_eq (d : Dev) (ev : Bool) (k : Nat) :
    d.follow ev k = if ev && !d.laneLocked (d.rclkLane k) && !d.bit (Reg.PRT_RCLK k) F.PRT_RCLK_SQUELCHED then (d.driven k).raise 13 k else d.driven k := rfl

theorem Dev.raise_rclk_regsKept (d : Dev) (k : Nat) : d.regsKept (d.raise 13 k) (eventRegs Reg.PRT_RCLK_EVENT) := d.raise_regsKept k rfl

theorem Dev.raise_rclk_bit (d : Dev) {k : Nat} (hk : k < 64) (b : Nat) :
    ((d.raise 13 k).reg Reg.PRT_RCLK_EVENT).getLsbD b = (decide (b = k) || (d.reg Reg.PRT_RCLK_EVENT).getLsbD b) :=
  d.raise_getLsbD rfl hk (by decide) (by decide) (by decide) b

theorem Reg.PRT_RCLK_quiet {j : Nat} (hj : j < 4) : Reg.PRT_RCLK j ∉ eventRegs Reg.PRT_RCLK_EVENT := by
  simp only [eventRegs, Reg.PRT_RCLK, Reg.PRT_RCLK_EVENT, Reg.HIF_COUNT, Reg.SYS_MSIX_PBA, List.mem_cons, List.not_mem_nil, or_false]
  omega

theorem Reg.PRT_LANE_STATUS_quiet {l : Nat} (hl : l < 96) : Reg.PRT_LANE_STATUS l ∉ eventRegs Reg.PRT_RCLK_EVENT := by
  simp only [eventRegs, Reg.PRT_LANE_STATUS, Reg.PRT_RCLK_EVENT, Reg.HIF_COUNT, Reg.SYS_MSIX_PBA, List.mem_cons, List.not_mem_nil, or_false]
  omega

theorem Reg.PRT_RCLK_inj (j k : Nat) : Reg.PRT_RCLK j = Reg.PRT_RCLK k ↔ j = k := by
  unfold Reg.PRT_RCLK
  omega

/-- An event of an output leaves the outputs and the lanes alone. -/
theorem Dev.raise_rclk_outputKept (d : Dev) {j : Nat} (hj : j < 4) {k : Nat} (hk : k < 4) : d.OutputKept (d.raise 13 k) j where
  reg := d.raise_rclk_regsKept k _ (Reg.PRT_RCLK_quiet hj)
  out := by rw [d.raise_messageOnly 13 k]
  outs := by rw [d.raise_messageOnly 13 k]
  lanes := Dev.laneLocked_congr (fun _ hl => d.raise_rclk_regsKept k _ (Reg.PRT_LANE_STATUS_quiet hl)) (by rw [d.raise_messageOnly 13 k])
  event b hb := by rw [d.raise_rclk_bit (by omega), hb, Bool.or_true]

theorem Dev.driven_reg_other (d : Dev) {k a : Nat} (h : a ≠ Reg.PRT_RCLK k) : (d.driven k).reg a = d.reg a := d.reg_setFld_other _ _ _ _ h

theorem Dev.driven_lanes (d : Dev) {k : Nat} (hk : k < 4) : ∀ l, (d.driven k).laneLocked l = d.laneLocked l :=
  Dev.laneLocked_congr (fun l _ => d.driven_reg_other (by unfold Reg.PRT_LANE_STATUS Reg.PRT_RCLK; omega)) rfl

/-- Another output that is written leaves output `j` alone. -/
theorem Dev.driven_outputKept (d : Dev) {j k : Nat} (hk : k < 4) (h : j ≠ k) : d.OutputKept (d.driven k) j where
  reg := d.driven_reg_other (by rwa [Ne, Reg.PRT_RCLK_inj])
  out := List.getElem?_set_ne h.symm
  outs := List.length_set
  lanes := d.driven_lanes hk
  event b hb := by rwa [d.driven_reg_other (by unfold Reg.PRT_RCLK_EVENT Reg.PRT_RCLK; omega)]

theorem Dev.driven_squelched (d : Dev) (k : Nat) : (d.driven k).bit (Reg.PRT_RCLK k) F.PRT_RCLK_SQUELCHED = !d.laneLocked (d.rclkLane k) := by
  have hfld : (d.driven k).fld (Reg.PRT_RCLK k) F.PRT_RCLK_SQUELCHED = (!d.laneLocked (d.rclkLane k)).toNat % 2 ^ 1 := d.fld_setFld_same _ _ (by decide)
  rw [Dev.bit_of_fld hfld]
  cases d.laneLocked (d.rclkLane k) <;> rfl

/-- An output that is driven is low exactly when it is squelched or not enabled. -/
theorem Dev.rclkDrive_runs (d : Dev) {k : Nat} (hk : k < d.pins.rclk.length) : ∃ o, (d.rclkDrive k).pins.rclk[k]? = some o ∧
    o.isSome = (d.bit (Reg.PRT_RCLK k) F.PRT_RCLK_EN && !d.bit (Reg.PRT_RCLK k) F.PRT_RCLK_SQUELCHED) := by
  refine ⟨_, List.getElem?_set_self hk, ?_⟩
  split
  next hoff => exact (Bool.not_eq_true' _ ▸ hoff : _ = false).symm
  next hon =>
    split
    next hnow => simpa [hnow] using hon
    next => simpa using hon

theorem Dev.driven_followed (d : Dev) {k : Nat} (hk : k < 4) : Dev.Followed false d (d.driven k) k where
  kept f hf := d.fld_setFld_other _ (.inr hf)
  squelched := d.driven_squelched k
  runs h := Dev.rclkDrive_runs _ (by simpa [h] using hk)
  lanes := d.driven_lanes hk
  event h := absurd h (by decide)

/-- What is left alone afterwards stays as the output has followed. -/
theorem Dev.Followed.keep {ev : Bool} {d e f : Dev} {j : Nat} (h : Dev.Followed ev d e j) (k : e.OutputKept f j) : Dev.Followed ev d f j where
  kept g hg := (Dev.fld_of_reg k.reg g).trans (h.kept g hg)
  squelched := by
    rw [Dev.bit, Dev.fld_of_reg k.reg]
    exact h.squelched
  runs hl := by
    rw [k.out, Dev.bit, Dev.bit, Dev.fld_of_reg k.reg, Dev.fld_of_reg k.reg]
    exact h.runs hl
  lanes l := (k.lanes l).trans (h.lanes l)
  event h1 h2 h3 := k.event j (h.event h1 h2 h3)

/-- What was left alone before stands as the output follows. -/
theorem Dev.Followed.after {ev : Bool} {d e f : Dev} {j : Nat} (h : Dev.Followed ev e f j) (k : d.OutputKept e j) : Dev.Followed ev d f j where
  kept g hg := (h.kept g hg).trans (Dev.fld_of_reg k.reg g)
  squelched := by
    rw [h.squelched, k.lanes, k.rclkLane]
  runs hl := h.runs (k.outs.trans hl)
  lanes l := (h.lanes l).trans (k.lanes l)
  event h1 h2 h3 := h.event h1 (by rw [k.lanes, k.rclkLane, h2]) (by rw [Dev.bit, Dev.fld_of_reg k.reg]; exact h3)

theorem Dev.follow_outputKept (d : Dev) (ev : Bool) {j k : Nat} (hj : j < 4) (hk : k < 4) (h : j ≠ k) : d.OutputKept (d.follow ev k) j := by
  rw [d.follow_eq]
  split
  · exact (d.driven_outputKept hk h).trans (Dev.raise_rclk_outputKept _ hj hk)
  · exact d.driven_outputKept hk h

theorem Dev.follow_followed (d : Dev) (ev : Bool) {k : Nat} (hk : k < 4) : Dev.Followed ev d (d.follow ev k) k := by
  have h := d.driven_followed hk
  rw [d.follow_eq]
  split
  next =>
    obtain ⟨hkept, hsq, hruns, hlanes, -⟩ := h.keep ((d.driven k).raise_rclk_outputKept hk hk)
    exact ⟨hkept, hsq, hruns, hlanes, fun _ _ _ => by rw [Dev.raise_rclk_bit _ (by omega)]; simp⟩
  next hquiet =>
    obtain ⟨hkept, hsq, hruns, hlanes, -⟩ := h
    exact ⟨hkept, hsq, hruns, hlanes, fun h1 h2 h3 => absurd (by simp [h1, h2, h3]) hquiet⟩

/-! ### All outputs follow their sources (R127) -/

theorem Dev.foldl_follow_outputKept (l : List Nat) (d : Dev) (ev : Bool) {j : Nat} (hj : j < 4) (hl : ∀ k ∈ l, k < 4 ∧ j ≠ k) :
    d.OutputKept (l.foldl (Dev.follow ev) d) j := by
  induction l generalizing d with
  | nil => exact ⟨rfl, rfl, rfl, fun _ => rfl, fun _ h => h⟩
  | cons k l ih =>
    obtain ⟨hk, hrest⟩ := List.forall_mem_cons.mp hl
    exact (d.follow_outputKept ev hj hk.1 hk.2).trans (ih _ hrest)

theorem Dev.rclkFollow_followed (d : Dev) (ev : Bool) {j : Nat} (hj : j < 4) : Dev.Followed ev d (d.rclkFollow ev) j := by
  have hsplit : List.range 4 = List.range j ++ j :: (List.range (3 - j)).map (· + (j + 1)) := by
    have hall : ∀ j < 4, List.range 4 = List.range j ++ j :: (List.range (3 - j)).map (· + (j + 1)) := by decide
    exact hall j hj
  rw [d.rclkFollow_eq, hsplit, List.foldl_append, List.foldl_cons]
  have hbefore := Dev.foldl_follow_outputKept (List.range j) d ev hj fun k hk => by
    have := List.mem_range.mp hk
    omega
  refine ((Dev.follow_followed _ ev hj).after hbefore).keep (Dev.foldl_follow_outputKept _ _ ev hj fun k hk => ?_)
  obtain ⟨i, hi, rfl⟩ := List.mem_map.mp hk
  have := List.mem_range.mp hi
  omega

/-- Of the device only registers and pins changed. -/
def Dev.PinsOnly (d e : Dev) : Prop := e = { d with regs := e.regs, pins := e.pins }

theorem Dev.PinsOnly.trans {d e f : Dev} (h : d.PinsOnly e) (k : e.PinsOnly f) : d.PinsOnly f := Eq.trans k (by rw [h])

theorem Dev.rclkFollow_quiet (d : Dev) : d.PinsOnly (d.rclkFollow false) :=
  List.foldlRecOn (motive := d.PinsOnly) _ (Dev.follow false) rfl fun x hx _ _ => hx.trans (e := x) rfl

theorem Dev.rclkFollow_regsKept (d : Dev) : d.regsKept (d.rclkFollow false) ((List.range 4).map Reg.PRT_RCLK) :=
  List.foldlRecOn (motive := fun e => d.regsKept e _) _ (Dev.follow false) (.refl d _) fun x hx _ hk =>
    hx.trans (x.setFld_regsKept _ _ (List.mem_map_of_mem hk))

theorem Dev.setLane_pinsOnly (d : Dev) (l : Nat) (signal lock : Bool) : d.PinsOnly (d.setLane l signal lock) := by
  unfold Dev.setLane
  split
  · rfl
  · split <;> rfl

/-! ### The commands of the outputs (R126, R127) -/

/-- Every output of `e` says whether its source is lost, and runs accordingly where `d` has its four outputs. -/
def Dev.OutputsFollow (d e : Dev) : Prop := ∀ j, j < 4 →
  e.bit (Reg.PRT_RCLK j) F.PRT_RCLK_SQUELCHED = !e.laneLocked (e.rclkLane j) ∧
  (d.pins.rclk.length = 4 → ∃ o, e.pins.rclk[j]? = some o ∧
    o.isSome = (e.bit (Reg.PRT_RCLK j) F.PRT_RCLK_EN && !e.bit (Reg.PRT_RCLK j) F.PRT_RCLK_SQUELCHED))

theorem Dev.rclkFollow_outputs {d x : Dev} (ev : Bool) (hx : x.pins.rclk = d.pins.rclk) : d.OutputsFollow (x.rclkFollow ev) := fun j hj => by
  have h := x.rclkFollow_followed ev hj
  exact ⟨by rw [h.squelched, h.lanes, h.rclkLane], fun hl => h.runs (hx ▸ hl)⟩

/-- The register as RCLK_SELECT writes it, before the output follows. -/
def Dev.rclkStored (d : Dev) (k : Nat) (v : Word) : Dev :=
  ((d.setFld (Reg.PRT_RCLK k) F.PRT_RCLK_LANE (F.PRT_RCLK_LANE.of v)).setFld (Reg.PRT_RCLK k) F.PRT_RCLK_EN (F.PRT_RCLK_EN.of v)).setFld
    (Reg.PRT_RCLK k) F.PRT_RCLK_DIV (F.PRT_RCLK_DIV.of v)

theorem Dev.rclkSelect_eq (d : Dev) {k : Nat} (v : Word) (hk : k < 4) : d.rclkSelect k v = (d.rclkStored k v).rclkFollow false :=
  if_neg (Nat.not_le.mpr hk)

theorem Dev.rclkStored_fld (d : Dev) (k : Nat) (v : Word) :
    (d.rclkStored k v).fld (Reg.PRT_RCLK k) F.PRT_RCLK_LANE = F.PRT_RCLK_LANE.of v ∧
      (d.rclkStored k v).fld (Reg.PRT_RCLK k) F.PRT_RCLK_EN = F.PRT_RCLK_EN.of v ∧
      (d.rclkStored k v).fld (Reg.PRT_RCLK k) F.PRT_RCLK_DIV = F.PRT_RCLK_DIV.of v := by
  unfold Dev.rclkStored
  refine ⟨?_, ?_, ?_⟩
  · rw [Dev.fld_setFld_other _ _ (.inr (by decide)), Dev.fld_setFld_other _ _ (.inr (by decide)), Dev.fld_setFld_same _ _ _ (by decide)]
    exact Nat.mod_eq_of_lt (Fld.of_lt _ _)
  · rw [Dev.fld_setFld_other _ _ (.inr (by decide)), Dev.fld_setFld_same _ _ _ (by decide)]
    exact Nat.mod_eq_of_lt (Fld.of_lt _ _)
  · rw [Dev.fld_setFld_same _ _ _ (by decide)]
    exact Nat.mod_eq_of_lt (Fld.of_lt _ _)

theorem Dev.rclkStored_regsKept (d : Dev) {k : Nat} (v : Word) (hk : k < 4) : d.regsKept (d.rclkStored k v) ((List.range 4).map Reg.PRT_RCLK) := by
  have hm : Reg.PRT_RCLK k ∈ (List.range 4).map Reg.PRT_RCLK := List.mem_map_of_mem (List.mem_range.mpr hk)
  exact ((d.setFld_regsKept _ _ hm).trans (Dev.setFld_regsKept _ _ _ hm)).trans (Dev.setFld_regsKept _ _ _ hm)

/-- RCLK_SELECT stores its fields, and the outputs follow (R126). -/
theorem exec_rclkSelect (k : Nat) (v : Word) (s : State) (hu : s.dev.up = true) (hk : k < 4) (ho : s.dev.accessOpen (Reg.PRT_RCLK k) = true) :
    exec (.rclkSelect k v) s = .next (s.withDev ((s.dev.rclkStored k v).rclkFollow false)) :=
  congrArg (Host.Outcome.next <| s.withDev ·) ((s.dev.access_open _ _ _ hu ho).trans (s.dev.rclkSelect_eq v hk))

theorem exec_rclkSquelch (k : Nat) (s : State) (hu : s.dev.up = true) : exec (.rclkSquelch k) s = .next (s.withDev (s.dev.rclkLose k)) :=
  congrArg (Host.Outcome.next <| s.withDev ·) (if_pos hu)

theorem exec_sourceLaneLock (k : Nat) (s : State) (hu : s.dev.up = true) (hk : k < 4) :
    exec (.sourceLaneLock k) s = .next (s.withDev ((s.dev.setLane (s.dev.rclkLane k) true true).rclkFollow false)) :=
  congrArg (Host.Outcome.next <| s.withDev ·) (if_pos (by simp [hu, hk]))

/-- A source whose lane loses signal or lock: which of the two is the device's choice. -/
theorem Dev.rclkLose_lost (d : Dev) {k : Nat} (hk : k < 4) (h : d.laneLocked (d.rclkLane k) = true) :
    ∃ x signal, x = (d.fresh 2).2 ∧ d.rclkLose k = (x.setLane (d.rclkLane k) signal false).rclkFollow true :=
  ⟨_, _, rfl, if_pos (by simp [hk, h])⟩

theorem Dev.rclkLose_none (d : Dev) (k : Nat) (h : d.laneLocked (d.rclkLane k) = false) : d.rclkLose k = d := if_neg (by simp [h])

/-- A change of a lane leaves the registers of the outputs alone. -/
theorem Dev.setLane_rclk (d : Dev) (l : Nat) (signal lock : Bool) {k : Nat} (hk : k < 4) :
    (d.setLane l signal lock).reg (Reg.PRT_RCLK k) = d.reg (Reg.PRT_RCLK k) :=
  (d.setLane_output l signal lock).2 _ (by unfold Reg.PRT_RCLK Reg.PRT_LANE_STATUS; omega)

/-- The loss of a source squelches its output and raises its event (R127). -/
theorem Dev.rclkLose_squelches (d : Dev) {k : Nat} (hk : k < 4) (h : d.laneLocked (d.rclkLane k) = true)
    (hs : d.bit (Reg.PRT_RCLK k) F.PRT_RCLK_SQUELCHED = false) :
    d.OutputsFollow (d.rclkLose k) ∧ (d.rclkLose k).bit (Reg.PRT_RCLK k) F.PRT_RCLK_SQUELCHED = true ∧
      ((d.rclkLose k).reg Reg.PRT_RCLK_EVENT).getLsbD k = true ∧ (d.rclkLose k).rclkLane k = d.rclkLane k := by
  obtain ⟨x, signal, hx, hlose⟩ := d.rclkLose_lost hk h
  obtain ⟨y, hy⟩ : ∃ y, x.setLane (d.rclkLane k) signal false = y := ⟨_, rfl⟩
  have hreg : y.reg (Reg.PRT_RCLK k) = d.reg (Reg.PRT_RCLK k) := by
    rw [← hy, Dev.setLane_rclk _ _ _ _ hk, hx]
    rfl
  have hlane : y.rclkLane k = d.rclkLane k := Dev.fld_of_reg hreg _
  have hlost : y.laneLocked (y.rclkLane k) = false := by
    rw [hlane, ← hy]
    exact x.laneLocked_setLane_lost _ signal
  have hpins : y.pins.rclk = d.pins.rclk := by
    rw [← hy, (x.setLane_output _ signal false).1, hx]
    rfl
  rw [hlose, hy]
  have hfollow := y.rclkFollow_followed true hk
  refine ⟨Dev.rclkFollow_outputs true hpins, ?_, hfollow.event rfl hlost ?_, hfollow.rclkLane.trans hlane⟩
  · rw [hfollow.squelched, hlost]
    rfl
  · rw [Dev.bit, Dev.fld_of_reg hreg]
    exact hs

/-- The return of a source ends the squelch of its output (R127). -/
theorem Dev.laneLock_follows (d : Dev) {k : Nat} (hk : k < 4) (hl : d.rclkLane k < 98) (hm : d.pins.mgmtLock.length = 2) :
    let e := (d.setLane (d.rclkLane k) true true).rclkFollow false
    d.OutputsFollow e ∧ e.bit (Reg.PRT_RCLK k) F.PRT_RCLK_SQUELCHED = false ∧ d.PinsOnly e := by
  intro e
  have hlane : (d.setLane (d.rclkLane k) true true).rclkLane k = d.rclkLane k := Dev.fld_of_reg (d.setLane_rclk _ _ _ hk) _
  refine ⟨Dev.rclkFollow_outputs false (d.setLane_output _ _ _).1, ?_, (d.setLane_pinsOnly _ _ _).trans (Dev.rclkFollow_quiet _)⟩
  rw [(Dev.rclkFollow_followed _ false hk).squelched, hlane, d.laneLocked_setLane hl hm]
  rfl

end Sys2Proof.Machine
end

section
/-! PROOFS. Links that come up and go down, holds, and the verify process (R111, R112, R124, R125, R128 to R130), and the statement of ports and
clocks. -/

namespace Sys2Proof.Machine

/-! ### A port comes up (R111, R112, R129) -/

/-- The port is up: its event is raised, and its held queues transmit. -/
structure Dev.CameUp (d e : Dev) (n : Nat) : Prop where
  only : d.PortOnly e n [Reg.PRT_STATUS 0, Reg.PRT_EVENT 0] [F.PRT_STATUS_LINK]
  link : e.fld (Reg.PRT_STATUS n) F.PRT_STATUS_LINK = 1
  event : (e.reg (Reg.PRT_EVENT n)).getLsbD 0 = true
  port : e.port n = { d.port n with holdEnd := none, discard := false }
  pkts : e.pkts = d.pkts
  queues : e.queues = d.queues

theorem Dev.goUp_cameUp (d : Dev) {n : Nat} (hn : n < 130) : d.CameUp (d.goUp n) n := by
  obtain ⟨x, hx⟩ : ∃ x, (d.setPort n { d.port n with holdEnd := none, discard := false }).setFld (Reg.PRT_STATUS n) F.PRT_STATUS_LINK 1 = x :=
    ⟨_, rfl⟩
  have hgo : d.goUp n = x.raise (64 + n) 0 := by rw [← hx]; rfl
  have hset : d.PortOnly x n [Reg.PRT_STATUS 0, Reg.PRT_EVENT 0] [F.PRT_STATUS_LINK] :=
    hx ▸ (d.setPort_portOnly n _ _ _).trans (Dev.setStatus_portOnly _ n 1 (by simp) (by simp))
  have hraise := x.raise_portOnly 0 (as := [Reg.PRT_EVENT 0]) [] hn (by simp)
  rw [hgo]
  refine ⟨hset.trans (hraise.mono (by simp) (by simp)), (hraise.status _ rfl).trans ?_, ?_, ?_, ?_, ?_⟩
  · rw [← hx]
    exact Dev.fld_setFld_same _ _ _ (by decide)
  · rw [Dev.raise_port_bit _ hn (by decide)]
    rfl
  · rw [Dev.port_raise, ← hx]
    exact Dev.port_setPort_same _ _ _
  · rw [Dev.raise_pkts, ← hx]
    rfl
  · rw [Dev.raise_queues, ← hx]
    rfl

/-- The verify process starts, or does not, as PRT_MM_CTRL has it: PRT_MM_STATUS and the rim's verify timer at most change (R123, R124). -/
structure Dev.VerifyStarted (d e : Dev) (n : Nat) : Prop where
  only : d.PortOnly e n [Reg.PRT_MM_STATUS 0] []
  rims : d.RimsOnly e
  event : e.reg (Reg.PRT_EVENT n) = d.reg (Reg.PRT_EVENT n)
  hold : (e.port n).holdEnd = (d.port n).holdEnd ∧ (e.port n).discard = (d.port n).discard

theorem Dev.mmStart_started (d : Dev) {n : Nat} (hn : n < 130) : d.VerifyStarted (d.mmStart n) n := by
  have hof : ∀ {e : Dev}, d.PortOnly e n [Reg.PRT_MM_STATUS 0] [] → d.RimsOnly e →
      (e.port n).holdEnd = (d.port n).holdEnd ∧ (e.port n).discard = (d.port n).discard → d.VerifyStarted e n :=
    fun honly hrims hhold => ⟨honly, hrims, honly.reg_event hn (by decide), hhold⟩
  unfold Dev.mmStart
  split
  · exact hof (.refl _ _ _ _) rfl ⟨rfl, rfl⟩
  · split
    · exact hof (d.setMm_portOnly n 0 false [] (by simp)) rfl ⟨rfl, rfl⟩
    · split
      · exact hof (d.setMm_portOnly n 0 true [] (by simp)) rfl ⟨rfl, rfl⟩
      · refine hof ((d.setPort_portOnly n _ _ _).trans (Dev.setMm_portOnly _ n 1 false [] (by simp))) rfl ?_
        simp

theorem Dev.port_setPort_setMm (d : Dev) (n : Nat) (x : Port) (v : Nat) (a : Bool) : ((d.setPort n x).setMm n v a).port n = x := d.port_setPort_same n x

theorem Dev.mmStart_off (d : Dev) {n : Nat} (hn : n < 128) (h : d.mmEn n = false) : d.mmStart n = d.setMm n 0 false :=
  (if_neg (Nat.not_le.mpr hn)).trans (if_pos (by simp [h]))

theorem Dev.mmStart_unverified (d : Dev) {n : Nat} (hn : n < 128) (h : d.mmEn n = true) (hv : d.mmNoVerify n = true) : d.mmStart n = d.setMm n 0 true :=
  (if_neg (Nat.not_le.mpr hn)).trans ((if_neg (by simp [h])).trans (if_pos hv))

theorem Dev.mmStart_verifies (d : Dev) {n : Nat} (hn : n < 128) (h : d.mmEn n = true) (hv : d.mmNoVerify n = false) :
    d.mmStart n = (d.setPort n { d.port n with verifyTries := 0, verifyAt := d.free }).setMm n 1 false :=
  (if_neg (Nat.not_le.mpr hn)).trans ((if_neg (by simp [h])).trans (if_neg (by simp [hv])))

theorem Dev.mmEn_of_port {d e : Dev} {n : Nat} (h : (e.port n).mm = (d.port n).mm) : e.mmEn n = d.mmEn n := by
  unfold Dev.mmEn
  rw [h]

theorem Dev.mmNoVerify_of_port {d e : Dev} {n : Nat} (h : (e.port n).mm = (d.port n).mm) : e.mmNoVerify n = d.mmNoVerify n := by
  unfold Dev.mmNoVerify
  rw [h]

/-- The port in UP before its verify process starts: lanes locked, local fault over, link up. -/
theorem Dev.linkUp_eq (d : Dev) {n : Nat} (hn : n < 130) (hst : d.portState n = stAlign) (hp : (d.port n).pcs = true)
    (ht : (d.port n).since + d.upDebounce n ≤ d.free) :
    ∃ x, d.PortOnly x n [Reg.PRT_STATUS 0] [F.PRT_STATUS_LF] ∧ x.port n = d.port n ∧ x.pkts = d.pkts ∧ x.queues = d.queues ∧
      d.linkUp n = ((x.setPortState n stUp).goUp n).mmStart n := by
  obtain ⟨y, hy⟩ : ∃ y, ((d.portLanes n).foldl (fun (d : Dev) l => d.setLane l true true) d).rclkFollow false = y := ⟨_, rfl⟩
  have hlanes : d.LanesOnly y :=
    hy ▸ LanesOnly.trans (List.foldlRecOn _ _ (.refl d) fun e he l _ => he.trans (e.setLane_lanesOnly l true true)) (Dev.rclkFollow_lanesOnly _ false)
  refine ⟨y.setFld (Reg.PRT_STATUS n) F.PRT_STATUS_LF 0, ?_, ?_, hlanes.pkts, hlanes.queues, ?_⟩
  · exact (hlanes.portOnly hn _ _).trans (y.setStatus_portOnly n 0 (by simp) (by simp))
  · exact Dev.port_of_ports hlanes.ports n
  · rw [← hy]
    exact if_pos (by simp [hst, hp, Dev.passed, ht])

theorem Dev.linkUp_stays (d : Dev) {n : Nat} (h : ¬ (d.portState n = stAlign ∧ (d.port n).pcs = true ∧ (d.port n).since + d.upDebounce n ≤ d.free)) :
    d.linkUp n = d := if_neg (by simpa [Dev.passed, and_assoc] using h)

/-- LINK_UP of a port that has been in ALIGN for UP_DEBOUNCE (R111, R112): it is in UP, and its verify process has started from a device `x` with
its rim and time. -/
theorem Dev.linkUp_up (d : Dev) {n : Nat} (hn : n < 130) (hst : d.portState n = stAlign) (hp : (d.port n).pcs = true)
    (ht : (d.port n).since + d.upDebounce n ≤ d.free) :
    ∃ x : Dev, d.linkUp n = x.mmStart n ∧ x.portState n = stUp ∧ x.fld (Reg.PRT_STATUS n) F.PRT_STATUS_LINK = 1 ∧
      (x.reg (Reg.PRT_EVENT n)).getLsbD 0 = true ∧ (x.port n).holdEnd = none ∧ (x.port n).discard = false ∧ (x.port n).mm = (d.port n).mm ∧
      x.free = d.free ∧ x.queues = d.queues ∧ x.pkts = d.pkts := by
  obtain ⟨x, honly, hport, hpkts, hqueues, heq⟩ := d.linkUp_eq hn hst hp ht
  have hstate := x.setPortState_portOnly n stUp (as := [Reg.PRT_STATUS 0]) (gs := [F.PRT_STATUS_STATE]) (by simp) (by simp)
  obtain ⟨uonly, ulink, uevent, uport, upkts, uqueues⟩ := (x.setPortState n stUp).goUp_cameUp hn
  rw [Dev.port_setPortState, hport] at uport
  refine ⟨_, heq, (uonly.status _ (by decide)).trans (x.portState_setPortState n (by decide)), ulink, uevent, ?_, ?_, ?_,
    uonly.free.trans (hstate.free.trans honly.free), uqueues.trans hqueues, upkts.trans hpkts⟩ <;> rw [uport]

/-! ### A link goes down (R111, R125, R128) -/

theorem Dev.unbinds_congr {d e : Dev} {n : Nat} (h : e.reg (Reg.PRT_MODE n) = d.reg (Reg.PRT_MODE n)) : e.unbinds n ↔ d.unbinds n := by
  unfold Dev.unbinds
  rw [h]

@[simp] theorem Dev.leaveUp_pkts (d : Dev) (n : Nat) : (d.leaveUp n).pkts = (d.goDown n).pkts := Dev.setFld_pkts _ _ _ _
@[simp] theorem Dev.port_leaveUp (d : Dev) (n k : Nat) : (d.leaveUp n).port k = (d.goDown n).port k := Dev.port_setFld _ _ _ _ _

/-- LINK_DOWN of a port that has been in UP for DOWN_DEBOUNCE: it goes down, has local fault, and acquisition starts anew. -/
structure Dev.LinkLost (d e : Dev) (n : Nat) : Prop where
  link : e.fld (Reg.PRT_STATUS n) F.PRT_STATUS_LINK = 0
  noted : d.portUp n = true → d.DownNoted e n
  acquired : d.acquiredAs e n
  fault : e.fld (Reg.PRT_STATUS n) F.PRT_STATUS_LF = 1
  held : d.portUp n = true → ¬ d.unbinds n → d.Held e n
  flushed : d.unbinds n → (e.port n).holdEnd = none ∧ (e.port n).discard = true ∧ ∀ r ∈ e.recs, r.port ≠ n

theorem Dev.linkDown_lost (d : Dev) {n : Nat} (hn : n < 130) (hst : d.portState n = stUp) (ht : (d.port n).since + d.downDebounce n ≤ d.free) :
    d.LinkLost (d.linkDown n) n := by
  obtain ⟨donly, dlink, dnoted, dheld⟩ := d.goDown_wentDown hn
  obtain ⟨x, hx⟩ : ∃ x, (((d.leaveUp n).dropLanes n false).rclkFollow true).setFld (Reg.PRT_STATUS n) F.PRT_STATUS_LF 1 = x := ⟨_, rfl⟩
  have hdown : d.linkDown n = x.acquire n := hx ▸ if_pos (by simp [hst, Dev.passed, ht])
  have hlanes := ((d.leaveUp n).dropLanes_lanesOnly n false).trans (Dev.rclkFollow_lanesOnly _ true)
  have hgx : (d.goDown n).PortOnly x n [Reg.PRT_STATUS 0] [F.PRT_STATUS_RF, F.PRT_STATUS_LF] :=
    hx ▸ ((Dev.setStatus_portOnly _ n 0 (by simp) (by simp)).trans (hlanes.portOnly hn _ _)).trans (Dev.setStatus_portOnly _ n 1 (by simp) (by simp))
  have hport : x.port n = (d.goDown n).port n := by rw [← hx, Dev.port_setFld, Dev.port_of_ports hlanes.ports n, Dev.port_leaveUp]
  have hpkts : x.pkts = (d.goDown n).pkts := by rw [← hx, Dev.setFld_pkts, hlanes.pkts, Dev.leaveUp_pkts]
  have hdx := (donly.mono (bs := downRegs) (hs := [F.PRT_STATUS_LINK, F.PRT_STATUS_RF, F.PRT_STATUS_LF]) (List.Subset.refl _) (by simp)).trans
    (hgx.mono (by simp [downRegs]) (by simp))
  have hmode : x.reg (Reg.PRT_MODE n) = d.reg (Reg.PRT_MODE n) := hdx.reg hn (a := Reg.PRT_MODE 0) (by decide)
  have h := x.acquire_acquired hn
  have hge := (hgx.mono (bs := acqRegs) (hs := F.PRT_STATUS_RF :: F.PRT_STATUS_LF :: acqFlds) (by simp [acqRegs]) (by simp)).trans
    (h.only.mono (List.Subset.refl _) (by simp))
  have hevent := hge.reg_event hn (by decide)
  rw [hdown]
  refine ⟨(hge.status _ (by decide)).trans dlink, fun hup => ?_, h.acquiredAs hdx hn (by decide), ?_, fun hup hu => ?_, fun hu => ?_⟩
  · exact (dnoted hup).keep hge hn (h.pkts.trans hpkts) (by decide) fun he => by rw [hevent, he]
  · refine (h.only.status _ (by decide)).trans ?_
    rw [← hx]
    exact Dev.fld_setFld_same _ _ _ (by decide)
  · obtain ⟨hend, hdiscard, -⟩ := h.kept fun hxu => hu ((Dev.unbinds_congr hmode).mp hxu)
    exact (dheld hup).keep (hend.trans (by rw [hport])) (hdiscard.trans (by rw [hport])) hevent
  · exact h.flushed ((Dev.unbinds_congr hmode).mpr hu)

theorem Dev.linkDown_stays (d : Dev) {n : Nat} (h : ¬ (d.portState n = stUp ∧ (d.port n).since + d.downDebounce n ≤ d.free)) : d.linkDown n = d :=
  if_neg (by simpa [Dev.passed] using h)

/-! ### Remote fault (R112) -/

/-- What is noted, or held, after an update of the port's status alone. -/
theorem Dev.WentDown.after {d x e : Dev} {n : Nat} {gs : List Fld} (h : x.WentDown e n) (k : d.PortOnly x n [Reg.PRT_STATUS 0] gs) (hn : n < 130)
    (hg : gs.all (F.PRT_STATUS_LINK.apart ·) = true) : d.portUp n = true → d.DownNoted e n ∧ d.Held e n := fun hup => by
  have hup' : x.portUp n = true := by
    rw [x.portUp_eq hn, k.status _ hg, ← d.portUp_eq hn]
    exact hup
  obtain ⟨hc, he, hr⟩ := h.noted hup'
  have hhold : x.fld (Reg.PRT_HOLD n) F.PRT_HOLD_HOLD = d.fld (Reg.PRT_HOLD n) F.PRT_HOLD_HOLD :=
    Dev.fld_of_reg (k.reg hn (a := Reg.PRT_HOLD 0) (by decide)) _
  obtain ⟨hstarts, hends⟩ := h.held hup'
  rw [hhold, k.free] at hstarts
  rw [hhold] at hends
  exact ⟨⟨hc.trans (k.plus_count hn (by decide) (by decide) 1), he, hr⟩, hstarts, hends⟩

/-- Remote fault on a port in UP: the port stays in UP and goes down as far as traffic is concerned. -/
theorem Dev.remoteFault_begins (d : Dev) {n : Nat} (hn : n < 130) (hst : d.portState n = stUp) (hrf : true ≠ d.bit (Reg.PRT_STATUS n) F.PRT_STATUS_RF) :
    let e := d.remoteFault n true
    e.portState n = stUp ∧ e.fld (Reg.PRT_STATUS n) F.PRT_STATUS_RF = 1 ∧ e.fld (Reg.PRT_STATUS n) F.PRT_STATUS_LINK = 0 ∧
      (d.portUp n = true → d.DownNoted e n ∧ d.Held e n) := by
  have he : d.remoteFault n true = (d.setFld (Reg.PRT_STATUS n) F.PRT_STATUS_RF 1).goDown n := if_neg (by simp [hst, hrf])
  have hset := d.setStatus_portOnly n (g := F.PRT_STATUS_RF) 1 (as := [Reg.PRT_STATUS 0]) (gs := [F.PRT_STATUS_RF]) (by simp) (by simp)
  have hdown := (d.setFld (Reg.PRT_STATUS n) F.PRT_STATUS_RF 1).goDown_wentDown hn
  rw [he]
  refine ⟨?_, ?_, hdown.link, hdown.after hset hn (by decide)⟩
  · exact (hdown.only.status _ (by decide)).trans ((hset.status _ (by decide)).trans hst)
  · exact (hdown.only.status _ (by decide)).trans (d.fld_setFld_same _ _ (by decide))

/-- The end of remote fault on a port in UP: the port is up again. -/
theorem Dev.remoteFault_ends (d : Dev) {n : Nat} (hn : n < 130) (hst : d.portState n = stUp) (hrf : false ≠ d.bit (Reg.PRT_STATUS n) F.PRT_STATUS_RF) :
    let e := d.remoteFault n false
    e.portState n = stUp ∧ e.fld (Reg.PRT_STATUS n) F.PRT_STATUS_RF = 0 ∧ e.fld (Reg.PRT_STATUS n) F.PRT_STATUS_LINK = 1 ∧
      (e.reg (Reg.PRT_EVENT n)).getLsbD 0 = true ∧ (e.port n).holdEnd = none := by
  have he : d.remoteFault n false = (d.setFld (Reg.PRT_STATUS n) F.PRT_STATUS_RF 0).goUp n := if_neg (by simp [hst, hrf])
  have hset := d.setStatus_portOnly n (g := F.PRT_STATUS_RF) 0 (as := [Reg.PRT_STATUS 0]) (gs := [F.PRT_STATUS_RF]) (by simp) (by simp)
  obtain ⟨uonly, ulink, uevent, uport, -, -⟩ := (d.setFld (Reg.PRT_STATUS n) F.PRT_STATUS_RF 0).goUp_cameUp hn
  rw [he]
  refine ⟨?_, ?_, ulink, uevent, congrArg Port.holdEnd uport⟩
  · exact (uonly.status _ (by decide)).trans ((hset.status _ (by decide)).trans hst)
  · exact (uonly.status _ (by decide)).trans (d.fld_setFld_same _ _ (by decide))

/-! ### The hold timer (R129) -/

theorem Dev.holdExpired_out (d : Dev) {n t : Nat} (h : (d.port n).holdEnd = some t) (ht : t ≤ d.free) (hup : d.portUp n = false) :
    d.holdExpired n = d.holdOut n := by
  unfold Dev.holdExpired
  rw [h]
  exact if_pos (by simp [ht, hup])

theorem Dev.holdExpired_stays (d : Dev) {n t : Nat} (h : (d.port n).holdEnd = some t) (ht : d.free < t ∨ d.portUp n = true) : d.holdExpired n = d := by
  unfold Dev.holdExpired
  rw [h]
  exact if_neg (by rcases ht with ht | ht <;> simp [ht])

/-! ### The verify process (R124) -/

theorem Dev.mmSend_due (d : Dev) {n : Nat} (hn : n < 128) (hst : d.portState n = stUp) (hv : d.verifyState n = 1 ∨ d.verifyState n = 2)
    (ht : (d.port n).verifyAt ≤ d.free) :
    d.mmSend n = if (d.port n).verifyTries ≥ 3 then (d.setMm n 4 false).raise (64 + n) 6
      else (d.setPort n { d.port n with
        verifyTries := (d.port n).verifyTries + 1
        verifyAt := d.free + 1000000 * F.PRT_MM_CTRL_VERIFY_TIME.of (d.port n).mm }).setMm n 2 false :=
  if_pos (by simp [hn, hst, hv, ht])

theorem Dev.mmSend_early (d : Dev) {n : Nat} (ht : d.free < (d.port n).verifyAt) : d.mmSend n = d := if_neg (by simp [ht])

theorem Dev.mmResponse_verified (d : Dev) {n : Nat} (hn : n < 128) (hst : d.portState n = stUp) (hv : d.verifyState n = 2) :
    d.mmResponse n = (d.setMm n 3 true).raise (64 + n) 5 := if_pos (by simp [hn, hst, hv])

/-- An event of the port leaves PRT_MM_STATUS alone. -/
theorem Dev.raise_mmStatus (d : Dev) {n : Nat} (b : Nat) (hn : n < 130) : (d.raise (64 + n) b).reg (Reg.PRT_MM_STATUS n) = d.reg (Reg.PRT_MM_STATUS n) :=
  (d.raise_portOnly b [] hn (List.mem_singleton_self _)).reg hn (a := Reg.PRT_MM_STATUS 0) (by decide)

/-- PRT_MM_STATUS as written, with the event that is raised then. -/
theorem Dev.setMm_raise (d : Dev) {n v b : Nat} (a : Bool) (hn : n < 130) (hv : v < 8) (hb : b < 64) :
    let e := (d.setMm n v a).raise (64 + n) b
    (e.fld (Reg.PRT_MM_STATUS n) F.PRT_MM_STATUS_VERIFY = v ∧ e.fld (Reg.PRT_MM_STATUS n) F.PRT_MM_STATUS_ACTIVE = a.toNat) ∧
      (e.reg (Reg.PRT_EVENT n)).getLsbD b = true := by
  intro e
  have hreg := (d.setMm n v a).raise_mmStatus b hn
  obtain ⟨hverify, hactive⟩ := d.setMm_fld n a hv
  refine ⟨⟨(Dev.fld_of_reg hreg _).trans hverify, (Dev.fld_of_reg hreg _).trans hactive⟩, ?_⟩
  rw [Dev.raise_port_bit _ hn hb]
  simp

/-! ### The statement -/

/-- Settles O43: the port's own updates, each with the rest of the device it leaves, and the outputs as they follow their sources. The debounce
counted from the entry to ALIGN or UP, LF set by LINK_DOWN, and HOLD_EXPIRED with HOLD 0 are the model's choices (log entry 23). -/
theorem portStatesAndClocks : Obligations.PortStatesAndClocks := by
  unfold Obligations.PortStatesAndClocks
  have hto : ∀ {c : Instr} {s : State} {f g : Dev}, exec c s = .next (s.withDev f) → f = g → exec c s = .next (s.withDev g) := fun hc h => h ▸ hc
  refine ⟨fun n s hu hn => ?_, fun k v s hu hk => ?_⟩
  case refine_1 =>
    intro st link event mm m unbinds timer held downs aligned lasting
    have hon : ∀ {c : Instr} {f : Dev}, exec c s = .next (s.withDev (s.dev.onPort n f)) → exec c s = .next (s.withDev f) := fun hc => exec_onPort hc hu hn
    have hstays : ∀ {c : Instr} {f : Dev}, exec c s = .next (s.withDev (s.dev.onPort n f)) → f = s.dev → exec c s = .next s :=
      fun hc hf => hto (hon hc) hf
    have hnoted : ∀ {e : Dev}, s.dev.DownNoted e n → e.reg (Reg.PRT_COUNT n 28) = s.dev.plus (Reg.PRT_COUNT n 28) 1 ∧
        (e.reg (Reg.PRT_EVENT n)).getLsbD 1 = true ∧ ∀ c p, e.pkt c = some p → p.stage ≠ .txRim n ∧ p.stage ≠ .preempted n :=
      fun h => ⟨h.count, h.event, fun c p hp => Pkt.inRimOf_eq_false.mp (h.rim c p hp)⟩
    refine ⟨fun ha => ?_, fun ha => ?_, fun hl => ?_, fun hl => ?_, fun rf hst hrf => ?_, fun e he => ⟨fun ht hup => ?_, fun ht => ?_⟩,
      fun hn' hst => ⟨fun hv => ⟨fun ht => ?_, fun ht h3 => ?_, fun ht h3 => ?_⟩, fun hv => ?_, fun hv => ?_⟩⟩
    · obtain ⟨hst, hpcs, ht⟩ := ha
      obtain ⟨x, hx, xstate, xlink, xevent, xend, xdiscard, xmm, xfree, xqueues, xpkts⟩ := s.dev.linkUp_up hn hst hpcs ht
      obtain ⟨vonly, vrims, vevent, vend, vdiscard⟩ := x.mmStart_started hn
      refine ⟨_, hto (hon rfl) hx, (vonly.status _ rfl).trans xstate, (vonly.status _ rfl).trans xlink, ?_, vend.trans xend, vdiscard.trans xdiscard,
        vrims.queues.trans xqueues, vrims.pkts.trans xpkts, fun hn' hmm => ?_, fun hn' hmm hno => ?_, fun hn' hmm hno => ?_⟩
      · exact (congrArg (BitVec.getLsbD · 0) vevent).trans xevent
      all_goals rw [← Dev.mmEn_of_port xmm] at hmm
      · rw [x.mmStart_off hn' hmm]
        exact x.setMm_fld n false (by decide)
      · rw [← Dev.mmNoVerify_of_port xmm] at hno
        rw [x.mmStart_unverified hn' hmm hno]
        exact x.setMm_fld n true (by decide)
      · rw [← Dev.mmNoVerify_of_port xmm] at hno
        rw [x.mmStart_verifies hn' hmm hno]
        have hport := x.port_setPort_setMm n { x.port n with verifyTries := 0, verifyAt := x.free } 1 false
        exact ⟨Dev.setMm_fld _ n false (by decide), congrArg Port.verifyTries hport, (congrArg Port.verifyAt hport).trans xfree⟩
    · exact hstays rfl (s.dev.linkUp_stays ha)
    · obtain ⟨hst, ht⟩ := hl
      obtain ⟨hlink, hdown, hacq, hfault, hheld, hflushed⟩ := s.dev.linkDown_lost hn hst ht
      exact ⟨_, hon rfl, ⟨hlink, fun hup => hnoted (hdown hup)⟩, hacq, Dev.bit_of_fld hfault,
        fun hup hb => ⟨(hheld hup hb).starts, (hheld hup hb).ends⟩, hflushed⟩
    · exact hstays rfl (s.dev.linkDown_stays hl)
    · cases rf with
      | true =>
        obtain ⟨hstate, hfault, hlink, hdown⟩ := s.dev.remoteFault_begins hn hst hrf
        exact ⟨_, hon rfl, hstate, Dev.bit_of_fld hfault, fun _ => ⟨⟨hlink, fun hup => hnoted (hdown hup).1⟩,
          fun hup => ⟨(hdown hup).2.starts, (hdown hup).2.ends⟩⟩, fun h => absurd h (by decide)⟩
      | false =>
        obtain ⟨hstate, hfault, hup⟩ := s.dev.remoteFault_ends hn hst hrf
        exact ⟨_, hon rfl, hstate, Dev.bit_of_fld hfault, fun h => absurd h (by decide), fun _ => hup⟩
    · obtain ⟨-, hport, hrecs, hpkts, hevent⟩ := s.dev.holdOut_flushed hn
      exact ⟨_, hto (hon rfl) (s.dev.holdExpired_out he ht hup), (hevent 4).trans (by simp), congrArg Port.holdEnd hport, congrArg Port.discard hport,
        hrecs, hpkts⟩
    · exact hstays rfl (s.dev.holdExpired_stays he ht)
    · exact hstays rfl (s.dev.mmSend_early ht)
    · have hport := s.dev.port_setPort_setMm n { s.dev.port n with
        verifyTries := (s.dev.port n).verifyTries + 1
        verifyAt := s.dev.free + 1000000 * F.PRT_MM_CTRL_VERIFY_TIME.of (s.dev.port n).mm } 2 false
      exact ⟨_, hto (hon rfl) ((s.dev.mmSend_due hn' hst hv ht).trans (if_neg (Nat.not_le.mpr h3))), Dev.setMm_fld _ n false (by decide),
        congrArg Port.verifyTries hport, congrArg Port.verifyAt hport, (Dev.regsKept_of_regs rfl _).trans (Dev.setMm_regsKept _ n 2 false)⟩
    · obtain ⟨hmm, hevent⟩ := s.dev.setMm_raise (v := 4) (b := 6) false hn (by decide) (by decide)
      exact ⟨_, hto (hon rfl) ((s.dev.mmSend_due hn' hst hv ht).trans (if_pos h3)), hmm, hevent⟩
    · obtain ⟨hmm, hevent⟩ := s.dev.setMm_raise (v := 3) (b := 5) true hn (by decide) (by decide)
      exact ⟨_, hto (hon rfl) (s.dev.mmResponse_verified hn' hst hv), hmm, hevent, Dev.raise_ports _ _ _⟩
    · exact hstays rfl (if_neg (by simp [hv]))
  case refine_2 =>
    intro squelched
    refine ⟨fun ho => ?_, fun hl hs => ?_, fun hl => ?_, fun hl hm => ?_⟩
    · obtain ⟨hlane, hen, hdiv⟩ := s.dev.rclkStored_fld k v
      have hfollow := (s.dev.rclkStored k v).rclkFollow_followed false hk
      have hpins : s.dev.PinsOnly ((s.dev.rclkStored k v).rclkFollow false) := Dev.PinsOnly.trans (e := s.dev.rclkStored k v) rfl (Dev.rclkFollow_quiet _)
      exact ⟨_, exec_rclkSelect k v s hu hk ho, Dev.rclkFollow_outputs false rfl, congrArg s.withDev hpins,
        (s.dev.rclkStored_regsKept v hk).trans (Dev.rclkFollow_regsKept _), hfollow.rclkLane.trans hlane, (hfollow.kept _ (by decide)).trans hen,
        (hfollow.kept _ (by decide)).trans hdiv⟩
    · exact ⟨_, exec_rclkSquelch k s hu, s.dev.rclkLose_squelches hk hl hs⟩
    · exact hto (exec_rclkSquelch k s hu) (s.dev.rclkLose_none k hl)
    · obtain ⟨hout, hsq, hpins⟩ := s.dev.laneLock_follows hk hl hm
      exact ⟨_, exec_sourceLaneLock k s hu hk, hout, hsq, congrArg s.withDev hpins⟩

end Sys2Proof.Machine
end

section
/-! PROOFS. The parser (R138 to R156): its malformed reasons, what a pass writes into the packet, and how it ends. -/

namespace Sys2Proof.Machine

/-! ### Malformed reasons (R138, R144 to R148) -/

theorem needByte_reason {len x r : Nat} (h : needByte len x = some r) : r < 8 := by
  unfold needByte at h
  split at h
  · simp only [Option.some.injEq] at h
    omega
  · split at h
    · simp only [Option.some.injEq] at h
      omega
    · cases h

theorem needRun_reason {len x n r : Nat} (h : needRun len x n = some r) : r < 8 := by
  induction n generalizing x with
  | zero => cases h
  | succ n ih =>
    unfold needRun at h
    split at h
    next hb => exact Option.some.inj h ▸ needByte_reason hb
    next => exact ih h

theorem layerLen_reason {g bs : List Byte} {s o r : Nat} (h : layerLen g bs s o = .error r) : r < 8 := by
  unfold layerLen at h
  dsimp only at h
  split at h
  · cases h
  · split at h
    next hb => exact Except.error.inj h ▸ needByte_reason hb
    next => split at h <;> cases h

theorem lenCheck_reason {g bs : List Byte} {s o len pad r : Nat} (h : lenCheck g bs s o len pad = some r) : r < 8 := by
  unfold lenCheck at h
  dsimp only at h
  split at h
  · cases h
  · split at h
    next hb => exact Option.some.inj h ▸ needRun_reason hb
    next =>
      have : r = 5 ∨ r = 6 ∨ r = 7 := by
        split at h
        · simp_all
        · split at h
          · simp_all
          · split at h <;> simp_all
      omega

theorem fragOf_reason {g bs : List Byte} {s o r : Nat} (h : fragOf g bs s o = .error r) : r < 8 := by
  unfold fragOf at h
  dsimp only at h
  split at h
  · generalize o + _ = x at h
    split at h
    next hb => exact Except.error.inj h ▸ needRun_reason hb
    next => cases h
  · cases h

theorem needCopies_reason {e bs : List Byte} {o r : Nat} {l : List Nat} (h : needCopies e bs o l = some r) : r < 8 := by
  induction l with
  | nil => cases h
  | cons i l ih =>
    unfold needCopies at h
    split at h
    · split at h
      next hb => exact Option.some.inj h ▸ needRun_reason hb
      next => exact ih h
    · exact ih h

/-- Where one way succeeds, a failure comes from the other. -/
theorem error_of_ite {α : Type} {c : Prop} [Decidable c] {a : α} {e : Except Nat α} {r : Nat} (h : (if c then .ok a else e) = .error r) :
    e = .error r := by
  split at h
  · cases h
  · exact h

theorem visitChecks_reason {g e bs : List Byte} {pad s o n r : Nat} (h : visitChecks g e bs pad s o n = .error r) : r < 8 := by
  unfold visitChecks at h
  split at h
  · exact Except.error.inj h ▸ (by decide)
  split at h
  next hb => exact Except.error.inj h ▸ layerLen_reason hb
  split at h
  · exact Except.error.inj h ▸ (by decide)
  split at h
  next hb => exact Except.error.inj h ▸ needByte_reason hb
  split at h
  next hb => exact Except.error.inj h ▸ lenCheck_reason hb
  split at h
  next hb => exact Except.error.inj h ▸ fragOf_reason hb
  split at h
  next hb => exact Except.error.inj h ▸ needCopies_reason hb
  replace h := error_of_ite h
  split at h
  next hb => exact Except.error.inj h ▸ needRun_reason hb
  next => cases h

theorem takeTrans_reason (g bs : List Byte) (s o : Nat) : (takeTrans g bs s o).reason < 256 := by
  unfold takeTrans
  dsimp only
  split
  · exact Nat.mod_lt _ (by decide)
  · split <;> exact Nat.mod_lt _ (by decide)

theorem ite_mal_lt {c : Prop} [Decidable c] {x y : ParseEnd} {n : Nat} (hx : x.mal < n) (hy : y.mal < n) : (if c then x else y).mal < n := by
  split
  · exact hx
  · exact hy

/-- A malformed reason has one byte (R147). -/
theorem walkGraph_mal (g e bs : List Byte) (pad fuel s o : Nat) (w : Walk) : (walkGraph g e bs pad fuel s o w).mal < 256 := by
  induction fuel generalizing s o w with
  | zero => exact (by decide : 1 < 256)
  | succ fuel ih =>
    unfold walkGraph
    split
    next hb => exact Nat.lt_trans (visitChecks_reason hb) (by decide)
    next =>
      exact ite_mal_lt (Nat.zero_lt_succ _)
        (ite_mal_lt (ih _ _ _) (ite_mal_lt (Nat.zero_lt_succ _) (ite_mal_lt (Nat.zero_lt_succ _) (takeTrans_reason g bs s o))))

theorem Dev.parseOf_mal (d : Dev) (p : Pkt) : (d.parseOf p).mal < 256 := walkGraph_mal _ _ _ _ _ _ _ _

/-! ### The outcome written into the packet (R147, R156) -/

/-- Words 2 and 3 show the outcome `x` of a parse with the disposition `disp` and its reason. -/
structure Pkt.ShowsParse (q : Pkt) (x : ParseEnd) (disp reason : Nat) : Prop where
  mal : q.get C.MAL_REASON = x.mal % 256
  state : q.get C.END_STATE = x.state % 512
  payload : q.get C.PAYLOAD_OFS = x.payload % 512
  layers : q.get C.LAYERS = x.walk.offs.length % 32
  frag : q.get C.IS_FRAG = x.walk.frag.toNat
  first : q.get C.FIRST_FRAG = x.walk.first.toNat
  disp : q.get C.DISP = disp
  reason : q.get C.REASON = reason % 256

theorem Pkt.ShowsParse.of_words {p q : Pkt} {x : ParseEnd} {disp reason : Nat} (h : p.ShowsParse x disp reason) (h2 : q.word 2 = p.word 2)
    (h3 : q.word 3 = p.word 3) : q.ShowsParse x disp reason where
  mal := (Pkt.get_of_word h3).trans h.mal
  state := (Pkt.get_of_word h3).trans h.state
  payload := (Pkt.get_of_word h3).trans h.payload
  layers := (Pkt.get_of_word h3).trans h.layers
  frag := (Pkt.get_of_word h3).trans h.frag
  first := (Pkt.get_of_word h3).trans h.first
  disp := (Pkt.get_of_word h2).trans h.disp
  reason := (Pkt.get_of_word h2).trans h.reason

theorem writeParse_shows (p : Pkt) (x : ParseEnd) (dr : Nat × Nat × Bool) (hd : dr.1 < 16) : (writeParse p x dr).ShowsParse x dr.1 dr.2.1 := by
  obtain ⟨q, hq⟩ : ∃ q, (p.putBytes 0x20 (x.walk.offs.map (BitVec.ofNat 8 ·))).putBytes 0x30 x.walk.area = q := ⟨_, rfl⟩
  have hl : q.words.length = 32 := by rw [← hq, Pkt.length_putBytes]
  obtain ⟨r, hr⟩ : ∃ r, (((((q.put C.LAYERS x.walk.offs.length).put C.END_STATE x.state).put C.PAYLOAD_OFS x.payload).put C.MAL_REASON x.mal).put
    C.IS_FRAG x.walk.frag.toNat).put C.FIRST_FRAG x.walk.first.toNat = r := ⟨_, rfl⟩
  have hw : (writeParse p x dr).words = (r.dispose dr.1 dr.2.1).words := by rw [← hr, ← hq]; rfl
  have hlr : r.words.length = 32 := by simp [← hr, hl]
  have hget : ∀ f, (writeParse p x dr).get f = (r.dispose dr.1 dr.2.1).get f := fun f => congrArg (ctxGet · f) hw
  have hkept : ∀ f : CtxFld, f.apart C.DISP = true → f.apart C.REASON = true → (writeParse p x dr).get f = r.get f := fun f h1 h2 =>
    (hget f).trans (r.get_dispose_other _ _ h1 h2)
  refine ⟨?_, ?_, ?_, ?_, ?_, ?_, (hget _).trans (r.get_dispose_disp _ _ hlr hd), (hget _).trans (r.get_dispose_reason _ _ hlr)⟩
  all_goals
    rw [hkept _ (by decide) (by decide), ← hr]
    repeat rw [Pkt.get_put_other _ _ (by decide)]
    rw [Pkt.get_put_same _ _ (by simp [hl]) (by decide)]
  · rfl
  · rfl
  · rfl
  · rfl
  · exact Nat.mod_eq_of_lt x.walk.frag.toNat_lt
  · exact Nat.mod_eq_of_lt x.walk.first.toNat_lt

end Sys2Proof.Machine
end

section
/-! PROOFS. PARSE (R141, R146 to R156): how parsing ends. -/

namespace Sys2Proof.Machine

/-! ### The disposition that parsing ends with (R156) -/

theorem parseDisp_lt (pol : List Byte) (x : ParseEnd) : (parseDisp pol x).1 < 16 := by
  unfold parseDisp
  split
  · decide
  split
  · dsimp only
    split <;> decide
  split
  · dsimp only
    split <;> decide
  · decide

theorem parseDisp_malformed {pol : List Byte} {x : ParseEnd} (h : x.mal ≠ 0) (ha : malAction pol x.mal ≠ 3) :
    parseDisp pol x = (Disp.malformed, 0, false) := if_pos ⟨h, ha⟩

section
variable {pol : List Byte} {x : ParseEnd} (h : x.mal = 0 ∨ malAction pol x.mal = 3)
include h

theorem parseDisp_odd {r : Nat} (ho : x.odd = some r) :
    parseDisp pol x = (if punEn pol && punOdd pol then Disp.punt else Disp.engine, r, false) := by
  unfold parseDisp
  rw [if_neg (by tauto), ho]

theorem parseDisp_frag (ho : x.odd = none) (hf : (x.walk.frag && fragSteer pol) = true) :
    parseDisp pol x = (if punEn pol && punFrag pol then Disp.punt else Disp.engine, 0x10, false) := by
  unfold parseDisp
  rw [if_neg (by tauto), ho]
  exact if_pos hf

theorem parseDisp_accept (ho : x.odd = none) (hf : (x.walk.frag && fragSteer pol) = false) :
    parseDisp pol x = (Disp.forward, 0, true) := by
  unfold parseDisp
  rw [if_neg (by tauto), ho]
  exact if_neg (by simp [hf])

end

/-! ### The counts of a parse (R154, R166) -/

/-- One more on counter `a` where `b` holds. -/
def Dev.countIf (d : Dev) (b : Bool) (a : Nat) : Dev := if b then d.count a 1 else d

theorem Dev.countIf_regsOnly (d : Dev) (b : Bool) (a : Nat) : d.RegsOnly (d.countIf b a) := by
  cases b
  · exact .refl d
  · exact d.count_regsOnly a 1

theorem Dev.countIf_reg (d : Dev) (b : Bool) {a k : Nat} (h : k ≠ a) : (d.countIf b a).reg k = d.reg k := by
  cases b
  · rfl
  · exact d.reg_count_other _ _ _ h

/-- The counters that a parse may advance beside PARSED. -/
def Dev.parseCountIfs (d : Dev) (p : Pkt) (x : ParseEnd) (dr : Nat × Nat × Bool) : Dev :=
  ((((((d.countIf (p.get C.PASS != 0) (Reg.PRS_COUNT 7)).countIf (x.odd.isNone && x.mal == 0) (Reg.PRS_COUNT 1)).countIf x.odd.isSome
    (Reg.PRS_COUNT 2)).countIf x.walk.frag (Reg.PRS_COUNT 3)).countIf
    (dr.2.1 == 0x10 && !dr.2.2 && x.odd.isNone && dr.1 != Disp.malformed) (Reg.PRS_COUNT 4)).countIf (x.mal != 0)
    (Reg.PRS_MAL_COUNT x.mal)).countIf (x.mal != 0) (Reg.PRS_COUNT 9)

theorem Dev.parseCounts_eq (d : Dev) (p : Pkt) (x : ParseEnd) (dr : Nat × Nat × Bool) :
    d.parseCounts p x dr = (d.count (Reg.PRS_COUNT 0) 1).parseCountIfs p x dr := by
  unfold Dev.parseCounts Dev.parseCountIfs
  by_cases h : x.mal = 0
  · simp [h, Dev.countIf]
  · simp [h, Dev.countIf]

theorem Dev.parseCounts_regsOnly (d : Dev) (p : Pkt) (x : ParseEnd) (dr : Nat × Nat × Bool) : d.RegsOnly (d.parseCounts p x dr) := by
  rw [d.parseCounts_eq p x dr]
  unfold Dev.parseCountIfs
  exact (((((((d.count_regsOnly _ _).trans (Dev.countIf_regsOnly _ _ _)).trans (Dev.countIf_regsOnly _ _ _)).trans
    (Dev.countIf_regsOnly _ _ _)).trans (Dev.countIf_regsOnly _ _ _)).trans (Dev.countIf_regsOnly _ _ _)).trans
    (Dev.countIf_regsOnly _ _ _)).trans (Dev.countIf_regsOnly _ _ _)

/-- Every pass counts once in PARSED. -/
theorem Dev.parseCounts_parsed (d : Dev) (p : Pkt) {x : ParseEnd} (dr : Nat × Nat × Bool) (hx : x.mal < 256) :
    (d.parseCounts p x dr).reg (Reg.PRS_COUNT 0) = d.plus (Reg.PRS_COUNT 0) 1 := by
  have hmal : Reg.PRS_COUNT 0 ≠ Reg.PRS_MAL_COUNT x.mal := by
    simp only [Reg.PRS_COUNT, Reg.PRS_MAL_COUNT]
    omega
  rw [d.parseCounts_eq p x dr]
  unfold Dev.parseCountIfs
  rw [Dev.countIf_reg _ _ (by decide), Dev.countIf_reg _ _ hmal, Dev.countIf_reg _ _ (by decide), Dev.countIf_reg _ _ (by decide),
    Dev.countIf_reg _ _ (by decide), Dev.countIf_reg _ _ (by decide), Dev.countIf_reg _ _ (by decide), d.reg_count]

/-! ### One pass -/

@[simp] theorem Dev.settle_words (d : Dev) (p : Pkt) : (d.settle p).words = p.words := by
  unfold Dev.settle
  split <;> rfl

theorem Dev.settle_word (d : Dev) (p : Pkt) (i : Nat) : (d.settle p).word i = p.word i := congrArg (wordAt · i) (d.settle_words p)

@[simp] theorem Dev.settle_bytes (d : Dev) (p : Pkt) : (d.settle p).bytes = p.bytes := by
  unfold Dev.settle
  split <;> rfl

theorem Dev.settle_merge (d : Dev) (p : Pkt) (h : p.stage = .merge) : (d.settle p).stage = .merge := by
  unfold Dev.settle
  split
  · rfl
  · exact h

/-- A packet at the lookups stays there, or has none to make (R178). -/
theorem Dev.settle_lookups (d : Dev) (p : Pkt) (h : p.stage = .lookups) : (d.settle p).stage = .lookups ∨ (d.settle p).stage = .merge := by
  unfold Dev.settle
  split
  · exact .inr rfl
  · exact .inl h

@[simp] theorem Dev.charge_stage (d : Dev) (p : Pkt) (k : Nat) : (d.charge p k).2.stage = p.stage := rfl

@[simp] theorem writeParse_bytes (p : Pkt) (x : ParseEnd) (dr : Nat × Nat × Bool) : (writeParse p x dr).bytes = p.bytes := by
  simp [writeParse, Pkt.putBytes]

theorem writeParse_stage (p : Pkt) (x : ParseEnd) (dr : Nat × Nat × Bool) : (writeParse p x dr).stage = if dr.2.2 then .lookups else .merge := rfl

/-- What PRS_MAL_LAST and its event make of the device after a malformed packet (R154, R165). -/
def Dev.malNote (d : Dev) (x : ParseEnd) (p : Pkt) : Dev := if x.mal = 0 then d else (d.setReg Reg.PRS_MAL_LAST (malLast p)).raise 1 0

theorem Dev.malNote_pkts (d : Dev) (x : ParseEnd) (p : Pkt) : (d.malNote x p).pkts = d.pkts := by
  unfold Dev.malNote
  split
  · rfl
  · exact Dev.raise_pkts _ _ _

theorem Dev.malNote_parsed (d : Dev) (x : ParseEnd) (p : Pkt) : (d.malNote x p).reg (Reg.PRS_COUNT 0) = d.reg (Reg.PRS_COUNT 0) := by
  unfold Dev.malNote
  split
  · rfl
  · rw [Dev.raise_regsKept _ (s := 1) (a := Reg.PRS_EVENT) 0 rfl _ (by decide), Dev.reg_setReg_other _ _ _ _ (by decide)]

/-- A pass stores the packet as written and charged, and changes no other packet. -/
theorem Dev.parsePkt_eq (d : Dev) (c : Nat) (p : Pkt) {dr : Nat × Nat × Bool}
    (hdr : parseDisp (policyBody (d.sec (p.get C.G) T.MALFORMED_POLICY 0)) (d.parseOf p) = dr) :
    ∃ e : Dev, d.parsePkt c p = e.setPkt c (e.settle ((d.parseCounts p (d.parseOf p) dr).charge (writeParse p (d.parseOf p) dr) 0).2) ∧
      e.pkts = d.pkts ∧ e.reg (Reg.PRS_COUNT 0) = d.plus (Reg.PRS_COUNT 0) 1 := by
  obtain ⟨y, hy⟩ : ∃ y, (d.parseCounts p (d.parseOf p) dr).charge (writeParse p (d.parseOf p) dr) 0 = y := ⟨_, rfl⟩
  have hregs : (d.parseCounts p (d.parseOf p) dr).RegsOnly y.1 := hy ▸ Dev.charge_regsOnly _ _ _
  refine ⟨y.1.malNote (d.parseOf p) y.2, ?_, ?_, ?_⟩
  · unfold Dev.parsePkt
    dsimp only
    rw [hdr, hy]
    rfl
  · rw [Dev.malNote_pkts, hregs.pkts, (d.parseCounts_regsOnly _ _ _).pkts]
  · rw [Dev.malNote_parsed, ← hy, Dev.charge_reg _ _ (by decide) (by unfold ClassReg; decide), d.parseCounts_parsed p dr (d.parseOf_mal p)]

theorem exec_parse (c : Nat) (s : State) (p : Pkt) (hr : s.dev.running = true) (hp : s.dev.pkt c = some p) (hs : p.stage = .crossed)
    (hl : s.dev.lineUp (p.get C.IN_PIPE) = true) : exec (.parse c) s = .next (s.withDev (s.dev.parsePkt c p)) := by
  show execParse c s = _
  unfold execParse
  rw [Dev.withPkt_acts _ _ _ _ p hr hp (by simp [hs, hl])]
  rfl

/-- Settles O10: the four ways in which parsing ends. -/
theorem parseEnds : Obligations.ParseEnds := by
  unfold Obligations.ParseEnds
  intro c p s hr hp hs hl _ x pol
  obtain ⟨dr, hdr⟩ : ∃ dr, parseDisp pol x = dr := ⟨_, rfl⟩
  obtain ⟨e, hpass, hpkts, hparsed⟩ := s.dev.parsePkt_eq c p hdr
  have hexec := exec_parse c s p hr hp hs hl
  rw [hpass] at hexec
  obtain ⟨r, hcharge⟩ : ∃ r, ((s.dev.parseCounts p x dr).charge (writeParse p x dr) 0).2 = r := ⟨_, rfl⟩
  rw [hcharge] at hexec
  have hword : ∀ i, i ≠ 1 → i ≠ 26 → (e.settle r).word i = (writeParse p x dr).word i := fun i h1 h26 => by
    rw [e.settle_word, ← hcharge, Dev.charge_word _ _ 0 h1 h26]
  have hshows := (writeParse_shows p x dr (hdr ▸ parseDisp_lt pol x)).of_words (hword 2 (by decide) (by decide)) (hword 3 (by decide) (by decide))
  have hbytes : (e.settle r).bytes = p.bytes := by
    rw [Dev.settle_bytes, ← hcharge, Dev.charge_bytes, writeParse_bytes]
  have hstage : r.stage = if dr.2.2 then .lookups else .merge := by rw [← hcharge, Dev.charge_stage, writeParse_stage]
  have hmerge : dr.2.2 = false → (e.settle r).stage = .merge := fun h => e.settle_merge r (by rw [hstage, h]; rfl)
  refine ⟨_, _, hexec, Dev.pkt_setPkt_same _ _ _, fun k hk => ?_, rfl, hbytes, hshows.mal, hshows.state, hshows.payload, hshows.layers, hshows.frag,
    hshows.first, hparsed, fun hm ha => ?_, fun r h ho => ?_, fun h ho hf => ?_, fun h ho hf => ?_⟩
  · exact (Dev.pkt_setPkt_other _ _ _ _ hk).trans (congrArg (Map.find · k) hpkts)
  · obtain rfl := hdr.symm.trans (parseDisp_malformed hm ha)
    exact ⟨hshows.disp, hshows.reason, hmerge rfl⟩
  · obtain rfl := hdr.symm.trans (parseDisp_odd h ho)
    exact ⟨hshows.disp, hshows.reason, hmerge rfl⟩
  · obtain rfl := hdr.symm.trans (parseDisp_frag h ho hf)
    exact ⟨hshows.disp, hshows.reason, hmerge rfl⟩
  · obtain rfl := hdr.symm.trans (parseDisp_accept h ho hf)
    exact ⟨hshows.disp, hshows.reason, e.settle_lookups r hstage⟩

end Sys2Proof.Machine
end

section
/-! PROOFS. Token buckets at the time they are stored (R348 to R351), and what a policer does to the device (R362). -/

namespace Sys2Proof.Machine

/-! ### Levels (R349 to R351) -/

theorem Dev.refillAdd_zero (d : Dev) (kind : Nat) (w : Word) : d.refillAdd kind w 0 = 0 := by
  unfold Dev.refillAdd
  dsimp only
  split <;> simp

/-- A bucket stored as of now has its level, limited to its DEPTH. -/
theorem Dev.levelNow_of_now {d : Dev} {kind i : Nat} {l : Int} (h : d.bucket kind i = ⟨l, d.free⟩) :
    d.levelNow kind i = min l (depthOf (d.reg (bucketReg kind i))) := by
  unfold Dev.levelNow
  rw [h]
  simp [Dev.refillAdd_zero]

theorem Dev.bucket_of_find {d : Dev} {kind i : Nat} {b : Bucket} (h : Map.find d.buckets (bucketKey kind i) = some b) : d.bucket kind i = b := by
  unfold Dev.bucket Map.getD
  rw [h]
  rfl

/-- A bucket that is not stored stands at its DEPTH (R351). -/
theorem Dev.levelNow_unlisted {d : Dev} {kind i : Nat} (h : Map.find d.buckets (bucketKey kind i) = none) :
    d.levelNow kind i = depthOf (d.reg (bucketReg kind i)) := by
  have hb : d.bucket kind i = ⟨depthOf (d.reg (bucketReg kind i)), d.free⟩ := by
    unfold Dev.bucket Map.getD
    rw [h]
    rfl
  rw [Dev.levelNow_of_now hb, min_self]

theorem Dev.levelNow_le_depth (d : Dev) (kind i : Nat) : d.levelNow kind i ≤ depthOf (d.reg (bucketReg kind i)) := min_le_right _ _

theorem Dev.free_of_tim {d e : Dev} (h : e.tim = d.tim) : e.free = d.free := by rw [Dev.free, Dev.free, h]

/-- A policer's level depends on its register, its bucket and TIM_FREE alone: SCH_ESCALE does not scale it. -/
theorem Dev.levelNow_policer {d e : Dev} {i : Nat} (hr : e.reg (Reg.SCH_POL i) = d.reg (Reg.SCH_POL i)) (hb : e.buckets = d.buckets)
    (ht : e.tim = d.tim) : e.levelNow 4 i = d.levelNow 4 i := by
  have hreg : e.reg (bucketReg 4 i) = d.reg (bucketReg 4 i) := hr
  have hbucket : e.bucket 4 i = d.bucket 4 i := by rw [Dev.bucket, Dev.bucket, hreg, hb, Dev.free_of_tim ht]
  have hadd : ∀ w dt, e.refillAdd 4 w dt = d.refillAdd 4 w dt := fun w dt => rfl
  unfold Dev.levelNow
  simp only [hreg, hbucket, hadd, Dev.free_of_tim ht]

@[simp] theorem Dev.buckets_setLevel_same (d : Dev) (kind i : Nat) (l : Int) :
    Map.find (d.setLevel kind i l).buckets (bucketKey kind i) = some ⟨l, d.free⟩ := Map.find_put_same _ _ _

/-! ### The policer (R362) -/

/-- What the policer of packet `p` charges for it: its frame's length, or its energy. -/
def Dev.policeCost (d : Dev) (p : Pkt) : Int :=
  if bkUNIT.of (d.reg (Reg.SCH_POL (p.get C.POLICER))) = 0 then ((p.get C.FRAME_LEN * 8000000 : Nat) : Int) else (p.get C.ENERGY : Int)

theorem Dev.policer_passes {d : Dev} {p : Pkt} {k : Nat} (hk : p.get C.POLICER = k) (he : bkEN.of (d.reg (Reg.SCH_POL k)) = 1)
    (hl : d.policeCost p ≤ d.levelNow 4 k) :
    d.policer p = ((d.setLevel 4 k (d.levelNow 4 k - d.policeCost p)).count (Reg.SCH_COUNT 3) 1, true) := by
  subst hk
  unfold Dev.policer
  rw [if_neg (by rw [he]; decide)]
  exact if_pos hl

theorem Dev.policer_drops {d : Dev} {p : Pkt} {k : Nat} (hk : p.get C.POLICER = k) (he : bkEN.of (d.reg (Reg.SCH_POL k)) = 1)
    (hl : d.levelNow 4 k < d.policeCost p) :
    d.policer p = ((((d.setLevel 4 k (d.levelNow 4 k)).count (Reg.SCH_COUNT 4) 1).count (Reg.SCH_POL_DROP k) 1).raise 7 0, false) := by
  subst hk
  unfold Dev.policer
  rw [if_neg (by rw [he]; decide)]
  exact if_neg (Int.not_le.mpr hl)

theorem Dev.policeStep_off (d : Dev) {p : Pkt} (h : p.get C.POLICE_EN = 0) : d.policeStep p = (d, p) := by
  unfold Dev.policeStep
  rw [if_neg (by simp [Pkt.flag, h])]

theorem Dev.policeStep_on (d : Dev) {p : Pkt} (h : p.get C.POLICE_EN = 1) (hd : p.get C.DISP = Disp.forward) {x : Dev × Pkt} (hx : d.charge p 6 = x)
    {e : Dev} {ok : Bool} (hpol : x.1.policer x.2 = (e, ok)) : d.policeStep p = (e, if ok then x.2 else x.2.dispose Disp.drop 0x14) := by
  subst hx
  unfold Dev.policeStep
  rw [if_pos (by simp [Pkt.flag, Pkt.isDisp, h, hd])]
  dsimp only
  rw [hpol]

@[simp] theorem Dev.setLevel_reg (d : Dev) (kind i : Nat) (l : Int) (a : Nat) : (d.setLevel kind i l).reg a = d.reg a := rfl

@[simp] theorem Dev.charge_pkts (d : Dev) (p : Pkt) (k : Nat) : (d.charge p k).1.pkts = d.pkts := by rw [d.charge_regsOnly p k]
@[simp] theorem Dev.charge_buckets (d : Dev) (p : Pkt) (k : Nat) : (d.charge p k).1.buckets = d.buckets := by rw [d.charge_regsOnly p k]
@[simp] theorem Dev.charge_tim (d : Dev) (p : Pkt) (k : Nat) : (d.charge p k).1.tim = d.tim := by rw [d.charge_regsOnly p k]

/-- What the POLICE charge leaves of the device for the policer. -/
theorem Dev.charge_police (d : Dev) (p : Pkt) (k : Nat) :
    (d.charge p 6).1.reg (Reg.SCH_POL k) = d.reg (Reg.SCH_POL k) ∧ (d.charge p 6).1.levelNow 4 k = d.levelNow 4 k := by
  have hreg : (d.charge p 6).1.reg (Reg.SCH_POL k) = d.reg (Reg.SCH_POL k) :=
    d.charge_reg p (by decide) (by simp only [ClassReg, Reg.SCH_POL]; omega)
  exact ⟨hreg, Dev.levelNow_policer hreg (d.charge_buckets p 6) (d.charge_tim p 6)⟩

end Sys2Proof.Machine
end

section
/-! PROOFS. Step 6 (R159, R255, R362): policing, the punt limiter and the queue. -/

namespace Sys2Proof.Machine

/-! ### The queue after spreading (R255) -/

/-- The packet with its final port and the queue of subscriber `sub`. -/
def Pkt.queued (p : Pkt) (sub : Nat) : Pkt :=
  ((p.put C.DEST (finalPort p)).put C.MCAST 0).put C.QUEUE (8 * sub + ((p.put C.DEST (finalPort p)).put C.MCAST 0).get C.TC)

/-- The subscriber of a packet that goes to `port`. -/
def Dev.subOf (d : Dev) (p : Pkt) (port : Nat) : Nat := p.sub.getD (d.fld (Reg.ACT_PORT_SUB port) F.ACT_PORT_SUB_SUB)

theorem Dev.queueStep_unicast (d : Dev) {p : Pkt} (h : (p.flag C.MCAST && p.isDisp [Disp.forward]) = false) :
    d.queueStep p = if d.subPort (d.subOf p (finalPort p)) = some (finalPort p) then (d, p.queued (d.subOf p (finalPort p)))
      else (d.count (Reg.ACT_COUNT 4) 1, (p.queued (d.subOf p (finalPort p))).dispose Disp.drop 0x23) := by
  unfold Dev.queueStep
  rw [if_neg (by simp [h])]
  rfl

/-- The queue's step counts a packet that it drops, and does nothing else to the device. -/
theorem Dev.queueStep_dev (d : Dev) (p : Pkt) : ∃ b, (d.queueStep p).1 = d.countIf b (Reg.ACT_COUNT 4) := by
  cases h : p.flag C.MCAST && p.isDisp [Disp.forward] with
  | true => exact ⟨false, by unfold Dev.queueStep; rw [if_pos h]; rfl⟩
  | false =>
    rw [d.queueStep_unicast h]
    split
    · exact ⟨false, rfl⟩
    · exact ⟨true, rfl⟩

/-- A packet's port and queue are fields of words 2 and 22. -/
theorem Pkt.queued_get (p : Pkt) (sub : Nat) {f : CtxFld} (h : [C.DEST, C.MCAST, C.QUEUE].all f.apart = true) : (p.queued sub).get f = p.get f := by
  simp only [List.all_cons, List.all_nil, Bool.and_eq_true] at h
  obtain ⟨hd, hm, hq, -⟩ := h
  unfold Pkt.queued
  rw [Pkt.get_put_other _ _ hq, Pkt.get_put_other _ _ hm, Pkt.get_put_other _ _ hd]

theorem Pkt.queued_queue (p : Pkt) (sub : Nat) (hl : p.words.length = 32) : (p.queued sub).get C.QUEUE = (8 * sub + p.get C.TC) % 131072 := by
  unfold Pkt.queued
  rw [Pkt.get_put_same _ _ (by simpa using hl) (by decide), Pkt.get_put_other _ _ (by decide), Pkt.get_put_other _ _ (by decide)]
  rfl

theorem Pkt.queued_dest (p : Pkt) (sub : Nat) (hl : p.words.length = 32) : (p.queued sub).get C.DEST = finalPort p % 65536 := by
  unfold Pkt.queued
  rw [Pkt.get_put_other _ _ (by decide), Pkt.get_put_other _ _ (by decide), Pkt.get_put_same _ _ hl (by decide)]
  rfl

@[simp] theorem Pkt.length_queued (p : Pkt) (sub : Nat) : (p.queued sub).words.length = p.words.length := by simp [Pkt.queued]
@[simp] theorem Pkt.queued_bytes (p : Pkt) (sub : Nat) : (p.queued sub).bytes = p.bytes := rfl

/-- A FORWARD packet goes to the port that its DEST names. -/
theorem finalPort_forward {p : Pkt} (h : p.get C.DISP = Disp.forward) : finalPort p = p.get C.DEST := by
  simp [finalPort, Pkt.isDisp, h, Disp.forward, Disp.host, Disp.punt, Disp.recirc]

theorem Dev.bit_of_reg {d e : Dev} {a : Nat} (h : e.reg a = d.reg a) (f : Fld) : e.bit a f = d.bit a f := congrArg (f.of · != 0) h

/-- A subscriber's port depends on the records of the tree alone (R344). -/
theorem Dev.subPort_of_tree {d e : Dev} {sub : Nat} (hs : sub < 16384) (h : ∀ a, 0xA01000 ≤ a → a < 0xA40000 → e.reg a = d.reg a) :
    e.subPort sub = d.subPort sub := by
  have hsub : e.reg (Reg.SCH_SUB sub) = d.reg (Reg.SCH_SUB sub) := h _ (by simp only [Reg.SCH_SUB]; omega) (by simp only [Reg.SCH_SUB]; omega)
  have hgroup : ∀ g, g < 2048 → e.groupPort g = d.groupPort g := fun g hg => by
    have hreg : e.reg (Reg.SCH_GROUP g) = d.reg (Reg.SCH_GROUP g) := h _ (by simp only [Reg.SCH_GROUP]; omega) (by simp only [Reg.SCH_GROUP]; omega)
    unfold Dev.groupPort
    rw [Dev.bit_of_reg hreg, Dev.fld_of_reg hreg]
  have hparent : d.fld (Reg.SCH_SUB sub) F.SCH_SUB_PARENT < 2048 := Fld.of_lt F.SCH_SUB_PARENT _
  unfold Dev.subPort
  rw [Dev.bit_of_reg hsub, Dev.fld_of_reg hsub, hgroup _ hparent]

/-! ### The end of step 6 -/

/-- A packet that policing, the punt limiter and spreading let pass gets its queue and goes to admission, or is dropped. -/
def Dev.queueEnd (d : Dev) (c : Nat) (p : Pkt) : Dev :=
  if (d.queueStep p).2.get C.DISP = Disp.drop then (d.queueStep p).1.discard c (d.queueStep p).2
  else (d.queueStep p).1.setPkt c { (d.queueStep p).2 with stage := .admission }

theorem Dev.policePkt_waits {d : Dev} {c : Nat} {p : Pkt} (h : d.inOrder c p = false) : d.policePkt c p = d := by simp [Dev.policePkt, h]

section
variable {d e f : Dev} {c : Nat} {p q r : Pkt} (hi : d.inOrder c p = true) (hpol : d.policeStep p = (e, q))
include hi hpol

theorem Dev.policePkt_policed (hq : q.get C.DISP = Disp.drop) : d.policePkt c p = e.discard c q := by simp [Dev.policePkt, hi, hpol, hq]

theorem Dev.policePkt_limited (hq : q.get C.DISP ≠ Disp.drop) (hpunt : e.puntStep q = (f, r)) (hr : r.get C.DISP = Disp.drop) :
    d.policePkt c p = f.discard c r := by simp [Dev.policePkt, hi, hpol, hq, hpunt, hr]

theorem Dev.policePkt_passes (hq : q.get C.DISP ≠ Disp.drop) (hpunt : e.puntStep q = (f, r)) (hr : r.get C.DISP ≠ Disp.drop)
    (hs : f.spreadStep r = (f, r)) : d.policePkt c p = f.queueEnd c r := by
  simp [Dev.policePkt, Dev.queueEnd, hi, hpol, hq, hpunt, hr, hs]

/-- A FORWARD packet outside a group is neither limited nor spread. -/
theorem Dev.policePkt_forward (hq : q.get C.DISP = Disp.forward) (hg : q.group = none) : d.policePkt c p = e.queueEnd c q := by
  have hpunt : e.puntStep q = (e, q) := if_neg (by rw [hq]; decide)
  have hspread : e.spreadStep q = (e, q) := by
    unfold Dev.spreadStep
    rw [hg]
  exact Dev.policePkt_passes hi hpol (by rw [hq]; decide) hpunt (by rw [hq]; decide) hspread

end

section
variable {d : Dev} {c : Nat} {p : Pkt} {port : Nat} (hd : p.get C.DISP = Disp.forward) (hm : p.get C.MCAST = 0) (hp : p.get C.DEST = port)
include hd hm hp

theorem Dev.queueEnd_admits (hs : d.subPort (d.subOf p port) = some port) :
    d.queueEnd c p = d.setPkt c { p.queued (d.subOf p port) with stage := .admission } := by
  have hstep := d.queueStep_unicast (p := p) (by simp [Pkt.flag, hm])
  rw [finalPort_forward hd, hp, if_pos hs] at hstep
  unfold Dev.queueEnd
  rw [hstep, if_neg (by rw [Pkt.queued_get _ _ (by decide), hd]; decide)]

theorem Dev.queueEnd_drops (hl : p.words.length = 32) (hs : d.subPort (d.subOf p port) ≠ some port) :
    d.queueEnd c p = (d.count (Reg.ACT_COUNT 4) 1).discard c ((p.queued (d.subOf p port)).dispose Disp.drop 0x23) := by
  have hstep := d.queueStep_unicast (p := p) (by simp [Pkt.flag, hm])
  rw [finalPort_forward hd, hp, if_neg hs] at hstep
  unfold Dev.queueEnd
  rw [hstep, if_pos (Pkt.get_dispose_disp _ _ _ (by simpa using hl) (by decide))]

end

/-- The end of step 6 leaves the punt limiter, and every register but ACT_COUNT4 and the accumulators. -/
theorem Dev.queueEnd_kept (d : Dev) (c : Nat) (p : Pkt) :
    (d.queueEnd c p).credit = d.credit ∧ (d.queueEnd c p).creditAt = d.creditAt ∧
    ∀ a, a < 0x40700 ∨ 0x40748 ≤ a → a ≠ Reg.ACT_COUNT 4 → (d.queueEnd c p).reg a = d.reg a := by
  obtain ⟨b, hb⟩ := d.queueStep_dev p
  have honly := d.countIf_regsOnly b (Reg.ACT_COUNT 4)
  unfold Dev.queueEnd
  rw [hb]
  refine ⟨?_, ?_, fun a ha h4 => ?_⟩
  · exact (show _ = (d.countIf b (Reg.ACT_COUNT 4)).credit by split <;> rfl).trans (by rw [honly])
  · exact (show _ = (d.countIf b (Reg.ACT_COUNT 4)).creditAt by split <;> rfl).trans (by rw [honly])
  · split
    · exact (Dev.discard_reg _ _ _ ha).trans (d.countIf_reg b h4)
    · exact d.countIf_reg b h4

theorem exec_police (c : Nat) (s : State) (p : Pkt) (hr : s.dev.running = true) (hp : s.dev.pkt c = some p) (hs : p.stage = .police)
    (hl : s.dev.lineUp 99 = true) : exec (.police c) s = .next (s.withDev (s.dev.policePkt c p)) := by
  show execPolice c s = _
  unfold execPolice
  rw [Dev.withPkt_acts _ _ _ _ p hr hp (by simp [hs, hl])]
  rfl

/-! ### A packet that the queue drops (R53, R255) -/

theorem Dev.count_accKept (d : Dev) {a : Nat} (n : Nat) (h : a < 0x40700 ∨ 0x40748 ≤ a) : d.AccKept (d.count a n) where
  pkts := rfl
  acc k hk := d.reg_count_other _ _ _ (by simp only [Reg.PWR_ACC]; omega)

theorem Dev.queueDrop_freed (d : Dev) (c : Nat) (p : Pkt) (sub : Nat) :
    d.freedInto ((d.count (Reg.ACT_COUNT 4) 1).discard c ((p.queued sub).dispose Disp.drop 0x23)) c (p.get C.IN_PIPE)
      (p.get C.ENERGY - p.get C.FORECAST) ∧
    ((d.count (Reg.ACT_COUNT 4) 1).discard c ((p.queued sub).dispose Disp.drop 0x23)).reg (Reg.ACT_COUNT 4) = d.plus (Reg.ACT_COUNT 4) 1 := by
  have hget : ∀ f : CtxFld, [C.DEST, C.MCAST, C.QUEUE].all f.apart = true → f.apart C.DISP = true → f.apart C.REASON = true →
      ((p.queued sub).dispose Disp.drop 0x23).get f = p.get f := fun f h hd hr => by
    rw [Pkt.get_dispose_other _ _ _ hd hr, p.queued_get sub h]
  have hfreed := (d.count_accKept (a := Reg.ACT_COUNT 4) 1 (by decide)).discard (c := c) (p := (p.queued sub).dispose Disp.drop 0x23)
  rw [hget C.IN_PIPE (by decide) (by decide) (by decide), hget C.ENERGY (by decide) (by decide) (by decide),
    hget C.FORECAST (by decide) (by decide) (by decide)] at hfreed
  exact ⟨hfreed, (Dev.discard_reg _ _ _ (by decide)).trans (d.reg_count _ _)⟩

/-! ### A packet that the policer takes (R362) -/

/-- The device after policer `k` has dropped a packet. -/
def Dev.policeDropped (d : Dev) (k : Nat) : Dev :=
  (((d.setLevel 4 k (d.levelNow 4 k)).count (Reg.SCH_COUNT 4) 1).count (Reg.SCH_POL_DROP k) 1).raise 7 0

/-- The device after policer `k` has charged `cost`. -/
def Dev.policeTaken (d : Dev) (k : Nat) (cost : Int) : Dev := (d.setLevel 4 k (d.levelNow 4 k - cost)).count (Reg.SCH_COUNT 3) 1

theorem Dev.policeDropped_pkts (d : Dev) (k : Nat) : (d.policeDropped k).pkts = d.pkts := Dev.raise_pkts _ _ _

theorem Dev.policeDropped_regsKept (d : Dev) (k : Nat) :
    d.regsKept (d.policeDropped k) ([Reg.SCH_COUNT 4, Reg.SCH_POL_DROP k] ++ eventRegs Reg.SCH_EVENT) := by
  have hlevel : d.regsKept (d.setLevel 4 k (d.levelNow 4 k)) ([Reg.SCH_COUNT 4, Reg.SCH_POL_DROP k] ++ eventRegs Reg.SCH_EVENT) :=
    d.regsKept_of_regs rfl _
  have hcount := (hlevel.trans (Dev.count_regsKept _ (a := Reg.SCH_COUNT 4) 1 (by simp))).trans
    (Dev.count_regsKept _ (a := Reg.SCH_POL_DROP k) 1 (by simp))
  exact hcount.trans ((Dev.raise_regsKept _ 0 rfl).mono (List.subset_append_right _ _))

/-- A drop by the policer is counted twice: in SCH_COUNT4 and for the policer. -/
theorem Dev.policeDropped_counts (d : Dev) {k : Nat} (hk : k < 65536) :
    (d.policeDropped k).reg (Reg.SCH_COUNT 4) = d.plus (Reg.SCH_COUNT 4) 1 ∧
    (d.policeDropped k).reg (Reg.SCH_POL_DROP k) = d.plus (Reg.SCH_POL_DROP k) 1 := by
  have hne : Reg.SCH_COUNT 4 ≠ Reg.SCH_POL_DROP k := by
    simp only [Reg.SCH_COUNT, Reg.SCH_POL_DROP]
    omega
  have hout : Reg.SCH_POL_DROP k ∉ eventRegs Reg.SCH_EVENT := by
    simp only [eventRegs, List.mem_cons, List.not_mem_nil, or_false, Reg.SCH_POL_DROP, Reg.SCH_EVENT, Reg.HIF_COUNT, Reg.SYS_MSIX_PBA]
    omega
  have hraise := fun (e : Dev) => e.raise_regsKept (s := 7) (a := Reg.SCH_EVENT) 0 rfl
  unfold Dev.policeDropped
  refine ⟨?_, ?_⟩
  · rw [hraise _ _ (by decide), Dev.reg_count_other _ _ _ _ hne, Dev.reg_count]
    rfl
  · rw [hraise _ _ hout, Dev.reg_count, Dev.plus, Dev.reg_count_other _ _ _ _ hne.symm]
    rfl

/-- A policer that drops keeps its level (R362). -/
theorem Dev.policeDropped_level (d : Dev) {k : Nat} (hk : k < 65536) : (d.policeDropped k).levelNow 4 k = d.levelNow 4 k := by
  have hmsg : ∀ e : Dev, (e.raise 7 0).buckets = e.buckets ∧ (e.raise 7 0).tim = e.tim := fun e =>
    ⟨by rw [e.raise_messageOnly 7 0], e.raise_tim 7 0⟩
  have hfree : (d.policeDropped k).free = d.free := Dev.free_of_tim (hmsg _).2
  have hreg : (d.policeDropped k).reg (bucketReg 4 k) = d.reg (bucketReg 4 k) := by
    refine d.policeDropped_regsKept k _ ?_
    have hpol : bucketReg 4 k = Reg.SCH_POL k := rfl
    simp only [hpol, eventRegs, List.cons_append, List.nil_append, List.mem_cons, List.not_mem_nil, or_false, Reg.SCH_POL, Reg.SCH_COUNT,
      Reg.SCH_POL_DROP, Reg.SCH_EVENT, Reg.HIF_COUNT, Reg.SYS_MSIX_PBA]
    omega
  have hbucket : (d.policeDropped k).bucket 4 k = ⟨d.levelNow 4 k, (d.policeDropped k).free⟩ := by
    rw [hfree]
    refine Dev.bucket_of_find ?_
    rw [Dev.policeDropped, (hmsg _).1]
    exact d.buckets_setLevel_same 4 k _
  rw [Dev.levelNow_of_now hbucket, hreg, min_eq_left (d.levelNow_le_depth 4 k)]

/-- What the policer charges for a packet after its POLICE charge. -/
theorem Dev.charge_policeCost (d : Dev) (p : Pkt) : (d.charge p 6).1.policeCost (d.charge p 6).2 =
    if bkUNIT.of (d.reg (Reg.SCH_POL (p.get C.POLICER))) = 0 then ((p.get C.FRAME_LEN * 8000000 : Nat) : Int)
    else ((d.charge p 6).2.get C.ENERGY : Int) := by
  unfold Dev.policeCost
  rw [d.charge_get p 6 (f := C.POLICER) (by decide) (by decide) (by decide), d.charge_get p 6 (f := C.FRAME_LEN) (by decide) (by decide) (by decide),
    (d.charge_police p _).1]

section
variable {d : Dev} {p : Pkt} {k : Nat} (hk : p.get C.POLICER = k) (hp : p.get C.POLICE_EN = 1) (hd : p.get C.DISP = Disp.forward)
  (he : bkEN.of (d.reg (Reg.SCH_POL k)) = 1)
include hk hp hd he

theorem Dev.policeStep_passes (hl : (d.charge p 6).1.policeCost (d.charge p 6).2 ≤ d.levelNow 4 k) :
    d.policeStep p = ((d.charge p 6).1.policeTaken k ((d.charge p 6).1.policeCost (d.charge p 6).2), (d.charge p 6).2) := by
  obtain ⟨hreg, hlevel⟩ := d.charge_police p k
  have hk' : (d.charge p 6).2.get C.POLICER = k := (d.charge_get p 6 (by decide) (by decide) (by decide)).trans hk
  exact d.policeStep_on hp hd rfl (Dev.policer_passes hk' (by rw [hreg, he]) (by rw [hlevel]; exact hl))

theorem Dev.policeStep_drops (hl : d.levelNow 4 k < (d.charge p 6).1.policeCost (d.charge p 6).2) :
    d.policeStep p = ((d.charge p 6).1.policeDropped k, (d.charge p 6).2.dispose Disp.drop 0x14) := by
  obtain ⟨hreg, hlevel⟩ := d.charge_police p k
  have hk' : (d.charge p 6).2.get C.POLICER = k := (d.charge_get p 6 (by decide) (by decide) (by decide)).trans hk
  exact d.policeStep_on hp hd rfl (Dev.policer_drops hk' (by rw [hreg, he]) (by rw [hlevel]; exact hl))

end

/-- A packet that its policer drops is gone, is counted, and costs the policer nothing. -/
theorem Dev.policeDrop_outcome (d : Dev) (c : Nat) (p q : Pkt) {k : Nat} (hk : k < 65536) :
    let e := ((d.charge p 6).1.policeDropped k).discard c q
    e.pkt c = none ∧ d.pktsKept e c ∧ e.levelNow 4 k = d.levelNow 4 k ∧ e.reg (Reg.SCH_COUNT 4) = d.plus (Reg.SCH_COUNT 4) 1 ∧
      e.reg (Reg.SCH_POL_DROP k) = d.plus (Reg.SCH_POL_DROP k) 1 := by
  intro e
  have hpkts : e.pkts = Map.del d.pkts c := congrArg (Map.del · c) ((Dev.policeDropped_pkts _ k).trans (d.charge_pkts p 6))
  have hreg : ∀ a, 0x40748 ≤ a → e.reg a = ((d.charge p 6).1.policeDropped k).reg a := fun a ha => Dev.discard_reg _ _ _ (.inr ha)
  have hplus : ∀ a, ¬ ClassReg a → (d.charge p 6).1.plus a 1 = d.plus a 1 := fun a ha => by rw [Dev.plus, Dev.plus, d.charge_reg p (by decide) ha]
  obtain ⟨hcount, hdrop⟩ := (d.charge p 6).1.policeDropped_counts hk
  refine ⟨?_, fun j hj => ?_, ?_, ?_, ?_⟩
  · rw [Dev.pkt, hpkts, Map.find_del_same]
  · rw [Dev.pkt, hpkts, Map.find_del_other _ _ _ hj]
    rfl
  · have hpol : e.levelNow 4 k = ((d.charge p 6).1.policeDropped k).levelNow 4 k :=
      Dev.levelNow_policer (hreg _ (by simp only [Reg.SCH_POL]; omega)) rfl rfl
    rw [hpol, Dev.policeDropped_level _ hk, (d.charge_police p k).2]
  · rw [hreg _ (by decide), hcount, hplus _ (by unfold ClassReg; decide)]
  · rw [hreg _ (by simp only [Reg.SCH_POL_DROP]; omega), hdrop, hplus _ (by simp only [ClassReg, Reg.SCH_POL_DROP]; omega)]

/-- The policer's charge leaves every register but the class accumulators and SCH_COUNT3. -/
theorem Dev.policeTaken_reg (d : Dev) (p : Pkt) (k : Nat) (cost : Int) {a : Nat} (hc : ¬ ClassReg a) (h3 : a ≠ Reg.SCH_COUNT 3) :
    ((d.charge p 6).1.policeTaken k cost).reg a = d.reg a := by
  rw [Dev.policeTaken, Dev.reg_count_other _ _ _ _ h3, Dev.setLevel_reg, d.charge_reg p (by decide) hc]

/-- The policer's charge is counted and stored. -/
theorem Dev.policeTaken_stored (d : Dev) (p : Pkt) (k : Nat) (cost : Int) :
    ((d.charge p 6).1.policeTaken k cost).reg (Reg.SCH_COUNT 3) = d.plus (Reg.SCH_COUNT 3) 1 ∧
    Map.find ((d.charge p 6).1.policeTaken k cost).buckets (bucketKey 4 k) = some ⟨d.levelNow 4 k - cost, d.free⟩ := by
  refine ⟨?_, ?_⟩
  · rw [Dev.policeTaken, Dev.reg_count, Dev.plus, Dev.plus, Dev.setLevel_reg, d.charge_reg p (by decide) (by unfold ClassReg; decide)]
  · rw [← (d.charge_police p k).2, ← Dev.free_of_tim (d.charge_tim p 6)]
    exact Dev.buckets_setLevel_same _ 4 k _

theorem Dev.setPkt_reg (d : Dev) (c : Nat) (p : Pkt) (a : Nat) : (d.setPkt c p).reg a = d.reg a := rfl

theorem Dev.policeTaken_pkts (d : Dev) (k : Nat) (cost : Int) : (d.policeTaken k cost).pkts = d.pkts := rfl

/-- The policer's charge leaves the tree of queues and the subscribers of the ports. -/
theorem Dev.policeTaken_subPort (d : Dev) (p : Pkt) (k : Nat) (cost : Int) {port : Nat} (hport : port ≤ 131) (hsub : d.subOf p port < 16384) :
    ((d.charge p 6).1.policeTaken k cost).subPort (((d.charge p 6).1.policeTaken k cost).subOf (d.charge p 6).2 port) =
      d.subPort (d.subOf p port) := by
  have hreg := fun a => d.policeTaken_reg p k cost (a := a)
  have hps := hreg (Reg.ACT_PORT_SUB port) (by simp only [ClassReg, Reg.ACT_PORT_SUB]; omega) (by simp only [Reg.ACT_PORT_SUB, Reg.SCH_COUNT]; omega)
  have hsame : ((d.charge p 6).1.policeTaken k cost).subOf (d.charge p 6).2 port = d.subOf p port := by
    unfold Dev.subOf
    rw [Dev.fld_of_reg hps]
    rfl
  rw [hsame]
  exact Dev.subPort_of_tree hsub fun a h1 _ => hreg a (by simp only [ClassReg]; omega) (by simp only [Reg.SCH_COUNT]; omega)

/-- A packet that its policer passes goes to admission when its subscriber is below its port. -/
theorem Dev.policePkt_charged {d : Dev} {c k port : Nat} {p : Pkt} (hk : p.get C.POLICER = k) (hon : p.get C.POLICE_EN = 1)
    (hd : p.get C.DISP = Disp.forward) (he : bkEN.of (d.reg (Reg.SCH_POL k)) = 1) (hi : d.inOrder c p = true) (hg : p.group = none)
    (hm : p.get C.MCAST = 0) (hdest : p.get C.DEST = port) (hport : port ≤ 131) (hsub : d.subOf p port < 16384)
    (hsp : d.subPort (d.subOf p port) = some port) (hl : (d.charge p 6).1.policeCost (d.charge p 6).2 ≤ d.levelNow 4 k) :
    ∃ q, d.policePkt c p = ((d.charge p 6).1.policeTaken k ((d.charge p 6).1.policeCost (d.charge p 6).2)).setPkt c q ∧ q.stage = .admission := by
  have hget : ∀ f : CtxFld, f.apart C.ENERGY = true → f.apart C.SATURATED = true → f.apart C.STAGE_MASK = true →
      (d.charge p 6).2.get f = p.get f := fun f h1 h2 h3 => d.charge_get p 6 h1 h2 h3
  have hd1 := (hget C.DISP (by decide) (by decide) (by decide)).trans hd
  refine ⟨_, (Dev.policePkt_forward hi (Dev.policeStep_passes hk hon hd he hl) hd1 hg).trans
    (Dev.queueEnd_admits hd1 ((hget C.MCAST (by decide) (by decide) (by decide)).trans hm)
      ((hget C.DEST (by decide) (by decide) (by decide)).trans hdest) ((d.policeTaken_subPort p k _ hport hsub).trans hsp)), rfl⟩

/-! ### The punt limiter (R159) -/

/-- A PUNT packet is not spread. -/
theorem Dev.spreadStep_skips (d : Dev) {p : Pkt} (h : p.get C.DISP ≠ Disp.forward) : d.spreadStep p = (d, p) := by
  unfold Dev.spreadStep
  split
  · rfl
  · exact if_pos h

/-- The limiter with credit `k` as of now. -/
def Dev.setCredit (d : Dev) (k : Nat) : Dev := { d with credit := k, creditAt := d.free }

theorem Dev.setCredit_count (d : Dev) (k a : Nat) : ((d.setCredit k).count a 1).reg a = d.plus a 1 := Dev.reg_count (d.setCredit k) a 1

theorem Dev.puntStep_takes (d : Dev) {p : Pkt} (hd : p.get C.DISP = Disp.punt) (hk : 1000000000 ≤ d.puntCredit) :
    d.puntStep p = ((d.setCredit (d.puntCredit - 1000000000)).count (Reg.PRS_COUNT 5) 1, p) := by
  unfold Dev.puntStep
  rw [if_pos hd]
  exact if_pos hk

theorem Dev.puntStep_drops (d : Dev) {p : Pkt} (hd : p.get C.DISP = Disp.punt) (hk : d.puntCredit < 1000000000) :
    d.puntStep p = (((d.setCredit d.puntCredit).count (Reg.PRS_COUNT 6) 1).raise 1 1, p.dispose Disp.drop 0x08) := by
  unfold Dev.puntStep
  rw [if_pos hd]
  exact if_neg (Nat.not_le.mpr hk)

/-- A PUNT packet that the limiter drops is gone, counted and signalled. -/
theorem Dev.puntDrop_outcome (d : Dev) (c k : Nat) (q : Pkt) :
    let e := (((d.setCredit k).count (Reg.PRS_COUNT 6) 1).raise 1 1).discard c q
    e.pkt c = none ∧ d.pktsKept e c ∧ e.credit = k ∧ e.reg (Reg.PRS_COUNT 6) = d.plus (Reg.PRS_COUNT 6) 1 ∧
      (e.reg Reg.PRS_EVENT).getLsbD 1 = true := by
  intro e
  have hpkts : e.pkts = Map.del d.pkts c := congrArg (Map.del · c) (Dev.raise_pkts _ 1 1)
  refine ⟨?_, fun j hj => ?_, ?_, ?_, ?_⟩
  · rw [Dev.pkt, hpkts, Map.find_del_same]
  · rw [Dev.pkt, hpkts, Map.find_del_other _ _ _ hj]
    rfl
  · show (((d.setCredit k).count (Reg.PRS_COUNT 6) 1).raise 1 1).credit = k
    rw [Dev.raise_messageOnly]
    rfl
  · rw [Dev.discard_reg _ _ _ (by decide), Dev.raise_regsKept _ (s := 1) (a := Reg.PRS_EVENT) 1 rfl _ (by decide), Dev.setCredit_count]
  · rw [Dev.discard_reg _ _ _ (by decide)]
    exact Dev.raise_reg_bit _ rfl (by decide) (by decide) (by decide) (by decide)

/-! ### The statement -/

/-- Settles O13: policing off and on, each with its ways to pass or drop, then the punt limiter. -/
theorem policersAndPunts : Obligations.PolicersAndPunts := by
  unfold Obligations.PolicersAndPunts
  refine ⟨?_, ?_⟩
  · intro c port p s hr hp hs hl hlen hd hg hm hdest sub hport hsub pol w p1 cost
    have hexec := exec_police c s p hr hp hs hl
    have hport' : port % 65536 = port := Nat.mod_eq_of_lt (by omega)
    have hpol : pol < 65536 := p.get_lt C.POLICER
    have hcost : (s.dev.charge p 6).1.policeCost (s.dev.charge p 6).2 = cost := s.dev.charge_policeCost p
    refine ⟨fun hi => ?_, fun hi => ⟨fun hoff hsp => ?_, fun hoff hsp => ?_, fun hon hen hlow => ?_, fun hon hen hhigh hsp => ?_⟩⟩
    · rw [hexec, Dev.policePkt_waits hi]
      rfl
    · rw [Dev.policePkt_forward hi (s.dev.policeStep_off hoff) hd hg, Dev.queueEnd_admits hd hm hdest hsp] at hexec
      refine ⟨_, _, hexec, rfl, Dev.pkt_setPkt_same _ _ _, fun k hk => Dev.pkt_setPkt_other _ _ _ _ hk, rfl, ?_, ?_, p.queued_bytes sub⟩
      · exact p.queued_queue _ hlen
      · exact (p.queued_dest _ hlen).trans (by rw [finalPort_forward hd, hdest, hport'])
    · rw [Dev.policePkt_forward hi (s.dev.policeStep_off hoff) hd hg, Dev.queueEnd_drops hd hm hdest hlen hsp] at hexec
      exact ⟨_, hexec, s.dev.queueDrop_freed c p _⟩
    · have hstep := Dev.policeStep_drops rfl hon hd hen (by rw [hcost]; exact hlow)
      rw [Dev.policePkt_policed hi hstep (Pkt.get_dispose_disp _ _ _ (by simpa using hlen) (by decide))] at hexec
      exact ⟨_, hexec, s.dev.policeDrop_outcome c p _ hpol⟩
    · obtain ⟨q, hpass, hstage⟩ := Dev.policePkt_charged (c := c) rfl hon hd hen hi hg hm hdest hport hsub hsp (by rw [hcost]; exact hhigh)
      rw [hpass, hcost] at hexec
      obtain ⟨hcount, hbucket⟩ := s.dev.policeTaken_stored p pol cost
      refine ⟨_, _, hexec, Dev.pkt_setPkt_same _ _ _, fun k hk => ?_, hstage, (Dev.setPkt_reg _ _ _ _).trans hcount,
        (congrArg (Map.find · _) (Dev.setPkt_buckets _ _ _)).trans hbucket⟩
      exact (Dev.pkt_setPkt_other _ _ _ _ hk).trans (congrArg (Map.find · k) ((Dev.policeTaken_pkts _ _ _).trans (s.dev.charge_pkts p 6)))
  · intro c p s hr hp hs hl hlen hd hoff hi
    have hexec := exec_police c s p hr hp hs hl
    have hoff' := s.dev.policeStep_off hoff
    have hnd : p.get C.DISP ≠ Disp.drop := by rw [hd]; decide
    refine ⟨fun hk => ?_, fun hk => ?_⟩
    · rw [Dev.policePkt_passes hi hoff' hnd (s.dev.puntStep_takes hd hk) hnd (Dev.spreadStep_skips _ (by rw [hd]; decide))] at hexec
      obtain ⟨hcredit, hat, hreg⟩ := Dev.queueEnd_kept ((s.dev.setCredit (s.dev.puntCredit - 1000000000)).count (Reg.PRS_COUNT 5) 1) c p
      exact ⟨_, hexec, hcredit, hat, (hreg _ (by decide) (by decide)).trans (s.dev.setCredit_count _ _)⟩
    · rw [Dev.policePkt_limited hi hoff' hnd (s.dev.puntStep_drops hd hk) (Pkt.get_dispose_disp _ _ _ hlen (by decide))] at hexec
      exact ⟨_, hexec, s.dev.puntDrop_outcome c _ _⟩

end Sys2Proof.Machine
end

section
/-! PROOFS. Writes of the core blocks that do more than store (R163, R265, R322, R337, R351). -/

namespace Sys2Proof.Machine

/-! ### What a plain write leaves (R16) -/

theorem Dev.plainWrite_regsOnly (d : Dev) (a : Nat) (v : Word) : d.RegsOnly (d.plainWrite a v) := by
  unfold Dev.plainWrite
  cases regFam a with
  | none => exact .refl d
  | some f => exact d.setReg_regsOnly _ _

theorem Dev.plainWrite_regsKept (d : Dev) (a : Nat) (v : Word) : d.regsKept (d.plainWrite a v) [a] := by
  unfold Dev.plainWrite
  cases regFam a with
  | none => exact .refl d _
  | some f => exact d.setReg_regsKept _ (List.mem_singleton_self a)

theorem Dev.plainWrite_reg_other (d : Dev) {a b : Nat} (v : Word) (h : b ≠ a) : (d.plainWrite a v).reg b = d.reg b :=
  d.plainWrite_regsKept a v b (by simpa using h)

theorem Dev.plainWrite_reg_same (d : Dev) {a : Nat} (v : Word) {f : RegFam} (h : regFam a = some f) :
    (d.plainWrite a v).reg a = applyWrite f.fields (d.reg a) v := by
  unfold Dev.plainWrite
  rw [h]
  exact d.reg_setReg_same _ _

@[simp] theorem Dev.plainWrite_free (d : Dev) (a : Nat) (v : Word) : (d.plainWrite a v).free = d.free :=
  Dev.free_of_tim (by rw [d.plainWrite_regsOnly a v])

@[simp] theorem Dev.plainWrite_buckets (d : Dev) (a : Nat) (v : Word) : (d.plainWrite a v).buckets = d.buckets := by rw [d.plainWrite_regsOnly a v]
@[simp] theorem Dev.plainWrite_seqs (d : Dev) (a : Nat) (v : Word) : (d.plainWrite a v).seqs = d.seqs := by rw [d.plainWrite_regsOnly a v]
@[simp] theorem Dev.plainWrite_countdown (d : Dev) (a : Nat) (v : Word) : (d.plainWrite a v).countdown = d.countdown := by
  rw [d.plainWrite_regsOnly a v]

/-! ### The punt limiter's rate (R159, R163) -/

theorem exec_puntRateWrite (v : Word) (s : State) (hr : s.dev.running = true) (ho : s.dev.accessOpen Reg.PRS_PUNT_RATE = true) :
    exec (.puntRateWrite v) s = .next (s.withDev (s.dev.puntRateWrite v)) :=
  congrArg (Host.Outcome.next <| s.withDev ·) (s.dev.access_running _ _ hr ho)

theorem Dev.puntRateWrite_eq (d : Dev) (v : Word) :
    let e := d.plainWrite Reg.PRS_PUNT_RATE (minOne F.PRS_PUNT_RATE_BURST v)
    d.puntRateWrite v = { e with credit := e.fld Reg.PRS_PUNT_RATE F.PRS_PUNT_RATE_BURST * 10 ^ 9, creditAt := d.free } := by
  intro e
  have hfree : e.free = d.free := d.plainWrite_free _ _
  rw [← hfree]
  rfl

/-! ### Live costs (R265) -/

theorem exec_costCalDisable {k : Nat} (s : State) (hr : s.dev.running = true) (hk : k < 32) (ho : s.dev.accessOpen (Reg.ACT_COST k) = true) :
    exec (.costCalDisable k) s = .next (s.withDev (s.dev.costWrite k 0)) :=
  congrArg (Host.Outcome.next <| s.withDev ·) ((if_pos hk).trans (s.dev.access_running _ _ hr ho))

theorem regFam_actCost : ∀ k, k < 32 →
    regFam (Reg.ACT_COST k) = some ⟨0x381000, 0x8, 32, 0x0, 1, [⟨0, 16, .ro, 0⟩, ⟨16, 16, .ro, 0⟩, ⟨32, 1, .rw, 0⟩]⟩ := by decide

/-- A write of 0 clears CAL_EN. -/
theorem Dev.plainWrite_calEn (d : Dev) {k : Nat} (hk : k < 32) : (d.plainWrite (Reg.ACT_COST k) 0).fld (Reg.ACT_COST k) F.ACT_COST_CAL_EN = 0 := by
  rw [Dev.fld, d.plainWrite_reg_same 0 (regFam_actCost k hk)]
  exact Fld.of_put_same ⟨32, 1⟩ _ _ (by decide)

/-- The live costs of class `k` are the reference, and its calibration stays as it was. -/
theorem Dev.costReset_costs (d : Dev) (k : Nat) :
    (d.costReset k).fld (Reg.ACT_COST k) F.ACT_COST_A = d.fld (Reg.ACT_COST_REF k) F.ACT_COST_REF_A_REF ∧
    (d.costReset k).fld (Reg.ACT_COST k) F.ACT_COST_B = d.fld (Reg.ACT_COST_REF k) F.ACT_COST_REF_B_REF ∧
    (d.costReset k).fld (Reg.ACT_COST k) F.ACT_COST_CAL_EN = d.fld (Reg.ACT_COST k) F.ACT_COST_CAL_EN := by
  have hne : Reg.ACT_COST_REF k ≠ Reg.ACT_COST k := by
    simp only [Reg.ACT_COST_REF, Reg.ACT_COST]
    omega
  unfold Dev.costReset
  refine ⟨?_, ?_, ?_⟩
  · rw [Dev.fld_setFld_other _ _ (.inr (by decide)), Dev.fld_setFld_same _ _ _ (by decide)]
    exact Nat.mod_eq_of_lt (Fld.of_lt F.ACT_COST_REF_A_REF _)
  · rw [Dev.fld_setFld_same _ _ _ (by decide), Dev.fld_setFld_other _ _ (.inl hne)]
    exact Nat.mod_eq_of_lt (Fld.of_lt F.ACT_COST_REF_B_REF _)
  · rw [Dev.fld_setFld_other _ _ (.inr (by decide)), Dev.fld_setFld_other _ _ (.inr (by decide))]

theorem Dev.costReset_regsKept (d : Dev) (k : Nat) : d.regsKept (d.costReset k) [Reg.ACT_COST k] :=
  (d.setFld_regsKept _ _ (List.mem_singleton_self _)).trans (Dev.setFld_regsKept _ _ _ (List.mem_singleton_self _))

/-- With CAL_EN 0 the write is a plain one after which the costs return to the reference. -/
theorem Dev.costWrite_zero (d : Dev) (k : Nat) : d.costWrite k 0 = (d.plainWrite (Reg.ACT_COST k) 0).costReset k := by
  unfold Dev.costWrite
  exact if_pos (by decide)

theorem Dev.costWrite_zero_regsOnly (d : Dev) (k : Nat) : d.RegsOnly (d.costWrite k 0) := by
  rw [d.costWrite_zero k]
  exact (d.plainWrite_regsOnly _ _).trans ((Dev.setReg_regsOnly _ _ _).trans (Dev.setReg_regsOnly _ _ _))

theorem Dev.costWrite_zero_costs (d : Dev) {k : Nat} (hk : k < 32) :
    d.regsKept (d.costWrite k 0) [Reg.ACT_COST k] ∧
    (d.costWrite k 0).fld (Reg.ACT_COST k) F.ACT_COST_A = d.fld (Reg.ACT_COST_REF k) F.ACT_COST_REF_A_REF ∧
    (d.costWrite k 0).fld (Reg.ACT_COST k) F.ACT_COST_B = d.fld (Reg.ACT_COST_REF k) F.ACT_COST_REF_B_REF ∧
    (d.costWrite k 0).fld (Reg.ACT_COST k) F.ACT_COST_CAL_EN = 0 := by
  have href : (d.plainWrite (Reg.ACT_COST k) 0).reg (Reg.ACT_COST_REF k) = d.reg (Reg.ACT_COST_REF k) := d.plainWrite_reg_other 0 (by
    simp only [Reg.ACT_COST_REF, Reg.ACT_COST]
    omega)
  obtain ⟨ha, hb, hcal⟩ := (d.plainWrite (Reg.ACT_COST k) 0).costReset_costs k
  rw [d.costWrite_zero k]
  exact ⟨(d.plainWrite_regsKept _ _).trans (Dev.costReset_regsKept _ k), ha.trans (Dev.fld_of_reg href _), hb.trans (Dev.fld_of_reg href _),
    hcal.trans (d.plainWrite_calEn hk)⟩

/-! ### The spill region (R322) -/

theorem exec_spillCtrlWrite (v : Word) (s : State) (hr : s.dev.running = true) (ho : s.dev.accessOpen Reg.BUF_SPILL_CTRL = true) :
    exec (.spillCtrlWrite v) s = .next (s.withDev (s.dev.spillCtrlWrite v)) :=
  congrArg (Host.Outcome.next <| s.withDev ·) (s.dev.access_running _ _ hr ho)

theorem Dev.spillCtrlWrite_refused (d : Dev) {v : Word} (hu : d.spillUsed ≠ 0) (hm : d.spillMoves v = true) : d.spillCtrlWrite v = d.raise 6 8 :=
  if_pos (by simp [hu, hm])

theorem Dev.spillCtrlWrite_unused (d : Dev) (v : Word) (hu : d.spillUsed = 0) : d.spillCtrlWrite v = d.plainWrite Reg.BUF_SPILL_CTRL v :=
  if_neg (by simp [hu])

/-! ### Sampling sessions (R337) -/

theorem exec_msessAWrite {n : Nat} (v : Word) (s : State) (hr : s.dev.running = true) (h0 : 0 < n) (hn : n < 128)
    (ho : s.dev.accessOpen (Reg.BUF_MSESS_A n) = true) : exec (.msessAWrite n v) s = .next (s.withDev (s.dev.msessWrite n v)) :=
  congrArg (Host.Outcome.next <| s.withDev ·) ((if_pos (by simp [h0, hn])).trans (s.dev.access_running _ _ hr ho))

/-- A session's write restarts its SEQ and its countdown, and no other session's. -/
theorem Dev.msessWrite_restarts (d : Dev) (n : Nat) (v : Word) :
    Map.getD (d.msessWrite n v).seqs n 0 = 0 ∧
    Map.find (d.msessWrite n v).countdown n = some (d.fld (Reg.BUF_MSESS_B n) F.BUF_MSESS_B_N) ∧
    ∀ j, j ≠ n → Map.find (d.msessWrite n v).seqs j = Map.find d.seqs j ∧ Map.find (d.msessWrite n v).countdown j = Map.find d.countdown j := by
  have hb : (d.plainWrite (Reg.BUF_MSESS_A n) v).reg (Reg.BUF_MSESS_B n) = d.reg (Reg.BUF_MSESS_B n) := d.plainWrite_reg_other v (by
    simp only [Reg.BUF_MSESS_A, Reg.BUF_MSESS_B]
    omega)
  have hcount : (d.msessWrite n v).countdown = Map.put d.countdown n (d.fld (Reg.BUF_MSESS_B n) F.BUF_MSESS_B_N) := by
    unfold Dev.msessWrite
    dsimp only
    rw [d.plainWrite_countdown, Dev.fld_of_reg hb]
  have hseqs : (d.msessWrite n v).seqs = Map.del d.seqs n := congrArg (Map.del · n) (d.plainWrite_seqs _ _)
  rw [hcount, hseqs]
  exact ⟨by rw [Map.getD, Map.find_del_same]; rfl, Map.find_put_same _ _ _,
    fun j hj => ⟨Map.find_del_other _ _ _ hj, Map.find_put_other _ _ _ _ hj⟩⟩

/-! ### Shapers and policers (R351) -/

theorem exec_shaperWrite {k n : Nat} (v : Word) (s : State) (hr : s.dev.running = true) (hk : k < 4) (hn : n < bucketCount k)
    (ho : s.dev.accessOpen (bucketReg k n) = true) : exec (.shaperWrite k n v) s = .next (s.withDev (s.dev.shaperWrite k n v)) :=
  congrArg (Host.Outcome.next <| s.withDev ·) ((if_pos (by simp [hk, hn])).trans (s.dev.access_running _ _ hr ho))

/-- A shaper's write settles its level at the old rate and limits it to the new DEPTH. -/
theorem Dev.shaperWrite_level (d : Dev) (k n : Nat) (v : Word) :
    d.regsKept (d.shaperWrite k n v) [bucketReg k n] ∧
    Map.find (d.shaperWrite k n v).buckets (bucketKey k n) =
      some ⟨min (d.levelNow k n) (depthOf ((d.shaperWrite k n v).reg (bucketReg k n))), d.free⟩ ∧
    ∀ j, j ≠ bucketKey k n → Map.find (d.shaperWrite k n v).buckets j = Map.find d.buckets j := by
  obtain ⟨e, he⟩ : ∃ e, d.plainWrite (bucketReg k n) (if k = 3 then v else minOne weightFld v) = e := ⟨_, rfl⟩
  have hwrite : d.shaperWrite k n v = e.setLevel k n (min (d.levelNow k n) (depthOf (e.reg (bucketReg k n)))) := by rw [← he]; rfl
  have hfree : e.free = d.free := he ▸ d.plainWrite_free _ _
  have hbuckets : e.buckets = d.buckets := he ▸ d.plainWrite_buckets _ _
  rw [hwrite, Dev.buckets_setLevel_same, hfree]
  exact ⟨he ▸ d.plainWrite_regsKept _ _, rfl, fun j hj => (Map.find_put_other _ _ _ _ hj).trans (by rw [hbuckets])⟩

theorem exec_policerWrite {p : Nat} (v : Word) (s : State) (hr : s.dev.running = true) (hp : p < 65536)
    (ho : s.dev.accessOpen (Reg.SCH_POL p) = true) : exec (.policerWrite p v) s = .next (s.withDev (s.dev.policerWrite p v)) :=
  congrArg (Host.Outcome.next <| s.withDev ·) ((if_pos hp).trans (s.dev.access_running _ _ hr ho))

/-- A policer's write sets its level to the new DEPTH. -/
theorem Dev.policerWrite_level (d : Dev) (p : Nat) (v : Word) :
    d.regsKept (d.policerWrite p v) [Reg.SCH_POL p] ∧
    (d.policerWrite p v).levelNow 4 p = depthOf ((d.policerWrite p v).reg (Reg.SCH_POL p)) ∧
    ∀ j, j ≠ bucketKey 4 p → Map.find (d.policerWrite p v).buckets j = Map.find d.buckets j := by
  have hbuckets : (d.policerWrite p v).buckets = Map.del d.buckets (bucketKey 4 p) :=
    congrArg (Map.del · (bucketKey 4 p)) (d.plainWrite_buckets _ _)
  refine ⟨d.plainWrite_regsKept _ v, Dev.levelNow_unlisted (by rw [hbuckets, Map.find_del_same]), fun j hj => ?_⟩
  rw [hbuckets, Map.find_del_other _ _ _ hj]

end Sys2Proof.Machine
end

section
/-! PROOFS. SCH_FLUSH (R315, R361, R367), and the statement of the core blocks' registers. -/

namespace Sys2Proof.Machine

/-! ### The lists that records are removed from (R361) -/

/-- What is left of a map's records, in their order. -/
theorem flatMap_keepRecs (f : Rec → Bool) (m : List (Nat × List Rec)) :
    (keepRecs f m).flatMap (·.2) = (m.flatMap (·.2)).filter fun r => !f r := by
  unfold keepRecs
  induction m with
  | nil => rfl
  | cons e m ih =>
    rw [List.map_cons, List.filter_cons, List.flatMap_cons, List.filter_append, ← ih]
    split
    next => rfl
    next h =>
      have hnone : (e.2.filter fun r => !f r) = [] := by simpa using h
      rw [hnone]
      rfl

/-- The head's mark leaves every field of the records for which `g` stands, such as the queue and the data. -/
theorem map_headMark {α : Type} (g : Rec → α) (hg : ∀ (r : Rec) t, g { r with headAt := t } = g r) (now : Nat) (l : List Rec) :
    (headMark now l).map g = l.map g := by
  cases l with
  | nil => rfl
  | cons r l =>
    unfold headMark
    rw [List.map_cons, List.map_cons]
    split
    · rw [hg]
    · rfl

theorem map_flatMap_headMark {α : Type} (g : Rec → α) (hg : ∀ (r : Rec) t, g { r with headAt := t } = g r) (now : Nat)
    (m : List (Nat × List Rec)) :
    ((m.map fun e => (e.1, headMark now e.2)).flatMap (·.2)).map g = (m.flatMap (·.2)).map g := by
  induction m with
  | nil => rfl
  | cons e m ih => rw [List.map_cons, List.flatMap_cons, List.flatMap_cons, List.map_append, List.map_append, ih, map_headMark g hg]

/-- The records of `e` stand where they stand in `d`. -/
structure Dev.ListsKept (d e : Dev) : Prop where
  queues : e.queues = d.queues
  intakes : e.intakes = d.intakes
  residue : e.residue = d.residue

theorem Dev.freeRec_listsKept (d : Dev) (why : Nat) (r : Rec) : d.ListsKept (d.freeRec why r) := by
  unfold Dev.freeRec
  rw [Dev.dropRef_eq]
  exact ⟨rfl, rfl, rfl⟩

theorem Dev.removeRecs_listsKept (d : Dev) (why : Nat) (f : Rec → Bool) : (d.cutRecs f).ListsKept (d.removeRecs why f).1 := by
  rw [d.removeRecs_eq]
  refine List.foldlRecOn (motive := fun x : Dev => (d.cutRecs f).ListsKept x.drrClean) _ _ ⟨rfl, rfl, rfl⟩ fun x hx r _ => ?_
  obtain ⟨hq, hi, hr⟩ := x.freeRec_listsKept why r
  exact ⟨hq.trans hx.queues, hi.trans hx.intakes, hr.trans hx.residue⟩

/-- A field of the records that a head's mark leaves alone: those left are those for which `f` did not hold, in their order. -/
theorem Dev.removeRecs_map (d : Dev) (why : Nat) (f : Rec → Bool) {α : Type} (g : Rec → α) (hg : ∀ (r : Rec) t, g { r with headAt := t } = g r) :
    ((d.removeRecs why f).1.queues.flatMap (·.2)).map g = ((d.queues.flatMap (·.2)).filter fun r => !f r).map g := by
  rw [(d.removeRecs_listsKept why f).queues, ← flatMap_keepRecs f]
  exact map_flatMap_headMark g hg d.free _

theorem Dev.removeRecs_intakes (d : Dev) (why : Nat) (f : Rec → Bool) :
    (d.removeRecs why f).1.intakes.flatMap (·.2) = (d.intakes.flatMap (·.2)).filter fun r => !f r := by
  rw [(d.removeRecs_listsKept why f).intakes, ← flatMap_keepRecs f]
  rfl

theorem Dev.removeRecs_residue (d : Dev) (why : Nat) (f : Rec → Bool) :
    (d.removeRecs why f).1.residue.flatMap (·.2) = (d.residue.flatMap (·.2)).filter fun r => !f r := by
  rw [(d.removeRecs_listsKept why f).residue, ← flatMap_keepRecs f]
  rfl

/-- No record of queue `q` is left after the removal of that queue's records. -/
theorem Dev.removeRecs_queue (d : Dev) (why q : Nat) {r : Rec} (h : r ∈ (d.removeRecs why fun r => r.queue == q).1.recs) : r.queue ≠ q := by
  unfold Dev.recs at h
  simp only [List.mem_append] at h
  rcases h with (h | h) | h
  · have hmem := List.mem_map_of_mem (f := Rec.queue) h
    rw [d.removeRecs_map why _ Rec.queue fun _ _ => rfl] at hmem
    obtain ⟨x, hx, hxr⟩ := List.mem_map.mp hmem
    rw [← hxr]
    simpa using (List.mem_filter.mp hx).2
  · rw [d.removeRecs_intakes] at h
    simpa using (List.mem_filter.mp h).2
  · rw [d.removeRecs_residue] at h
    simpa using (List.mem_filter.mp h).2

theorem Dev.freeRec_discards (d : Dev) (why : Nat) (r : Rec) : (d.freeRec why r).discards = (r.pid, why) :: d.discards := by
  unfold Dev.freeRec
  rw [Dev.dropRef_eq]
  rfl

theorem Dev.foldl_freeRec_discards (why : Nat) (l : List Rec) (d : Dev) {x : Nat × Nat} (h : x ∈ d.discards ∨ ∃ r ∈ l, (r.pid, why) = x) :
    x ∈ (l.foldl (Dev.freeRec · why ·) d).discards := by
  induction l generalizing d with
  | nil => simpa using h
  | cons r l ih =>
    refine ih _ ?_
    rw [d.freeRec_discards why r]
    simp only [List.mem_cons, exists_eq_or_imp] at h ⊢
    tauto

/-- Every record removed is listed among the discards with its REASON (R45). -/
theorem Dev.removeRecs_discards (d : Dev) (why : Nat) (f : Rec → Bool) {r : Rec} (hr : r ∈ d.recs) (hf : f r = true) :
    (r.pid, why) ∈ (d.removeRecs why f).1.discards := by
  rw [d.removeRecs_eq]
  exact Dev.foldl_freeRec_discards why _ (d.cutRecs f) (.inr ⟨r, List.mem_filter.mpr ⟨hr, hf⟩, rfl⟩)

/-! ### SCH_FLUSH and FLUSH_DONE (R361, R367) -/

theorem exec_schFlush (v : Word) (s : State) (hr : s.dev.running = true) (ho : s.dev.accessOpen Reg.SCH_FLUSH = true) :
    exec (.schFlush v) s = .next (s.withDev (s.dev.schFlush v)) :=
  congrArg (Host.Outcome.next <| s.withDev ·) (s.dev.access_running _ _ hr ho)

theorem exec_flushDone (s : State) (hr : s.dev.running = true) :
    exec .flushDone s = .next (s.withDev (if s.dev.lineUp 81 then s.dev.flushDone else s.dev)) := by
  show execFlushDone s = _
  unfold execFlushDone
  rw [hr, Bool.true_and]
  rfl

theorem Dev.schFlush_busy (d : Dev) (v : Word) (h : d.bit Reg.SCH_FLUSH F.SCH_FLUSH_GO = true) : d.schFlush v = d := if_pos h

theorem Dev.flushDone_ends (d : Dev) (h : d.bit Reg.SCH_FLUSH F.SCH_FLUSH_GO = true) :
    d.flushDone = (d.setFld Reg.SCH_FLUSH F.SCH_FLUSH_GO 0).raise 7 2 := if_pos h

theorem Dev.flushDone_idle (d : Dev) (h : d.bit Reg.SCH_FLUSH F.SCH_FLUSH_GO = false) : d.flushDone = d := if_neg (by simp [h])

/-- The device without the records of queue `q`, which SCH_FLUSH names. -/
def Dev.flushed (d : Dev) (q : Nat) : Dev := ((d.setFld Reg.SCH_FLUSH F.SCH_FLUSH_QUEUE q).removeRecs 0x16 fun r => r.queue == q).1

/-- A flush counts the records that it removes and leaves GO at 1. -/
theorem Dev.schFlush_starts (d : Dev) {v : Word} (h : d.bit Reg.SCH_FLUSH F.SCH_FLUSH_GO = false) (hg : F.SCH_FLUSH_GO.of v = 1) :
    d.schFlush v = ((d.flushed (F.SCH_FLUSH_QUEUE.of v)).count (Reg.SCH_COUNT 6)
      (d.recs.filter fun r => r.queue == F.SCH_FLUSH_QUEUE.of v).length).setFld Reg.SCH_FLUSH F.SCH_FLUSH_GO 1 := by
  unfold Dev.schFlush
  rw [if_neg (by simp [h])]
  exact if_pos hg

theorem Dev.flushed_reg (d : Dev) (q a : Nat) : (d.flushed q).reg a = (d.setFld Reg.SCH_FLUSH F.SCH_FLUSH_QUEUE q).reg a := by
  have honly := (d.setFld Reg.SCH_FLUSH F.SCH_FLUSH_QUEUE q).removeRecs_recsOnly 0x16 fun r => r.queue == q
  have hregs : (d.flushed q).regs = (d.setFld Reg.SCH_FLUSH F.SCH_FLUSH_QUEUE q).regs := by rw [Dev.flushed, honly]
  unfold Dev.reg
  rw [hregs]

theorem Dev.flushed_pkts (d : Dev) (q : Nat) : (d.flushed q).pkts = d.pkts := by
  have honly := (d.setFld Reg.SCH_FLUSH F.SCH_FLUSH_QUEUE q).removeRecs_recsOnly 0x16 fun r => r.queue == q
  rw [Dev.flushed, honly]
  rfl

/-- What SCH_FLUSH shows while the flush goes on, what it counts, and that no other register changes. -/
theorem Dev.flushed_status (d : Dev) {q : Nat} (n : Nat) (hq : q < 131072) :
    let e := ((d.flushed q).count (Reg.SCH_COUNT 6) n).setFld Reg.SCH_FLUSH F.SCH_FLUSH_GO 1
    e.fld Reg.SCH_FLUSH F.SCH_FLUSH_QUEUE = q ∧ e.bit Reg.SCH_FLUSH F.SCH_FLUSH_GO = true ∧
      e.reg (Reg.SCH_COUNT 6) = d.plus (Reg.SCH_COUNT 6) n ∧ d.regsKept e [Reg.SCH_FLUSH, Reg.SCH_COUNT 6] := by
  intro e
  have hflushed : d.regsKept (d.flushed q) [Reg.SCH_FLUSH] := fun a ha =>
    (d.flushed_reg q a).trans (d.setFld_regsKept _ _ (List.mem_singleton_self _) a ha)
  refine ⟨?_, Dev.bit_of_fld (Dev.fld_setFld_same _ _ _ (by decide)), ?_, ?_⟩
  · rw [Dev.fld_setFld_other _ _ (.inr (by decide)), Dev.fld_of_reg (Dev.reg_count_other _ _ _ _ (by decide)), Dev.fld_of_reg (d.flushed_reg q _),
      Dev.fld_setFld_same _ _ _ (by decide)]
    exact Nat.mod_eq_of_lt hq
  · rw [Dev.reg_setFld_other _ _ _ _ _ (by decide)]
    exact hflushed.count (by decide) n
  · exact ((hflushed.mono (by simp)).trans (Dev.count_regsKept _ _ (by simp))).trans (Dev.setFld_regsKept _ _ _ (by simp))

/-! ### The statement -/

/-- Settles O36: six register writes, then a flush from its start to its end. -/
theorem coreRegisters : Obligations.CoreRegisters := by
  unfold Obligations.CoreRegisters
  refine ⟨?_, ?_⟩
  · intro k n p v s hr plain
    refine ⟨fun ho => ?_, fun hk ho => ?_, fun ho => ⟨fun hu hm => ?_, fun hu => ?_⟩, fun h0 hn ho => ?_, fun hk hn ho => ?_, fun hp ho => ?_⟩
    · rw [exec_puntRateWrite v s hr ho, s.dev.puntRateWrite_eq v]
    · refine ⟨_, exec_costCalDisable s hr hk ho, ?_, s.dev.costWrite_zero_costs hk⟩
      exact congrArg s.withDev (s.dev.costWrite_zero_regsOnly k)
    · rw [exec_spillCtrlWrite v s hr ho, s.dev.spillCtrlWrite_refused hu hm]
    · rw [exec_spillCtrlWrite v s hr ho, s.dev.spillCtrlWrite_unused v hu]
    · obtain ⟨hseq, hcount, hother⟩ := s.dev.msessWrite_restarts n v
      exact ⟨_, exec_msessAWrite v s hr h0 hn ho, hseq, hcount, hother, s.dev.plainWrite_regsKept _ v, rfl⟩
    · exact ⟨_, exec_shaperWrite v s hr hk hn ho, s.dev.shaperWrite_level k n v⟩
    · exact ⟨_, exec_policerWrite v s hr hp ho, s.dev.policerWrite_level p v⟩
  · intro v s hr q go
    refine ⟨fun ho hgo => ?_, fun ho hgo hg => ?_, fun hl hgo => ?_, fun hgo => ?_⟩
    · rw [exec_schFlush v s hr ho, s.dev.schFlush_busy v hgo]
      rfl
    · intro gone
      have hexec := exec_schFlush v s hr ho
      rw [s.dev.schFlush_starts hgo hg] at hexec
      obtain ⟨hqueue, hbit, hcount, hregs⟩ := s.dev.flushed_status gone (Fld.of_lt F.SCH_FLUSH_QUEUE v)
      refine ⟨_, hexec, fun r hrec => Dev.removeRecs_queue _ 0x16 q hrec, fun r hrec hrq => ?_, Dev.removeRecs_intakes _ 0x16 _,
        Dev.removeRecs_residue _ 0x16 _, Dev.removeRecs_map _ 0x16 _ Rec.data fun _ _ => rfl, hqueue, hbit, hcount, hregs, s.dev.flushed_pkts q⟩
      exact Dev.removeRecs_discards _ 0x16 _ hrec (by simpa using hrq)
    · rw [exec_flushDone s hr, if_pos hl, s.dev.flushDone_ends hgo]
    · rw [exec_flushDone s hr, s.dev.flushDone_idle hgo, ite_self]
      rfl

end Sys2Proof.Machine
end

section
/-! PROOFS. Learning, and the writes of the tile arbiter (R190, R192, R193, R206). -/

namespace Sys2Proof.Machine

/-! ### Events of the forwarding tables (R192, R207, R521) -/

theorem evtReg_tbl : evtReg 2 = some Reg.TBL_EVENT := rfl

@[simp] theorem Dev.raise_fawn (d : Dev) (s b : Nat) : (d.raise s b).fawn = d.fawn := by rw [d.raise_messageOnly s b]
@[simp] theorem Dev.raise_cands (d : Dev) (s b : Nat) : (d.raise s b).cands = d.cands := by rw [d.raise_messageOnly s b]
@[simp] theorem Dev.raise_notes (d : Dev) (s b : Nat) : (d.raise s b).notes = d.notes := by rw [d.raise_messageOnly s b]

/-- An event of the tables touches no count of theirs. -/
theorem Dev.raise_tblCount (d : Dev) (b : Nat) {k : Nat} (hk : k < 16) : (d.raise 2 b).reg (Reg.TBL_COUNT k) = d.reg (Reg.TBL_COUNT k) := by
  refine d.raise_reg_other 2 b ?_ ?_ ?_ ?_
  · rw [evtReg_tbl, Ne, Option.some.injEq, Reg.TBL_EVENT, Reg.TBL_COUNT]
    omega
  · simp only [Reg.TBL_COUNT, Reg.HIF_COUNT]
    omega
  · simp only [Reg.TBL_COUNT, Reg.SYS_MSIX_PBA]
    omega
  · simp only [Reg.TBL_COUNT, Reg.SYS_MSIX_PBA]
    omega

theorem Dev.raise_tblBit (d : Dev) {b : Nat} (hb : b < 64) : ((d.raise 2 b).reg Reg.TBL_EVENT).getLsbD b = true :=
  d.raise_reg_bit evtReg_tbl hb (by decide) (by decide) (by decide)

/-! ### The notification queue (R192) -/

/-- A queued notification touches the queue and, when that becomes full, what its event touches. -/
theorem Dev.pushNote_eq (d : Dev) (ws : List Word) :
    d.pushNote ws = { d with notes := d.notes ++ [⟨ws⟩] } ∨ d.pushNote ws = ({ d with notes := d.notes ++ [⟨ws⟩] } : Dev).raise 2 0 := by
  unfold Dev.pushNote
  dsimp only
  split
  · exact .inr rfl
  · exact .inl rfl

theorem Dev.pushNote_messageOnly (d : Dev) (ws : List Word) : ({ d with notes := d.notes ++ [⟨ws⟩] } : Dev).MessageOnly (d.pushNote ws) := by
  rcases d.pushNote_eq ws with h | h
  · rw [h]
    rfl
  · rw [h]
    exact Dev.raise_messageOnly _ _ _

@[simp] theorem Dev.pushNote_notes (d : Dev) (ws : List Word) : (d.pushNote ws).notes = d.notes ++ [⟨ws⟩] := by rw [d.pushNote_messageOnly ws]
@[simp] theorem Dev.pushNote_fawn (d : Dev) (ws : List Word) : (d.pushNote ws).fawn = d.fawn := by rw [d.pushNote_messageOnly ws]
@[simp] theorem Dev.pushNote_cands (d : Dev) (ws : List Word) : (d.pushNote ws).cands = d.cands := by rw [d.pushNote_messageOnly ws]
@[simp] theorem Dev.pushNote_tim (d : Dev) (ws : List Word) : (d.pushNote ws).tim = d.tim := by rw [d.pushNote_messageOnly ws]
@[simp] theorem Dev.pushNote_tables (d : Dev) (ws : List Word) : (d.pushNote ws).tables = d.tables := by rw [d.pushNote_messageOnly ws]

theorem Dev.pushNote_tblCount (d : Dev) (ws : List Word) {k : Nat} (hk : k < 16) :
    (d.pushNote ws).reg (Reg.TBL_COUNT k) = d.reg (Reg.TBL_COUNT k) := by
  rcases d.pushNote_eq ws with h | h
  · rw [h]
    rfl
  · rw [h]
    exact Dev.raise_tblCount _ _ hk

/-- A count after a notification. -/
theorem Dev.pushNote_count (d : Dev) (ws : List Word) {k : Nat} (hk : k < 16) (n : Nat) :
    ((d.pushNote ws).count (Reg.TBL_COUNT k) n).reg (Reg.TBL_COUNT k) = d.plus (Reg.TBL_COUNT k) n := by
  rw [Dev.reg_count, Dev.plus, d.pushNote_tblCount ws hk]
  rfl

/-- The queue has room while it holds fewer than 256 notifications. -/
theorem Dev.noteRoom_iff (d : Dev) : d.noteRoom = true ↔ d.notes.length < 256 := by
  unfold Dev.noteRoom
  exact decide_eq_true_iff

theorem Dev.noteRoom_full (d : Dev) (h : 256 ≤ d.notes.length) : d.noteRoom = false := by
  rw [Bool.eq_false_iff, Ne, d.noteRoom_iff]
  omega

/-! ### The Fawn cache takes a candidate (R190) -/

/-- What a candidate whose key has no Fawn entry leaves, while the cache and the queue have room. -/
theorem Dev.fawnNew_room (d : Dev) (c : Candidate) (hf : d.fawn.length < 4096) (hn : d.notes.length < 256) :
    let type := if c.move.isSome then 1 else 0
    let e := d.fawnNew c
    e.cands = d.cands ∧ e.notes = d.notes ++ [⟨noteWords type c.table c.port 0 (c.move.getD 0) c.g c.key d.ns 0⟩] ∧
      e.fawn = d.fawn ++ [⟨c.table, c.key, c.port, none, c.g, d.ns % 2 ^ 32, d.free⟩] ∧
      e.reg (Reg.TBL_COUNT type) = d.plus (Reg.TBL_COUNT type) 1 ∧ e.tables = d.tables := by
  intro type e
  have htype : type < 16 := by
    simp only [type]
    split <;> decide
  have he : e = { (d.pushNote (noteWords type c.table c.port 0 (c.move.getD 0) c.g c.key d.ns 0)).count (Reg.TBL_COUNT type) 1 with
      fawn := d.fawn ++ [⟨c.table, c.key, c.port, none, c.g, d.ns % 2 ^ 32, d.free⟩] } := by
    simp only [e, Dev.fawnNew]
    rw [if_neg (Nat.not_le.mpr hf), if_neg (by rw [(d.noteRoom_iff).mpr hn]; decide)]
    simp [type, Dev.ns, Dev.free]
  rw [he]
  exact ⟨d.pushNote_cands _, d.pushNote_notes _, rfl, d.pushNote_count _ htype 1, d.pushNote_tables _⟩

/-- With the cache full the candidate is lost, and its count and event say so. -/
theorem Dev.fawnNew_full (d : Dev) (c : Candidate) (hf : 4096 ≤ d.fawn.length) :
    d.fawnNew c = (d.count (Reg.TBL_COUNT 4) 1).raise 2 1 := if_pos hf

theorem Dev.fawnNew_blocked (d : Dev) (c : Candidate) (hf : d.fawn.length < 4096) (hn : 256 ≤ d.notes.length) :
    d.fawnNew c = d.count (Reg.TBL_COUNT 5) 1 := by
  unfold Dev.fawnNew
  rw [if_neg (Nat.not_le.mpr hf), if_pos (by rw [d.noteRoom_full hn]; rfl)]

theorem Dev.takeCand_new (d : Dev) {c : Candidate} (h : d.fawnOf c.table c.key = none) : d.takeCand c = d.fawnNew c := by
  unfold Dev.takeCand
  rw [h]

theorem Dev.takeCand_known (d : Dev) {c : Candidate} {f : Fawn} (h : d.fawnOf c.table c.key = some f) (hp : f.portB.isSome ∨ f.portA = c.port) :
    d.takeCand c = d.count (Reg.TBL_COUNT 3) 1 := by
  unfold Dev.takeCand
  rw [h]
  exact if_pos (by simpa using hp)

/-- A candidate from another port makes the entry a CONFLICT, or is lost while the queue is full. -/
theorem Dev.takeCand_other (d : Dev) {c : Candidate} {f : Fawn} (h : d.fawnOf c.table c.key = some f) (hb : f.portB = none) (ha : f.portA ≠ c.port) :
    d.takeCand c =
      if d.noteRoom then
        let e := (d.pushNote (noteWords 2 f.table f.portA c.port 0 f.g f.key f.ns 0)).count (Reg.TBL_COUNT 2) 1
        { e with fawn := e.fawn.map fun x => if x = f then { x with portB := some c.port } else x }
      else d.count (Reg.TBL_COUNT 5) 1 := by
  unfold Dev.takeCand
  rw [h]
  dsimp only
  rw [if_neg (by simp [hb, ha])]
  cases d.noteRoom <;> rfl

theorem Dev.fawnOf_mem (d : Dev) {t : Nat} {key : Word} {f : Fawn} (h : d.fawnOf t key = some f) : f ∈ d.fawn := List.mem_of_find?_eq_some h

/-- What a candidate from another port leaves while the queue has room. -/
theorem Dev.takeCand_conflict (d : Dev) {c : Candidate} {f : Fawn} (h : d.fawnOf c.table c.key = some f) (hb : f.portB = none)
    (ha : f.portA ≠ c.port) (hn : d.notes.length < 256) :
    let e := d.takeCand c
    e.cands = d.cands ∧ e.notes = d.notes ++ [⟨noteWords 2 f.table f.portA c.port 0 f.g f.key f.ns 0⟩] ∧
      { f with portB := some c.port } ∈ e.fawn ∧ e.reg (Reg.TBL_COUNT 2) = d.plus (Reg.TBL_COUNT 2) 1 := by
  intro e
  have he := d.takeCand_other h hb ha
  rw [if_pos ((d.noteRoom_iff).mpr hn)] at he
  rw [show e = _ from he]
  refine ⟨d.pushNote_cands _, d.pushNote_notes _, ?_, d.pushNote_count _ (by decide) 1⟩
  refine List.mem_map.mpr ⟨f, ?_, if_pos rfl⟩
  rw [Dev.count_fawn, Dev.pushNote_fawn]
  exact d.fawnOf_mem h

/-! ### The tile arbiter (R193, R206) -/

/-- A hit-bit set finds its place as it was read: the bit is set there and nowhere else. -/
theorem TableMem.setWord_find (m : TableMem) {p : Nat} {ws : List Word} (h : Map.find m.places p = some ws) {i : Nat} (v : Word)
    (hi : i < ws.length) (hv : v ≠ 0) :
    Map.find (m.setWord p ws.length i v).places p = some (ws.set i v) ∧
      ∀ k, k ≠ p → Map.find (m.setWord p ws.length i v).places k = Map.find m.places k := by
  have himage : m.image p ws.length = ws := by
    unfold TableMem.image Map.getD
    rw [h]
    rfl
  have hnz : (ws.set i v).all (· == 0) = false := by
    rw [List.all_eq_false]
    exact ⟨v, List.mem_set hi v, by simpa using hv⟩
  unfold TableMem.setWord
  dsimp only
  rw [himage, if_neg (by rw [hnz]; decide)]
  exact ⟨Map.find_put_same _ _ _, fun k hk => Map.find_put_other _ _ _ _ hk⟩

@[simp] theorem Dev.tbl_setTbl_same (d : Dev) (t : Nat) (m : TableMem) : (d.setTbl t m).tbl t = m := by
  simp [Dev.tbl, Dev.setTbl, Map.getD]

theorem Dev.setTbl_tblsKept (d : Dev) (t : Nat) (m : TableMem) : d.tblsKept (d.setTbl t m) t := fun k hk => by
  unfold Dev.tbl Dev.setTbl Map.getD
  rw [Map.find_put_other _ _ _ _ hk]

/-- An image with a VALID result word has words. -/
theorem pos_of_rwValid {ws : List Word} {i : Nat} (h : rwValid (wordAt ws i) = true) : i < ws.length := by
  by_contra hi
  rw [wordAt_eq_zero (Nat.le_of_not_lt hi)] at h
  exact absurd h (by decide)

theorem or_two_ne_zero (w : Word) : w ||| 2 ≠ 0 := fun h => by
  have hbit := congrArg (fun x : Word => x.getLsbD 1) h
  simp at hbit

theorem Dev.hitSet_held (d : Dev) {h : HitSet} {l : List HitSet} (hs : d.hitSets = h :: l) (hu : d.tableUp h.table = false) : d.hitSet = d := by
  unfold Dev.hitSet
  rw [hs]
  exact if_pos (by rw [hu]; rfl)

theorem Dev.hitSet_sets (d : Dev) {h : HitSet} {l : List HitSet} (hs : d.hitSets = h :: l) (hu : d.tableUp h.table = true) {ws : List Word}
    (hf : Map.find (d.tbl h.table).places h.place = some ws) (hk : ws.take (ws.length - 1) = h.key)
    (hv : rwValid (wordAt ws (ws.length - 1)) = true) (hp : (d.tbl h.table).poisoned h.place = false) :
    d.hitSet = ({ d with hitSets := l } : Dev).setTbl h.table
      ((d.tbl h.table).setWord h.place ws.length (ws.length - 1) (wordAt ws (ws.length - 1) ||| 2)) := by
  have htbl : ({ d with hitSets := l } : Dev).tbl h.table = d.tbl h.table := rfl
  unfold Dev.hitSet
  rw [hs]
  dsimp only
  rw [if_neg (by simp [hu]), htbl, hf]
  exact if_pos (by simp [hk, hv, hp])

/-- A set whose place no longer holds the entry it read is discarded. -/
theorem Dev.hitSet_discards (d : Dev) {h : HitSet} {l : List HitSet} (hs : d.hitSets = h :: l) (hu : d.tableUp h.table = true)
    (hn : ∀ ws, Map.find (d.tbl h.table).places h.place = some ws → ws.take (ws.length - 1) = h.key →
      rwValid (wordAt ws (ws.length - 1)) = true → (d.tbl h.table).poisoned h.place = true) : d.hitSet = { d with hitSets := l } := by
  have htbl : ({ d with hitSets := l } : Dev).tbl h.table = d.tbl h.table := rfl
  unfold Dev.hitSet
  rw [hs]
  dsimp only
  rw [if_neg (by simp [hu]), htbl]
  cases hf : Map.find (d.tbl h.table).places h.place with
  | none => rfl
  | some ws =>
    refine if_neg fun hc => ?_
    simp only [Bool.and_eq_true, beq_iff_eq, Bool.not_eq_true'] at hc
    obtain ⟨⟨hk, hv⟩, hp⟩ := hc
    rw [hn ws hf hk hv] at hp
    cases hp

/-! ### The statement -/

theorem exec_learnCandidate (s : State) (hr : s.dev.running = true) {c : Candidate} {l : List Candidate} (h : s.dev.cands = c :: l) :
    exec .learnCandidate s = .next (s.withDev (({ s.dev with cands := l } : Dev).takeCand c)) := by
  show execLearnCandidate s = _
  unfold execLearnCandidate Dev.learn
  rw [if_pos hr, h]
  rfl

theorem exec_fawnExpired (i : Nat) (s : State) (hr : s.dev.running = true) : exec (.fawnExpired i) s = .next (s.withDev (s.dev.fawnExpire i)) := by
  show execFawnExpired i s = _
  unfold execFawnExpired
  rw [if_pos hr]
  rfl

theorem exec_hitBitSet (s : State) (hr : s.dev.running = true) : exec .hitBitSet s = .next (s.withDev s.dev.hitSet) := by
  show execHitBitSet s = _
  unfold execHitBitSet
  rw [if_pos hr]
  rfl

theorem exec_correctionWriteBack (s : State) (hr : s.dev.running = true) : exec .correctionWriteBack s = .next (s.withDev s.dev.writeBack) := by
  show execCorrectionWriteBack s = _
  unfold execCorrectionWriteBack
  rw [if_pos hr]
  rfl

/-- An entry is freed once it has stood for its lifetime. -/
theorem Dev.fawnExpire_eq (d : Dev) {i : Nat} {f : Fawn} (h : d.fawn[i]? = some f) :
    d.fawnExpire i = if f.since + d.fawnLife ≤ d.free then ({ d with fawn := d.fawn.eraseIdx i } : Dev).count (Reg.TBL_COUNT 6) 1 else d := by
  unfold Dev.fawnExpire Dev.passed
  rw [h]
  simp

/-- The oldest correction waits while a region of its table restarts, and changes no table. -/
theorem Dev.writeBack_eq (d : Dev) {x : Nat × Nat × Nat} {l : List (Nat × Nat × Nat)} (h : d.writeBacks = x :: l) :
    d.writeBack = if d.tableUp x.1 then { d with writeBacks := l } else d := by
  unfold Dev.writeBack
  rw [h]

/-- Settles O33: what the Fawn cache does with a candidate, case by case, and the two writes of the arbiter. -/
theorem learningAndArbiter : Obligations.LearningAndArbiter := by
  unfold Obligations.LearningAndArbiter
  refine ⟨fun c l i s hr => ⟨fun hc hf => ?_, fun f hc hf hp => ?_, fun f hc hf hb ha hn => ?_, fun f hc hf hb ha hn => ?_, fun f hf => ?_⟩,
    fun s hr => ⟨fun h l hs => ?_, fun x l hw => ?_⟩⟩
  · have hexec := exec_learnCandidate s hr hc
    rw [Dev.takeCand_new { s.dev with cands := l } hf] at hexec
    refine ⟨fun hlen hn => ?_, fun hlen => ?_, fun hlen hn => ?_⟩
    · exact ⟨_, hexec, Dev.fawnNew_room { s.dev with cands := l } c hlen hn⟩
    · rw [Dev.fawnNew_full { s.dev with cands := l } c hlen] at hexec
      refine ⟨_, hexec, Dev.raise_cands _ _ _, Dev.raise_notes _ _ _, Dev.raise_fawn _ _ _, ?_, Dev.raise_tblBit _ (by decide)⟩
      exact (Dev.raise_tblCount _ _ (by decide)).trans (Dev.reg_count _ _ _)
    · rw [Dev.fawnNew_blocked { s.dev with cands := l } c hlen hn] at hexec
      exact ⟨_, hexec, rfl, rfl, Dev.reg_count _ _ _⟩
  · rw [exec_learnCandidate s hr hc, Dev.takeCand_known { s.dev with cands := l } hf hp]
  · exact ⟨_, exec_learnCandidate s hr hc, Dev.takeCand_conflict { s.dev with cands := l } hf hb ha hn⟩
  · rw [exec_learnCandidate s hr hc, Dev.takeCand_other { s.dev with cands := l } hf hb ha,
      if_neg (by rw [Dev.noteRoom_full { s.dev with cands := l } hn]; decide)]
  · intro old
    rw [exec_fawnExpired i s hr, s.dev.fawnExpire_eq hf]
    exact ⟨fun h => by rw [if_pos (show f.since + s.dev.fawnLife ≤ s.dev.free from h)],
      fun h => by rw [if_neg (show ¬ f.since + s.dev.fawnLife ≤ s.dev.free from h)]; rfl⟩
  · intro m
    refine ⟨fun hu => ?_, fun ws hu hf hk hv hp => ?_, fun hu hn => ?_⟩
    · rw [exec_hitBitSet s hr, s.dev.hitSet_held hs hu]
      rfl
    · have hexec := exec_hitBitSet s hr
      rw [s.dev.hitSet_sets hs hu hf hk hv hp] at hexec
      obtain ⟨hsame, hother⟩ := m.setWord_find hf (wordAt ws (ws.length - 1) ||| 2) (pos_of_rwValid hv) (or_two_ne_zero _)
      refine ⟨_, hexec, rfl, ?_, fun k hk => ?_, Dev.setTbl_tblsKept _ _ _⟩
      · exact (congrArg (fun m => Map.find (TableMem.places m) h.place) (Dev.tbl_setTbl_same _ _ _)).trans hsame
      · exact (congrArg (fun m => Map.find (TableMem.places m) k) (Dev.tbl_setTbl_same _ _ _)).trans (hother k hk)
    · rw [exec_hitBitSet s hr, s.dev.hitSet_discards hs hu hn]
  · rw [exec_correctionWriteBack s hr, s.dev.writeBack_eq hw]
    exact ⟨fun h => by rw [if_pos h], fun h => by rw [if_neg (by rw [h]; decide)]; rfl⟩

end Sys2Proof.Machine
end

section
/-! PROOFS. What the statements about table commands rest on: the entry of a ring and its completion, what an update leaves of a ring, the checks
that a command has passed, and the places of a table (R55, R171, R196, R198, R200, R207, R491). -/

namespace Sys2Proof.Machine

/-! ### What an update leaves of the submission rings -/

/-- The rings' entries, the completions that wait and the ring contexts are in `e` as in `d`. -/
structure Dev.RingSame (d e : Dev) : Prop where
  subs : e.hif.subs = d.hif.subs
  held : e.hif.held = d.hif.held
  regs : ∀ a, 0x4000000 ≤ a → e.reg a = d.reg a

theorem Dev.RingSame.trans {d e f : Dev} (h : d.RingSame e) (k : e.RingSame f) : d.RingSame f where
  subs := k.subs.trans h.subs
  held := k.held.trans h.held
  regs := fun a ha => (k.regs a ha).trans (h.regs a ha)

/-- An update of neither registers nor the host interface. -/
theorem Dev.ringSame_of_eq {d e : Dev} (hh : e.hif = d.hif) (hr : e.regs = d.regs) : d.RingSame e where
  subs := by rw [hh]
  held := by rw [hh]
  regs := fun a _ => by rw [Dev.reg, Dev.reg, hr]

theorem Dev.RingSame.refl (d : Dev) : d.RingSame d := Dev.ringSame_of_eq rfl rfl

theorem Dev.setReg_ringSame (d : Dev) {a : Nat} (v : Word) (h : a < 0x4000000) : d.RingSame (d.setReg a v) where
  subs := rfl
  held := rfl
  regs := fun _ hb => d.reg_setReg_other _ _ _ (by omega)

theorem Dev.count_ringSame (d : Dev) {a : Nat} (n : Nat) (h : a < 0x4000000) : d.RingSame (d.count a n) := d.setReg_ringSame _ h

theorem Dev.raise_tbl_ringSame (d : Dev) (b : Nat) : d.RingSame (d.raise 2 b) := by
  have honly := d.raise_messageOnly 2 b
  unfold Dev.MessageOnly at honly
  refine ⟨by rw [honly], by rw [honly], fun a ha => d.raise_regsKept b evtReg_tbl a ?_⟩
  simp only [eventRegs, List.mem_cons, List.not_mem_nil, or_false, Reg.TBL_EVENT, Reg.HIF_COUNT, Reg.SYS_MSIX_PBA]
  omega

theorem Dev.pushNote_ringSame (d : Dev) (ws : List Word) : d.RingSame (d.pushNote ws) := by
  have hqueue : d.RingSame { d with notes := d.notes ++ [⟨ws⟩] } := Dev.ringSame_of_eq rfl rfl
  rcases d.pushNote_eq ws with h | h
  · rw [h]
    exact hqueue
  · rw [h]
    exact hqueue.trans (Dev.raise_tbl_ringSame _ 0)

theorem Dev.RingSame.sub {d e : Dev} (h : d.RingSame e) (r : Nat) : e.sub r = d.sub r := by rw [Dev.sub, Dev.sub, h.subs]

theorem Dev.RingSame.entry {d e : Dev} (h : d.RingSame e) (r i : Nat) : e.entry r i = d.entry r i := by rw [Dev.entry, Dev.entry, h.sub]

theorem Dev.RingSame.subCq {d e : Dev} (h : d.RingSame e) (r : Nat) : e.subCq r = d.subCq r := by
  unfold Dev.subCq Dev.fld
  rw [h.regs _ (by simp only [Reg.RNG_CFG_S]; omega)]

/-! ### Entries and their completions (R489, R491) -/

theorem Dev.entry_index {d : Dev} {r i : Nat} {e : Entry} (h : d.entry r i = some e) : e.index = i := by
  simpa using List.find?_some h

/-- The entry of an index that the ring holds is replaced. -/
theorem Dev.entry_setEntry {d : Dev} {r : Nat} {x y : Entry} (h : d.entry r y.index = some x) : (d.setEntry r y).entry r y.index = some y := by
  have hindex := Dev.entry_index h
  unfold Dev.entry at h ⊢
  have hpred : ((fun e : Entry => decide (e.index = y.index)) ∘ fun e : Entry => if e.index = y.index then y else e) =
      fun e => decide (e.index = y.index) := by
    funext e
    simp only [Function.comp_apply]
    split
    next he => simp [he]
    next => rfl
  rw [Dev.setEntry, Dev.sub_setSub, List.find?_map, hpred, h, Option.map_some, if_pos hindex]

/-- VALUE leads what a completion says after its first two words. -/
theorem Entry.rest_headD (e : Entry) (value : Word) : (e.rest value).headD 0 = value := by
  unfold Entry.rest
  split <;> rfl

/-- The completion of an entry rests on its words and its index. -/
theorem Entry.completion_congr {x y : Entry} (hi : y.index = x.index) (hw : y.words = x.words) (r status : Nat) (rest : List Word) :
    y.completion r status rest = x.completion r status rest := by
  unfold Entry.completion Entry.op Entry.tag Entry.w
  rw [hi, hw]

/-- An entry that finishes: its completion waits behind those that waited. -/
theorem Dev.finish_finishedAs {d f : Dev} {r : Nat} {x y z : Entry} (hheld : f.hif.held = d.hif.held) (hcq : f.subCq r = d.subCq r)
    (hz : f.entry r x.index = some z) (hi : y.index = x.index) (hw : y.words = x.words) (status : Nat) (value : Word) :
    d.finishedAs (f.finish r y status value) r x status value := by
  have hrest : y.rest value = x.rest value := by rw [Entry.rest, Entry.rest, Entry.op, Entry.w, hw]; rfl
  obtain ⟨-, -, -, hspec⟩ := f.finishWith_spec r y status (y.rest value)
  refine ⟨?_, ?_⟩
  · rw [Dev.finish, hspec, hheld, hcq, hi, hrest, Entry.completion_congr hi hw, Entry.fence, Entry.ordered, Entry.w, hw]
    rfl
  · have hset := Dev.entry_setEntry (d := f) (r := r) (x := z)
      (y := { y with finished := true, job := false, dram := none, records := [], status := status, value := (y.rest value).headD 0 }) (hi ▸ hz)
    rw [← hi]
    exact ⟨_, hset, rfl, rfl, y.rest_headD value, hw⟩

/-- The same after an update that leaves the rings alone. -/
theorem Dev.RingSame.finish {d f : Dev} (h : d.RingSame f) {r : Nat} {x y z : Entry} (hz : d.entry r x.index = some z) (hi : y.index = x.index)
    (hw : y.words = x.words) (status : Nat) (value : Word) : d.finishedAs (f.finish r y status value) r x status value :=
  Dev.finish_finishedAs h.held (h.subCq r) ((h.entry r _).trans hz) hi hw status value

/-! ### The end of a table command (R198, R200) -/

theorem Dev.tableEnd_nil (d : Dev) (r : Nat) (e : Entry) (status value : Nat) :
    d.tableEnd r e status value [] = (d.finish r e status (BitVec.ofNat 64 value), []) := rfl

theorem Dev.tableStop_eq (d : Dev) (r : Nat) (e : Entry) (status : Nat) : d.tableStop r e status = (d.finish r e status 0, []) := rfl

theorem Dev.finish_reg (d : Dev) (r : Nat) (e : Entry) (status : Nat) (value : Word) (a : Nat) : (d.finish r e status value).reg a = d.reg a := rfl

theorem Dev.finish_tbl (d : Dev) (r : Nat) (e : Entry) (status : Nat) (value : Word) (t : Nat) : (d.finish r e status value).tbl t = d.tbl t := rfl

/-- No byte needs no translation. -/
theorem Dev.hostWrites_nil (d : Dev) (r iova : Nat) (ro : Bool) : d.hostWrites r iova [] ro = some [] := rfl

theorem Dev.flushRecords_writes {d : Dev} {r : Nat} {e : Entry} {w : HostWrites}
    (hw : d.hostWrites r (bitsOf (e.w 2) 0 48) e.records (!e.fence) = some w) :
    d.flushRecords r e = ((d.count (Reg.HIF_COUNT 3) e.records.length).finish r e e.status e.value, w) := by
  unfold Dev.flushRecords
  rw [hw]

/-- A command that ends with records whose pages are translated writes them and finishes. -/
theorem Dev.tableEnd_writes {d f : Dev} (h : d.RingSame f) {r : Nat} {e : Entry} (he : d.entry r e.index = some e) (status value : Nat)
    {data : List Byte} {w : HostWrites} (hw : f.hostWrites r (bitsOf (e.w 2) 0 48) data (!e.fence) = some w) :
    ∃ g, f.tableEnd r e status value data = (g, w) ∧ d.finishedAs g r e status (BitVec.ofNat 64 value) ∧ g.tables = f.tables ∧
      (data ≠ [] → g.reg (Reg.HIF_COUNT 3) = f.plus (Reg.HIF_COUNT 3) data.length) := by
  by_cases hnil : data = []
  · subst hnil
    rw [Dev.hostWrites_nil, Option.some.injEq] at hw
    subst hw
    exact ⟨_, f.tableEnd_nil r e status value, h.finish he rfl rfl _ _, rfl, fun hne => absurd rfl hne⟩
  · obtain ⟨y, hy⟩ : ∃ y : Entry, { e with started := true, records := data, status := status, value := BitVec.ofNat 64 value } = y :=
      ⟨_, rfl⟩
    have hindex : y.index = e.index := by rw [← hy]
    have hwords : y.words = e.words := by rw [← hy]
    have hentry : (f.setEntry r y).entry r y.index = some y := Dev.entry_setEntry (x := e) (by rw [hindex, h.entry]; exact he)
    have hrecords : (f.setEntry r y).hostWrites r (bitsOf (y.w 2) 0 48) y.records (!y.fence) = some w := by
      rw [← hy]
      exact hw
    refine ⟨((f.setEntry r y).count (Reg.HIF_COUNT 3) data.length).finish r y status (BitVec.ofNat 64 value), ?_, ?_, rfl, fun _ => ?_⟩
    · unfold Dev.tableEnd
      rw [if_neg (by simpa using hnil)]
      dsimp only
      rw [hy, Dev.flushRecords_writes hrecords, ← hy]
    · have hcq : ((f.setEntry r y).count (Reg.HIF_COUNT 3) data.length).subCq r = d.subCq r := by
        rw [Dev.subCq_count _ _ _ _ (by decide)]
        exact h.subCq r
      exact Dev.finish_finishedAs (f := (f.setEntry r y).count (Reg.HIF_COUNT 3) data.length) h.held hcq (hindex ▸ hentry) hindex hwords _ _
    · rw [Dev.finish_reg]
      exact Dev.reg_count _ _ _

/-! ### Commands that have passed their checks (R55, R196, R200, R493) -/

theorem State.wrote_hostTook (s : State) (d : Dev) (w : HostWrites) : s.hostTook (s.wrote (d, w)) w :=
  ⟨rfl, fun a h => s.read_wrote_other (d, w) a h⟩

theorem Dev.tabReady.entry {d : Dev} {r i op : Nat} {e : Entry} {b : List Byte} (h : d.tabReady r i op e b) : d.entry r e.index = some e := by
  obtain ⟨-, he, -⟩ := h
  rw [Dev.entry_index he]
  exact he

theorem Dev.withEntry_acts {d : Dev} {r i : Nat} {e : Entry} (hon : d.hifOn = true) (he : d.entry r i = some e) (hgo : d.canGo r e = true)
    {ok : Nat → Bool} (hok : ok e.op = true) (f : Entry → Dev × HostWrites) : d.withEntry r i ok f = f e := by
  unfold Dev.withEntry
  rw [if_pos hon, he]
  exact if_pos (by rw [hok, hgo]; rfl)

/-- A ready command is carried out on the table of tiles that it names. -/
theorem Dev.tabReady.command {d : Dev} {r i op : Nat} {e : Entry} {b : List Byte} (h : d.tabReady r i op e b) (hop : op ≠ 0x16) (err : ReadErr) :
    d.tableCmd r i op (fun e => d.onTable r e err) = d.tileCommand r e e.tTable b err := by
  obtain ⟨hon, he, hgo, heop, hrec, hst, hturn, hen, hdef, hup, -⟩ := h
  unfold Dev.tableCmd
  rw [Dev.withEntry_acts hon he hgo (by simp [heop]), if_neg (by simp [hrec]), if_neg (by simp [hst, hop, hturn]), if_neg (by simp [hen])]
  dsimp only
  unfold Dev.onTable
  rw [hdef]
  exact if_pos hup

/-- A ready command has no word that its table refuses. -/
theorem Dev.tabReady.checked {d : Dev} {r i op : Nat} {e : Entry} {b : List Byte} (h : d.tabReady r i op e b) (err : ReadErr) :
    d.tileCommand r e e.tTable b err =
      if op = 0x10 then d.tileInsert r e e.tTable b
      else if op = 0x11 then d.tileDelete r e e.tTable b
      else if op = 0x12 then d.tileSearch r e e.tTable b err
      else if op = 0x13 then d.tileNext r e e.tTable b err
      else if op = 0x14 then d.tileFlush r e e.tTable b
      else if op = 0x15 then d.tileAge r e b
      else d.tileFlow r e e.tTable b err := by
  obtain ⟨-, -, -, heop, -, -, -, -, -, -, hkind, hholds, hwords, -⟩ := h
  subst heop
  unfold Dev.tileCommand
  dsimp only
  rw [if_neg (by simp [hkind]), if_neg (by simp [hholds]), if_neg (by simp [hwords])]

theorem exec_tabInsert {r i : Nat} {e : Entry} {b : List Byte} {s : State} (h : s.dev.tabReady r i 0x10 e b) :
    exec (.tabInsert r i) s = .next (s.wrote (s.dev.tileInsert r e e.tTable b)) := by
  show execTabInsert r i s = _
  rw [execTabInsert, h.command (by decide), h.checked]
  rfl

theorem exec_tabDelete {r i : Nat} {e : Entry} {b : List Byte} {s : State} (h : s.dev.tabReady r i 0x11 e b) :
    exec (.tabDelete r i) s = .next (s.wrote (s.dev.tileDelete r e e.tTable b)) := by
  show execTabDelete r i s = _
  rw [execTabDelete, h.command (by decide), h.checked]
  rfl

theorem exec_tabSearch {r i : Nat} {e : Entry} {b : List Byte} {s : State} (h : s.dev.tabReady r i 0x12 e b) (err : ReadErr) :
    exec (.tabSearch r i err) s = .next (s.wrote (s.dev.tileSearch r e e.tTable b err)) := by
  show execTabSearch r i err s = _
  rw [execTabSearch, h.command (by decide), h.checked]
  rfl

theorem exec_tabNext {r i : Nat} {e : Entry} {b : List Byte} {s : State} (h : s.dev.tabReady r i 0x13 e b) (err : ReadErr) :
    exec (.tabNext r i err) s = .next (s.wrote (s.dev.tileNext r e e.tTable b err)) := by
  show execTabNext r i err s = _
  rw [execTabNext, h.command (by decide), h.checked]
  rfl

theorem exec_tabFlushPort {r i : Nat} {e : Entry} {b : List Byte} {s : State} (h : s.dev.tabReady r i 0x14 e b) :
    exec (.tabFlushPort r i) s = .next (s.wrote (s.dev.tileFlush r e e.tTable b)) := by
  show execTabFlushPort r i s = _
  rw [execTabFlushPort, h.command (by decide), h.checked]
  rfl

theorem exec_tabAgeScan {r i : Nat} {e : Entry} {b : List Byte} {s : State} (h : s.dev.tabReady r i 0x15 e b) :
    exec (.tabAgeScan r i) s = .next (s.wrote (s.dev.tileAge r e b)) := by
  show execTabAgeScan r i s = _
  rw [execTabAgeScan, h.command (by decide), h.checked]
  rfl

theorem exec_tabFlow {r i : Nat} {e : Entry} {b : List Byte} {s : State} (h : s.dev.tabReady r i 0x17 e b) (err : ReadErr) :
    exec (.tabFlow r i err) s = .next (s.wrote (s.dev.tileFlow r e e.tTable b err)) := by
  show execTabFlow r i err s = _
  rw [execTabFlow, h.command (by decide), h.checked]
  rfl

/-! ### Places of a table (R175, R207) -/

theorem TableMem.poisoned_of_nil {m : TableMem} (h : m.poison = []) (p : Nat) : m.poisoned p = false := by simp [TableMem.poisoned, h]

theorem TableMem.store_poisoned (m : TableMem) (p : Nat) (ws : List Word) : (m.store p ws).poisoned p = false := by
  simp [TableMem.store, TableMem.poisoned]

/-- An image with a word that is not zero is listed at its place. -/
theorem TableMem.store_find (m : TableMem) (p : Nat) {ws : List Word} (h : ws.all (· == 0) = false) :
    Map.find (m.store p ws).places p = some ws := by
  unfold TableMem.store
  dsimp only
  rw [if_neg (by rw [h]; decide), Map.find_put_same]

/-- An image of zeros is not listed. -/
theorem TableMem.store_find_zero (m : TableMem) (p n : Nat) : Map.find (m.store p (List.replicate n 0)).places p = none := by
  unfold TableMem.store
  dsimp only
  rw [if_pos (by simp), Map.find_del_same]

theorem TableMem.store_find_other (m : TableMem) {p k : Nat} (ws : List Word) (h : k ≠ p) :
    Map.find (m.store p ws).places k = Map.find m.places k := by
  unfold TableMem.store
  dsimp only
  split
  · exact Map.find_del_other _ _ _ h
  · exact Map.find_put_other _ _ _ _ h

theorem TableMem.image_of_find {m : TableMem} {p : Nat} {ws : List Word} (h : Map.find m.places p = some ws) (n : Nat) : m.image p n = ws := by
  rw [TableMem.image, Map.getD, h]
  rfl

theorem TableMem.store_image_other (m : TableMem) {p k : Nat} (ws : List Word) (h : k ≠ p) (n : Nat) : (m.store p ws).image k n = m.image k n := by
  rw [TableMem.image, TableMem.image, Map.getD, Map.getD, m.store_find_other ws h]

theorem all_zero_false_of_rwValid {ws : List Word} {i : Nat} (h : rwValid (wordAt ws i) = true) : ws.all (· == 0) = false := by
  have hi := pos_of_rwValid h
  rw [List.all_eq_false]
  refine ⟨ws[i], List.getElem_mem hi, fun hz => ?_⟩
  rw [wordAt, List.getElem?_eq_getElem hi, Option.getD_some, beq_iff_eq.mp hz] at h
  exact absurd h (by decide)

/-! ### Updates of a table -/

theorem Dev.setTbl_ringSame (d : Dev) (t : Nat) (m : TableMem) : d.RingSame (d.setTbl t m) := Dev.ringSame_of_eq rfl rfl

/-- Zeros are stored at the place of an entry that is removed from a table that is not LPM. -/
theorem Dev.remove_place (d : Dev) (t : Nat) {b : List Byte} (p : Nat) (hk : tmKind b ≠ 1) :
    d.remove t b p = d.setTbl t ((d.tbl t).store p (List.replicate (tmW b) 0)) := if_neg hk

theorem Dev.tblsKept.trans {d e f : Dev} {t : Nat} (h : d.tblsKept e t) (k : e.tblsKept f t) : d.tblsKept f t :=
  fun n hn => (k n hn).trans (h n hn)

theorem Dev.tblsKept_of_tables {d e : Dev} (h : e.tables = d.tables) (t : Nat) : d.tblsKept e t := fun n _ => by rw [Dev.tbl, Dev.tbl, h]

end Sys2Proof.Machine
end

section
/-! PROOFS. AGE_SCAN and its aging tests (R194, R195). -/

namespace Sys2Proof.Machine

/-! ### A scan begins (R194) -/

/-- The scan of a range that is not empty has begun at its first place. -/
theorem Dev.tileAge_begins (d : Dev) (r : Nat) (e : Entry) (b : List Byte) (hf : e.tArg < tmPlaces b)
    (hl : e.tArg + bitsOf (e.w 2) 0 32 ≤ tmPlaces b) :
    d.tileAge r e b =
      if bitsOf (e.w 2) 0 32 = 0 then (d.finish r e St.ok 0, [])
      else (d.setEntry r { e with started := true, progress := 0, value := 0 }, []) := by
  unfold Dev.tileAge
  dsimp only
  rw [if_neg (by omega)]
  rfl

/-! ### The aging test of a place (R194) -/

theorem Dev.ageNext_hifOnly (d : Dev) (r : Nat) (e : Entry) (k : Nat) : d.ageNext r e k = { d with hif := (d.ageNext r e k).hif } := by
  unfold Dev.ageNext
  dsimp only
  split <;> rfl

theorem Dev.ageNext_reg (d : Dev) (r : Nat) (e : Entry) (k a : Nat) : (d.ageNext r e k).reg a = d.reg a := by
  rw [d.ageNext_hifOnly]
  rfl

theorem Dev.ageNext_tbl (d : Dev) (r : Nat) (e : Entry) (k t : Nat) : (d.ageNext r e k).tbl t = d.tbl t := by
  rw [d.ageNext_hifOnly]
  rfl

/-- The test of a place is done, `k` entries having been removed there: the scan `e` goes on, or has finished behind its last place. -/
def Dev.scanWent (d f : Dev) (r : Nat) (e : Entry) (k : Nat) : Prop :=
  (e.progress + 1 = bitsOf (e.w 2) 0 32 → d.finishedAs f r e St.ok (e.value + BitVec.ofNat 64 k)) ∧
  (e.progress + 1 ≠ bitsOf (e.w 2) 0 32 →
    ∃ y, f.entry r e.index = some y ∧ y.progress = e.progress + 1 ∧ y.value = e.value + BitVec.ofNat 64 k)

theorem Dev.RingSame.ageNext {d f : Dev} (h : d.RingSame f) {r : Nat} {e : Entry} (he : d.entry r e.index = some e) (k : Nat) :
    d.scanWent (f.ageNext r e k) r e k := by
  obtain ⟨y, hy⟩ : ∃ y : Entry, { e with progress := e.progress + 1, value := e.value + BitVec.ofNat 64 k } = y := ⟨_, rfl⟩
  have hindex : y.index = e.index := by rw [← hy]
  have hwords : y.words = e.words := by rw [← hy]
  have hvalue : y.value = e.value + BitVec.ofNat 64 k := by rw [← hy]
  have hw2 : bitsOf (y.w 2) 0 32 = bitsOf (e.w 2) 0 32 := by rw [Entry.w, hwords, Entry.w]
  have hprog : y.progress = e.progress + 1 := by rw [← hy]
  have hnext : f.ageNext r e k = if e.progress + 1 = bitsOf (e.w 2) 0 32 then f.finish r y St.ok y.value else f.setEntry r y := by
    unfold Dev.ageNext
    rw [hy]
    dsimp only
    rw [hprog, hw2]
  rw [hnext]
  refine ⟨fun hlast => ?_, fun hmore => ?_⟩
  · rw [if_pos hlast, ← hvalue]
    exact h.finish he hindex hwords _ _
  · rw [if_neg hmore, ← hindex]
    exact ⟨y, Dev.entry_setEntry (x := e) (by rw [hindex, h.entry]; exact he), hprog, hvalue⟩

/-- The result word that an aging test of place `p` reads. -/
def Dev.ageWord (d : Dev) (t : Nat) (b : List Byte) (p : Nat) : Word := wordAt ((d.tbl t).image p (tmW b)) (tmW b - 1)

section
variable {d : Dev} {r t : Nat} {e : Entry} {b : List Byte} (hp : (d.tbl t).poisoned (e.tArg + e.progress) = false)
include hp

/-- Places without an entry and static entries stay. -/
theorem Dev.ageTest_stays (h : rwValid (d.ageWord t b (e.tArg + e.progress)) = false ∨ rwStatic (d.ageWord t b (e.tArg + e.progress)) = true) :
    d.ageTest r e t b .none = d.ageNext r e 0 := by
  unfold Dev.ageTest
  dsimp only
  rw [if_neg (by simp [hp, errBad])]
  refine if_pos ?_
  unfold Dev.ageWord at h
  rcases h with h | h <;> simp [h]

variable (hv : rwValid (d.ageWord t b (e.tArg + e.progress)) = true) (hs : rwStatic (d.ageWord t b (e.tArg + e.progress)) = false)
include hv hs

/-- An entry that was hit loses its HIT bit. -/
theorem Dev.ageTest_hit (h : rwHit (d.ageWord t b (e.tArg + e.progress)) = true) :
    d.ageTest r e t b .none =
      ((d.setTbl t ((d.tbl t).setWord (e.tArg + e.progress) (tmW b) (tmW b - 1) (d.ageWord t b (e.tArg + e.progress) &&& ~~~2#64))).count
        (Reg.TBL_COUNT 7) 1).ageNext r e 0 := by
  unfold Dev.ageWord at hv hs h ⊢
  unfold Dev.ageTest
  dsimp only
  rw [if_neg (by simp [hp, errBad]), if_neg (by simp [hv, hs]), if_pos h]
  rfl

/-- The test waits for room in the notification queue. -/
theorem Dev.ageTest_waits (h : rwHit (d.ageWord t b (e.tArg + e.progress)) = false) (hn : tmNotifyAged b = true) (hq : 256 ≤ d.notes.length) :
    d.ageTest r e t b .none = d := by
  unfold Dev.ageWord at hv hs h
  unfold Dev.ageTest
  dsimp only
  rw [if_neg (by simp [hp, errBad]), if_neg (by simp [hv, hs]), if_neg (by simp [h])]
  exact if_pos (by simp [hn, d.noteRoom_full hq])

/-- An entry that was not hit since the last test is removed. -/
theorem Dev.ageTest_removes (h : rwHit (d.ageWord t b (e.tArg + e.progress)) = false) (hq : tmNotifyAged b = false ∨ d.notes.length < 256) :
    d.ageTest r e t b .none =
      (let f := (d.remove t b (e.tArg + e.progress)).count (Reg.TBL_COUNT 8) 1
       if tmNotifyAged b then
         f.pushNote (noteWords 3 t 0 0 (if tmPortField b then rwPort (d.ageWord t b (e.tArg + e.progress)) else 0) false
           (wordAt ((d.tbl t).image (e.tArg + e.progress) (tmW b)) 0) f.ns (e.tArg + e.progress))
       else f).ageNext r e 1 := by
  unfold Dev.ageWord at hv hs h ⊢
  unfold Dev.ageTest
  dsimp only
  rw [if_neg (by simp [hp, errBad]), if_neg (by simp [hv, hs]), if_neg (by simp [h]), if_neg]
  · rfl
  · rcases hq with hq | hq
    · simp [hq]
    · simp [(d.noteRoom_iff).mpr hq]

end

/-- What the removal of an entry leaves, its notification queued where the table asks for one. -/
theorem Dev.ageRemove_leaves (d : Dev) (t : Nat) {b : List Byte} (p : Nat) (hk : tmKind b ≠ 1) (port : Nat) (key : Word) :
    let f := (d.remove t b p).count (Reg.TBL_COUNT 8) 1
    let g := if tmNotifyAged b then f.pushNote (noteWords 3 t 0 0 port false key f.ns p) else f
    d.RingSame g ∧ Map.find (g.tbl t).places p = none ∧ (∀ k, k ≠ p → Map.find (g.tbl t).places k = Map.find (d.tbl t).places k) ∧
      d.tblsKept g t ∧ g.reg (Reg.TBL_COUNT 8) = d.plus (Reg.TBL_COUNT 8) 1 ∧
      g.notes = d.notes ++ (if tmNotifyAged b then [⟨noteWords 3 t 0 0 port false key d.ns p⟩] else []) := by
  intro f g
  have hf : f = (d.setTbl t ((d.tbl t).store p (List.replicate (tmW b) 0))).count (Reg.TBL_COUNT 8) 1 := by
    simp only [f, d.remove_place t p hk]
  have htables : g.tables = f.tables := by
    simp only [g]
    split
    · exact Dev.pushNote_tables _ _
    · rfl
  have htbl : ∀ k, g.tbl k = (d.setTbl t ((d.tbl t).store p (List.replicate (tmW b) 0))).tbl k := fun k => by
    rw [Dev.tbl, htables, hf]
    rfl
  have hring : d.RingSame f := by
    rw [hf]
    exact (d.setTbl_ringSame _ _).trans (Dev.count_ringSame _ 1 (by decide))
  refine ⟨?_, ?_, fun k hkp => ?_, fun k hkt => ?_, ?_, ?_⟩
  · simp only [g]
    split
    · exact hring.trans (Dev.pushNote_ringSame _ _)
    · exact hring
  · rw [htbl, Dev.tbl_setTbl_same, TableMem.store_find_zero]
  · rw [htbl, Dev.tbl_setTbl_same, TableMem.store_find_other _ _ hkp]
  · rw [htbl]
    exact d.setTbl_tblsKept _ _ k hkt
  · have hcount : f.reg (Reg.TBL_COUNT 8) = d.plus (Reg.TBL_COUNT 8) 1 := by
      rw [hf, Dev.reg_count]
      rfl
    simp only [g]
    split
    · rw [Dev.pushNote_tblCount _ _ (by decide), hcount]
    · exact hcount
  · have hns : f.ns = d.ns := by rw [hf]; rfl
    have hnotes : f.notes = d.notes := by rw [hf]; rfl
    simp only [g]
    split
    · rw [Dev.pushNote_notes, hns, hnotes]
    · rw [hnotes, List.append_nil]

/-! ### The statement -/

theorem exec_agingTest {r i : Nat} {e : Entry} {b : List Byte} {s : State} (hon : s.dev.hifOn = true) (he : s.dev.entry r i = some e)
    (hop : e.op = 0x15) (hst : e.started = true) (hfin : e.finished = false) (hd : s.dev.tblDef e.tTable = .tile b)
    (hup : s.dev.tilesUp b = true) : exec (.agingTest r i .none) s = .next (s.withDev (s.dev.ageTest r e e.tTable b .none)) := by
  show execAgingTest r i .none s = _
  unfold execAgingTest Dev.agingTest
  rw [if_pos hon, he]
  dsimp only
  rw [if_pos (by simp [hop, hst, hfin]), hd]
  dsimp only
  rw [if_pos hup]
  rfl

/-- Settles O31: a scan begins at the first place of its range, and each test does one of four things with its place. -/
theorem ageScans : Obligations.AgeScans := by
  unfold Obligations.AgeScans
  intro r i e b s
  refine ⟨fun hready hfirst hlast => ?_, fun hon he hop hst hfin hd hup hkind => ?_⟩
  · have hexec := exec_tabAgeScan hready
    rw [s.dev.tileAge_begins r e b hfirst hlast] at hexec
    refine ⟨fun h0 => ?_, fun h0 => ?_⟩
    · rw [if_pos h0] at hexec
      exact ⟨_, hexec, (Dev.RingSame.refl _).finish hready.entry rfl rfl _ _⟩
    · rw [if_neg h0] at hexec
      have hset := Dev.entry_setEntry (y := { e with started := true, progress := 0, value := 0 }) hready.entry
      obtain ⟨-, he, -⟩ := hready
      obtain rfl := Dev.entry_index he
      exact ⟨_, _, hexec, rfl, hset, rfl, rfl, rfl⟩
  · intro p m w hp went
    have hindex := Dev.entry_index he
    have hexec := exec_agingTest hon he hop hst hfin hd hup
    have hentry : s.dev.entry r e.index = some e := by rw [hindex]; exact he
    have hwent : ∀ {f : Dev} {k : Nat}, s.dev.RingSame f → went (s.withDev (f.ageNext r e k)) k := fun hring => by
      obtain ⟨hend, hnext⟩ := hring.ageNext hentry _
      exact ⟨hend, hindex ▸ hnext⟩
    refine ⟨fun h => ?_, fun hv hs hh => ?_, fun hv hs hh hn hq => ?_, fun hv hs hh hq => ?_⟩
    · rw [Dev.ageTest_stays hp h] at hexec
      exact ⟨_, hexec, hwent (.refl _), by rw [State.withDev, Dev.ageNext_hifOnly]⟩
    · rw [Dev.ageTest_hit hp hv hs hh] at hexec
      refine ⟨_, hexec, hwent ((s.dev.setTbl_ringSame _ _).trans (Dev.count_ringSame _ 1 (by decide))), ?_, fun k hk => ?_, ?_⟩
      · exact (Dev.ageNext_tbl _ _ _ _ _).trans (Dev.tbl_setTbl_same _ _ _)
      · exact (Dev.ageNext_tbl _ _ _ _ _).trans (s.dev.setTbl_tblsKept _ _ k hk)
      · exact (Dev.ageNext_reg _ _ _ _ _).trans (Dev.reg_count _ _ _)
    · rw [hexec, Dev.ageTest_waits hp hv hs hh hn hq]
      rfl
    · rw [Dev.ageTest_removes hp hv hs hh hq] at hexec
      obtain ⟨hring, hgone, hplaces, htables, hcount, hnotes⟩ := s.dev.ageRemove_leaves e.tTable (b := b) p (by rw [hkind]; decide)
        (if tmPortField b then rwPort w else 0) (wordAt (m.image p (tmW b)) 0)
      refine ⟨_, hexec, hwent hring, ?_, fun k hk => ?_, fun k hk => ?_, ?_, ?_⟩
      · exact (congrArg (fun m => Map.find (TableMem.places m) p) (Dev.ageNext_tbl _ _ _ _ _)).trans hgone
      · exact (congrArg (fun m => Map.find (TableMem.places m) k) (Dev.ageNext_tbl _ _ _ _ _)).trans (hplaces k hk)
      · exact (Dev.ageNext_tbl _ _ _ _ _).trans (htables k hk)
      · exact (Dev.ageNext_reg _ _ _ _ _).trans hcount
      · exact (congrArg Dev.notes (Dev.ageNext_hifOnly _ _ _ _)).trans hnotes

end Sys2Proof.Machine
end

section
/-! PROOFS. INSERT (R172, R173, R190, R197, R200, R207). -/

namespace Sys2Proof.Machine

/-! ### The image of a command (R176, R197) -/

theorem Dev.tabReady.operands {d : Dev} {r i op : Nat} {e : Entry} {b : List Byte} (h : d.tabReady r i op e b)
    (hop : op = 0x10 ∨ op = 0x11 ∨ op = 0x12) : cmdIndexBad e b = false ∧ cmdKeyBad e b = false := by
  obtain ⟨-, -, -, -, -, -, -, -, -, -, -, -, -, hok⟩ := h
  exact hok hop

theorem tmW_pos (b : List Byte) : 0 < tmW b := Nat.two_pow_pos _

theorem Entry.wordAt_tWords (e : Entry) {n i : Nat} (h : i < n) : wordAt (e.tWords n) i = e.tWord i := by
  simp [wordAt, Entry.tWords, h]

theorem tileNeeds_insert {b : List Byte} (h : tmKind b = 0 ∨ tmKind b = 2) : tileNeeds b 0x10 = tmW b := by
  unfold tileNeeds
  rw [if_pos rfl, if_neg (by omega)]

/-- The image of a command that may be inserted into an EXACT or INDEX table has a VALID result word. -/
theorem rwValid_of_imageBad {e : Entry} {b : List Byte} (hk : tmKind b = 0 ∨ tmKind b = 2) (h : imageBad e b = false) :
    rwValid (wordAt (e.tWords (tmW b)) (tmW b - 1)) = true := by
  unfold imageBad at h
  rw [if_neg (by omega), tileNeeds_insert hk] at h
  have hpos := tmW_pos b
  rw [e.wordAt_tWords (by omega)]
  simp only [Bool.not_eq_false', resultOk, Bool.and_eq_true] at h
  exact h.1.1

/-! ### What a command finds (R172, R201, R207) -/

/-- An INSERT whose operands are good acts on what its key or index holds. -/
theorem Dev.tileInsert_found (d : Dev) (r : Nat) {e : Entry} (t : Nat) {b : List Byte} (hi : cmdIndexBad e b = false) (hk : cmdKeyBad e b = false)
    (him : imageBad e b = false) :
    (d.found e t b = .none → d.tileInsert r e t b = if e.tMode = 1 then d.tableStop r e St.notFound else d.insertNew r e t b) ∧
    (∀ p, d.found e t b = .at p → d.tileInsert r e t b = if e.tMode = 0 then d.tableStop r e St.exists_ else d.insertOver r e t b p) ∧
    (∀ p, d.found e t b = .bad p → d.tileInsert r e t b =
      if e.tMode = 1 then d.cmdPoisoned r e t b p .none 0
      else if tmKind b = 0 ∧ (d.tbl t).exactFind (e.tWords (tmW b - 1)) = none then d.insertNew r e t b
      else d.insertOver r e t b p) := by
  unfold Dev.tileInsert
  rw [if_neg (by simp [hi]), if_neg (by simp [hk, him])]
  exact ⟨fun h => by rw [h], fun p h => by rw [h], fun p h => by rw [h]⟩

theorem Dev.found_index (d : Dev) (e : Entry) (t : Nat) {b : List Byte} (hk : tmKind b = 2) :
    d.found e t b = if (d.tbl t).poisoned e.tArg then .bad e.tArg
      else if imageValid 2 ((d.tbl t).image e.tArg (tmW b)) then .at e.tArg else .none := by
  unfold Dev.found TableMem.foundAt
  simp only [hk]
  rfl

/-- Without a poisoned place an EXACT key is found at its place, or not at all. -/
theorem Dev.found_exact (d : Dev) (e : Entry) {t : Nat} {b : List Byte} (hk : tmKind b = 0) (hp : (d.tbl t).poison = []) :
    d.found e t b = match (d.tbl t).exactFind (e.tWords (tmW b - 1)) with
      | some p => .at p
      | none => .none := by
  have hclean : (exactPlaces b (e.tWords (tmW b - 1))).find? (d.tbl t).poisoned = none :=
    List.find?_eq_none.mpr fun p _ => by rw [TableMem.poisoned_of_nil hp]; decide
  unfold Dev.found TableMem.foundExact
  dsimp only
  rw [if_pos hk, hclean]
  cases (d.tbl t).exactFind (e.tWords (tmW b - 1)) with
  | none => rfl
  | some p => exact if_neg (by simp [TableMem.poisoned_of_nil hp])

/-! ### An image is stored (R172, R190, R197) -/

theorem Dev.fawnFree_fawnOf (d : Dev) (t : Nat) (key : Word) : (d.fawnFree t key).fawnOf t key = none := by
  unfold Dev.fawnOf Dev.fawnFree
  rw [List.find?_eq_none]
  intro f hf
  have hkeep := (List.mem_filter.mp hf).2
  simp only [Bool.not_eq_true', Bool.and_eq_false_iff, beq_eq_false_iff_ne] at hkeep
  simp only [decide_eq_true_eq, not_and_or]
  exact hkeep

theorem Dev.fawnFree_ringSame (d : Dev) (t : Nat) (key : Word) : d.RingSame (d.fawnFree t key) := Dev.ringSame_of_eq rfl rfl

/-- The device with an image stored at a place; in an EXACT table its key has no Fawn entry. -/
def Dev.stored (d : Dev) (t : Nat) (b : List Byte) (p : Nat) (ws : List Word) : Dev :=
  let d := d.setTbl t ((d.tbl t).store p ws)
  if tmKind b = 0 then d.fawnFree t (wordAt ws 0) else d

theorem Dev.insertAt_eq (d : Dev) (r : Nat) (e : Entry) (t : Nat) {b : List Byte} (p : Nat) (hk : tmKind b = 0 ∨ tmKind b = 2) :
    d.insertAt r e t b p = ((d.stored t b p (e.tWords (tmW b))).finish r e St.ok (BitVec.ofNat 64 p), []) := by
  unfold Dev.insertAt
  rw [tileNeeds_insert hk]
  rfl

section
variable (d : Dev) (t : Nat) (b : List Byte) (p : Nat) (ws : List Word)

theorem Dev.stored_tables : (d.stored t b p ws).tables = (d.setTbl t ((d.tbl t).store p ws)).tables := by
  unfold Dev.stored
  dsimp only
  split <;> rfl

theorem Dev.stored_regs : (d.stored t b p ws).regs = d.regs := by
  unfold Dev.stored
  dsimp only
  split <;> rfl

theorem Dev.stored_ringSame : d.RingSame (d.stored t b p ws) := by
  unfold Dev.stored
  dsimp only
  split
  · exact (d.setTbl_ringSame _ _).trans (Dev.fawnFree_ringSame _ _ _)
  · exact d.setTbl_ringSame _ _

theorem Dev.stored_tbl : (d.stored t b p ws).tbl t = (d.tbl t).store p ws := by
  rw [Dev.tbl, d.stored_tables]
  exact d.tbl_setTbl_same _ _

theorem Dev.stored_tblsKept : d.tblsKept (d.stored t b p ws) t :=
  (d.setTbl_tblsKept _ _).trans (Dev.tblsKept_of_tables (d.stored_tables t b p ws) t)

end

theorem Dev.stored_fawnOf (d : Dev) (t : Nat) {b : List Byte} (p : Nat) (ws : List Word) (hk : tmKind b = 0) :
    (d.stored t b p ws).fawnOf t (wordAt ws 0) = none := by
  unfold Dev.stored
  dsimp only
  rw [if_pos hk]
  exact Dev.fawnFree_fawnOf _ _ _

/-! ### A place for a new key (R172, R173) -/

/-- Free values were used, and of the tables only `t` changed. -/
structure Dev.TableOnly (d f : Dev) (t : Nat) : Prop where
  rest : f = { d with tables := f.tables, freeCtr := f.freeCtr }
  kept : d.tblsKept f t

theorem Dev.TableOnly.of_free {d f : Dev} (h : f = { d with freeCtr := f.freeCtr }) (t : Nat) : d.TableOnly f t where
  rest := by rw [h]
  kept := Dev.tblsKept_of_tables (by rw [h]) t

theorem Dev.TableOnly.trans {d e f : Dev} {t : Nat} (h : d.TableOnly e t) (k : e.TableOnly f t) : d.TableOnly f t where
  rest := by
    rw [k.rest, h.rest]
  kept := h.kept.trans k.kept

theorem Dev.setTbl_tableOnly (d : Dev) (t : Nat) (m : TableMem) : d.TableOnly (d.setTbl t m) t := ⟨rfl, d.setTbl_tblsKept t m⟩

theorem Dev.fresh_tableOnly (d : Dev) (n t : Nat) : d.TableOnly (d.fresh n).2 t := .of_free rfl t

theorem Dev.TableOnly.ringSame {d f : Dev} {t : Nat} (h : d.TableOnly f t) : d.RingSame f :=
  Dev.ringSame_of_eq (by rw [h.rest]) (by rw [h.rest])

/-- A choice among places uses a free value; there is one unless there is no place. -/
theorem Dev.chooseOf_spec (d : Dev) (l : List Nat) :
    (d.chooseOf l).2 = { d with freeCtr := (d.chooseOf l).2.freeCtr } ∧ ((d.chooseOf l).1 = none → l = []) := by
  unfold Dev.chooseOf
  split
  next h => exact ⟨rfl, fun _ => List.isEmpty_iff.mp h⟩
  next h =>
    refine ⟨rfl, fun hn => ?_⟩
    have hlen : 0 < l.length := List.length_pos_of_ne_nil fun hnil => h (by rw [hnil]; rfl)
    have hle := List.getElem?_eq_none_iff.mp hn
    exact absurd hle (Nat.not_le.mpr (Nat.mod_lt _ hlen))

theorem Dev.chooseOf_tableOnly {d f : Dev} {l : List Nat} {o : Option Nat} (h : d.chooseOf l = (o, f)) (t : Nat) : d.TableOnly f t := by
  have hfree := (d.chooseOf_spec l).1
  rw [h] at hfree
  exact .of_free hfree t

theorem Dev.moveOne_tableOnly (d : Dev) (t : Nat) (b : List Byte) : d.TableOnly (d.moveOne t b) t := by
  unfold Dev.moveOne
  dsimp only
  split
  next e he => exact Dev.chooseOf_tableOnly he t
  next p e he =>
    have hfirst := Dev.chooseOf_tableOnly he t
    split
    · exact hfirst
    · split
      next f hf => exact hfirst.trans (Dev.chooseOf_tableOnly hf t)
      next q f hf => exact (hfirst.trans (Dev.chooseOf_tableOnly hf t)).trans (f.setTbl_tableOnly t _)

theorem Dev.moves_tableOnly (d : Dev) (t : Nat) (b : List Byte) (k : Nat) : d.TableOnly (d.moves t b k) t := by
  induction k generalizing d with
  | zero => exact .of_free rfl t
  | succ k ih => exact (d.moveOne_tableOnly t b).trans (ih _)

/-- A layer of the search for a free place leads paths on, and each has a place. -/
theorem TableMem.layer_ne_nil (m : TableMem) (b : List Byte) (seen : List Nat) (paths : List (List Nat)) :
    ∀ x ∈ (m.layer b seen paths).2, x ≠ [] := by
  unfold TableMem.layer
  refine List.foldlRecOn (motive := fun a : List Nat × List (List Nat) => ∀ x ∈ a.2, x ≠ []) paths _ (by simp) fun a ha p _ => ?_
  refine List.foldlRecOn (motive := fun a : List Nat × List (List Nat) => ∀ x ∈ a.2, x ≠ []) _ _ ha fun a ha q _ => ?_
  split
  · exact ha
  · intro x hx
    rcases List.mem_append.mp hx with hx | hx
    · exact ha x hx
    · rw [List.mem_singleton.mp hx]
      exact List.cons_ne_nil _ _

/-- A way that frees a place ends at one of the places where the search began. -/
theorem TableMem.freeing_ne_nil (m : TableMem) (b : List Byte) (k : Nat) (seen : List Nat) (paths : List (List Nat)) (hp : ∀ x ∈ paths, x ≠ [])
    {way : List Nat} (h : m.freeing b k seen paths = some way) : way ≠ [] := by
  induction k generalizing seen paths with
  | zero => exact hp _ (List.mem_of_find?_eq_some h)
  | succ k ih =>
    unfold TableMem.freeing at h
    split at h
    next x hx =>
      cases h
      exact hp _ (List.mem_of_find?_eq_some hx)
    next => exact ih _ _ (m.layer_ne_nil b seen paths) h

/-- A place that is not free lists an entry. -/
theorem TableMem.mem_places_of_not_free {m : TableMem} {p : Nat} (h : m.placeFree p = false) : p ∈ m.places.map Prod.fst := by
  refine Map.mem_keys_of_find (Option.isSome_iff_ne_none.mpr fun hn => ?_)
  rw [TableMem.placeFree, hn] at h
  simp [imageValid, wordAt, rwValid] at h

/-- A table without a free place is full. -/
theorem TableMem.le_occupancy (m : TableMem) {n : Nat} (h : (List.range n).filter m.placeFree = []) : n ≤ m.occupancy := by
  have hfull : ∀ p, p < n → m.placeFree p = false := fun p hp => by
    simpa using List.filter_eq_nil_iff.mp h p (List.mem_range.mpr hp)
  have hsub : List.range n ⊆ (m.places.filter fun e => !m.placeFree e.1).map Prod.fst := fun p hp => by
    have hnot := hfull p (List.mem_range.mp hp)
    obtain ⟨e, he, rfl⟩ := List.mem_map.mp (TableMem.mem_places_of_not_free hnot)
    exact List.mem_map.mpr ⟨e, List.mem_filter.mpr ⟨he, by simp [hnot]⟩, rfl⟩
  have hlen := (List.nodup_range.subperm hsub).length_le
  rw [List.length_range, List.length_map] at hlen
  exact hlen

/-- The search for a place of a new key moves entries of its table alone, and finds none only in a table at 80 % or more. -/
theorem Dev.placeExact_spec (d : Dev) (t : Nat) (b : List Byte) (key : List Word) :
    d.TableOnly (d.placeExact t b key).2 t ∧ ((d.placeExact t b key).1 = none → 4 * tmPlaces b ≤ 5 * (d.tbl t).occupancy) := by
  have hfresh := d.fresh_tableOnly 65 t
  unfold Dev.placeExact
  dsimp only
  split
  next p f hf =>
    refine ⟨?_, nofun⟩
    exact (hfresh.trans (Dev.moves_tableOnly _ t b _)).trans (Dev.chooseOf_tableOnly hf t)
  next =>
    split
    next way hway =>
      refine ⟨hfresh.trans (Dev.setTbl_tableOnly _ t _), fun hn => ?_⟩
      refine absurd (List.getLast?_eq_none_iff.mp hn) (TableMem.freeing_ne_nil _ b _ _ _ (fun x hx => ?_) hway)
      obtain ⟨p, -, rfl⟩ := List.mem_map.mp hx
      exact List.cons_ne_nil _ _
    next =>
      split
      next hfull => exact ⟨hfresh, fun _ => hfull⟩
      next hfull =>
        refine ⟨hfresh.trans (Dev.chooseOf_tableOnly rfl t), fun hn => ?_⟩
        have hle := TableMem.le_occupancy _ ((Dev.chooseOf_spec _ _).2 hn)
        omega

/-! ### A poisoned place (R207) -/

/-- An uncorrectable word changes its table, is recorded, raises its event and is reported. -/
theorem Dev.tileUncorr_eq (d : Dev) (t : Nat) (b : List Byte) (p i : Nat) :
    ∃ m last line, d.tileUncorr t b p i = (((d.setTbl t m).setReg Reg.TBL_ECC_LAST last).raise 2 2).report line 2 false := ⟨_, _, _, rfl⟩

theorem Dev.tileUncorr_ringSame (d : Dev) (t : Nat) (b : List Byte) (p i : Nat) : d.RingSame (d.tileUncorr t b p i) := by
  obtain ⟨m, last, line, h⟩ := d.tileUncorr_eq t b p i
  rw [h]
  exact (((d.setTbl_ringSame t m).trans (Dev.setReg_ringSame _ last (by decide))).trans (Dev.raise_tbl_ringSame _ 2)).trans
    (Dev.ringSame_of_eq rfl rfl)

theorem Dev.poisonSeen_ringSame (d : Dev) (t : Nat) (b : List Byte) (pl w : Nat) : d.RingSame (d.poisonSeen t b pl w) := by
  have hfresh : d.RingSame (d.fresh 2).2 := Dev.ringSame_of_eq rfl rfl
  unfold Dev.poisonSeen
  dsimp only
  split
  · exact hfresh
  · exact hfresh.trans (Dev.tileUncorr_ringSame _ _ _ _ _)

/-! ### INSERT into an INDEX table (R172, R197, R200, R207) -/

/-- An INSERT writes its image at place `p` and finishes OK; `f` is the device after the moves that made the place free. -/
theorem Dev.TableOnly.insertAt {d f : Dev} {r i : Nat} {e : Entry} {b : List Byte} (h : d.TableOnly f e.tTable) (hr : d.tabReady r i 0x10 e b)
    (hk : tmKind b = 0 ∨ tmKind b = 2) (him : imageBad e b = false) (p : Nat) :
    ∃ g, f.insertAt r e e.tTable b p = (g, []) ∧ d.finishedAs g r e St.ok (BitVec.ofNat 64 p) ∧ d.tblsKept g e.tTable ∧
      Map.find (g.tbl e.tTable).places p = some (e.tWords (tmW b)) ∧ (g.tbl e.tTable).poisoned p = false ∧
      (∀ k, k ≠ p → Map.find (g.tbl e.tTable).places k = Map.find (f.tbl e.tTable).places k) ∧ g.regs = d.regs ∧
      (tmKind b = 0 → g.fawnOf e.tTable (e.tWord 0) = none) := by
  obtain ⟨x, hx⟩ : ∃ x, f.stored e.tTable b p (e.tWords (tmW b)) = x := ⟨_, rfl⟩
  have htbl : x.tbl e.tTable = (f.tbl e.tTable).store p (e.tWords (tmW b)) := hx ▸ f.stored_tbl _ _ _ _
  have hring : d.RingSame x := h.ringSame.trans (hx ▸ f.stored_ringSame _ _ _ _)
  have hkept : d.tblsKept x e.tTable := h.kept.trans (hx ▸ f.stored_tblsKept _ _ _ _)
  have hregs : x.regs = d.regs := by
    rw [← hx, Dev.stored_regs, h.rest]
  have hfawn : tmKind b = 0 → x.fawnOf e.tTable (e.tWord 0) = none := fun h0 => by
    rw [← hx, ← e.wordAt_tWords (tmW_pos b)]
    exact f.stored_fawnOf _ _ _ h0
  refine ⟨x.finish r e St.ok (BitVec.ofNat 64 p), hx ▸ f.insertAt_eq r e _ p hk, hring.finish hr.entry rfl rfl _ _, hkept, ?_, ?_,
    fun k hkp => ?_, hregs, hfawn⟩
  · rw [Dev.finish_tbl, htbl]
    exact TableMem.store_find _ _ (all_zero_false_of_rwValid (rwValid_of_imageBad hk him))
  · rw [Dev.finish_tbl, htbl, TableMem.store_poisoned]
  · rw [Dev.finish_tbl, htbl, TableMem.store_find_other _ _ hkp]

theorem Dev.TableOnly.refl (d : Dev) (t : Nat) : d.TableOnly d t := .of_free rfl t

/-- A command that ends at once leaves every table. -/
theorem exec_tabInsert_stops {r i : Nat} {e : Entry} {b : List Byte} {s : State} (h : s.dev.tabReady r i 0x10 e b) {status : Nat}
    (hs : s.dev.tileInsert r e e.tTable b = s.dev.tableStop r e status) :
    ∃ t, exec (.tabInsert r i) s = .next t ∧ s.dev.finishedAs t.dev r e status 0 ∧ t.dev.tables = s.dev.tables := by
  have hexec := exec_tabInsert h
  rw [hs, Dev.tableStop_eq] at hexec
  exact ⟨_, hexec, (Dev.RingSame.refl _).finish h.entry rfl rfl _ _, rfl⟩

section
variable {d : Dev} {r : Nat} {e : Entry} {t : Nat} {b : List Byte} (hi : cmdIndexBad e b = false) (hkey : cmdKeyBad e b = false)
  (him : imageBad e b = false) (hk : tmKind b = 2)
include hi hkey him hk

/-- Where an INSERT into an INDEX table stores its image. -/
theorem Dev.insertIndex_stores (h : (d.tbl t).poisoned e.tArg = false ∧ e.tMode = 0 ∧ imageValid 2 ((d.tbl t).image e.tArg (tmW b)) = false ∨
      (d.tbl t).poisoned e.tArg = false ∧ e.tMode = 1 ∧ imageValid 2 ((d.tbl t).image e.tArg (tmW b)) = true ∨
      (d.tbl t).poisoned e.tArg = true ∧ e.tMode = 0 ∨ e.tMode = 2) :
    d.tileInsert r e t b = d.insertAt r e t b e.tArg := by
  obtain ⟨hnone, hat, hbad⟩ := d.tileInsert_found r t hi hkey him
  have hover : d.insertOver r e t b e.tArg = d.insertAt r e t b e.tArg := if_neg (by omega)
  have hnew : d.insertNew r e t b = d.insertAt r e t b e.tArg := by
    unfold Dev.insertNew
    rw [if_neg (by omega), if_neg (by omega)]
  have hfound := d.found_index e t hk
  cases hp : (d.tbl t).poisoned e.tArg with
  | true =>
    rw [hp] at h hfound
    have h1 : e.tMode ≠ 1 := by rcases h with ⟨⟨⟩, -⟩ | ⟨⟨⟩, -⟩ | ⟨-, h⟩ | h <;> omega
    rw [hbad _ hfound, if_neg h1, if_neg (by omega), hover]
  | false =>
    rw [hp] at h hfound
    cases hf : imageValid 2 ((d.tbl t).image e.tArg (tmW b)) with
    | true =>
      rw [hf] at h hfound
      have h0 : e.tMode ≠ 0 := by rcases h with ⟨-, -, ⟨⟩⟩ | ⟨-, h, -⟩ | ⟨⟨⟩, -⟩ | h <;> omega
      rw [hat _ hfound, if_neg h0, hover]
    | false =>
      rw [hf] at h hfound
      have h1 : e.tMode ≠ 1 := by rcases h with ⟨-, h, -⟩ | ⟨-, -, ⟨⟩⟩ | ⟨⟨⟩, -⟩ | h <;> omega
      rw [hnone hfound, if_neg h1, hnew]

theorem Dev.insertIndex_exists (hp : (d.tbl t).poisoned e.tArg = false) (h0 : e.tMode = 0)
    (hf : imageValid 2 ((d.tbl t).image e.tArg (tmW b)) = true) : d.tileInsert r e t b = d.tableStop r e St.exists_ := by
  obtain ⟨-, hat, -⟩ := d.tileInsert_found r t hi hkey him
  have hfound := d.found_index e t hk
  rw [hp, hf] at hfound
  rw [hat _ hfound, if_pos h0]

theorem Dev.insertIndex_notFound (hp : (d.tbl t).poisoned e.tArg = false) (h1 : e.tMode = 1)
    (hf : imageValid 2 ((d.tbl t).image e.tArg (tmW b)) = false) : d.tileInsert r e t b = d.tableStop r e St.notFound := by
  obtain ⟨hnone, -, -⟩ := d.tileInsert_found r t hi hkey him
  have hfound := d.found_index e t hk
  rw [hp, hf] at hfound
  rw [hnone hfound, if_pos h1]

theorem Dev.insertIndex_poisoned (hp : (d.tbl t).poisoned e.tArg = true) (h1 : e.tMode = 1) :
    d.tileInsert r e t b = ((d.poisonSeen t b e.tArg (d.poisonWord t e.tArg)).finish r e St.poisoned 0, []) := by
  obtain ⟨-, -, hbad⟩ := d.tileInsert_found r t hi hkey him
  have hfound := d.found_index e t hk
  rw [hp] at hfound
  rw [hbad _ hfound, if_pos h1]
  rfl

end

/-! ### INSERT into an EXACT table (R172, R173, R190, R197) -/

section
variable {d : Dev} {r : Nat} {e : Entry} {t : Nat} {b : List Byte} (hi : cmdIndexBad e b = false) (hkey : cmdKeyBad e b = false)
  (him : imageBad e b = false) (hk : tmKind b = 0) (hp : (d.tbl t).poison = [])
include hi hkey him hk hp

/-- A key that no place holds: REPLACE ends, and any other MODE looks for a place. -/
theorem Dev.insertExact_new (hf : (d.tbl t).exactFind (e.tWords (tmW b - 1)) = none) :
    d.tileInsert r e t b = if e.tMode = 1 then d.tableStop r e St.notFound else d.insertNew r e t b := by
  obtain ⟨hnone, -, -⟩ := d.tileInsert_found r t hi hkey him
  have hfound := d.found_exact e hk hp
  rw [hf] at hfound
  exact hnone hfound

/-- A key that stands at a place: ADD ends, and any other MODE replaces it there. -/
theorem Dev.insertExact_over {p : Nat} (hf : (d.tbl t).exactFind (e.tWords (tmW b - 1)) = some p) :
    d.tileInsert r e t b = if e.tMode = 0 then d.tableStop r e St.exists_ else d.insertAt r e t b p := by
  obtain ⟨-, hat, -⟩ := d.tileInsert_found r t hi hkey him
  have hfound := d.found_exact e hk hp
  rw [hf] at hfound
  have hover : d.insertOver r e t b p = d.insertAt r e t b p := if_neg (by omega)
  rw [hat p hfound, hover]

end

/-- A new key finds a place, or the table is full. -/
theorem exec_tabInsert_new {r i : Nat} {e : Entry} {b : List Byte} {s : State} (hr : s.dev.tabReady r i 0x10 e b) (hk : tmKind b = 0)
    (him : imageBad e b = false) (hp : (s.dev.tbl e.tTable).poison = [])
    (hf : (s.dev.tbl e.tTable).exactFind (e.tWords (tmW b - 1)) = none) (h1 : e.tMode ≠ 1) :
    ∃ t, exec (.tabInsert r i) s = .next t ∧ t.host = s.host ∧ s.dev.tblsKept t.dev e.tTable ∧
      ((∃ p, s.dev.finishedAs t.dev r e St.ok (BitVec.ofNat 64 p) ∧ Map.find (t.dev.tbl e.tTable).places p = some (e.tWords (tmW b)) ∧
          t.dev.fawnOf e.tTable (e.tWord 0) = none) ∨
       (s.dev.finishedAs t.dev r e St.full 0 ∧ 4 * tmPlaces b ≤ 5 * (s.dev.tbl e.tTable).occupancy ∧
          t.dev.reg (Reg.TBL_COUNT 12) = s.dev.plus (Reg.TBL_COUNT 12) 1)) := by
  obtain ⟨hi, hkey⟩ := hr.operands (.inl rfl)
  obtain ⟨honly, hfull⟩ := s.dev.placeExact_spec e.tTable b (e.tWords (tmW b - 1))
  have hexec := exec_tabInsert hr
  rw [Dev.insertExact_new hi hkey him hk hp hf, if_neg h1, Dev.insertNew, if_pos hk] at hexec
  generalize hx : s.dev.placeExact e.tTable b (e.tWords (tmW b - 1)) = x at hexec honly hfull
  obtain ⟨o, f⟩ := x
  replace honly : s.dev.TableOnly f e.tTable := honly
  cases o with
  | none =>
    have hring := honly.ringSame.trans (f.count_ringSame (a := Reg.TBL_COUNT 12) 1 (by decide))
    have hcount : (f.count (Reg.TBL_COUNT 12) 1).reg (Reg.TBL_COUNT 12) = s.dev.plus (Reg.TBL_COUNT 12) 1 := by
      rw [Dev.reg_count, honly.rest]
      rfl
    exact ⟨_, hexec, rfl, honly.kept, .inr ⟨hring.finish hr.entry rfl rfl _ _, hfull rfl, hcount⟩⟩
  | some p =>
    obtain ⟨g, hg, hfin, hkept, hfind, -, -, -, hfawn⟩ := honly.insertAt hr (.inl hk) him p
    dsimp only at hexec
    rw [hg] at hexec
    exact ⟨_, hexec, rfl, hkept, .inl ⟨p, hfin, hfind, hfawn hk⟩⟩

/-! ### The statement -/

/-- Settles O29: what each MODE does with the place of its index or key, and why a new key finds a place below 80 %. -/
theorem inserts : Obligations.Inserts := by
  unfold Obligations.Inserts
  refine ⟨fun r i e b s hr hk him => ?_, fun r i e b s hr hk him _ => ?_⟩
  · intro m p full bad
    obtain ⟨hi, hkey⟩ := hr.operands (.inl rfl)
    have hexec := exec_tabInsert hr
    refine ⟨fun h => ?_, fun hb h0 hf => ?_, fun hb h1 hf => ?_, fun hb h1 => ?_⟩
    · obtain ⟨g, hg, hfin, hkept, hfind, hclean, hother, hregs, -⟩ := (Dev.TableOnly.refl s.dev e.tTable).insertAt hr (.inr hk) him p
      rw [Dev.insertIndex_stores hi hkey him hk h, hg] at hexec
      refine ⟨_, hexec, rfl, hfin, TableMem.image_of_find hfind _, hclean, fun k hkp => ?_, hkept, hregs⟩
      rw [TableMem.image, TableMem.image, Map.getD, Map.getD]
      exact congrArg (fun x => Option.getD x _) (hother k hkp)
    · exact exec_tabInsert_stops hr (Dev.insertIndex_exists hi hkey him hk hb h0 hf)
    · exact exec_tabInsert_stops hr (Dev.insertIndex_notFound hi hkey him hk hb h1 hf)
    · rw [Dev.insertIndex_poisoned hi hkey him hk hb h1] at hexec
      exact ⟨_, hexec, (s.dev.poisonSeen_ringSame _ _ _ _).finish hr.entry rfl rfl _ _⟩
  · intro m key hp
    obtain ⟨hi, hkey⟩ := hr.operands (.inl rfl)
    refine ⟨fun hf h1 => exec_tabInsert_new hr hk him hp hf h1, fun hf h1 => ?_, fun p hf h0 => ?_, fun p hf h0 => ?_⟩
    · exact exec_tabInsert_stops hr ((Dev.insertExact_new hi hkey him hk hp hf).trans (if_pos h1))
    · obtain ⟨g, hg, hfin, hkept, hfind, -, hother, -, hfawn⟩ := (Dev.TableOnly.refl s.dev e.tTable).insertAt hr (.inl hk) him p
      have hexec := exec_tabInsert hr
      rw [Dev.insertExact_over hi hkey him hk hp hf, if_neg h0, hg] at hexec
      exact ⟨_, hexec, hfin, hkept, hfind, hother, hfawn hk⟩
    · exact exec_tabInsert_stops hr ((Dev.insertExact_over hi hkey him hk hp hf).trans (if_pos h0))

end Sys2Proof.Machine
end

section
/-! PROOFS. DELETE, SEARCH, NEXT, FLUSH_PORT and FLOW (R197 to R199). -/

namespace Sys2Proof.Machine

theorem State.wrote_nil_host (s : State) (d : Dev) : (s.wrote (d, [])).host = s.host := rfl

/-! ### DELETE (R190, R197) -/

/-- DELETE of an EXACT key in a table without a poisoned place. -/
theorem Dev.tileDelete_exact {d : Dev} (r : Nat) {e : Entry} {t : Nat} {b : List Byte} (hi : cmdIndexBad e b = false)
    (hkey : cmdKeyBad e b = false) (hk : tmKind b = 0) (hp : (d.tbl t).poison = []) :
    d.tileDelete r e t b = match (d.tbl t).exactFind (e.tWords (tmW b - 1)) with
      | some p => (((d.remove t b p).fawnFree t (e.tWord 0)).finish r e St.ok (BitVec.ofNat 64 p), [])
      | none => d.tableStop r e St.notFound := by
  have hfound := d.found_exact e hk hp
  unfold Dev.tileDelete
  rw [if_neg (by simp [hi]), if_neg (by simp [hkey]), hfound]
  cases (d.tbl t).exactFind (e.tWords (tmW b - 1)) with
  | none => rfl
  | some p =>
    dsimp only
    rw [if_pos hk, if_neg (by omega), Dev.tableEnd_nil]

theorem exec_tabDelete_found {r i : Nat} {e : Entry} {b : List Byte} {s : State} (hr : s.dev.tabReady r i 0x11 e b) (hk : tmKind b = 0)
    (hp : (s.dev.tbl e.tTable).poison = []) {p : Nat} (hf : (s.dev.tbl e.tTable).exactFind (e.tWords (tmW b - 1)) = some p) :
    ∃ t, exec (.tabDelete r i) s = .next t ∧ t.host = s.host ∧ s.dev.finishedAs t.dev r e St.ok (BitVec.ofNat 64 p) ∧
      Map.find (t.dev.tbl e.tTable).places p = none ∧
      (∀ k, k ≠ p → Map.find (t.dev.tbl e.tTable).places k = Map.find (s.dev.tbl e.tTable).places k) ∧ s.dev.tblsKept t.dev e.tTable ∧
      t.dev.fawnOf e.tTable (e.tWord 0) = none := by
  obtain ⟨hi, hkey⟩ := hr.operands (.inr (.inl rfl))
  have hexec := exec_tabDelete hr
  rw [Dev.tileDelete_exact r hi hkey hk hp, hf] at hexec
  dsimp only at hexec
  rw [s.dev.remove_place e.tTable p (by omega)] at hexec
  obtain ⟨m, hm⟩ : ∃ m, (s.dev.tbl e.tTable).store p (List.replicate (tmW b) 0) = m := ⟨_, rfl⟩
  have htbl := Dev.tbl_setTbl_same s.dev e.tTable m
  rw [hm] at hexec
  have hring := (s.dev.setTbl_ringSame e.tTable m).trans (Dev.fawnFree_ringSame _ e.tTable (e.tWord 0))
  refine ⟨_, hexec, s.wrote_nil_host _, hring.finish hr.entry rfl rfl _ _, ?_, fun k hkp => ?_, s.dev.setTbl_tblsKept _ _, Dev.fawnFree_fawnOf _ _ _⟩
  · exact (congrArg (fun m => Map.find (TableMem.places m) p) htbl).trans (hm ▸ TableMem.store_find_zero _ _ _)
  · exact (congrArg (fun m => Map.find (TableMem.places m) k) htbl).trans (hm ▸ TableMem.store_find_other _ _ hkp)

theorem exec_tabDelete_absent {r i : Nat} {e : Entry} {b : List Byte} {s : State} (hr : s.dev.tabReady r i 0x11 e b) (hk : tmKind b = 0)
    (hp : (s.dev.tbl e.tTable).poison = []) (hf : (s.dev.tbl e.tTable).exactFind (e.tWords (tmW b - 1)) = none) :
    ∃ t, exec (.tabDelete r i) s = .next t ∧ s.dev.finishedAs t.dev r e St.notFound 0 ∧ t.dev.tables = s.dev.tables := by
  obtain ⟨hi, hkey⟩ := hr.operands (.inr (.inl rfl))
  have hexec := exec_tabDelete hr
  rw [Dev.tileDelete_exact r hi hkey hk hp, hf] at hexec
  exact ⟨_, hexec, (Dev.RingSame.refl _).finish hr.entry rfl rfl _ _, rfl⟩

/-! ### SEARCH (R197, R198) -/

theorem Dev.tileRecord_place (d : Dev) (t : Nat) {b : List Byte} (p : Nat) (hk : tmKind b ≠ 1) :
    d.tileRecord t b p = wordBytes (recordWord p 0 false) ++ wordsBytes ((d.tbl t).image p (tmW b)) := if_neg hk

/-- SEARCH of an INDEX place that is not poisoned. -/
theorem Dev.tileSearch_index {d : Dev} (r : Nat) {e : Entry} {t : Nat} {b : List Byte} (hi : cmdIndexBad e b = false)
    (hkey : cmdKeyBad e b = false) (hk : tmKind b = 2) (hp : (d.tbl t).poisoned e.tArg = false) :
    d.tileSearch r e t b .none =
      if imageValid 2 ((d.tbl t).image e.tArg (tmW b)) then d.tableEnd r e St.ok e.tArg (d.tileRecord t b e.tArg)
      else d.tableStop r e St.notFound := by
  have hfound := d.found_index e t hk
  rw [hp] at hfound
  unfold Dev.tileSearch
  rw [if_neg (by simp [hi]), if_neg (by simp [hkey]), hfound, if_neg (by decide)]
  cases imageValid 2 ((d.tbl t).image e.tArg (tmW b)) <;> rfl

/-- A command that changes no device state before its records go out, carried out on device `d`. -/
theorem exec_records {i : Instr} {s : State} {r : Nat} {e : Entry} {status value : Nat} {data : List Byte} {w : HostWrites}
    (hexec : exec i s = .next (s.wrote (s.dev.tableEnd r e status value data))) (he : s.dev.entry r e.index = some e)
    (hw : s.dev.hostWrites r (bitsOf (e.w 2) 0 48) data (!e.fence) = some w) :
    ∃ t, exec i s = .next t ∧ s.hostTook t w ∧ s.dev.finishedAs t.dev r e status (BitVec.ofNat 64 value) ∧ t.dev.tables = s.dev.tables ∧
      (data ≠ [] → t.dev.reg (Reg.HIF_COUNT 3) = s.dev.plus (Reg.HIF_COUNT 3) data.length) := by
  obtain ⟨g, hg, hfin, htables, hcount⟩ := Dev.tableEnd_writes (Dev.RingSame.refl s.dev) he status value hw
  rw [hg] at hexec
  exact ⟨_, hexec, s.wrote_hostTook g w, hfin, htables, hcount⟩

theorem wordBytes_append_ne_nil (w : Word) (l : List Byte) : wordBytes w ++ l ≠ [] := fun h => by
  simpa [wordBytes] using congrArg List.length h

/-! ### NEXT (R198, R199) -/

/-- The places that NEXT lists from its cursor on. -/
def Dev.nextLeft (d : Dev) (e : Entry) (b : List Byte) : List Nat := ((d.tbl e.tTable).held (tmKind b)).filter fun p => e.tArg ≤ p

theorem TableMem.badPlaces_nil {m : TableMem} (h : m.poison = []) {kind : Nat} (hk : kind ≠ 1) : m.badPlaces kind = [] := by
  rw [TableMem.badPlaces, if_neg hk, h]
  rfl

theorem Dev.tileNext_end {d : Dev} (r : Nat) {e : Entry} (t : Nat) (b : List Byte) (hc : e.tArg = cursorEnd) (h1 : 1 ≤ (e.tWord 0).toNat)
    (h2 : (e.tWord 0).toNat ≤ 256) : d.tileNext r e t b .none = d.tableEnd r e St.end_ 0 (nextHeader cursorEnd 0) := by
  unfold Dev.tileNext
  dsimp only
  rw [if_neg (by omega), if_pos hc]

/-- NEXT on a table without a poisoned place. -/
theorem Dev.tileNext_places {d : Dev} (r : Nat) {e : Entry} {b : List Byte} (hp : (d.tbl e.tTable).poison = []) (hk : tmKind b ≠ 1)
    (h1 : 1 ≤ (e.tWord 0).toNat) (h2 : (e.tWord 0).toNat ≤ 256) (hc : e.tArg ≤ cmdPlaces b) (hne : e.tArg ≠ cursorEnd) {got : List Nat}
    (hgot : (d.nextLeft e b).take (e.tWord 0).toNat = got) :
    d.tileNext r e e.tTable b .none =
      d.tableEnd r e (if (d.nextLeft e b).length ≤ (e.tWord 0).toNat then St.end_ else St.ok) got.length
        (nextHeader (if (d.nextLeft e b).length ≤ (e.tWord 0).toNat then cursorEnd else got.getLastD 0 + 1) got.length ++
          got.flatMap (d.tileRecord e.tTable b)) := by
  have hcorr : ∀ p, d.corrAt e.tTable b p .none = d := fun _ => rfl
  have hleft : ((d.tbl e.tTable).held (tmKind b)).filter (fun p => decide (e.tArg ≤ p ∧ p ∉ ([] : List Nat))) = d.nextLeft e b := by
    simp [Dev.nextLeft]
  unfold Dev.tileNext
  dsimp only
  rw [if_neg (by omega), if_neg hne, TableMem.badPlaces_nil hp hk, hleft, hgot, List.filter_nil]
  simp only [errBad, Bool.false_eq_true, false_and, if_false, if_true, hcorr, ite_self]
  by_cases hl : (d.nextLeft e b).length ≤ (e.tWord 0).toNat
  · simp only [if_pos hl]
  · simp only [if_neg hl]

/-! ### FLUSH_PORT (R197, R201) -/

/-- The entry at a place goes with FLUSH_PORT. -/
def flushGoes (e : Entry) (b : List Byte) (x : Nat × List Word) : Bool :=
  decide (x.1 < tmPlaces b) && rwValid (wordAt x.2 (x.2.length - 1)) && rwPort (wordAt x.2 (x.2.length - 1)) == e.tArg &&
    (e.tMode = 1 || !rwStatic (wordAt x.2 (x.2.length - 1)))

theorem Dev.tileFlush_clean {d : Dev} (r : Nat) {e : Entry} {t : Nat} {b : List Byte} (hp : (d.tbl t).poison = []) (hport : e.tArg ≤ 255) :
    d.tileFlush r e t b =
      (((d.setTbl t { d.tbl t with places := (d.tbl t).places.filter fun x => !flushGoes e b x }).fawnFlush t e.tArg).finish r e St.ok
        (BitVec.ofNat 64 ((d.tbl t).places.filter (flushGoes e b)).length), []) := by
  unfold Dev.tileFlush
  dsimp only
  rw [if_neg (by omega), if_pos (by rw [hp]; rfl), hp]
  rfl

theorem exec_tabFlushPort_clean {r i : Nat} {e : Entry} {b : List Byte} {s : State} (hr : s.dev.tabReady r i 0x14 e b)
    (hp : (s.dev.tbl e.tTable).poison = []) (hport : e.tArg ≤ 255) :
    ∃ t, exec (.tabFlushPort r i) s = .next t ∧ t.host = s.host ∧
      (t.dev.tbl e.tTable).places = (s.dev.tbl e.tTable).places.filter (fun x => !flushGoes e b x) ∧ s.dev.tblsKept t.dev e.tTable ∧
      s.dev.finishedAs t.dev r e St.ok (BitVec.ofNat 64 ((s.dev.tbl e.tTable).places.filter (flushGoes e b)).length) := by
  have hexec := exec_tabFlushPort hr
  rw [Dev.tileFlush_clean r hp hport] at hexec
  obtain ⟨m, hm⟩ : ∃ m, { s.dev.tbl e.tTable with places := (s.dev.tbl e.tTable).places.filter fun x => !flushGoes e b x } = m := ⟨_, rfl⟩
  rw [hm] at hexec
  have hring := (s.dev.setTbl_ringSame e.tTable m).trans (Dev.ringSame_of_eq (e := Dev.fawnFlush _ e.tTable e.tArg) rfl rfl)
  refine ⟨_, hexec, s.wrote_nil_host _, ?_, s.dev.setTbl_tblsKept _ _, hring.finish hr.entry rfl rfl _ _⟩
  have htbl := Dev.tbl_setTbl_same s.dev e.tTable m
  exact (congrArg TableMem.places htbl).trans (by rw [← hm])

/-! ### FLOW (R197, R198, R604) -/

/-- What READ_AND_CLEAR leaves of an image: zeros that are VALID as before. -/
def flowZero (ws : List Word) : List Word := [0, 0, 0, if imageValid 3 ws then BitVec.ofNat 64 (2 ^ 36) else 0]

theorem TableMem.flowClear_poison {m : TableMem} (h : m.poison = []) (p : Nat) : (m.flowClear p).poison = [] := by
  simp [TableMem.flowClear, TableMem.store, h]

theorem TableMem.flowClear_same {m : TableMem} (h : m.poison = []) (p : Nat) : (m.flowClear p).image p 4 = flowZero (m.image p 4) := by
  unfold TableMem.flowClear flowZero
  dsimp only
  rw [h]
  cases imageValid 3 (m.image p 4) with
  | true => exact TableMem.image_of_find (m.store_find p (ws := [0, 0, 0, BitVec.ofNat 64 (2 ^ 36)]) (by decide)) 4
  | false =>
    have hgone := m.store_find_zero p 4
    rw [TableMem.image, Map.getD]
    exact (congrArg (fun o : Option (List Word) => o.getD (List.replicate 4 0)) hgone)

theorem TableMem.flowClear_other (m : TableMem) {p k : Nat} (h : k ≠ p) : (m.flowClear p).image k 4 = m.image k 4 := m.store_image_other _ h 4

/-- READ_AND_CLEAR of the places of a list clears these and no other. -/
theorem TableMem.flowClears_image {m : TableMem} (hp : m.poison = []) {l : List Nat} (hl : l.Nodup) (k : Nat) :
    (l.foldl TableMem.flowClear m).image k 4 = if k ∈ l then flowZero (m.image k 4) else m.image k 4 := by
  induction l generalizing m with
  | nil => rfl
  | cons p l ih =>
    obtain ⟨hnot, hl⟩ := List.nodup_cons.mp hl
    rw [List.foldl_cons, ih (TableMem.flowClear_poison hp p) hl]
    by_cases hk : k = p
    · subst hk
      rw [if_neg hnot, if_pos List.mem_cons_self, TableMem.flowClear_same hp]
    · simp only [m.flowClear_other hk, List.mem_cons, hk, false_or]

theorem TableMem.flowRecord_clean {m : TableMem} (h : m.poison = []) : m.flowRecord = fun p => wordsBytes (m.image p 4) := by
  funext p
  unfold TableMem.flowRecord
  dsimp only
  rw [if_neg (by rw [TableMem.poisoned_of_nil h]; decide)]

/-- The places of a FLOW command. -/
def Entry.flowRange (e : Entry) : List Nat := (List.range (e.tWord 0).toNat).map (e.tArg + ·)

theorem Entry.mem_flowRange {e : Entry} {p : Nat} (h1 : e.tArg ≤ p) (h2 : p < e.tArg + (e.tWord 0).toNat) : p ∈ e.flowRange :=
  List.mem_map.mpr ⟨p - e.tArg, List.mem_range.mpr (by omega), by omega⟩

theorem Entry.flowRange_nodup (e : Entry) : e.flowRange.Nodup := List.nodup_range.map fun _ _ h => Nat.add_left_cancel h

/-- FLOW on a table without a poisoned place. -/
theorem Dev.tileFlow_clean {d : Dev} (r : Nat) {e : Entry} {t : Nat} {b : List Byte} (hp : (d.tbl t).poison = []) (h1 : 1 ≤ (e.tWord 0).toNat)
    (h2 : (e.tWord 0).toNat ≤ 256) (h3 : e.tArg + (e.tWord 0).toNat ≤ tmPlaces b) :
    d.tileFlow r e t b .none =
      (if e.tMode = 1 then d.setTbl t (e.flowRange.foldl TableMem.flowClear (d.tbl t)) else d).tableEnd r e St.ok (e.tWord 0).toNat
        (e.flowRange.flatMap fun p => wordsBytes ((d.tbl t).image p 4)) := by
  unfold Dev.tileFlow
  dsimp only
  rw [if_neg (by omega), hp, List.filter_nil, List.foldl_nil, TableMem.flowRecord_clean hp]
  rfl

theorem exec_tabFlow_clean {r i : Nat} {e : Entry} {b : List Byte} {w : HostWrites} {s : State} (hr : s.dev.tabReady r i 0x17 e b)
    (hp : (s.dev.tbl e.tTable).poison = []) (h1 : 1 ≤ (e.tWord 0).toNat) (h2 : (e.tWord 0).toNat ≤ 256)
    (h3 : e.tArg + (e.tWord 0).toNat ≤ tmPlaces b)
    (hw : s.dev.hostWrites r (bitsOf (e.w 2) 0 48) (e.flowRange.flatMap fun p => wordsBytes ((s.dev.tbl e.tTable).image p 4)) (!e.fence) = some w) :
    ∃ t, exec (.tabFlow r i .none) s = .next t ∧ s.hostTook t w ∧ s.dev.tblsKept t.dev e.tTable ∧
      s.dev.finishedAs t.dev r e St.ok (BitVec.ofNat 64 (e.tWord 0).toNat) ∧ (e.tMode = 0 → t.dev.tables = s.dev.tables) ∧
      (e.tMode = 1 → ∀ p, p ∈ e.flowRange → (t.dev.tbl e.tTable).image p 4 = flowZero ((s.dev.tbl e.tTable).image p 4)) := by
  have hexec := exec_tabFlow hr .none
  rw [Dev.tileFlow_clean r hp h1 h2 h3] at hexec
  by_cases hm : e.tMode = 1
  · obtain ⟨x, hx⟩ : ∃ x, s.dev.setTbl e.tTable (e.flowRange.foldl TableMem.flowClear (s.dev.tbl e.tTable)) = x := ⟨_, rfl⟩
    have hring : s.dev.RingSame x := hx ▸ s.dev.setTbl_ringSame _ _
    have hkept : s.dev.tblsKept x e.tTable := hx ▸ s.dev.setTbl_tblsKept _ _
    have htbl : x.tbl e.tTable = e.flowRange.foldl TableMem.flowClear (s.dev.tbl e.tTable) := hx ▸ Dev.tbl_setTbl_same _ _ _
    have hwx : x.hostWrites r (bitsOf (e.w 2) 0 48) (e.flowRange.flatMap fun p => wordsBytes ((s.dev.tbl e.tTable).image p 4)) (!e.fence) = some w := by
      rw [← hx]
      exact hw
    obtain ⟨g, hg, hfin, htables, -⟩ := Dev.tableEnd_writes hring hr.entry St.ok (e.tWord 0).toNat hwx
    rw [if_pos hm, hx, hg] at hexec
    refine ⟨_, hexec, s.wrote_hostTook g w, hkept.trans (Dev.tblsKept_of_tables htables _), hfin, fun h0 => by omega, fun _ p hmem => ?_⟩
    have hgtbl : g.tbl e.tTable = x.tbl e.tTable := by rw [Dev.tbl, Dev.tbl, htables]
    show (g.tbl e.tTable).image p 4 = _
    rw [hgtbl, htbl, TableMem.flowClears_image hp e.flowRange_nodup, if_pos hmem]
  · rw [if_neg hm] at hexec
    obtain ⟨t, ht, hhost, hfin, htables, -⟩ := exec_records hexec hr.entry hw
    exact ⟨t, ht, hhost, Dev.tblsKept_of_tables htables _, hfin, fun _ => htables, fun h => absurd h hm⟩

/-! ### The statement -/

/-- Settles O30: each command on a table without a poisoned place, from what it finds and what it lists. -/
theorem searchesAndRanges : Obligations.SearchesAndRanges := by
  unfold Obligations.SearchesAndRanges
  refine ⟨fun r i e b s => ⟨fun hr hk hp => ⟨fun p hf => exec_tabDelete_found hr hk hp hf, fun hf => exec_tabDelete_absent hr hk hp hf⟩,
    fun hr hk hp => ?_⟩, fun r i e b w s => ?_⟩
  · intro data
    obtain ⟨hi, hkey⟩ := hr.operands (.inr (.inr rfl))
    have hexec := exec_tabSearch hr .none
    rw [Dev.tileSearch_index r hi hkey hk hp, s.dev.tileRecord_place e.tTable e.tArg (by omega)] at hexec
    refine ⟨fun w hf hw => ?_, fun hf => ?_⟩
    · rw [if_pos hf] at hexec
      obtain ⟨t, ht, hhost, hfin, htables, hcount⟩ := exec_records hexec hr.entry hw
      exact ⟨t, ht, hhost, hfin, htables, hcount (wordBytes_append_ne_nil _ _)⟩
    · rw [if_neg (by rw [hf]; decide)] at hexec
      exact ⟨_, hexec, rfl, (Dev.RingSame.refl _).finish hr.entry rfl rfl _ _, rfl⟩
  · intro m n hp
    refine ⟨fun hr hc h1 h2 hw => ?_, fun hr hk h1 h2 hc hne => ?_, fun hr hport => ?_, fun hr h1 h2 h3 hw => ?_⟩
    · have hexec := exec_tabNext hr .none
      rw [Dev.tileNext_end r _ b hc h1 h2] at hexec
      obtain ⟨t, ht, hhost, hfin, htables, -⟩ := exec_records hexec hr.entry hw
      exact ⟨t, ht, hhost, htables, hfin⟩
    · intro left got cursor hw
      have hexec := exec_tabNext hr .none
      rw [Dev.tileNext_places r hp hk h1 h2 hc hne (got := got) rfl] at hexec
      obtain ⟨t, ht, hhost, hfin, htables, -⟩ := exec_records hexec hr.entry hw
      exact ⟨t, ht, hhost, htables, hfin⟩
    · exact exec_tabFlushPort_clean hr hp hport
    · obtain ⟨t, ht, hhost, hkept, hfin, hread, hclear⟩ := exec_tabFlow_clean hr hp h1 h2 h3 hw
      exact ⟨t, ht, hhost, hkept, hfin, hread, fun hm p hlo hhi => hclear hm p (Entry.mem_flowRange hlo hhi)⟩

end Sys2Proof.Machine
end

section
/-! PROOFS. FENCE (R203): a packet that waits for DRAM reads behind a record beyond the 16 of a lookup program. -/

namespace Sys2Proof.Machine

/-- FENCE of every table at STAGE LOOKUP, without a deadline. -/
def farFence : Entry := Entry.new 0 [0x16, 256, 0, 0]

/-- A packet whose next lookup record is 18, waiting for a DRAM read of table 5. -/
def farLookup : Pkt :=
  { pid := 1, fromHost := false, fromEngine := false, egressPool := false, epipe := 0, words := ctxZero, bytes := [], stage := .dramWait, next := 18
    counts := [], seq := 1, reads := [5], flight := [5], dram := some ⟨0, 5, 0, 1, 0⟩, ecc := false, group := none, pin := none, sub := none
    tsFixed := false, recCell := 0, recOwn := 0, recSpill := 0, spill := none, data := 0, queue := 0, sent := 0, txStart := 0 }

/-- The machine in RUN, its host interface linked; ring 0 is ACTIVE and holds the fence, and function 0 may use table commands. -/
def farFenceState : State :=
  State.reset.withDev { Dev.reset with
    regs := [(Reg.SYS_STAGE, 15), (Reg.HIF_FUNC 0, BitVec.ofNat 64 (2 ^ 16)), (Reg.RNG_STATE 0, 1)]
    hif := { Hif.reset with subs := [(0, { Sub.init with prog := [farFence] })] }
    pkts := [(7, farLookup)] }

theorem farFence_ready :
    let d := farFenceState.dev
    d.hifOn = true ∧ d.entry 0 0 = some farFence ∧ d.canGo 0 farFence = true ∧ farFence.op = 0x16 ∧ farFence.records = [] ∧ farFence.started = false ∧
    d.tableTurn 0 farFence none = true ∧ d.tableEn 0 = true ∧ farFence.tReserved = false ∧ farFence.tPlen = 0 ∧ farFence.tMode = 0 ∧
    farFence.tWord2Bad = false ∧ farFence.tAll = true ∧ d.pkt 7 = some farLookup ∧ d.isEgress 5 = false := by decide +kernel

/-- The fence awaits the packet under code 18, which names a stay with an engine thread. -/
theorem farFence_waits : (farFenceState.dev.tableCmd 0 0 0x16 fun e => farFenceState.dev.tabFence 0 e).1.fences =
    [⟨0, 0, 0, [(1, 18)], [], [], none⟩] := by decide +kernel

/-- Refutes O32: a fence at STAGE LOOKUP names the lookup that waits by its record, and a packet whose record is 18 does not hold it. -/
theorem not_fences : ¬ Obligations.Fences := by
  unfold Obligations.Fences
  intro h
  obtain ⟨hon, he, hgo, hop, hrec, hst, hturn, hen, hres, hplen, hmode, hw2, hall, hpkt, hegress⟩ := farFence_ready
  obtain ⟨hready, -⟩ := h 0 0 farFence farFenceState hon he
  obtain ⟨-, hlookup, -⟩ := hready hgo hop hrec hst hturn hen hres hplen (by omega) hw2 (.inl hall)
  obtain ⟨t, f, ⟨hexec, hfences, -⟩, k, hk, hheld⟩ := hlookup 7 farLookup _ hpkt hmode rfl rfl (.inl hall) hegress
  have ht : t.dev.fences = [⟨0, 0, 0, [(1, 18)], [], [], none⟩] := by
    cases hexec
    exact farFence_waits
  have hf : f = ⟨0, 0, 0, [(1, 18)], [], [], none⟩ := by
    rw [ht] at hfences
    exact (List.singleton_inj.mp hfences).symm
  subst hf
  obtain ⟨-, rfl⟩ : farLookup.seq = 1 ∧ k = 18 := by simpa using hk
  exact absurd hheld (by decide)

end Sys2Proof.Machine
end

section
/-! PROOFS. Lookups in tiles, in DRAM and in Chamois arrays (R178 to R189, R193, R207, R217, R218). -/

namespace Sys2Proof.Machine

/-! ### The result of a lookup reaches its packet (R178, R181) -/

@[simp] theorem Dev.settle_next (d : Dev) (p : Pkt) : (d.settle p).next = p.next := by
  unfold Dev.settle
  split <;> rfl

@[simp] theorem Dev.settle_dram (d : Dev) (p : Pkt) : (d.settle p).dram = p.dram := by
  unfold Dev.settle
  split <;> rfl

@[simp] theorem Dev.settle_counts (d : Dev) (p : Pkt) : (d.settle p).counts = p.counts := by
  unfold Dev.settle
  split <;> rfl

theorem Dev.settle_get (d : Dev) (p : Pkt) (f : CtxFld) : (d.settle p).get f = p.get f := Pkt.get_of_word (d.settle_word p _)

theorem Dev.useLook_good (d : Dev) (p : Pkt) (slot : Nat) {l : Look} (h : l.bad = false) :
    d.useLook p slot l = (d, p.putWord (14 + slot) l.slot) := by
  unfold Dev.useLook
  rw [if_neg (by rw [h]; decide)]

/-- The slot shows what the lookup gave, met without an error or not. -/
theorem Dev.useLook_slot (d : Dev) (p : Pkt) {slot : Nat} (l : Look) (hl : p.words.length = 32) (hs : slot < 8) :
    (d.useLook p slot l).2.word (14 + slot) = l.slot := by
  unfold Dev.useLook
  dsimp only
  refine Pkt.word_putWord_same _ _ ?_
  split
  · rw [Dev.eccDrop]
    simp only [Pkt.length_dispose, hl]
    omega
  · rw [hl]
    omega

theorem Dev.useLook_stage (d : Dev) (p : Pkt) (slot : Nat) (l : Look) : (d.useLook p slot l).2.stage = p.stage := by
  unfold Dev.useLook
  dsimp only
  split <;> rfl

theorem Dev.useLook_dram (d : Dev) (p : Pkt) (slot : Nat) (l : Look) : (d.useLook p slot l).2.dram = p.dram := by
  unfold Dev.useLook
  dsimp only
  split <;> rfl

/-- The packet `y` after a lookup of slot word `w`, written back to context `c`. -/
def Dev.slotDone (d : Dev) (c : Nat) (y : Pkt) (slot : Nat) (w : Word) : Dev := d.setPkt c (d.settle (y.putWord (14 + slot) w))

/-- What the device of a lookup says of packet `c` and of the others. -/
theorem Dev.slotDone_spec {d e : Dev} (hpkts : e.pkts = d.pkts) (c : Nat) {y : Pkt} {slot : Nat} (w : Word) (hl : y.words.length = 32)
    (hs : slot < 8) :
    ∃ q, (e.slotDone c y slot w).pkt c = some q ∧ d.pktsKept (e.slotDone c y slot w) c ∧ q.next = y.next ∧ q.bytes = y.bytes ∧
      q.word (14 + slot) = w := by
  refine ⟨_, Dev.pkt_setPkt_same _ _ _, fun k hk => ?_, ?_, ?_, ?_⟩
  · exact (Dev.pkt_setPkt_other _ _ _ _ hk).trans (congrArg (Map.find · k) hpkts)
  · rw [Dev.settle_next]
    rfl
  · rw [Dev.settle_bytes]
    rfl
  · rw [Dev.settle_word, Pkt.word_putWord_same _ _ (by omega)]

theorem lrSlot_lt (prog : List Byte) (i : Nat) : lrSlot prog i < 8 := bitsOf_lt _ _ _

theorem Dev.RegsOnly.tbl {d e : Dev} (h : d.RegsOnly e) (t : Nat) : e.tbl t = d.tbl t := by rw [h]; rfl

/-! ### EXACT and INDEX lookups (R172, R181, R193) -/

/-- No candidate place of the key is poisoned. -/
theorem Dev.readsPoison_clean {d : Dev} {t : Nat} {b : List Byte} {key : List Word}
    (h : ((exactPlaces b key).all fun pl => !(d.tbl t).poisoned pl) = true) (hit : Bool) : d.readsPoison t b key hit = (none, d) := by
  have hnone : (exactPlaces b key).find? (d.tbl t).poisoned = none :=
    List.find?_eq_none.mpr fun pl hpl => by simpa using List.all_eq_true.mp h pl hpl
  unfold Dev.readsPoison
  rw [hnone]

/-- The result word of place `pl` of a table of tiles. -/
def Dev.resultAt (d : Dev) (t : Nat) (b : List Byte) (pl : Nat) : Word := wordAt ((d.tbl t).image pl (tmW b)) (tmW b - 1)

/-- The device that has asked for the HIT bit of an entry that was hit, where that bit is 0. -/
def Dev.askHit (d : Dev) (t : Nat) (b : List Byte) (pl : Nat) (key : List Word) : Dev :=
  { d with hitSets := d.hitSets ++ (if rwHit (d.resultAt t b pl) then [] else [⟨t, pl, key⟩]) }

theorem Dev.lookExact_hit {d : Dev} {t : Nat} {b : List Byte} {key : List Word} {pl : Nat} (hf : (d.tbl t).exactFind key = some pl)
    (hp : (d.tbl t).poisoned pl = false) (hc : ((exactPlaces b key).all fun pl => !(d.tbl t).poisoned pl) = true) :
    d.lookExact t b key .none =
      (d.askHit t b pl key, ⟨slotOf t true false false (d.resultAt t b pl), some (d.resultAt t b pl), false⟩) := by
  unfold Dev.lookExact
  dsimp only
  rw [hf]
  dsimp only
  rw [hp, if_neg (by decide), Dev.readsPoison_clean hc]
  unfold Dev.askHit Dev.resultAt
  cases rwHit (wordAt ((d.tbl t).image pl (tmW b)) (tmW b - 1)) with
  | true => simp only [if_true, List.append_nil]; rfl
  | false => rfl

theorem Dev.lookExact_miss {d : Dev} {t : Nat} {b : List Byte} {key : List Word} (hf : (d.tbl t).exactFind key = none)
    (hc : ((exactPlaces b key).all fun pl => !(d.tbl t).poisoned pl) = true) : d.lookExact t b key .none = (d, Look.miss t) := by
  unfold Dev.lookExact
  dsimp only
  rw [hf]
  dsimp only
  rw [Dev.readsPoison_clean hc]
  rfl

/-- A lookup that met no error may add a learn candidate; its slot word reaches the packet. -/
theorem Dev.recExact_good {d e : Dev} {p : Pkt} {t : Nat} {b prog : List Byte} {i : Nat} {l : Look}
    (h : d.lookExact t b (exactKey b (lrKey prog i p)) .none = (e, l)) (hb : l.bad = false) :
    ∃ cands, d.recExact p t b prog i .none = ({ e with cands := cands }, p.putWord (14 + lrSlot prog i) l.slot) := by
  unfold Dev.recExact
  dsimp only
  rw [h]
  dsimp only
  cases (if lrLearn prog i && !l.bad then learnCand p t (exactKey b (lrKey prog i p)) l.res else none) with
  | none => exact ⟨e.cands, Dev.useLook_good _ _ _ hb⟩
  | some c => exact ⟨_, Dev.useLook_good _ _ _ hb⟩

theorem Dev.lookIndex_good {d : Dev} {t : Nat} (b : List Byte) {pl : Nat} (hp : (d.tbl t).poisoned pl = false) :
    d.lookIndex t b pl .none = (d, ⟨slotOf t (rwValid (d.resultAt t b pl)) false false (d.resultAt t b pl),
      if rwValid (d.resultAt t b pl) then some (d.resultAt t b pl) else none, false⟩) := by
  unfold Dev.lookIndex
  dsimp only
  rw [hp, if_neg (by decide)]
  rfl

/-! ### A lookup of a packet (R178, R183) -/

theorem Dev.charge_didRead (d : Dev) (p : Pkt) (t k : Nat) : d.charge (p.didRead t) k = ((d.charge p k).1, (d.charge p k).2.didRead t) := rfl

section
variable {d : Dev} {c i t : Nat} {p : Pkt} {b prog : List Byte} {x : Dev} {y : Pkt} (hx : d.charge { p with next := i + 1 } 1 = (x, y))
include hx

theorem Dev.lookTile_exact (hk : tmKind b = 0) {e : Dev} {l : Look}
    (h : x.lookExact t b (exactKey b (lrKey prog i y)) .none = (e, l)) (hb : l.bad = false) :
    ∃ cands, d.lookTile c p t b prog i .none = ({ e with cands := cands } : Dev).slotDone c (y.didRead t) (lrSlot prog i) l.slot := by
  obtain ⟨cands, hrec⟩ := Dev.recExact_good (p := y.didRead t) h hb
  refine ⟨cands, ?_⟩
  unfold Dev.lookTile
  dsimp only
  rw [if_pos hk, Dev.charge_didRead, hx]
  dsimp only
  rw [hrec]
  rfl

theorem Dev.lookTile_index (hk : tmKind b = 2) (hp : (x.tbl t).poisoned (lrIndex b prog i y) = false) :
    d.lookTile c p t b prog i .none = x.slotDone c (y.didRead t) (lrSlot prog i)
      (slotOf t (rwValid (x.resultAt t b (lrIndex b prog i y))) false false (x.resultAt t b (lrIndex b prog i y))) := by
  have hindex : lrIndex b prog i (y.didRead t) = lrIndex b prog i y := rfl
  unfold Dev.lookTile
  dsimp only
  rw [if_neg (by omega), if_neg (by omega), if_pos hk, Dev.charge_didRead, hx]
  dsimp only
  rw [hindex, Dev.lookIndex_good b hp]
  dsimp only
  rw [Dev.useLook_good _ _ _ rfl]
  rfl

end

theorem Dev.lookTile_counter (d : Dev) (c : Nat) (p : Pkt) (t : Nat) {b : List Byte} (prog : List Byte) (i : Nat) (hk : tmKind b = 3) :
    d.lookTile c p t b prog i .none =
      d.setPkt c (d.settle { p with next := i + 1, counts := p.counts ++ [(t, lrIndex b prog i p)] }) := by
  unfold Dev.lookTile
  dsimp only
  rw [if_neg (by omega), if_neg (by omega), if_neg (by omega)]
  rfl

section
variable {c i : Nat} {p : Pkt} {b : List Byte} {s : State} (hr : s.dev.running = true) (hp : s.dev.pkt c = some p) (hs : p.stage = .lookups)
  (hup : s.dev.lineUp (p.get C.IN_PIPE) = true) (hw : s.dev.lookupWaits (p.get C.IN_PIPE) = false) (hn : s.dev.nextRec p = some i)
include hr hp hs hup hw hn

theorem exec_lookup_tile (hd : s.dev.tblIn (p.get C.G) (lrTable (s.dev.program p) i) = .tile b) (ht : s.dev.tilesUp b = true) :
    exec (.lookup c .none) s =
      .next (s.withDev (s.dev.lookTile c p (lrTable (s.dev.program p) i) b (s.dev.program p) i .none)) := by
  show execLookup c .none s = _
  unfold execLookup
  rw [Dev.withPkt_acts _ _ _ _ p hr hp (by simp [hs, hup])]
  unfold Dev.lookupPkt
  dsimp only
  rw [if_neg (by rw [hw]; decide), hn]
  dsimp only
  rw [hd]
  dsimp only
  rw [if_pos ht]
  rfl

theorem exec_chamoisSearch_cham (hd : s.dev.tblIn (p.get C.G) (lrTable (s.dev.program p) i) = .cham b) (ht : s.dev.segsUp b = true) :
    exec (.chamoisSearch c) s = .next (s.withDev (s.dev.chSearch c p (lrTable (s.dev.program p) i) b (s.dev.program p) i)) := by
  show execChamoisSearch c s = _
  unfold execChamoisSearch
  rw [Dev.withPkt_acts _ _ _ _ p hr hp (by simp [hs, hup])]
  unfold Dev.searchPkt
  dsimp only
  rw [if_neg (by rw [hw]; decide), hn]
  dsimp only
  rw [hd]
  dsimp only
  rw [if_pos ht]
  rfl

end

/-! ### A Chamois search (R217, R218) -/

theorem Dev.lookCham_regsOnly (d : Dev) (t : Nat) (b key : List Byte) : d.RegsOnly (d.lookCham t b key).1 := by
  unfold Dev.lookCham
  dsimp only
  split
  · exact (d.count_regsOnly _ _).trans (Dev.count_regsOnly _ _ _)
  · exact d.count_regsOnly _ _

theorem Dev.lookCham_searches (d : Dev) (t : Nat) (b key : List Byte) :
    (d.lookCham t b key).1.reg (Reg.AAR_COUNT 0) = d.plus (Reg.AAR_COUNT 0) 1 := by
  unfold Dev.lookCham
  dsimp only
  split
  · rw [Dev.reg_count_other _ _ _ _ (by decide), Dev.reg_count]
  · exact Dev.reg_count _ _ _

theorem Dev.lookCham_multis (d : Dev) (t : Nat) (b key : List Byte) {h : Nat} {r : List Nat}
    (hm : d.chMatches b (fitKey key (10 * ccK b) (ccKeyBits b)) = h :: r) :
    (d.lookCham t b key).1.reg (Reg.AAR_COUNT 1) =
      if r.isEmpty then d.reg (Reg.AAR_COUNT 1) else d.plus (Reg.AAR_COUNT 1) 1 := by
  unfold Dev.lookCham
  dsimp only
  rw [hm]
  cases r with
  | nil => exact Dev.reg_count_other _ _ _ _ (by decide)
  | cons k r =>
    rw [if_pos (by simp), Dev.reg_count, Dev.plus, Dev.reg_count_other _ _ _ _ (by decide)]
    rfl

theorem Dev.lookCham_miss {d : Dev} (t : Nat) {b key : List Byte} (hm : d.chMatches b (fitKey key (10 * ccK b) (ccKeyBits b)) = []) :
    (d.lookCham t b key).2.slot = slotOf t false false false 0 := by
  unfold Dev.lookCham
  dsimp only
  rw [hm]
  rfl

theorem Dev.lookCham_hit {d : Dev} (t : Nat) {b key : List Byte} {h : Nat} {r : List Nat}
    (hm : d.chMatches b (fitKey key (10 * ccK b) (ccKeyBits b)) = h :: r) :
    (d.lookCham t b key).2.slot = slotOf t true (!r.isEmpty) false (BitVec.ofNat 64 (65536 * h)) := by
  unfold Dev.lookCham
  dsimp only
  rw [hm]
  cases r <;> rfl

theorem Dev.chSearch_eq {d : Dev} {c : Nat} {p : Pkt} {t : Nat} {b prog : List Byte} {i : Nat} {x : Dev} {y : Pkt}
    (hx : d.charge { p with next := i + 1 } 4 = (x, y)) :
    d.chSearch c p t b prog i =
      (x.lookCham t b (lrKey prog i y)).1.slotDone c (y.didRead t) (lrSlot prog i) (x.lookCham t b (lrKey prog i y)).2.slot := by
  unfold Dev.chSearch
  dsimp only
  rw [hx]
  dsimp only
  rw [Dev.useLook_good _ _ _ rfl]
  rfl

/-! ### The DRAM reads of a lookup (R188) -/

/-- What the end of a DRAM lookup leaves: the packets, the answers and the channels, and the counts of reads and of their class. -/
structure Dev.LookKept (d e : Dev) : Prop where
  pkts : e.pkts = d.pkts
  answers : e.answers = d.answers
  chans : e.chans = d.chans
  reads : e.reg (Reg.TBL_COUNT 11) = d.reg (Reg.TBL_COUNT 11)
  charged : e.reg (Reg.ACT_CLASS_CNT 3) = d.reg (Reg.ACT_CLASS_CNT 3)

theorem Dev.LookKept.trans {d e f : Dev} (h : d.LookKept e) (k : e.LookKept f) : d.LookKept f :=
  ⟨k.pkts.trans h.pkts, k.answers.trans h.answers, k.chans.trans h.chans, k.reads.trans h.reads, k.charged.trans h.charged⟩

theorem Dev.LookKept.of_regs {d e : Dev} (hp : e.pkts = d.pkts) (ha : e.answers = d.answers) (hc : e.chans = d.chans) (hr : e.regs = d.regs) :
    d.LookKept e :=
  ⟨hp, ha, hc, by rw [Dev.reg, Dev.reg, hr], by rw [Dev.reg, Dev.reg, hr]⟩

theorem Dev.LookKept.refl (d : Dev) : d.LookKept d := .of_regs rfl rfl rfl rfl

theorem Dev.setReg_lookKept (d : Dev) {a : Nat} (v : Word) (h11 : Reg.TBL_COUNT 11 ≠ a) (h3 : Reg.ACT_CLASS_CNT 3 ≠ a) : d.LookKept (d.setReg a v) :=
  ⟨rfl, rfl, rfl, d.reg_setReg_other _ _ _ h11, d.reg_setReg_other _ _ _ h3⟩

theorem Dev.raise_tbl_lookKept (d : Dev) (b : Nat) : d.LookKept (d.raise 2 b) := by
  have honly := d.raise_messageOnly 2 b
  unfold Dev.MessageOnly at honly
  exact ⟨by rw [honly], by rw [honly], by rw [honly], d.raise_regsKept b evtReg_tbl _ (by decide), d.raise_regsKept b evtReg_tbl _ (by decide)⟩

theorem Dev.badRead_lookKept (d : Dev) (t : Nat) (b : List Byte) (pl : Nat) : d.LookKept (d.badRead t b pl .none) := by
  have hfresh : d.LookKept (d.fresh 2).2 := .of_regs rfl rfl rfl rfl
  unfold Dev.badRead Dev.poisonSeen
  dsimp only
  split
  · exact hfresh
  · obtain ⟨m, last, line, h⟩ := (d.fresh 2).2.tileUncorr_eq t b pl (d.poisonWord t pl)
    have hset : (d.fresh 2).2.LookKept ((d.fresh 2).2.setTbl t m) := .of_regs rfl rfl rfl rfl
    rw [h]
    exact (((hfresh.trans hset).trans (Dev.setReg_lookKept _ last (by decide) (by decide))).trans (Dev.raise_tbl_lookKept _ 2)).trans
      (.of_regs rfl rfl rfl rfl)

theorem Dev.useLook_lookKept (d : Dev) (p : Pkt) (slot : Nat) (l : Look) : d.LookKept (d.useLook p slot l).1 := by
  unfold Dev.useLook Dev.eccDrop
  dsimp only
  split
  · split
    · exact .refl d
    · exact d.setReg_lookKept _ (by decide) (by decide)
  · exact .refl d

theorem Dev.lookLpm_lookKept (d : Dev) (t : Nat) (b : List Byte) (key : Nat) : d.LookKept (d.lookLpm t b key .none).1 := by
  unfold Dev.lookLpm
  split
  · split
    · exact d.badRead_lookKept _ _ _
    · exact .refl d
  · exact .refl d

theorem Dev.lookLpm_miss {d : Dev} {t : Nat} (b : List Byte) {key : Nat} (h : lpmBest (d.tbl t).lpm key = none) :
    d.lookLpm t b key .none = (d, Look.miss t) := by
  unfold Dev.lookLpm
  rw [h]
  rfl

theorem Dev.lookLpm_hit {d : Dev} {t : Nat} (b : List Byte) {key : Nat} {e : LpmEntry} (h : lpmBest (d.tbl t).lpm key = some e)
    (hp : e.poison = false) : d.lookLpm t b key .none = (d, ⟨slotOf t true false false e.result, some e.result, false⟩) := by
  unfold Dev.lookLpm
  rw [h]
  dsimp only
  rw [hp, if_neg (by decide)]
  rfl

/-- What the last DRAM read of a lookup gives its packet. -/
def Dev.dramLook (d : Dev) (p : Pkt) (x : DramWait) : Dev × Look :=
  match d.tblIn (p.get C.G) x.table with
  | .tile b => if p.get C.DISP = Disp.drop ∧ p.get C.REASON = 0x19 then (d, Look.miss x.table) else d.lookLpm x.table b x.key .none
  | _ => (d, Look.miss x.table)

theorem Dev.dramLook_lookKept (d : Dev) (p : Pkt) (x : DramWait) : d.LookKept (d.dramLook p x).1 := by
  unfold Dev.dramLook
  split
  · split
    · exact .refl d
    · exact d.lookLpm_lookKept _ _ _
  · exact .refl d

/-- A packet dropped for a poisoned answer takes no entry. -/
theorem Dev.dramLook_dropped (d : Dev) {p : Pkt} (x : DramWait) (h : p.get C.DISP = Disp.drop ∧ p.get C.REASON = 0x19) :
    d.dramLook p x = (d, Look.miss x.table) := by
  unfold Dev.dramLook
  split
  · rw [if_pos h]
  · rfl

theorem Dev.dramLook_tile {d : Dev} {p : Pkt} {x : DramWait} {b : List Byte} (hd : d.tblIn (p.get C.G) x.table = .tile b)
    (h : ¬ (p.get C.DISP = Disp.drop ∧ p.get C.REASON = 0x19)) : d.dramLook p x = d.lookLpm x.table b x.key .none := by
  unfold Dev.dramLook
  rw [hd]
  exact if_neg h

/-- The packet after an answer: charged, and dropped when the answer was poisoned. -/
def Dev.answered (d : Dev) (p : Pkt) (a : DAns) : Pkt :=
  if a.bad = 0 then (d.charge p 3).2 else (d.charge p 3).2.dispose Disp.drop 0x19

/-- The device after an answer of serial number `tag`: it is taken, charged and counted. -/
def Dev.answerTaken (d : Dev) (p : Pkt) (tag : Nat) : Dev :=
  ((({ d with answers := d.answers.eraseP (·.owner == tag) } : Dev).charge p 3).1).count (Reg.TBL_COUNT 11) 1

theorem Dev.dramLpmPkt_waits {d : Dev} (c : Nat) {p : Pkt} {x : DramWait} (hw : p.dram = some x)
    (h : d.answers.find? (·.owner == x.tag) = none) : d.dramLpmPkt c p = d := by
  unfold Dev.dramLpmPkt Dev.popAnswer
  rw [hw]
  dsimp only
  rw [h]

theorem Dev.dramLpmPkt_more {d : Dev} (c : Nat) {p : Pkt} {x : DramWait} (hw : p.dram = some x) {a : DAns}
    (h : d.answers.find? (·.owner == x.tag) = some a) (hn : 1 < x.reads) :
    d.dramLpmPkt c p = (d.answerTaken p x.tag).setPkt c { d.answered p a with dram := some { x with reads := x.reads - 1 } } := by
  unfold Dev.dramLpmPkt Dev.popAnswer
  rw [hw]
  dsimp only
  rw [h]
  dsimp only
  rw [if_pos hn]
  rfl

theorem Dev.dramLpmPkt_last {d : Dev} (c : Nat) {p : Pkt} {x : DramWait} (hw : p.dram = some x) {a : DAns}
    (h : d.answers.find? (·.owner == x.tag) = some a) (hn : x.reads ≤ 1) {y : Pkt} (hy : { d.answered p a with stage := .lookups, dram := none } = y)
    {e : Dev} {l : Look} (he : (d.answerTaken p x.tag).dramLook y x = (e, l)) :
    d.dramLpmPkt c p = (e.useLook y x.slot l).1.setPkt c ((e.useLook y x.slot l).1.settle (e.useLook y x.slot l).2) := by
  have hlook : d.dramLpmPkt c p =
      (let r := (d.answerTaken p x.tag).dramLook { d.answered p a with stage := .lookups, dram := none } x
       let u := r.1.useLook { d.answered p a with stage := .lookups, dram := none } x.slot r.2
       u.1.setPkt c (u.1.settle u.2)) := by
    unfold Dev.dramLpmPkt Dev.popAnswer
    rw [hw]
    dsimp only
    rw [h]
    dsimp only
    rw [if_neg (by omega)]
    rfl
  rw [hlook, hy]
  dsimp only
  rw [he]

/-! ### The packet and the device after an answer (R188) -/

theorem Dev.answered_length (d : Dev) (p : Pkt) (a : DAns) : (d.answered p a).words.length = p.words.length := by
  unfold Dev.answered
  split <;> simp

theorem Dev.answered_stage (d : Dev) (p : Pkt) (a : DAns) : (d.answered p a).stage = p.stage := by
  unfold Dev.answered
  split <;> rfl

/-- A poisoned answer drops the packet with LPM_DRAM_ECC. -/
theorem Dev.answered_bad (d : Dev) {p : Pkt} {a : DAns} (hl : p.words.length = 32) (h : a.bad ≠ 0) :
    (d.answered p a).get C.DISP = Disp.drop ∧ (d.answered p a).get C.REASON = 0x19 := by
  unfold Dev.answered
  rw [if_neg h]
  exact ⟨Pkt.get_dispose_disp _ _ _ (by simpa using hl) (by decide), Pkt.get_dispose_reason _ _ _ (by simpa using hl)⟩

theorem Dev.answered_good (d : Dev) (p : Pkt) {a : DAns} (h : a.bad = 0) :
    (d.answered p a).get C.DISP = p.get C.DISP ∧ (d.answered p a).get C.REASON = p.get C.REASON ∧ (d.answered p a).get C.G = p.get C.G := by
  unfold Dev.answered
  rw [if_pos h]
  exact ⟨d.charge_get _ _ (by decide) (by decide) (by decide), d.charge_get _ _ (by decide) (by decide) (by decide),
    d.charge_get _ _ (by decide) (by decide) (by decide)⟩

theorem Dev.answerTaken_regsOnly (d : Dev) (p : Pkt) (tag : Nat) :
    ({ d with answers := d.answers.eraseP (·.owner == tag) } : Dev).RegsOnly (d.answerTaken p tag) :=
  (Dev.charge_regsOnly _ p 3).trans (Dev.count_regsOnly _ _ _)

theorem Dev.answerTaken_reads (d : Dev) (p : Pkt) (tag : Nat) :
    (d.answerTaken p tag).reg (Reg.TBL_COUNT 11) = d.plus (Reg.TBL_COUNT 11) 1 := by
  unfold Dev.answerTaken
  rw [Dev.reg_count, Dev.plus, Dev.charge_reg _ _ (by decide) (by unfold ClassReg; decide)]
  rfl

theorem Dev.answerTaken_charged (d : Dev) (p : Pkt) (tag : Nat) :
    (d.answerTaken p tag).reg (Reg.ACT_CLASS_CNT 3) = d.plus (Reg.ACT_CLASS_CNT 3) 1 := by
  unfold Dev.answerTaken
  rw [Dev.reg_count_other _ _ _ _ (by decide), Dev.charge_count]
  rfl

/-- What every answer leaves: the other packets, the answers that wait and the channels, its read counted and charged. -/
def Dev.answerLeft (d f : Dev) (c tag : Nat) : Prop :=
  d.pktsKept f c ∧ f.answers = d.answers.eraseP (·.owner == tag) ∧ f.chans = d.chans ∧
  f.reg (Reg.TBL_COUNT 11) = d.plus (Reg.TBL_COUNT 11) 1 ∧ f.reg (Reg.ACT_CLASS_CNT 3) = d.plus (Reg.ACT_CLASS_CNT 3) 1

theorem Dev.answerLeft_of_lookKept {d e : Dev} {p : Pkt} {tag : Nat} (h : (d.answerTaken p tag).LookKept e) (c : Nat) (q : Pkt) :
    d.answerLeft (e.setPkt c q) c tag := by
  have honly := d.answerTaken_regsOnly p tag
  refine ⟨fun k hk => ?_, ?_, ?_, ?_, ?_⟩
  · exact (Dev.pkt_setPkt_other _ _ _ _ hk).trans (congrArg (Map.find · k) (h.pkts.trans honly.pkts))
  · exact h.answers.trans (by rw [honly])
  · exact h.chans.trans (by rw [honly])
  · exact h.reads.trans (d.answerTaken_reads p tag)
  · exact h.charged.trans (d.answerTaken_charged p tag)

/-- What the last answer makes of the packet. -/
def Dev.lastAnswer (d : Dev) (p q : Pkt) (w : DramWait) (a : DAns) : Prop :=
  (a.bad ≠ 0 → q.get C.DISP = Disp.drop ∧ q.get C.REASON = 0x19) ∧
  ((q.stage = .lookups ∨ q.stage = .merge) ∧ q.dram = none) ∧
  (a.bad ≠ 0 → q.word (14 + w.slot) = slotOf w.table false false false 0) ∧
  ∀ b, a.bad = 0 → ¬ (p.get C.DISP = Disp.drop ∧ p.get C.REASON = 0x19) → d.tblIn (p.get C.G) w.table = .tile b →
    (lpmBest (d.tbl w.table).lpm w.key = none → q.word (14 + w.slot) = slotOf w.table false false false 0) ∧
    (∀ e, lpmBest (d.tbl w.table).lpm w.key = some e → e.poison = false → q.word (14 + w.slot) = slotOf w.table true false false e.result)

/-- The last answer of a lookup ends it. -/
theorem Dev.dramLpmPkt_ends {d : Dev} (c : Nat) {p : Pkt} {w : DramWait} (hl : p.words.length = 32) (hw : p.dram = some w) (hs : w.slot < 8)
    {a : DAns} (h : d.answers.find? (·.owner == w.tag) = some a) (hn : w.reads ≤ 1) :
    ∃ q, (d.dramLpmPkt c p).pkt c = some q ∧ d.answerLeft (d.dramLpmPkt c p) c w.tag ∧ d.lastAnswer p q w a := by
  obtain ⟨y, hy⟩ : ∃ y, { d.answered p a with stage := .lookups, dram := none } = y := ⟨_, rfl⟩
  have hwords : y.words = (d.answered p a).words := by rw [← hy]
  have hlen : y.words.length = 32 := by rw [hwords, d.answered_length, hl]
  have hget : ∀ f, y.get f = (d.answered p a).get f := fun f => congrArg (ctxGet · f) hwords
  have hstage : y.stage = .lookups := by rw [← hy]
  have hdram : y.dram = none := by rw [← hy]
  obtain ⟨e, l, he⟩ : ∃ e l, (d.answerTaken p w.tag).dramLook y w = (e, l) := ⟨_, _, rfl⟩
  have hkept : (d.answerTaken p w.tag).LookKept e := by
    have hk := (d.answerTaken p w.tag).dramLook_lookKept y w
    rwa [he] at hk
  obtain ⟨u, hu⟩ : ∃ u, e.useLook y w.slot l = u := ⟨_, rfl⟩
  have hword : (u.1.settle u.2).word (14 + w.slot) = l.slot := by
    rw [Dev.settle_word, ← hu]
    exact e.useLook_slot y l hlen hs
  have hbad : a.bad ≠ 0 → l = Look.miss w.table := fun hb => by
    rw [Dev.dramLook_dropped _ _ (by rw [hget, hget]; exact d.answered_bad hl hb)] at he
    exact (congrArg Prod.snd he).symm
  rw [Dev.dramLpmPkt_last c hw h hn hy he, hu]
  refine ⟨_, Dev.pkt_setPkt_same _ _ _, Dev.answerLeft_of_lookKept (hkept.trans (hu ▸ e.useLook_lookKept y w.slot l)) _ _, fun hb => ?_,
    ⟨?_, ?_⟩, fun hb => ?_, fun b hb hnd hd => ?_⟩
  · obtain ⟨h1, h2⟩ := d.answered_bad hl hb
    rw [Dev.settle_get, Dev.settle_get, ← hu, Dev.useLook_good _ _ _ (by rw [hbad hb]; rfl)]
    exact ⟨(Pkt.get_of_word (Pkt.word_putWord_other _ _ (by show 2 ≠ _; omega))).trans ((hget _).trans h1),
      (Pkt.get_of_word (Pkt.word_putWord_other _ _ (by show 2 ≠ _; omega))).trans ((hget _).trans h2)⟩
  · exact Dev.settle_lookups _ _ (by rw [← hu, Dev.useLook_stage, hstage])
  · rw [Dev.settle_dram, ← hu, Dev.useLook_dram, hdram]
  · rw [hword, hbad hb]
    rfl
  · obtain ⟨h1, h2, h3⟩ := d.answered_good p hb
    have honly := d.answerTaken_regsOnly p w.tag
    have htbl : (d.answerTaken p w.tag).tbl w.table = d.tbl w.table := by rw [honly]; rfl
    have hdef : (d.answerTaken p w.tag).tblIn (y.get C.G) w.table = .tile b := by
      rw [hget, h3, honly]
      exact hd
    rw [Dev.dramLook_tile hdef (by rw [hget, hget, h1, h2]; exact hnd)] at he
    refine ⟨fun hm => ?_, fun x hm hx => ?_⟩
    · rw [Dev.lookLpm_miss b (by rw [htbl]; exact hm), Prod.mk.injEq] at he
      rw [hword, ← he.2]
      rfl
    · rw [Dev.lookLpm_hit b (by rw [htbl]; exact hm) hx, Prod.mk.injEq] at he
      rw [hword, ← he.2]

/-- An answer before the last leaves the packet waiting. -/
theorem Dev.dramLpmPkt_goes_on {d : Dev} (c : Nat) {p : Pkt} {w : DramWait} (hl : p.words.length = 32) (hs : p.stage = .dramWait)
    (hw : p.dram = some w) {a : DAns} (h : d.answers.find? (·.owner == w.tag) = some a) (hn : 1 < w.reads) :
    ∃ q, (d.dramLpmPkt c p).pkt c = some q ∧ d.answerLeft (d.dramLpmPkt c p) c w.tag ∧
      (a.bad ≠ 0 → q.get C.DISP = Disp.drop ∧ q.get C.REASON = 0x19) ∧ q.stage = .dramWait ∧ q.dram = some { w with reads := w.reads - 1 } := by
  rw [Dev.dramLpmPkt_more c hw h hn]
  exact ⟨_, Dev.pkt_setPkt_same _ _ _, Dev.answerLeft_of_lookKept (.refl _) _ _, fun hb => d.answered_bad hl hb,
    (d.answered_stage p a).trans hs, rfl⟩

theorem exec_dramLpmRead {c : Nat} {p : Pkt} {s : State} (hr : s.dev.running = true) (hp : s.dev.pkt c = some p) (hs : p.stage = .dramWait)
    (hup : s.dev.lineUp (p.get C.IN_PIPE) = true) : exec (.dramLpmRead c) s = .next (s.withDev (s.dev.dramLpmPkt c p)) := by
  show execDramLpmRead c s = _
  unfold execDramLpmRead
  rw [Dev.withPkt_acts _ _ _ _ p hr hp (by simp [hs, hup])]
  rfl

/-! ### The statement -/

/-- Settles O11: the slot word of each kind of lookup, from what it finds. -/
theorem lookups : Obligations.Lookups := by
  unfold Obligations.Lookups
  refine ⟨fun c i p b s hr hp hs hup hl hw hn => ?_, fun c p w b s hr hp hs hup hl hw hslot => ?_, fun c i p b s hr hp hs hup hl hw hn => ?_⟩
  · intro prog tb slot hd ht p1 m key ix word clean
    obtain ⟨x, hx⟩ : ∃ x, s.dev.charge { p with next := i + 1 } 1 = (x, p1) := ⟨_, rfl⟩
    have hregs : s.dev.RegsOnly x := by
      have honly := s.dev.charge_regsOnly { p with next := i + 1 } 1
      rwa [hx] at honly
    have hlen : p1.words.length = 32 := (s.dev.charge_length _ 1).trans hl
    have htbl : x.tbl tb = m := hregs.tbl tb
    have hsets : x.hitSets = s.dev.hitSets := by rw [hregs]
    have hexec := exec_lookup_tile hr hp hs hup hw hn hd ht
    refine ⟨fun pl hk hf hpl hc => ?_, fun hk hf hc => ?_, fun hk hpl => ?_, fun hk => ?_⟩
    · obtain ⟨cands, h⟩ := Dev.lookTile_exact (d := s.dev) (c := c) (p := p) (prog := prog) hx hk
        (Dev.lookExact_hit (d := x) (pl := pl) (by rw [htbl]; exact hf) (by rw [htbl]; exact hpl) (by rw [htbl]; exact hc)) rfl
      rw [h] at hexec
      obtain ⟨q, hq, hkept, hnext, hbytes, hword⟩ := Dev.slotDone_spec (d := s.dev) (e := { x.askHit tb b pl key with cands := cands }) hregs.pkts c
        (slotOf tb true false false (x.resultAt tb b pl)) (y := p1.didRead tb) hlen (lrSlot_lt prog i)
      have hresult : x.resultAt tb b pl = word pl := by rw [Dev.resultAt, htbl]
      refine ⟨_, q, hexec, hq, hkept, hnext, hbytes, hresult ▸ hword, ?_⟩
      rw [← hsets, ← hresult]
      rfl
    · obtain ⟨cands, h⟩ := Dev.lookTile_exact (d := s.dev) (c := c) (p := p) (prog := prog) hx hk
        (Dev.lookExact_miss (d := x) (by rw [htbl]; exact hf) (by rw [htbl]; exact hc)) rfl
      rw [h] at hexec
      obtain ⟨q, hq, hkept, hnext, hbytes, hword⟩ := Dev.slotDone_spec (d := s.dev) (e := { x with cands := cands }) hregs.pkts c
        (Look.miss tb).slot (y := p1.didRead tb) hlen (lrSlot_lt prog i)
      exact ⟨_, q, hexec, hq, hkept, hnext, hbytes, hword, hsets⟩
    · rw [Dev.lookTile_index hx hk (by rw [htbl]; exact hpl)] at hexec
      have hresult : x.resultAt tb b ix = word ix := by rw [Dev.resultAt, htbl]
      obtain ⟨q, hq, hkept, hnext, hbytes, hword⟩ := Dev.slotDone_spec (d := s.dev) hregs.pkts c
        (slotOf tb (rwValid (x.resultAt tb b ix)) false false (x.resultAt tb b ix)) (y := p1.didRead tb) hlen (lrSlot_lt prog i)
      exact ⟨_, q, hexec, hq, hkept, hnext, hbytes, hresult ▸ hword, hregs.tables⟩
    · rw [s.dev.lookTile_counter c p _ _ i hk] at hexec
      exact ⟨_, _, hexec, Dev.pkt_setPkt_same _ _ _, fun k hkc => Dev.pkt_setPkt_other _ _ _ _ hkc, Dev.settle_next _ _, Dev.settle_words _ _,
        Dev.settle_counts _ _, rfl⟩
  · have hexec := exec_dramLpmRead hr hp hs hup
    refine ⟨fun h => ?_, fun a h => ?_⟩
    · rw [hexec, Dev.dramLpmPkt_waits c hw h]
      rfl
    · by_cases hn : 1 < w.reads
      · obtain ⟨q, hq, ⟨hkept, hans, hchans, hreads, hcnt⟩, hbad, hstage, hdram⟩ := Dev.dramLpmPkt_goes_on c hl hs hw h hn
        exact ⟨_, q, hexec, hq, hkept, hans, hchans, hreads, hcnt, hbad, fun _ => ⟨hstage, hdram⟩, fun hle => by omega, fun hle => by omega,
          fun hle => by omega⟩
      · obtain ⟨q, hq, ⟨hkept, hans, hchans, hreads, hcnt⟩, hbad, hstage, hmiss, hslots⟩ := Dev.dramLpmPkt_ends c hl hw hslot h (Nat.le_of_not_lt hn)
        exact ⟨_, q, hexec, hq, hkept, hans, hchans, hreads, hcnt, hbad, fun hlt => absurd hlt hn, fun _ => hstage, fun _ => hmiss,
          fun _ => hslots b⟩
  · intro prog tb hd ht p1 hits
    obtain ⟨x, hx⟩ : ∃ x, s.dev.charge { p with next := i + 1 } 4 = (x, p1) := ⟨_, rfl⟩
    have hregs : s.dev.RegsOnly x := by
      have honly := s.dev.charge_regsOnly { p with next := i + 1 } 4
      rwa [hx] at honly
    have hcount : ∀ n, n < 2 → x.reg (Reg.AAR_COUNT n) = s.dev.reg (Reg.AAR_COUNT n) := fun n hn => by
      have hreg := s.dev.charge_reg { p with next := i + 1 } (s := 4) (a := Reg.AAR_COUNT n) (by decide)
        (by unfold ClassReg Reg.AAR_COUNT; omega)
      rwa [hx] at hreg
    have hlen : p1.words.length = 32 := (s.dev.charge_length _ 4).trans hl
    have hmatches : x.chMatches b (fitKey (lrKey prog i p1) (10 * ccK b) (ccKeyBits b)) = hits := by
      rw [hregs]
      rfl
    have hexec := exec_chamoisSearch_cham hr hp hs hup hw hn hd ht
    rw [Dev.chSearch_eq hx] at hexec
    have honly := hregs.trans (x.lookCham_regsOnly tb b (lrKey prog i p1))
    have hcham : (x.lookCham tb b (lrKey prog i p1)).1.cham = s.dev.cham := by rw [honly]
    obtain ⟨q, hq, hkept, hnext, hbytes, hword⟩ := Dev.slotDone_spec honly.pkts c (x.lookCham tb b (lrKey prog i p1)).2.slot
      (y := p1.didRead tb) hlen (lrSlot_lt prog i)
    refine ⟨_, q, hexec, hq, hkept, hnext, hbytes, hcham, ?_, fun h0 => ?_, fun h r h1 => ⟨?_, ?_⟩⟩
    · refine (x.lookCham_searches tb b (lrKey prog i p1)).trans ?_
      rw [Dev.plus, hcount 0 (by decide), Dev.plus]
    · exact hword.trans (Dev.lookCham_miss tb (hmatches.trans h0))
    · exact hword.trans (Dev.lookCham_hit tb (hmatches.trans h1))
    · refine (x.lookCham_multis tb b (lrKey prog i p1) (hmatches.trans h1)).trans ?_
      rw [Dev.plus, hcount 1 (by decide), Dev.plus]

end Sys2Proof.Machine
end

section
/-! PROOFS. Completions and records in the completion rings (R480, R482, R498 to R502). -/

namespace Sys2Proof.Machine

/-! ### What stalls, fault records and messages leave (R499, R502, R517) -/

/-- Beside registers, only the notes of the host interface changed: PI writebacks owed, episodes, fault records and messages. -/
def Dev.NotesOnly (d e : Dev) : Prop :=
  e = { d with
    regs := e.regs
    hif := { d.hif with
      wbOwed := e.hif.wbOwed, stalled := e.hif.stalled, faults := e.hif.faults, vfPba := e.hif.vfPba, msgs := e.hif.msgs, pend := e.hif.pend } }

/-- The same, the registers of a list alone having changed. -/
structure Dev.HifNoted (d e : Dev) (as : List Nat) : Prop where
  only : d.NotesOnly e
  regs : d.regsKept e as

theorem Dev.HifNoted.refl (d : Dev) (as : List Nat) : d.HifNoted d as := ⟨rfl, .refl d as⟩

theorem Dev.NotesOnly.trans {d e f : Dev} (h : d.NotesOnly e) (k : e.NotesOnly f) : d.NotesOnly f := by
  unfold Dev.NotesOnly at *
  rw [k, h]

theorem Dev.HifNoted.trans {d e f : Dev} {as : List Nat} (h : d.HifNoted e as) (k : e.HifNoted f as) : d.HifNoted f as :=
  ⟨h.only.trans k.only, h.regs.trans k.regs⟩

theorem Dev.HifNoted.mono {d e : Dev} {as bs : List Nat} (h : d.HifNoted e as) (hs : as ⊆ bs) : d.HifNoted e bs := ⟨h.only, h.regs.mono hs⟩

theorem Dev.setReg_hifNoted (d : Dev) {a : Nat} (v : Word) {as : List Nat} (h : a ∈ as) : d.HifNoted (d.setReg a v) as := ⟨rfl, d.setReg_regsKept v h⟩

theorem Dev.MessageOnly.notesOnly {d e : Dev} (h : d.MessageOnly e) : d.NotesOnly e := by
  unfold Dev.MessageOnly at h
  unfold Dev.NotesOnly
  rw [h]

theorem Dev.NotesOnly.pkts {d e : Dev} (h : d.NotesOnly e) : e.pkts = d.pkts := by rw [h]
theorem Dev.NotesOnly.data {d e : Dev} (h : d.NotesOnly e) : e.data = d.data := by rw [h]
theorem Dev.NotesOnly.tables {d e : Dev} (h : d.NotesOnly e) : e.tables = d.tables := by rw [h]
theorem Dev.NotesOnly.held {d e : Dev} (h : d.NotesOnly e) : e.hif.held = d.hif.held := by rw [h]
theorem Dev.NotesOnly.entry {d e : Dev} (h : d.NotesOnly e) (r i : Nat) : e.entry r i = d.entry r i := by rw [h]; rfl

/-- The registers that an event of the host interface and a message may change. -/
def hifEventRegs : List Nat :=
  [Reg.HIF_COUNT 9, Reg.HIF_COUNT 11, Reg.HIF_COUNT 13, Reg.HIF_EVENT, Reg.SYS_MSIX_PBA 0, Reg.SYS_MSIX_PBA 1]

theorem Dev.raise_hif_hifNoted (d : Dev) (b : Nat) : d.HifNoted (d.raise 14 b) hifEventRegs where
  only := (d.raise_messageOnly 14 b).notesOnly
  regs := (d.raise_regsKept b rfl).mono (by decide)

/-- A fault record is stored or lost: episodes and PI writebacks that are owed stand. -/
theorem Dev.faultRec_hifNoted (d : Dev) (kind code ctx index : Nat) (write : Bool) (iova space prog : Nat) :
    d.HifNoted (d.faultRec kind code ctx index write iova space prog) hifEventRegs ∧
    (d.faultRec kind code ctx index write iova space prog).hif.stalled = d.hif.stalled ∧
    (d.faultRec kind code ctx index write iova space prog).hif.wbOwed = d.hif.wbOwed ∧
    (d.faultRec kind code ctx index write iova space prog).reg (Reg.HIF_COUNT 9) = d.reg (Reg.HIF_COUNT 9) := by
  unfold Dev.faultRec
  split
  · exact ⟨⟨rfl, Dev.regsKept_of_regs rfl _⟩, rfl, rfl, rfl⟩
  · have honly := (d.count (Reg.HIF_COUNT 11) 1).raise_messageOnly 14 4
    unfold Dev.MessageOnly at honly
    refine ⟨(d.setReg_hifNoted _ (by decide)).trans (Dev.raise_hif_hifNoted _ 4), by rw [honly]; rfl, by rw [honly]; rfl, ?_⟩
    rw [Dev.raise_regsKept _ 4 rfl _ (by decide), Dev.reg_count_other _ _ _ _ (by decide)]

/-- An episode starts: it is counted, and fault records and messages may follow. -/
theorem Dev.stallStart_starts {d : Dev} {c : Nat} (h : c ∉ d.hif.stalled) :
    d.HifNoted (d.stallStart c) hifEventRegs ∧ (d.stallStart c).hif.stalled = d.hif.stalled ++ [c] ∧
    (d.stallStart c).hif.wbOwed = d.hif.wbOwed ∧ (d.stallStart c).reg (Reg.HIF_COUNT 9) = d.plus (Reg.HIF_COUNT 9) 1 := by
  obtain ⟨e, he⟩ : ∃ e, { d with hif := { d.hif with stalled := d.hif.stalled ++ [c] } } = e := ⟨_, rfl⟩
  have hstalled : d.HifNoted e hifEventRegs := he ▸ ⟨rfl, Dev.regsKept_of_regs rfl _⟩
  have heq : d.stallStart c = ((e.count (Reg.HIF_COUNT 9) 1).raise 14 3).faultRec 3 0 (cqCtx c) 0 false 0 0 0 := by
    unfold Dev.stallStart
    rw [if_neg h, he]
  have honly := (e.count (Reg.HIF_COUNT 9) 1).raise_messageOnly 14 3
  unfold Dev.MessageOnly at honly
  obtain ⟨hnoted, hstall, howed, hcount⟩ := ((e.count (Reg.HIF_COUNT 9) 1).raise 14 3).faultRec_hifNoted 3 0 (cqCtx c) 0 false 0 0 0
  rw [heq]
  refine ⟨((hstalled.trans (e.setReg_hifNoted _ (by decide))).trans (Dev.raise_hif_hifNoted _ 3)).trans hnoted, ?_, ?_, ?_⟩
  · rw [hstall, honly, ← he]
    rfl
  · rw [howed, honly, ← he]
    rfl
  · rw [hcount, Dev.raise_regsKept _ 3 rfl _ (by decide), Dev.reg_count, ← he]
    rfl

theorem Dev.stallStart_hifNoted (d : Dev) (c : Nat) : d.HifNoted (d.stallStart c) hifEventRegs ∧ (d.stallStart c).hif.wbOwed = d.hif.wbOwed := by
  by_cases h : c ∈ d.hif.stalled
  · rw [Dev.stallStart, if_pos h]
    exact ⟨.refl _ _, rfl⟩
  · obtain ⟨hnoted, -, howed, -⟩ := Dev.stallStart_starts h
    exact ⟨hnoted, howed⟩

theorem Dev.cqCheck_hifNoted (d : Dev) (c : Nat) : d.HifNoted (d.cqCheck c) hifEventRegs ∧ (d.cqCheck c).hif.wbOwed = d.hif.wbOwed := by
  unfold Dev.cqCheck
  split
  · exact d.stallStart_hifNoted c
  · split
    · exact ⟨⟨rfl, Dev.regsKept_of_regs rfl _⟩, rfl⟩
    · exact ⟨.refl _ _, rfl⟩

/-- The message of a completion ring clears its ARM. -/
theorem Dev.armCheck_hifNoted (d : Dev) (c : Nat) :
    d.HifNoted (d.armCheck c) (Reg.RNG_CI c :: hifEventRegs) ∧ (d.armCheck c).hif.wbOwed = d.hif.wbOwed := by
  unfold Dev.armCheck
  split
  · obtain ⟨e, he⟩ : ∃ e, d.setFld (Reg.RNG_CI c) F.RNG_CI_ARM 0 = e := ⟨_, rfl⟩
    have hset : d.HifNoted e (Reg.RNG_CI c :: hifEventRegs) := he ▸ d.setReg_hifNoted _ List.mem_cons_self
    have honly := e.sendVec_messageOnly (d.ringFunc (cqCtx c)) (d.fld (Reg.RNG_CFG_C c) F.RNG_CFG_C_VECTOR)
    rw [he]
    refine ⟨hset.trans ⟨honly.notesOnly, fun a ha => ?_⟩, ?_⟩
    · simp only [hifEventRegs, List.mem_cons, List.not_mem_nil, or_false, not_or] at ha
      exact e.sendVec_reg_other _ (Fld.of_lt F.RNG_CFG_C_VECTOR _) (by tauto) (by tauto) (by tauto)
    · unfold Dev.MessageOnly at honly
      rw [honly, ← he]
      rfl
  · exact ⟨.refl _ _, rfl⟩

/-! ### Translations that an update leaves alone (R509) -/

/-- Writes to host memory rest on the ring's base, its function, its space, and the translations that are cached. -/
theorem Dev.hostWrites_congr {d e : Dev} {r : Nat} (hb : e.reg (Reg.RNG_BASE r) = d.reg (Reg.RNG_BASE r))
    (hg : e.reg (Reg.HIF_GROUP (r % 32768 / 64)) = d.reg (Reg.HIF_GROUP (r % 32768 / 64)))
    (hx : ∀ n, e.reg (Reg.XLT_SPACE n) = d.reg (Reg.XLT_SPACE n)) (ht : e.hif.tlb = d.hif.tlb) (hn : e.hif.noRo = d.hif.noRo) (iova : Nat)
    (bs : List Byte) (ro : Bool) : e.hostWrites r iova bs ro = d.hostWrites r iova bs ro := by
  have hfunc : e.ringFunc r = d.ringFunc r := by rw [Dev.ringFunc, Dev.fld, hg]; rfl
  have hspace : e.ringSpace r = d.ringSpace r := by rw [Dev.ringSpace, Dev.fld, hb]; rfl
  have hon : ∀ f n, e.spaceOn f n = d.spaceOn f n := fun f n => by
    unfold Dev.spaceOn Dev.bit Dev.fld
    rw [hx]
  have hxlate : ∀ a, e.xlate r a true = d.xlate r a true := fun a => by
    rw [Dev.xlate, hspace, hfunc, hon, ht]
    rfl
  unfold Dev.hostWrites
  simp only [hxlate, hfunc, hn]

/-- Bytes that are written make a write. -/
theorem Dev.hostWrites_ne_nil {d : Dev} {r iova : Nat} {bs : List Byte} {ro : Bool} {w : HostWrites} (h : d.hostWrites r iova bs ro = some w)
    (hbs : bs ≠ []) : w ≠ [] := by
  unfold Dev.hostWrites at h
  rw [pageCuts, if_neg (by simpa using hbs), List.foldr_cons] at h
  split at h
  · rw [Option.some.injEq] at h
    rw [← h]
    exact List.cons_ne_nil _ _
  · exact absurd h (by simp)

/-! ### A post to a completion ring (R480, R498, R501) -/

/-- The PI of completion ring `c`, and the PAD before an entry of `k` slots there. -/
def Dev.cqPi (d : Dev) (c : Nat) : Nat := d.fld (Reg.RNG_PI_C c) F.RNG_PI_C_PI
def Dev.cqPad (d : Dev) (c k : Nat) : Nat := padSlots (d.ringSize (cqCtx c)) (d.cqPi c) k

/-- The writes of an entry behind its PAD. -/
def Dev.cqEntry (d : Dev) (c : Nat) (words : List Word) (ro : Bool) : Option HostWrites :=
  d.hostWrites (cqCtx c) (d.slotAddr (cqCtx c) ((d.cqPi c % 65536 + d.cqPad c (words.length / 4)) % d.ringSize (cqCtx c))) (wordsBytes words) ro

/-- The device that has counted the bytes of an entry of `k` slots and its PAD, and advanced the PI. -/
def Dev.cqAdvance (d : Dev) (c k : Nat) : Dev :=
  (d.count (Reg.HIF_COUNT 3) (32 * (d.cqPad c k + k))).setFld (Reg.RNG_PI_C c) F.RNG_PI_C_PI
    (idxAdvance (d.ringSize (cqCtx c)) (d.cqPi c) (d.cqPad c k + k))

theorem Dev.post_noRoom {d : Dev} {c : Nat} {words : List Word} (ro : Bool) (h : d.cqRoom c (words.length / 4) = false) :
    d.post c words ro = none := by
  unfold Dev.post
  dsimp only
  rw [if_pos (by rw [h]; rfl)]

theorem Dev.post_untranslated {d : Dev} {c : Nat} {words : List Word} {ro : Bool} (h : d.cqEntry c words ro = none) :
    d.post c words ro = none := by
  unfold Dev.cqEntry Dev.cqPad Dev.cqPi at h
  unfold Dev.post
  dsimp only
  split
  · rfl
  · split
    next h1 => rw [h] at h1; cases h1
    next => rfl

/-- An entry that needs no PAD is posted where there is room and its page is translated. -/
theorem Dev.post_isSome {d : Dev} {c : Nat} {words : List Word} {ro : Bool} (hr : d.cqRoom c (words.length / 4) = true)
    (hp : d.cqPad c (words.length / 4) = 0) (hm : (d.cqEntry c words ro).isSome = true) : (d.post c words ro).isSome = true := by
  obtain ⟨w, hw⟩ := Option.isSome_iff_exists.mp hm
  unfold Dev.cqEntry at hw
  unfold Dev.cqPad Dev.cqPi at hw hp
  unfold Dev.post
  dsimp only
  rw [if_neg (by rw [hr]; decide), hw, if_pos hp]
  rfl

/-- What a post is made of. -/
theorem Dev.post_some {d e : Dev} {c : Nat} {words : List Word} {ro : Bool} {w : HostWrites} (h : d.post c words ro = some (e, w)) :
    d.cqRoom c (words.length / 4) = true ∧ e = (((d.cqAdvance c (words.length / 4)).piWriteback c).1.cqCheck c).armCheck c ∧
      ∃ w0 w1, d.cqEntry c words ro = some w1 ∧ w = w0 ++ w1 ++ ((d.cqAdvance c (words.length / 4)).piWriteback c).2 := by
  unfold Dev.post at h
  dsimp only at h
  split at h
  · cases h
  next hroom =>
    split at h
    next w0 w1 h0 h1 =>
      cases h
      exact ⟨by simpa using hroom, rfl, w0, w1, h1, rfl⟩
    next => cases h

/-- The registers that a post to completion ring `c` may change. -/
def postRegs (c : Nat) : List Nat := Reg.RNG_PI_C c :: Reg.HIF_COUNT 3 :: Reg.RNG_CI c :: hifEventRegs

theorem Dev.cqAdvance_hifNoted (d : Dev) (c k : Nat) : d.HifNoted (d.cqAdvance c k) (postRegs c) :=
  (d.setReg_hifNoted _ (by simp [postRegs])).trans (Dev.setReg_hifNoted _ _ (by simp [postRegs]))

theorem Dev.piWriteback_hifNoted (d : Dev) (c : Nat) : d.HifNoted (d.piWriteback c).1 [Reg.HIF_COUNT 3] := by
  unfold Dev.piWriteback
  split
  · dsimp only
    split
    · exact ⟨rfl, fun a ha => (Dev.reg_count_other _ _ _ _ (by simpa using ha)).trans rfl⟩
    · exact ⟨rfl, Dev.regsKept_of_regs rfl _⟩
  · exact .refl _ _

/-- What follows the advance of the PI leaves it alone. -/
theorem Dev.post_after {d e : Dev} {c : Nat} {words : List Word} {ro : Bool} {w : HostWrites} (h : d.post c words ro = some (e, w)) :
    (d.cqAdvance c (words.length / 4)).HifNoted e (Reg.HIF_COUNT 3 :: Reg.RNG_CI c :: hifEventRegs) ∧
      e.hif.wbOwed = ((d.cqAdvance c (words.length / 4)).piWriteback c).1.hif.wbOwed := by
  obtain ⟨-, he, -⟩ := Dev.post_some h
  obtain ⟨x, hx⟩ : ∃ x, ((d.cqAdvance c (words.length / 4)).piWriteback c).1 = x := ⟨_, rfl⟩
  have hwb := (d.cqAdvance c (words.length / 4)).piWriteback_hifNoted c
  rw [hx] at he hwb ⊢
  obtain ⟨hcheck, howed1⟩ := x.cqCheck_hifNoted c
  obtain ⟨harm, howed2⟩ := (x.cqCheck c).armCheck_hifNoted c
  rw [he]
  exact ⟨((hwb.mono (by simp)).trans (hcheck.mono fun _ h => by simp [h])).trans (harm.mono fun _ h => by simp_all), howed2.trans howed1⟩

/-- A post changes the ring's PI and ARM, counts, and the notes of the host interface. -/
theorem Dev.post_hifNoted {d e : Dev} {c : Nat} {words : List Word} {ro : Bool} {w : HostWrites} (h : d.post c words ro = some (e, w)) :
    d.HifNoted e (postRegs c) :=
  (d.cqAdvance_hifNoted c _).trans ((Dev.post_after h).1.mono fun _ h => by simp [postRegs, h])

/-- A posted entry that is not empty is written. -/
theorem Dev.post_ne_nil {d e : Dev} {c : Nat} {words : List Word} {ro : Bool} {w : HostWrites} (h : d.post c words ro = some (e, w))
    (hw : words ≠ []) : w ≠ [] := by
  obtain ⟨-, -, w0, w1, h1, rfl⟩ := Dev.post_some h
  have hbytes : wordsBytes words ≠ [] := by
    cases words with
    | nil => exact absurd rfl hw
    | cons x l => exact wordBytes_append_ne_nil x (wordsBytes l)
  have hne := Dev.hostWrites_ne_nil h1 hbytes
  simp [hne]

/-! ### The PI and its writeback (R480, R498) -/

/-- A post leaves the PI of every other completion ring. -/
theorem Dev.post_pi_other {d e : Dev} {b c : Nat} {words : List Word} {ro : Bool} {w : HostWrites} (h : d.post c words ro = some (e, w))
    (hbc : b ≠ c) : e.fld (Reg.RNG_PI_C b) F.RNG_PI_C_PI = d.fld (Reg.RNG_PI_C b) F.RNG_PI_C_PI := by
  rw [Dev.fld, Dev.fld, (Dev.post_hifNoted h).regs]
  simp only [postRegs, hifEventRegs, List.mem_cons, List.not_mem_nil, or_false, Reg.RNG_PI_C, Reg.RNG_CI, Reg.HIF_COUNT, Reg.HIF_EVENT,
    Reg.SYS_MSIX_PBA]
  omega

theorem Dev.post_pi_same {d e : Dev} {c : Nat} {words : List Word} {ro : Bool} {w : HostWrites} (h : d.post c words ro = some (e, w)) :
    e.cqPi c = (d.cqAdvance c (words.length / 4)).cqPi c := by
  rw [Dev.cqPi, Dev.cqPi, Dev.fld, Dev.fld, (Dev.post_after h).1.regs]
  simp only [hifEventRegs, List.mem_cons, List.not_mem_nil, or_false, Reg.RNG_PI_C, Reg.RNG_CI, Reg.HIF_COUNT, Reg.HIF_EVENT, Reg.SYS_MSIX_PBA]
  omega

theorem Dev.cqAdvance_pi (d : Dev) (c k : Nat) :
    (d.cqAdvance c k).cqPi c = idxAdvance (d.ringSize (cqCtx c)) (d.cqPi c) (d.cqPad c k + k) % 2 ^ 17 :=
  Dev.fld_setFld_same _ _ _ (by decide)

/-- The registers of a ring's configuration and of its translations are not those that an advance of its PI changes. -/
theorem Dev.cqAdvance_reg (d : Dev) {c a : Nat} (k : Nat) (h1 : a ≠ Reg.RNG_PI_C c) (h3 : a ≠ Reg.HIF_COUNT 3) : (d.cqAdvance c k).reg a = d.reg a := by
  unfold Dev.cqAdvance
  rw [Dev.setFld, Dev.reg_setReg_other _ _ _ _ h1, Dev.reg_count_other _ _ _ _ h3]

theorem Dev.cqAdvance_hostWrites (d : Dev) {c : Nat} (hc : c < 32768) (k iova : Nat) (bs : List Byte) (ro : Bool) :
    (d.cqAdvance c k).hostWrites (cqCtx c) iova bs ro = d.hostWrites (cqCtx c) iova bs ro := by
  refine Dev.hostWrites_congr (d.cqAdvance_reg k ?_ ?_) (d.cqAdvance_reg k ?_ ?_) (fun n => d.cqAdvance_reg k ?_ ?_) rfl rfl iova bs ro <;>
    simp only [cqCtx, Reg.RNG_BASE, Reg.RNG_PI_C, Reg.HIF_COUNT, Reg.HIF_GROUP, Reg.XLT_SPACE] <;> omega

/-- The new PI is written behind the entry, or is owed. -/
theorem Dev.post_writeback {d e : Dev} {c : Nat} {words : List Word} {ro : Bool} {w : HostWrites} (hc : c < 32768)
    (h : d.post c words ro = some (e, w)) (hwb : d.bit (Reg.RNG_CFG_C c) F.RNG_CFG_C_WB_EN = true) :
    (∀ x, d.hostWrites (cqCtx c) (d.fld (Reg.RNG_WB c) F.RNG_WB_ADDR * 8) (leBytes 8 (e.cqPi c)) false = some x → ∃ u, w = u ++ x) ∧
    (d.hostWrites (cqCtx c) (d.fld (Reg.RNG_WB c) F.RNG_WB_ADDR * 8) (leBytes 8 (e.cqPi c)) false = none → c ∈ e.hif.wbOwed) := by
  obtain ⟨-, -, w0, w1, -, hw⟩ := Dev.post_some h
  obtain ⟨-, howed⟩ := Dev.post_after h
  rw [Dev.post_pi_same h]
  obtain ⟨f, hf⟩ : ∃ f, d.cqAdvance c (words.length / 4) = f := ⟨_, rfl⟩
  have hcfg : f.bit (Reg.RNG_CFG_C c) F.RNG_CFG_C_WB_EN = true := by
    rw [← hf, Dev.bit, Dev.fld, d.cqAdvance_reg _ (by simp only [Reg.RNG_CFG_C, Reg.RNG_PI_C]; omega) (by simp only [Reg.RNG_CFG_C, Reg.HIF_COUNT]; omega)]
    exact hwb
  have haddr : f.fld (Reg.RNG_WB c) F.RNG_WB_ADDR = d.fld (Reg.RNG_WB c) F.RNG_WB_ADDR := by
    rw [← hf, Dev.fld, d.cqAdvance_reg _ (by simp only [Reg.RNG_WB, Reg.RNG_PI_C]; omega) (by simp only [Reg.RNG_WB, Reg.HIF_COUNT]; omega)]
    rfl
  have hwrites : ∀ iova bs, f.hostWrites (cqCtx c) iova bs false = d.hostWrites (cqCtx c) iova bs false := fun iova bs => by
    rw [← hf, d.cqAdvance_hostWrites hc]
  rw [hf] at hw howed ⊢
  unfold Dev.cqPi
  unfold Dev.piWriteback at hw howed
  rw [if_pos hcfg, haddr, hwrites] at hw howed
  refine ⟨fun x hx => ?_, fun hx => ?_⟩
  · rw [hx] at hw
    exact ⟨_, hw⟩
  · rw [hx] at howed
    rw [howed]
    exact List.mem_append_right _ List.mem_cons_self

/-! ### The record commands (R492, R500) -/

theorem State.wrote_same (s : State) : s.wrote (s.dev, []) = s := rfl

/-- What a record command does: nothing while its ring does not take the record, and otherwise the post, and what takes the record out of its
store and counts it. -/
def State.recordActs (s : State) (cmd : Instr) (c op : Nat) (ws : List Word) (counts : List Nat) (left : Dev → State → Prop) : Prop :=
  let slots := toSlots (ws.set 0 (recHeader op ((ws.length + 3) / 4)))
  (c ∈ s.dev.hif.stalled ∧ s.dev.heldFor c = true → exec cmd s = .next s) ∧
  (s.dev.post c slots true = none → exec cmd s = .next s) ∧
  (∀ e w, c ∉ s.dev.hif.stalled ∨ s.dev.heldFor c = false → s.dev.post c slots true = some (e, w) →
    ∃ t, exec cmd s = .next t ∧ s.hostTook t w ∧ left e t ∧ (∀ a ∈ Reg.HIF_COUNT 1 :: counts, t.dev.reg a = e.plus a 1) ∧
      e.regsKept t.dev (Reg.HIF_COUNT 1 :: counts))

/-- `done` adds 1 to the counters of a list, and changes no other register. -/
def CountsOnly (counts : List Nat) (done : Dev → Dev) : Prop := ∀ d : Dev, (∀ a ∈ counts, (done d).reg a = d.plus a 1) ∧ d.regsKept (done d) counts

theorem CountsOnly.of_regs {done : Dev → Dev} (h : ∀ d, (done d).regs = d.regs) : CountsOnly [] done :=
  fun d => ⟨nofun, Dev.regsKept_of_regs (h d) []⟩

theorem CountsOnly.count {done : Dev → Dev} (h : ∀ d, (done d).regs = d.regs) (a : Nat) : CountsOnly [a] fun d => (done d).count a 1 := fun d => by
  refine ⟨fun b hb => ?_, fun b hb => ?_⟩
  · obtain rfl := List.mem_singleton.mp hb
    rw [Dev.reg_count, Dev.plus, Dev.plus, Dev.reg, Dev.reg, h]
  · rw [Dev.reg_count_other _ _ _ _ (by simpa using hb), Dev.reg, Dev.reg, h]

/-- The record's block and the host interface count it. -/
theorem CountsOnly.recorded {counts : List Nat} {done : Dev → Dev} (h : CountsOnly counts done) (hc : Reg.HIF_COUNT 1 ∉ counts) (d : Dev) :
    (∀ a ∈ Reg.HIF_COUNT 1 :: counts, ((done d).count (Reg.HIF_COUNT 1) 1).reg a = d.plus a 1) ∧
    d.regsKept ((done d).count (Reg.HIF_COUNT 1) 1) (Reg.HIF_COUNT 1 :: counts) := by
  obtain ⟨hcounts, hkept⟩ := h d
  refine ⟨fun a ha => ?_, ?_⟩
  · by_cases h1 : a = Reg.HIF_COUNT 1
    · subst h1
      rw [Dev.reg_count, Dev.plus, Dev.plus, hkept _ hc]
    · rw [Dev.reg_count_other _ _ _ _ h1]
      exact hcounts a ((List.mem_cons.mp ha).resolve_left h1)
  · exact (hkept.mono (List.subset_cons_self _ _)).trans (Dev.count_regsKept _ _ List.mem_cons_self)

section
variable {s : State} {cmd : Instr} {c op : Nat} {ws : List Word} {done : Dev → Dev}

theorem Dev.record_waits {d : Dev} (h : c ∈ d.hif.stalled ∧ d.heldFor c = true) : d.record c op ws done = (d, []) := if_pos h

theorem Dev.record_refused {d : Dev} (h : d.post c (toSlots (ws.set 0 (recHeader op ((ws.length + 3) / 4)))) true = none) :
    d.record c op ws done = (d, []) := by
  unfold Dev.record
  dsimp only
  rw [h]
  exact ite_self _

theorem Dev.record_taken {d e : Dev} {w : HostWrites} (hs : c ∉ d.hif.stalled ∨ d.heldFor c = false)
    (h : d.post c (toSlots (ws.set 0 (recHeader op ((ws.length + 3) / 4)))) true = some (e, w)) :
    d.record c op ws done = ((done e).count (Reg.HIF_COUNT 1) 1, w) := by
  unfold Dev.record
  dsimp only
  rw [h, if_neg]
  rintro ⟨h1, h2⟩
  rcases hs with hs | hs
  · exact hs h1
  · rw [hs] at h2
    cases h2

/-- A command that writes a record with what takes it out of its store. -/
theorem State.recordActs_of_record {counts : List Nat} {left : Dev → State → Prop}
    (hexec : exec cmd s = .next (s.wrote (s.dev.record c op ws done))) (hd : CountsOnly counts done) (hc : Reg.HIF_COUNT 1 ∉ counts)
    (hleft : ∀ e t, t.dev = (done e).count (Reg.HIF_COUNT 1) 1 → left e t) : s.recordActs cmd c op ws counts left := by
  refine ⟨fun h => ?_, fun h => ?_, fun e w hs h => ?_⟩
  · rw [hexec, Dev.record_waits h, s.wrote_same]
  · rw [hexec, Dev.record_refused h, s.wrote_same]
  · rw [Dev.record_taken hs h] at hexec
    obtain ⟨hcounts, hkept⟩ := hd.recorded hc e
    exact ⟨_, hexec, s.wrote_hostTook _ w, hleft e _ rfl, hcounts, hkept⟩

end

/-! ### The stores of records (R192, R291, R336, R383, R394, R517) -/

section
variable {s : State} (hon : s.dev.hifOn = true)
include hon

theorem exec_tsReportWrite {r : HostRec} {l : List HostRec} (hq : s.dev.tim.tsq = r :: l) :
    exec .tsReportWrite s = .next (s.wrote
      (if s.dev.bit Reg.TIM_TS_RING F.TIM_TS_RING_EN then
        s.dev.record (s.dev.fld Reg.TIM_TS_RING F.TIM_TS_RING_RING) 0x83 r.words
          fun d => { d with tim := { d.tim with tsq := l } }.count (Reg.TIM_COUNT 0) 1
       else (s.dev, []))) := by
  show execTsReportWrite s = _
  rw [execTsReportWrite, if_pos hon, Dev.tsReportWrite, hq]

theorem exec_capRecordWrite {r : HostRec} {l : List HostRec} (hq : s.dev.tim.capq = r :: l) :
    exec .capRecordWrite s = .next (s.wrote
      (if s.dev.bit Reg.TIM_CAP_RING F.TIM_CAP_RING_EN then
        s.dev.record (s.dev.fld Reg.TIM_CAP_RING F.TIM_CAP_RING_RING) 0x84 r.words
          fun d => { d with tim := { d.tim with capq := l } }.count (Reg.TIM_COUNT 4) 1
       else (s.dev, []))) := by
  show execCapRecordWrite s = _
  rw [execCapRecordWrite, if_pos hon, Dev.capRecordWrite, hq]

theorem exec_notificationWrite {r : HostRec} {l : List HostRec} (hq : s.dev.notes = r :: l) :
    exec .notificationWrite s = .next (s.wrote
      (if s.dev.bit Reg.TBL_NOTIFY_RING F.TBL_NOTIFY_RING_EN then
        s.dev.record (s.dev.fld Reg.TBL_NOTIFY_RING F.TBL_NOTIFY_RING_RING) 0x80 r.words fun d => { d with notes := l }
       else (s.dev, []))) := by
  show execNotificationWrite s = _
  rw [execNotificationWrite, if_pos hon, Dev.noteWrite, hq]

theorem exec_engMsgWrite {n : Nat} {x : Engine} {m : EngMsg} {l : List EngMsg} (hn : Map.find s.dev.engines n = some x) (hq : x.msgs = m :: l) :
    exec (.engMsgWrite n) s = .next (s.wrote
      (if s.dev.bit Reg.ENG_MSG_RING F.ENG_MSG_RING_EN then
        s.dev.record (s.dev.fld Reg.ENG_MSG_RING F.ENG_MSG_RING_RING) 0x81 (m.words n)
          fun d => { d with engines := Map.put d.engines n { x with msgs := l } }.count (Reg.ENG_GCOUNT 5) 1
       else (s.dev, []))) := by
  show execEngMsgWrite n s = _
  rw [execEngMsgWrite, if_pos hon, Dev.msgWrite, hn]
  dsimp only
  rw [hq]

theorem exec_faultRecordWrite {f : Nat} {x : FaultRec} (hq : (s.dev.hif.faults.find? fun x => x.func = f) = some x) :
    exec (.faultRecordWrite f) s = .next (s.wrote
      (if s.dev.bit (Reg.HIF_FUNC f) F.HIF_FUNC_FAULT_EN then
        s.dev.record (s.dev.fld (Reg.HIF_FUNC f) F.HIF_FUNC_FAULT_RING) 0x85 x.words
          fun d => { d with hif := { d.hif with faults := d.hif.faults.erase x } }
       else (s.dev, []))) := by
  show execFaultRecordWrite f s = _
  rw [execFaultRecordWrite, if_pos hon, Dev.faultWrite, hq]

theorem exec_captureRecordWrite : exec .captureRecordWrite s = .next (s.wrote s.dev.captureWrite) := by
  show execCaptureRecordWrite s = _
  rw [execCaptureRecordWrite, if_pos hon]

end

/-! ### Staged capture records (R336, R451) -/

/-- Requests to DRAM leave the staged records and the packets. -/
structure Dev.StagedKept (d e : Dev) : Prop where
  captures : e.captures = d.captures
  pkts : e.pkts = d.pkts

theorem Dev.StagedKept.refl (d : Dev) : d.StagedKept d := ⟨rfl, rfl⟩

theorem Dev.StagedKept.trans {d e f : Dev} (h : d.StagedKept e) (k : e.StagedKept f) : d.StagedKept f :=
  ⟨k.captures.trans h.captures, k.pkts.trans h.pkts⟩

theorem Dev.setChan_stagedKept (d : Dev) (n : Nat) (c : Chan) : d.StagedKept (d.setChan n c) := ⟨rfl, rfl⟩

theorem Dev.accept_stagedKept (d : Dev) (n : Nat) (r : DReq) : d.StagedKept (d.accept n r) := by
  unfold Dev.accept
  split
  · exact d.setChan_stagedKept n _
  · unfold Dev.acceptRead
    dsimp only
    split
    · exact ⟨rfl, rfl⟩
    · exact ⟨rfl, rfl⟩

theorem Dev.enterPlaces_stagedKept (d : Dev) (n : Nat) (l left : List DReq) : d.StagedKept (d.enterPlaces n l left) := by
  induction l generalizing d left with
  | nil => exact d.setChan_stagedKept n _
  | cons r l ih =>
    unfold Dev.enterPlaces
    split
    · exact ih d _
    · exact (d.accept_stagedKept n r).trans (ih _ _)

theorem Dev.dramReq_stagedKept (d : Dev) (cls a : Nat) (data : Option (List Byte)) (owner : Nat) : d.StagedKept (d.dramReq cls a data owner) := by
  unfold Dev.dramReq
  dsimp only
  split
  · exact .refl d
  · split
    · have honly := (d.count (Reg.DMC_COUNT (dramChan a) 7) 1).raise_messageOnly 12 2
      unfold Dev.MessageOnly at honly
      have hrefuse : d.StagedKept (d.dramRefuse a) := ⟨by rw [Dev.dramRefuse, honly]; rfl, by rw [Dev.dramRefuse, honly]; rfl⟩
      unfold Dev.answer
      split
      · exact hrefuse
      · exact hrefuse.trans ⟨rfl, rfl⟩
    · exact (d.setChan_stagedKept _ _).trans (Dev.enterPlaces_stagedKept _ _ _ _)

theorem Dev.readAtoms_stagedKept (d : Dev) (cls : Nat) (l : List Nat) (owner : Nat) : d.StagedKept (d.readAtoms cls l owner) := by
  unfold Dev.readAtoms
  exact List.foldlRecOn (motive := fun e : Dev => d.StagedKept e) l _ (.refl d) fun e h a _ => h.trans (e.dramReq_stagedKept cls a none owner)

/-- The bytes that the answers `l` give for an atom, none of them being bad. -/
def atomOf (l : List DAns) (a : Nat) : List Byte :=
  match l.find? fun y => y.addr == a with
  | some y => y.bytes
  | none => List.replicate 64 0

theorem Dev.stagedAtom_good (d : Dev) {l : List DAns} (h : l.all (fun y => y.bad == 0) = true) (a : Nat) :
    d.stagedAtom l a = (d, atomOf l a) := by
  unfold Dev.stagedAtom atomOf
  cases hf : l.find? fun y => y.addr == a with
  | none => rfl
  | some y =>
    have hbad : y.bad = 0 := by simpa using List.all_eq_true.mp h y (List.mem_of_find?_eq_some hf)
    exact if_pos hbad

theorem Dev.stagedBytes_good (d : Dev) {l : List DAns} (h : l.all (fun y => y.bad == 0) = true) (atoms : List Nat) :
    d.stagedBytes l atoms = (d, atoms.flatMap (atomOf l)) := by
  induction atoms with
  | nil => rfl
  | cons a atoms ih =>
    rw [Dev.stagedBytes, d.stagedAtom_good h]
    dsimp only
    rw [ih]
    rfl

section
variable {d : Dev} {r : CapRec} {l : List CapRec} (hq : d.captures = r :: l)
include hq

theorem Dev.captureWrite_asks (ha : r.asked = false) :
    d.captureWrite = (({ d with captures := { r with asked := true } :: l } : Dev).readAtoms 2 r.atoms r.tag, []) := by
  unfold Dev.captureWrite
  rw [hq]
  dsimp only
  rw [if_pos (by rw [ha]; rfl)]

theorem Dev.captureWrite_waits (ha : r.asked = true) (hw : d.dramWaits r.tag = true) : d.captureWrite = (d, []) := by
  unfold Dev.captureWrite
  rw [hq]
  dsimp only
  rw [if_neg (by rw [ha]; decide), if_pos hw]

/-- A staged record that has been read whole goes to its ring; a record that is not empty makes a write. -/
theorem Dev.captureWrite_records (ha : r.asked = true) (hw : d.dramWaits r.tag = false) (hl : 0 < r.len)
    (hgood : (d.answersOf r.tag).all (fun y => y.bad == 0) = true) :
    d.captureWrite = d.record r.ring 0x82 (bytesWords (r.atoms.flatMap (atomOf (d.answersOf r.tag))) r.len)
      fun d => { d with captures := l }.takeAnswers r.tag := by
  obtain ⟨ws, hws⟩ : ∃ ws, bytesWords (r.atoms.flatMap (atomOf (d.answersOf r.tag))) r.len = ws := ⟨_, rfl⟩
  have hslots : toSlots (ws.set 0 (recHeader 0x82 ((ws.length + 3) / 4))) ≠ [] := fun h => by
    have hlen := congrArg List.length h
    rw [← hws] at hlen
    simp only [toSlots, bytesWords, List.length_append, List.length_set, List.length_map, List.length_range, List.length_replicate, List.length_nil]
      at hlen
    omega
  have hcapture : d.captureWrite =
      (let x := d.record r.ring 0x82 ws fun d => { d with captures := l }.takeAnswers r.tag
       if x.2.isEmpty then (d, []) else x) := by
    unfold Dev.captureWrite
    rw [hq]
    dsimp only
    rw [if_neg (by rw [ha]; decide), if_neg (by rw [hw]; decide), d.stagedBytes_good hgood, hws]
  rw [hcapture, hws]
  dsimp only
  by_cases hs : r.ring ∈ d.hif.stalled ∧ d.heldFor r.ring = true
  · rw [Dev.record_waits hs]
    rfl
  · cases hp : d.post r.ring (toSlots (ws.set 0 (recHeader 0x82 ((ws.length + 3) / 4)))) true with
    | none =>
      rw [Dev.record_refused hp]
      rfl
    | some x =>
      obtain ⟨e, w⟩ := x
      rw [Dev.record_taken (by rw [← Bool.not_eq_true]; exact not_and_or.mp hs) hp, if_neg (by simpa using Dev.post_ne_nil hp hslots)]

end

/-! ### COMPLETION_WRITE (R491, R499, R504) -/

theorem Dev.entry_dropEntry (d : Dev) (r i : Nat) : (d.dropEntry r i).entry r i = none := by
  rw [Dev.entry, Dev.dropEntry, Dev.sub_setSub, List.find?_eq_none]
  intro e he
  have hkeep := (List.mem_filter.mp he).2
  simpa using hkeep

/-- No packet was delivered under the entry. -/
theorem Dev.deliveredOut_none {d : Dev} {r i : Nat} (h : (d.pkts.find? fun e => e.2.stage == .delivered r i) = none) : d.deliveredOut r i = d := by
  unfold Dev.deliveredOut
  rw [h]

theorem Dev.deliveredOut_some {d : Dev} {r i c : Nat} {p : Pkt} (h : (d.pkts.find? fun e => e.2.stage == .delivered r i) = some (c, p)) :
    d.deliveredOut r i = (d.freePkt c p).count (Reg.HIF_COUNT 5) 1 := by
  unfold Dev.deliveredOut
  rw [h]
  rfl

theorem Dev.deliveredOut_kept (d : Dev) (r i : Nat) :
    (d.deliveredOut r i).hif = d.hif ∧ d.regsKept (d.deliveredOut r i) [Reg.HIF_COUNT 5] := by
  cases h : d.pkts.find? fun e => e.2.stage == .delivered r i with
  | none =>
    rw [Dev.deliveredOut_none h]
    exact ⟨rfl, .refl d _⟩
  | some x =>
    obtain ⟨c, p⟩ := x
    rw [Dev.deliveredOut_some h]
    refine ⟨?_, (Dev.regsKept_of_regs (d.freePkt_regs c p) _).trans (Dev.count_regsKept _ _ List.mem_cons_self)⟩
    rw [Dev.count, Dev.setReg, d.freePkt_eq]

/-- The device after a post `e`: the completion has left the hold and its entry the ring, and is counted. -/
def Dev.completed (e : Dev) (r : Nat) (h : Machine.Held) : Dev :=
  (({ e with hif := { e.hif with held := e.hif.held.erase h } } : Dev).dropEntry r h.index).count (Reg.HIF_COUNT 0) 1

section
variable {d : Dev} {r : Nat} {h : Machine.Held} (hh : (d.hif.held.find? fun x => x.ring = r) = some h) (hs : h.cq ∉ d.hif.stalled)
include hh hs

theorem Dev.completionWrite_posts {e : Dev} {w : HostWrites} (hp : d.post h.cq h.words h.ro = some (e, w)) :
    d.completionWrite r = (((e.completed r h).deliveredOut r h.index).cqCheck h.cq, w) := by
  unfold Dev.completionWrite
  rw [hh]
  dsimp only
  rw [if_neg (fun k => hs k.1), hp]
  rfl

theorem Dev.completionWrite_refused (hp : d.post h.cq h.words h.ro = none) (ha : d.ringState (cqCtx h.cq) = rsActive) :
    d.completionWrite r = (if d.cqRoom h.cq (h.words.length / 4) then d else d.stallStart h.cq, []) := by
  unfold Dev.completionWrite
  rw [hh]
  dsimp only
  rw [if_neg (fun k => hs k.1), hp]
  dsimp only
  rw [ha]
  cases d.cqRoom h.cq (h.words.length / 4) <;> rfl

end

/-- What the write of a completion leaves, `e` being the device after its post. -/
theorem Dev.completionWrite_leaves {d e : Dev} {r : Nat} {h : Machine.Held} {w : HostWrites} (hp : d.post h.cq h.words h.ro = some (e, w)) :
    let f := ((e.completed r h).deliveredOut r h.index).cqCheck h.cq
    f.hif.held = e.hif.held.erase h ∧ f.entry r h.index = none ∧ f.reg (Reg.HIF_COUNT 0) = e.plus (Reg.HIF_COUNT 0) 1 ∧
    ((d.pkts.find? fun x => x.2.stage == .delivered r h.index) = none → f.pkts = d.pkts) ∧
    ∀ c p, (d.pkts.find? fun x => x.2.stage == .delivered r h.index) = some (c, p) →
      f.pkt c = none ∧ d.pktsKept f c ∧ d.dataFreed f p.data ∧ f.reg (Reg.HIF_COUNT 5) = d.plus (Reg.HIF_COUNT 5) 1 := by
  intro f
  have hpost := Dev.post_hifNoted hp
  obtain ⟨x, hx⟩ : ∃ x, e.completed r h = x := ⟨_, rfl⟩
  obtain ⟨y, hy⟩ : ∃ y, x.deliveredOut r h.index = y := ⟨_, rfl⟩
  have hf : f = y.cqCheck h.cq := by rw [← hy, ← hx]
  obtain ⟨hcheck, -⟩ := y.cqCheck_hifNoted h.cq
  obtain ⟨hhif, hregs⟩ := x.deliveredOut_kept r h.index
  have hpkts : x.pkts = d.pkts := by
    rw [← hx]
    exact hpost.only.pkts
  have hdata : x.data = d.data := by
    rw [← hx]
    exact hpost.only.data
  have hcount5 : x.reg (Reg.HIF_COUNT 5) = d.reg (Reg.HIF_COUNT 5) := by
    rw [← hx, Dev.completed, Dev.reg_count_other _ _ _ _ (by decide)]
    refine hpost.regs _ ?_
    simp only [postRegs, hifEventRegs, List.mem_cons, List.not_mem_nil, or_false, Reg.RNG_PI_C, Reg.RNG_CI, Reg.HIF_COUNT, Reg.HIF_EVENT,
      Reg.SYS_MSIX_PBA]
    omega
  rw [hf]
  rw [hy] at hhif hregs
  refine ⟨?_, ?_, ?_, fun hnone => ?_, fun c p hsome => ?_⟩
  · rw [hcheck.only.held, hhif, ← hx]
    rfl
  · have hdrop : x.entry r h.index = none := hx ▸ Dev.entry_dropEntry _ _ _
    rw [hcheck.only.entry, Dev.entry, Dev.sub, hhif]
    exact hdrop
  · rw [hcheck.regs _ (by decide), hregs _ (by decide), ← hx, Dev.completed, Dev.reg_count]
    rfl
  · rw [hcheck.only.pkts, ← hy, Dev.deliveredOut_none (by rw [hpkts]; exact hnone), hpkts]
  · rw [Dev.deliveredOut_some (by rw [hpkts]; exact hsome)] at hy
    have hfreed := Dev.freePkt_freed c p hpkts hdata
    have hy1 : y.pkts = (x.freePkt c p).pkts := by rw [← hy]; rfl
    have hy2 : y.data = (x.freePkt c p).data := by rw [← hy]; rfl
    refine ⟨?_, fun k hk => ?_, fun v hv => ?_, ?_⟩
    · rw [Dev.pkt, hcheck.only.pkts, hy1]
      exact hfreed.gone
    · rw [Dev.pkt, hcheck.only.pkts, hy1]
      exact hfreed.kept k hk
    · rw [hcheck.only.data, hy2]
      exact hfreed.data v hv
    · rw [hcheck.regs _ (by decide), ← hy, Dev.reg_count, Dev.plus, Dev.freePkt_reg, hcount5, Dev.plus]

theorem exec_completionWrite {s : State} (hon : s.dev.hifOn = true) (r : Nat) :
    exec (.completionWrite r) s = .next (s.wrote (s.dev.completionWrite r)) := by
  show execCompletionWrite r s = _
  rw [execCompletionWrite, if_pos hon]

/-! ### The statement -/

/-- Settles O19: a post's parts; each record command is a record with what takes it out of its store; a completion is a post with its entry. -/
theorem completionsAndRecords : Obligations.CompletionsAndRecords := by
  unfold Obligations.CompletionsAndRecords
  refine ⟨fun d c words ro hc => ?_, fun s hon => ?_, fun r h s hon hh hs => ?_⟩
  · intro k n pi pad main
    refine ⟨fun h => h.elim (Dev.post_noRoom ro) Dev.post_untranslated, Dev.post_isSome, fun e w h => ?_⟩
    obtain ⟨hroom, -⟩ := Dev.post_some h
    have hpost := Dev.post_hifNoted h
    refine ⟨hroom, (Dev.post_pi_same h).trans (d.cqAdvance_pi c k), hpost.only.pkts, hpost.only.tables, fun hwb => ?_,
      fun b _ hbc => Dev.post_pi_other h hbc⟩
    obtain ⟨hwritten, howed⟩ := Dev.post_writeback hc h hwb
    split
    next x hx => exact hwritten x hx
    next hx => exact howed hx
  · intro acts
    refine ⟨fun r l hq ha => ?_, fun r l hq ha hw => ?_, fun r l hq ha hw hl hgood => ?_, fun r l hq => ⟨fun hen => ?_, fun hen => ?_⟩,
      fun r l hq => ⟨fun hen => ?_, fun hen => ?_⟩, fun r l hq => ⟨fun hen => ?_, fun hen => ?_⟩,
      fun n x m l hn hq => ⟨fun hen => ?_, fun hen => ?_⟩, fun f x hq => ⟨fun hen => ?_, fun hen => ?_⟩⟩
    · have hexec := exec_captureRecordWrite hon
      rw [Dev.captureWrite_asks hq ha] at hexec
      have hkept := ({ s.dev with captures := { r with asked := true } :: l } : Dev).readAtoms_stagedKept 2 r.atoms r.tag
      exact ⟨_, hexec, s.wrote_nil_host _, hkept.captures, hkept.pkts⟩
    · rw [exec_captureRecordWrite hon, Dev.captureWrite_waits hq ha hw, s.wrote_same]
    · intro bs
      have hexec := exec_captureRecordWrite hon
      rw [Dev.captureWrite_records hq ha hw hl hgood] at hexec
      exact State.recordActs_of_record hexec (.of_regs fun _ => rfl) (by simp) fun e t ht => by rw [ht]; rfl
    · rw [exec_tsReportWrite hon hq, if_neg (by rw [hen]; decide), s.wrote_same]
    · have hexec := exec_tsReportWrite hon hq
      rw [if_pos hen] at hexec
      exact State.recordActs_of_record hexec (.count (done := fun d => { d with tim := { d.tim with tsq := l } }) (fun _ => rfl) _) (by decide)
        fun e t ht => by rw [ht]; rfl
    · rw [exec_capRecordWrite hon hq, if_neg (by rw [hen]; decide), s.wrote_same]
    · have hexec := exec_capRecordWrite hon hq
      rw [if_pos hen] at hexec
      exact State.recordActs_of_record hexec (.count (done := fun d => { d with tim := { d.tim with capq := l } }) (fun _ => rfl) _) (by decide)
        fun e t ht => by rw [ht]; rfl
    · rw [exec_notificationWrite hon hq, if_neg (by rw [hen]; decide), s.wrote_same]
    · have hexec := exec_notificationWrite hon hq
      rw [if_pos hen] at hexec
      exact State.recordActs_of_record hexec (.of_regs fun _ => rfl) (by simp) fun e t ht => by rw [ht]; rfl
    · rw [exec_engMsgWrite hon hn hq, if_neg (by rw [hen]; decide), s.wrote_same]
    · have hexec := exec_engMsgWrite hon hn hq
      rw [if_pos hen] at hexec
      exact State.recordActs_of_record hexec
        (.count (done := fun d => { d with engines := Map.put d.engines n { x with msgs := l } }) (fun _ => rfl) _) (by decide)
        fun e t ht => by rw [ht]; exact Map.find_put_same _ _ _
    · rw [exec_faultRecordWrite hon hq, if_neg (by rw [hen]; decide), s.wrote_same]
    · have hexec := exec_faultRecordWrite hon hq
      rw [if_pos hen] at hexec
      exact State.recordActs_of_record hexec (.of_regs fun _ => rfl) (by simp) fun e t ht => by rw [ht]; rfl
  · have hexec := exec_completionWrite hon r
    refine ⟨fun e w hp => ?_, fun hp ha => ?_⟩
    · rw [Dev.completionWrite_posts hh hs hp] at hexec
      exact ⟨_, hexec, s.wrote_hostTook _ w, Dev.completionWrite_leaves hp⟩
    · rw [Dev.completionWrite_refused hh hs hp ha] at hexec
      refine ⟨fun hroom => ?_, fun hroom => ?_⟩
      · rw [if_neg (by rw [hroom]; decide)] at hexec
        obtain ⟨hnoted, hstalled, -, hcount⟩ := Dev.stallStart_starts hs
        exact ⟨_, hexec, s.wrote_nil_host _, hstalled, hnoted.only.held, hcount⟩
      · rw [hexec, if_pos hroom, s.wrote_same]

end Sys2Proof.Machine
end

section
/-! PROOFS. Commands on Chamois tables and CHAMOIS_UPDATE (R223, R224, R226, R229, R240). -/

namespace Sys2Proof.Machine

/-! ### Update queues (R224) -/

@[simp] theorem Dev.chQueue_setChQueue (d : Dev) (g : Nat) (l : List ChUpdate) : (d.setChQueue g l).chQueue g = l := by
  cases l <;> simp [Dev.setChQueue, Dev.chQueue, Map.getD]

theorem Dev.chQueue_setChQueue_other (d : Dev) {g k : Nat} (l : List ChUpdate) (h : k ≠ g) : (d.setChQueue g l).chQueue k = d.chQueue k := by
  cases l
  · exact congrArg (Option.getD · []) (Map.find_del_other _ _ _ h)
  · exact congrArg (Option.getD · []) (Map.find_put_other _ _ _ _ h)

theorem Dev.chQueue_of_chQueues {d e : Dev} (h : e.chQueues = d.chQueues) (g : Nat) : e.chQueue g = d.chQueue g := by
  rw [Dev.chQueue, Dev.chQueue, h]

/-- An accepted update touches the comparer's fetch alone. -/
theorem Dev.cmpNote_cmpOnly (d : Dev) (t i : Nat) : d.cmpNote t i = { d with cmp := (d.cmpNote t i).cmp } := by
  unfold Dev.cmpNote
  split
  · split <;> rfl
  · rfl

/-! ### Events of the arrays (R237, R521) -/

theorem evtReg_aar : evtReg 3 = some Reg.AAR_EVENT := rfl

theorem Dev.raise_aar_reg (d : Dev) (b : Nat) {a : Nat} (h : a ∉ eventRegs Reg.AAR_EVENT) : (d.raise 3 b).reg a = d.reg a :=
  d.raise_regsKept b evtReg_aar a h

theorem Dev.raise_aar_bit (d : Dev) {b : Nat} (hb : b < 64) (k : Nat) :
    ((d.raise 3 b).reg Reg.AAR_EVENT).getLsbD k = (decide (k = b) || (d.reg Reg.AAR_EVENT).getLsbD k) :=
  d.raise_getLsbD evtReg_aar hb (by decide) (by decide) (by decide) k

@[simp] theorem Dev.raise_cham (d : Dev) (s b : Nat) : (d.raise s b).cham = d.cham := by rw [d.raise_messageOnly s b]
@[simp] theorem Dev.raise_chQueues (d : Dev) (s b : Nat) : (d.raise s b).chQueues = d.chQueues := by rw [d.raise_messageOnly s b]
theorem Dev.raise_entry (d : Dev) (s b r i : Nat) : (d.raise s b).entry r i = d.entry r i := (d.raise_messageOnly s b).notesOnly.entry r i

/-! ### A command's update enters its queue (R224, R226) -/

section
variable {d : Dev} {r : Nat} {e : Entry} {b : List Byte} {u : ChUpdate}

theorem Dev.chPush_room (hroom : (d.chQueue (chGroup b u.index)).length < 32) :
    d.chPush r e b u =
      (((d.setChQueue (chGroup b u.index) (d.chQueue (chGroup b u.index) ++ [u])).cmpNote u.table u.index).setEntry r { e with started := true },
        []) := if_pos hroom

theorem Dev.chPush_first_wait (hfull : 32 ≤ (d.chQueue (chGroup b u.index)).length) (hp : e.progress = 0) :
    d.chPush r e b u = (((d.setEntry r { e with progress := 1 }).count (Reg.AAR_COUNT 3) 1).raise 3 3, []) := by
  unfold Dev.chPush
  dsimp only
  rw [if_neg (by omega), if_pos hp]

theorem Dev.chPush_waits (hfull : 32 ≤ (d.chQueue (chGroup b u.index)).length) (hp : e.progress ≠ 0) : d.chPush r e b u = (d, []) := by
  unfold Dev.chPush
  dsimp only
  rw [if_neg (by omega), if_neg hp]

end

/-- Command `c`, for entry `i` of ring `r`, queues update `u` in group `g` and starts while the queue has room; it waits while that is full, which
its first attempt counts with an event. -/
def State.chTakes (s : State) (c : Instr) (r i : Nat) (e : Entry) (g : Nat) (u : ChUpdate) : Prop :=
  let q := s.dev.chQueue g
  (q.length < 32 → ∃ t y, exec c s = .next t ∧ t.host = s.host ∧ t.dev.chQueue g = q ++ [u] ∧ t.dev.cham = s.dev.cham ∧
    t.dev.entry r i = some y ∧ y.started = true ∧ t.dev.hif.held = s.dev.hif.held ∧ t.dev.regs = s.dev.regs) ∧
  (32 ≤ q.length → e.progress = 0 → ∃ t y, exec c s = .next t ∧ t.dev.chQueues = s.dev.chQueues ∧
    t.dev.reg (Reg.AAR_COUNT 3) = s.dev.plus (Reg.AAR_COUNT 3) 1 ∧ (t.dev.reg Reg.AAR_EVENT).getLsbD 3 = true ∧
    t.dev.entry r i = some y ∧ y.started = false ∧ y.progress = 1) ∧
  (32 ≤ q.length → e.progress ≠ 0 → exec c s = .next s)

/-- A command that ends in a push does so. -/
theorem State.chTakes_of_push {s : State} {c : Instr} {r i g : Nat} {e : Entry} {b : List Byte} {u : ChUpdate}
    (hexec : exec c s = .next (s.wrote (s.dev.chPush r e b u))) (hg : chGroup b u.index = g) (he : s.dev.entry r i = some e)
    (hst : e.started = false) : s.chTakes c r i e g u := by
  subst hg
  have hindex := Dev.entry_index he
  subst hindex
  refine ⟨fun hroom => ?_, fun hfull hp => ?_, fun hfull hp => ?_⟩
  · rw [Dev.chPush_room hroom, Dev.cmpNote_cmpOnly] at hexec
    exact ⟨_, _, hexec, s.wrote_nil_host _, s.dev.chQueue_setChQueue _ _, rfl, Dev.entry_setEntry (x := e) he, rfl, rfl, rfl⟩
  · rw [Dev.chPush_first_wait hfull hp] at hexec
    have hentry : (s.dev.setEntry r { e with progress := 1 }).entry r e.index = some { e with progress := 1 } := Dev.entry_setEntry (x := e) he
    refine ⟨_, _, hexec, Dev.raise_chQueues _ _ _, ?_, ?_, (Dev.raise_entry _ _ _ _ _).trans hentry, hst, rfl⟩
    · exact (Dev.raise_aar_reg _ 3 (by decide)).trans (Dev.reg_count _ _ _)
    · rw [State.wrote_dev, Dev.raise_aar_bit _ (by decide)]
      rfl
  · rw [hexec, Dev.chPush_waits hfull hp, s.wrote_same]

/-! ### Commands that have passed their checks (R200, R226, R493) -/

/-- Entry `i` of ring `r` is a table command that may take effect now on the Chamois table that it names, and its words and its index pass the
checks. -/
structure Dev.ChReady (d : Dev) (r i : Nat) (e : Entry) (b : List Byte) : Prop where
  on : d.hifOn = true
  entry : d.entry r i = some e
  go : d.canGo r e = true
  records : e.records = []
  fresh : e.started = false
  turn : d.tableTurn r e (some e.tTable) = true
  permitted : d.tableEn r = true
  defined : d.tblDef e.tTable = .cham b
  up : d.segsUp b = true
  holds : e.tHolds (chNeeds e.op e.tMode (ccKW b)) = true
  words : (e.tReserved || e.tAll || e.tWord2Bad || e.tPlen != 0 || e.tMode > modeMax e.op) = false
  index : e.tArg < ccCapacity b

namespace Dev.ChReady
variable {d : Dev} {r i : Nat} {e : Entry} {b : List Byte} (h : d.ChReady r i e b)
include h

theorem entry_self : d.entry r e.index = some e := by
  rw [Dev.entry_index h.entry]
  exact h.entry

theorem command {op : Nat} (hop : e.op = op) (hfence : op ≠ 0x16) (err : ReadErr) :
    d.tableCmd r i op (fun e => d.onTable r e err) = d.chCommand r e e.tTable b := by
  unfold Dev.tableCmd
  rw [Dev.withEntry_acts h.on h.entry h.go (by simp [hop]), if_neg (by simp [h.records]), if_neg (by simp [h.fresh, hfence, h.turn]),
    if_neg (by simp [h.permitted])]
  dsimp only
  unfold Dev.onTable
  rw [h.defined]
  exact if_pos h.up

/-- No word is refused. -/
theorem checked : ¬ (!e.tHolds (chNeeds e.op e.tMode (ccKW b))) = true ∧
    ¬ (e.tReserved || e.tAll || e.tWord2Bad || e.tPlen ≠ 0 || e.tMode > modeMax e.op) = true := by
  have hwords := h.words
  exact ⟨by simp [h.holds], by simpa using hwords⟩

theorem insert (hop : e.op = 0x10) : d.chCommand r e e.tTable b = d.chInsert r e e.tTable b := by
  obtain ⟨hholds, hwords⟩ := h.checked
  unfold Dev.chCommand
  dsimp only
  rw [if_neg (by simp [hop]), if_neg hholds, if_neg hwords, if_pos hop]

theorem delete (hop : e.op = 0x11) : d.chCommand r e e.tTable b = d.chDelete r e e.tTable b := by
  obtain ⟨hholds, hwords⟩ := h.checked
  unfold Dev.chCommand
  dsimp only
  rw [if_neg (by simp [hop]), if_neg hholds, if_neg hwords, if_neg (by simp [hop]), if_pos hop]

/-- INSERT of an image that passes its checks: ADD and REPLACE look at whether the index will be valid. -/
theorem chInsert_image {k m : Nat}
    (himg : chImage b (e.tWords (ccKW b)) (some ((List.range (ccKW b)).map fun j => e.tWord (ccKW b + j))) = some (k, m)) :
    d.chInsert r e e.tTable b =
      if e.tMode = 0 ∧ d.chWillBe e.tTable b e.tArg then d.tableStop r e St.exists_
      else if e.tMode = 1 ∧ !d.chWillBe e.tTable b e.tArg then d.tableStop r e St.notFound
      else d.chPush r e b ⟨e.tTable, e.tArg, true, k, m, some (r, i), true⟩ := by
  unfold Dev.chInsert
  dsimp only
  rw [himg, Dev.entry_index h.entry]
  exact if_neg (by have := h.index; omega)

theorem chDelete_eq : d.chDelete r e e.tTable b =
    if !d.chWillBe e.tTable b e.tArg then d.tableStop r e St.notFound
    else d.chPush r e b ⟨e.tTable, e.tArg, false, 0, 0, some (r, i), true⟩ := by
  unfold Dev.chDelete
  dsimp only
  rw [Dev.entry_index h.entry]
  exact if_neg (by have := h.index; omega)

end Dev.ChReady

/-- Command `c`, for entry `e` of ring `r`, finishes with this status, and no update is queued. -/
def State.chStops (s : State) (c : Instr) (r : Nat) (e : Entry) (status : Nat) : Prop :=
  ∃ t, exec c s = .next t ∧ s.dev.finishedAs t.dev r e status 0 ∧ t.dev.chQueues = s.dev.chQueues

section
variable {s : State} {r i : Nat} {e : Entry} {b : List Byte} (h : s.dev.ChReady r i e b)
include h

theorem State.chStops_of_tableStop {c : Instr} {status : Nat} (hexec : exec c s = .next (s.wrote (s.dev.tableStop r e status))) :
    s.chStops c r e status :=
  ⟨_, hexec, (Dev.RingSame.refl _).finish h.entry_self rfl rfl _ _, rfl⟩

theorem exec_tabInsert_cham (hop : e.op = 0x10) : exec (.tabInsert r i) s = .next (s.wrote (s.dev.chInsert r e e.tTable b)) := by
  show execTabInsert r i s = _
  rw [execTabInsert, h.command hop (by decide), h.insert hop]

theorem exec_tabDelete_cham (hop : e.op = 0x11) : exec (.tabDelete r i) s = .next (s.wrote (s.dev.chDelete r e e.tTable b)) := by
  show execTabDelete r i s = _
  rw [execTabDelete, h.command hop (by decide), h.delete hop]

/-- INSERT ADD needs an index that will not be valid, REPLACE one that will be. -/
theorem State.tabInsert_cham {k m : Nat} (hop : e.op = 0x10)
    (himg : chImage b (e.tWords (ccKW b)) (some ((List.range (ccKW b)).map fun j => e.tWord (ccKW b + j))) = some (k, m)) :
    ((e.tMode = 0 → s.dev.chWillBe e.tTable b e.tArg = false) → (e.tMode = 1 → s.dev.chWillBe e.tTable b e.tArg = true) →
      s.chTakes (.tabInsert r i) r i e (chGroup b e.tArg) ⟨e.tTable, e.tArg, true, k, m, some (r, i), true⟩) ∧
    (e.tMode = 0 → s.dev.chWillBe e.tTable b e.tArg = true → s.chStops (.tabInsert r i) r e St.exists_) ∧
    (e.tMode = 1 → s.dev.chWillBe e.tTable b e.tArg = false → s.chStops (.tabInsert r i) r e St.notFound) := by
  have hexec := exec_tabInsert_cham h hop
  rw [h.chInsert_image himg] at hexec
  refine ⟨fun hadd hrepl => ?_, fun hmode hwill => ?_, fun hmode hwill => ?_⟩
  · rw [if_neg fun hx => absurd hx.2 (by simp [hadd hx.1]), if_neg fun hx => absurd hx.2 (by simp [hrepl hx.1])] at hexec
    exact State.chTakes_of_push hexec rfl h.entry h.fresh
  · rw [if_pos ⟨hmode, hwill⟩] at hexec
    exact State.chStops_of_tableStop h hexec
  · rw [if_neg (by simp [hmode]), if_pos ⟨hmode, by simp [hwill]⟩] at hexec
    exact State.chStops_of_tableStop h hexec

/-- DELETE needs an index that will be valid. -/
theorem State.tabDelete_cham (hop : e.op = 0x11) :
    (s.dev.chWillBe e.tTable b e.tArg = true →
      s.chTakes (.tabDelete r i) r i e (chGroup b e.tArg) ⟨e.tTable, e.tArg, false, 0, 0, some (r, i), true⟩) ∧
    (s.dev.chWillBe e.tTable b e.tArg = false → s.chStops (.tabDelete r i) r e St.notFound) := by
  have hexec := exec_tabDelete_cham h hop
  rw [h.chDelete_eq] at hexec
  refine ⟨fun hwill => ?_, fun hwill => ?_⟩
  · rw [if_neg (by simp [hwill])] at hexec
    exact State.chTakes_of_push hexec rfl h.entry h.fresh
  · rw [if_pos (by simp [hwill])] at hexec
    exact State.chStops_of_tableStop h hexec

end

/-! ### CHAMOIS_UPDATE (R223, R229, R240) -/

theorem exec_chamoisUpdate {g : Nat} {s : State} (hr : s.dev.running = true) (h0 : s.dev.lineUp (64 + 2 * g) = true)
    (h1 : s.dev.lineUp (65 + 2 * g) = true) : exec (.chamoisUpdate g) s = .next (s.withDev (s.dev.chUpdate g)) := by
  show execChamoisUpdate g s = _
  unfold execChamoisUpdate
  rw [if_pos (by simp [hr, h0, h1])]
  rfl

/-- A write at an index leaves every place outside the rows of its chain. -/
theorem Dev.chWrite_find_other (d : Dev) (b : List Byte) (i : Nat) (valid : Bool) (key mask : List (BitVec 80)) {k : Nat}
    (h : ∀ x ∈ chainSegs b (i / 4096), k ≠ 4096 * x + i % 4096) : Map.find (d.chWrite b i valid key mask).cham k = Map.find d.cham k := by
  unfold Dev.chWrite
  dsimp only
  refine List.foldlRecOn (motive := fun m => Map.find m k = Map.find d.cham k) _ _ rfl fun m hm x hx => ?_
  have hk := h x.1 (List.of_mem_zip hx).1
  split
  · exact (Map.find_del_other _ _ _ hk).trans hm
  · exact (Map.find_put_other _ _ _ _ hk).trans hm

/-- The device once the oldest update of group `g` has been written and counted, `l` being the rest of its queue. -/
def Dev.chWritten (d : Dev) (g : Nat) (u : ChUpdate) (l : List ChUpdate) (b : List Byte) : Dev :=
  let e := (d.setChQueue g l).chWrite b u.index u.valid (cutParts b u.key) (cutParts b u.mask)
  if u.byCmd then e.count (Reg.AAR_COUNT 2) 1 else e

theorem Dev.chWritten_kept (d : Dev) (g : Nat) (u : ChUpdate) (l : List ChUpdate) (b : List Byte) :
    let e := d.chWritten g u l b
    e.chQueues = (d.setChQueue g l).chQueues ∧ e.cham = (d.chWrite b u.index u.valid (cutParts b u.key) (cutParts b u.mask)).cham ∧
      e.hif = d.hif ∧ e.reg (Reg.AAR_COUNT 2) = (if u.byCmd then d.plus (Reg.AAR_COUNT 2) 1 else d.reg (Reg.AAR_COUNT 2)) ∧ d.regsKept e [Reg.AAR_COUNT 2] := by
  unfold Dev.chWritten
  dsimp only
  split
  · exact ⟨rfl, rfl, rfl, Dev.reg_count _ _ _, fun a ha => Dev.reg_count_other _ _ _ _ (by simpa using ha)⟩
  · exact ⟨rfl, rfl, rfl, rfl, fun _ _ => rfl⟩

theorem Dev.chWritten_ringSame (d : Dev) (g : Nat) (u : ChUpdate) (l : List ChUpdate) (b : List Byte) : d.RingSame (d.chWritten g u l b) := by
  obtain ⟨-, -, hhif, -, hregs⟩ := d.chWritten_kept g u l b
  exact ⟨by rw [hhif], by rw [hhif], fun a ha => hregs a (by simp only [List.mem_singleton, Reg.AAR_COUNT]; omega)⟩

section
variable {d : Dev} {g : Nat} {u : ChUpdate} {l : List ChUpdate} {b : List Byte} (hq : d.chQueue g = u :: l) (hb : d.tblDef u.table = .cham b)
include hq hb

/-- The update whose command still stands finishes it. -/
theorem Dev.chUpdate_finishes {r i : Nat} {e : Entry} (hu : u.cmd = some (r, i)) (he : d.entry r i = some e) :
    d.chUpdate g = (d.chWritten g u l b).finish r e St.ok (BitVec.ofNat 64 u.index) := by
  have hdef : (d.setChQueue g l).tblDef u.table = .cham b := hb
  have hentry : (d.chWritten g u l b).entry r i = some e := ((d.chWritten_ringSame g u l b).entry r i).trans he
  unfold Dev.chWritten at *
  unfold Dev.chUpdate
  simp only [hq, hdef, hu, Option.isSome_some, Bool.and_true, if_true] at hentry ⊢
  rw [hentry]

/-- The update whose command is gone, or that no command caused, finishes nothing. -/
theorem Dev.chUpdate_gone (hu : ∀ r i, u.cmd = some (r, i) → d.entry r i = none) : d.chUpdate g = d.chWritten g u l b := by
  have hdef : (d.setChQueue g l).tblDef u.table = .cham b := hb
  cases hcmd : u.cmd with
  | none =>
    unfold Dev.chUpdate Dev.chWritten
    simp only [hq, hdef, hcmd, Option.isSome_some, Bool.and_true]
  | some x =>
    have hentry : (d.chWritten g u l b).entry x.1 x.2 = none := ((d.chWritten_ringSame g u l b).entry x.1 x.2).trans (hu _ _ hcmd)
    unfold Dev.chWritten at *
    unfold Dev.chUpdate
    simp only [hq, hdef, hcmd, Option.isSome_some, Bool.and_true] at hentry ⊢
    rw [hentry]

/-- CHAMOIS_UPDATE is the write with its count, and beside it the completion of the update's command if that still stands. -/
theorem Dev.chUpdate_cases :
    ((d.chUpdate g).chQueues = (d.chWritten g u l b).chQueues ∧ (d.chUpdate g).cham = (d.chWritten g u l b).cham ∧
      (d.chUpdate g).regs = (d.chWritten g u l b).regs) ∧
    (∀ r i e, u.cmd = some (r, i) → d.entry r i = some e → d.finishedAs (d.chUpdate g) r e St.ok (BitVec.ofNat 64 u.index)) ∧
    (u.cmd = none → (d.chUpdate g).hif = d.hif) := by
  obtain ⟨-, -, hhif, -, -⟩ := d.chWritten_kept g u l b
  by_cases hgone : ∀ r i, u.cmd = some (r, i) → d.entry r i = none
  · rw [Dev.chUpdate_gone hq hb hgone]
    exact ⟨⟨rfl, rfl, rfl⟩, fun r i e hu he => absurd he (by simp [hgone r i hu]), fun _ => hhif⟩
  · push Not at hgone
    obtain ⟨r, i, hu, hne⟩ := hgone
    obtain ⟨e, he⟩ := Option.ne_none_iff_exists'.mp hne
    rw [Dev.chUpdate_finishes hq hb hu he]
    refine ⟨⟨rfl, rfl, rfl⟩, fun r' i' e' hu' he' => ?_, fun hnone => absurd hu (by simp [hnone])⟩
    obtain ⟨rfl, rfl⟩ : r = r' ∧ i = i' := by simpa [hu] using hu'
    obtain rfl : e = e' := by simpa [he] using he'
    exact (d.chWritten_ringSame g u l b).finish (by rw [Dev.entry_index he]; exact he) rfl rfl _ _

end

end Sys2Proof.Machine
end

section
/-! PROOFS. The comparer of Chamois arrays (R224, R230 to R237), and the statement. -/

namespace Sys2Proof.Machine

/-! ### What the comparer's steps leave (R232 to R237) -/

/-- The registers that a sweep, a walk and an event of the arrays may change. -/
def cmpRegs : List Nat := Reg.AAR_CMP_STATUS :: Reg.HIF_COUNT 7 :: eventRegs Reg.AAR_EVENT

/-- The array, the update queues, the fault reports and the time are in `e` as in `d`, every register outside `as` holds what it held, and no event
of the arrays has been cleared. -/
structure Dev.CmpKept (d e : Dev) (as : List Nat) : Prop where
  cham : e.cham = d.cham
  chQueues : e.chQueues = d.chQueues
  flt : e.flt = d.flt
  tim : e.tim = d.tim
  regs : d.regsKept e as
  events : ∀ k, (d.reg Reg.AAR_EVENT).getLsbD k = true → (e.reg Reg.AAR_EVENT).getLsbD k = true

namespace Dev.CmpKept
variable {d e f : Dev} {as bs : List Nat}

theorem refl (d : Dev) (as : List Nat) : d.CmpKept d as := ⟨rfl, rfl, rfl, rfl, .refl d as, fun _ h => h⟩

theorem trans (h : d.CmpKept e as) (k : e.CmpKept f as) : d.CmpKept f as where
  cham := k.cham.trans h.cham
  chQueues := k.chQueues.trans h.chQueues
  flt := k.flt.trans h.flt
  tim := k.tim.trans h.tim
  regs := h.regs.trans k.regs
  events := fun b hb => k.events b (h.events b hb)

theorem mono (h : d.CmpKept e as) (hs : as ⊆ bs) : d.CmpKept e bs := { h with regs := h.regs.mono hs }

/-- The comparer's own position is no part of this. -/
theorem of_cmp {x : Comparer} (h : ({ d with cmp := x } : Dev).CmpKept e as) : d.CmpKept e as :=
  ⟨h.cham, h.chQueues, h.flt, h.tim, h.regs, h.events⟩

end Dev.CmpKept

section
variable (d : Dev)

theorem Dev.setReg_cmpKept {a : Nat} (v : Word) {as : List Nat} (ha : a ∈ as) (he : Reg.AAR_EVENT ≠ a) : d.CmpKept (d.setReg a v) as :=
  ⟨rfl, rfl, rfl, rfl, d.setReg_regsKept v ha, fun _ h => by rwa [d.reg_setReg_other _ _ _ he]⟩

theorem Dev.count_cmpKept {a : Nat} (n : Nat) {as : List Nat} (ha : a ∈ as) (he : Reg.AAR_EVENT ≠ a) : d.CmpKept (d.count a n) as :=
  d.setReg_cmpKept _ ha he

theorem Dev.setFld_cmpKept {a : Nat} (f : Fld) (v : Nat) {as : List Nat} (ha : a ∈ as) (he : Reg.AAR_EVENT ≠ a) : d.CmpKept (d.setFld a f v) as :=
  d.setReg_cmpKept _ ha he

theorem Dev.raise_cmpKept {b : Nat} (hb : b < 64) : d.CmpKept (d.raise 3 b) (eventRegs Reg.AAR_EVENT) where
  cham := d.raise_cham 3 b
  chQueues := d.raise_chQueues 3 b
  flt := d.raise_flt 3 b
  tim := d.raise_tim 3 b
  regs := d.raise_regsKept b evtReg_aar
  events := fun k h => by rw [d.raise_aar_bit hb, h, Bool.or_true]

/-- A sweep that has no table left shows how long it took and raises its event; a table that ends passes the sweep on. -/
theorem Dev.cmpSettle_cmpKept (fuel : Nat) : d.CmpKept (d.cmpSettle fuel) cmpRegs := by
  induction fuel generalizing d with
  | zero => exact .refl d _
  | succ fuel ih =>
    unfold Dev.cmpSettle
    split
    next =>
      split
      next => exact .of_cmp ((Dev.setFld_cmpKept _ _ _ (by decide) (by decide)).trans ((Dev.raise_cmpKept _ (by decide)).mono (by decide)))
      next => exact .refl d _
    next t l _ => exact iteInduction (motive := fun e => d.CmpKept e cmpRegs) (fun _ => .refl d _) fun _ => .of_cmp (ih _)

theorem Dev.cmpNext_cmpKept : d.CmpKept d.cmpNext cmpRegs := .of_cmp (Dev.cmpSettle_cmpKept _ 257)

theorem Dev.cmpShow_cmpKept : d.CmpKept d.cmpShow [Reg.AAR_CMP_STATUS] :=
  ((d.setFld_cmpKept _ _ (by decide) (by decide)).trans (Dev.setFld_cmpKept _ _ _ (by decide) (by decide))).trans
    (Dev.setFld_cmpKept _ _ _ (by decide) (by decide))

/-- A page that is read may be walked to, which is counted, and is then cached. -/
theorem Dev.pageRead_cmpKept (sp iova : Nat) (entries : List (Nat × Option Word)) :
    d.CmpKept (d.pageRead sp iova entries).2 [Reg.HIF_COUNT 7] ∧ (d.pageRead sp iova entries).2.cmp = d.cmp := by
  have hwalk := d.count_cmpKept (a := Reg.HIF_COUNT 7) (as := [Reg.HIF_COUNT 7]) 1 List.mem_cons_self (by decide)
  unfold Dev.pageRead
  dsimp only
  split
  · exact ⟨.refl d _, rfl⟩
  · split
    · exact ⟨.refl d _, rfl⟩
    · split
      · exact ⟨.refl d _, rfl⟩
      · exact ⟨⟨rfl, rfl, rfl, rfl, hwalk.regs, hwalk.events⟩, rfl⟩
      · exact ⟨hwalk, rfl⟩

theorem Dev.shadowPages_cmpKept (sp a n : Nat) (entries : List (Nat × Option Word)) :
    d.CmpKept (d.shadowPages sp a n entries).2 [Reg.HIF_COUNT 7] ∧ (d.shadowPages sp a n entries).2.cmp = d.cmp := by
  obtain ⟨hfirst, hcmp⟩ := d.pageRead_cmpKept sp a entries
  unfold Dev.shadowPages
  split
  next e he =>
    rw [he] at hfirst hcmp
    obtain ⟨hsecond, hcmp'⟩ := e.pageRead_cmpKept sp (a + n - 1) entries
    split
    · exact ⟨hfirst, hcmp⟩
    · exact ⟨hfirst.trans hsecond, hcmp'.trans hcmp⟩
  next => exact ⟨hfirst, hcmp⟩

end

/-! ### Reads from DRAM leave the comparer and its queues (R230, R451) -/

/-- Requests to DRAM change registers, the host interface's messages, channels and answers only. -/
def Dev.RequestOnly (d e : Dev) : Prop := e = { d with regs := e.regs, hif := e.hif, chans := e.chans, answers := e.answers }

theorem Dev.RequestOnly.refl (d : Dev) : d.RequestOnly d := rfl

theorem Dev.RequestOnly.trans {d e f : Dev} (h : d.RequestOnly e) (k : e.RequestOnly f) : d.RequestOnly f := by
  unfold Dev.RequestOnly at *
  rw [k, h]

theorem Dev.accept_requestOnly (d : Dev) (n : Nat) (r : DReq) : d.RequestOnly (d.accept n r) := by
  unfold Dev.accept
  split
  · rfl
  · unfold Dev.acceptRead
    dsimp only
    split <;> rfl

theorem Dev.enterPlaces_requestOnly (d : Dev) (n : Nat) (l left : List DReq) : d.RequestOnly (d.enterPlaces n l left) := by
  induction l generalizing d left with
  | nil => rfl
  | cons r l ih =>
    unfold Dev.enterPlaces
    split
    · exact ih d _
    · exact (d.accept_requestOnly n r).trans (ih _ _)

theorem Dev.dramReq_requestOnly (d : Dev) (cls a : Nat) (data : Option (List Byte)) (owner : Nat) : d.RequestOnly (d.dramReq cls a data owner) := by
  unfold Dev.dramReq
  dsimp only
  split
  · exact .refl d
  · split
    · have hrefuse : d.RequestOnly (d.dramRefuse a) := by
        have honly := (d.count (Reg.DMC_COUNT (dramChan a) 7) 1).raise_messageOnly 12 2
        unfold Dev.MessageOnly at honly
        rw [Dev.dramRefuse, honly]
        rfl
      unfold Dev.answer
      split
      · exact hrefuse
      · exact hrefuse.trans rfl
    · exact Dev.RequestOnly.trans (e := d.setChan _ _) rfl (Dev.enterPlaces_requestOnly _ _ _ _)

theorem Dev.dramRead_requestOnly (d : Dev) (cls a k owner : Nat) : d.RequestOnly (d.dramRead cls a k owner) := by
  unfold Dev.dramRead
  exact List.foldlRecOn (motive := fun e : Dev => d.RequestOnly e) _ _ (.refl d) fun e h x _ => h.trans (e.dramReq_requestOnly cls x none owner)

theorem Dev.RequestOnly.cmp {d e : Dev} (h : d.RequestOnly e) : e.cmp = d.cmp := by rw [h]
theorem Dev.RequestOnly.cham {d e : Dev} (h : d.RequestOnly e) : e.cham = d.cham := by rw [h]
theorem Dev.RequestOnly.chQueues {d e : Dev} (h : d.RequestOnly e) : e.chQueues = d.chQueues := by rw [h]

/-! ### A fetch begins (R230, R232) -/

/-- A fetch of the current index's record is under way. -/
def Dev.fetching (d : Dev) (shadow : Word) (again : Bool) : Dev :=
  { d with pidCtr := d.pidCtr + 1, cmp := { d.cmp with fetch := some ⟨shadow, again, d.pidCtr + 1, false⟩ } }

/-- A record in host memory is asked for without a request. -/
theorem Dev.cmpBegin_host (d : Dev) (b : List Byte) {shadow : Word} (hloc : F.AAR_SHADOW_LOC.of shadow = 0) (again : Bool) :
    d.cmpBegin b shadow again = d.fetching shadow again := if_neg (by rw [hloc]; decide)

/-- The reads of a record in DRAM touch neither the comparer nor the array nor the queues. -/
theorem Dev.cmpBegin_requestOnly (d : Dev) (b : List Byte) (shadow : Word) (again : Bool) :
    (d.fetching shadow again).RequestOnly (d.cmpBegin b shadow again) :=
  iteInduction (motive := (d.fetching shadow again).RequestOnly) (fun _ => Dev.dramRead_requestOnly _ _ _ _ _) fun _ => .refl _

/-! ### COMPARE_INDEX goes on with its index (R232, R237) -/

theorem exec_compareIndex (entries : List (Nat × Option Word)) (data : Option (List Word)) {s : State} (hr : s.dev.running = true) :
    exec (.compareIndex entries data) s = .next (s.withDev (s.dev.compareIndex entries data)) := by
  show execCompareIndex entries data s = _
  unfold execCompareIndex
  rw [if_pos hr]
  rfl

theorem Dev.compareIndex_off {d : Dev} (h : d.bit Reg.AAR_CMP_CTRL F.AAR_CMP_CTRL_EN = false) (entries : List (Nat × Option Word))
    (data : Option (List Word)) : d.compareIndex entries data = d := if_pos (by rw [h]; rfl)

/-- The sweep stands at index `d.cmp.index` of table `n`, whose definition is `b`. -/
structure Dev.SweepAt (d : Dev) (n : Nat) (l : List Nat) (b : List Byte) : Prop where
  on : d.bit Reg.AAR_CMP_CTRL F.AAR_CMP_CTRL_EN = true
  running : d.cmp.running = true
  tables : d.cmp.tables = n :: l
  defined : d.chDef n = some b
  up : d.segsUp b = true
  index : d.cmp.index < ccCapacity b

namespace Dev.SweepAt
variable {d : Dev} {n : Nat} {l : List Nat} {b : List Byte} (h : d.SweepAt n l b) (entries : List (Nat × Option Word)) (data : Option (List Word))
include h

/-- At a new index of a table that is compared the fetch begins. -/
theorem compareIndex_begins (hf : d.cmp.fetch = none) (hen : d.bit (Reg.AAR_SHADOW n) F.AAR_SHADOW_EN = true) :
    d.compareIndex entries data = (d.cmpBegin b (d.reg (Reg.AAR_SHADOW n)) false).cmpShow := by
  have hsettle : d.cmpSettle 257 = d := by
    rw [Dev.cmpSettle, h.tables]
    dsimp only
    rw [h.defined]
    exact if_pos (by simp [hen, h.index])
  have hstep : d.cmpStep entries data = d.cmpBegin b (d.reg (Reg.AAR_SHADOW n)) false := by
    unfold Dev.cmpStep
    rw [h.tables]
    dsimp only
    rw [h.defined, hf]
    exact if_pos h.up
  unfold Dev.compareIndex
  dsimp only
  rw [if_neg (by simp [h.on]), if_pos h.running, if_neg (by simp [hf]), hsettle, hstep]

/-- While the index's record is fetched the record is compared once it is there. -/
theorem compareIndex_compares {f : CmpFetch} (hf : d.cmp.fetch = some f) :
    d.compareIndex entries data = (d.compareAt n b f entries data).cmpShow := by
  have hstep : d.cmpStep entries data = d.compareAt n b f entries data := by
    unfold Dev.cmpStep
    rw [h.tables]
    dsimp only
    rw [h.defined, hf]
    exact if_pos h.up
  unfold Dev.compareIndex
  dsimp only
  rw [if_neg (by simp [h.on]), if_pos h.running, if_pos (by simp [hf]), hstep]

end Dev.SweepAt

/-! ### The record has been read (R232, R234) -/

/-- What the reads of the pages of the current index's shadow record give, and the device after them. -/
def Dev.readPages (d : Dev) (b : List Byte) (f : CmpFetch) (entries : List (Nat × Option Word)) : Option Bool × Dev :=
  d.shadowPages (F.AAR_SHADOW_SPACE.of f.shadow) (shadowAddr f b d.cmp.index) (shadowSize b) entries

/-- The device once they have been read: no fetch is under way. -/
def Dev.shadowRead (d : Dev) (b : List Byte) (f : CmpFetch) (entries : List (Nat × Option Word)) : Dev :=
  { (d.readPages b f entries).2 with cmp := { d.cmp with fetch := none } }

theorem Dev.readPages_cmp (d : Dev) (b : List Byte) (f : CmpFetch) (entries : List (Nat × Option Word)) : (d.readPages b f entries).2.cmp = d.cmp :=
  (d.shadowPages_cmpKept _ _ _ _).2

theorem Dev.shadowRead_cmpKept (d : Dev) (b : List Byte) (f : CmpFetch) (entries : List (Nat × Option Word)) :
    d.CmpKept (d.shadowRead b f entries) [Reg.HIF_COUNT 7] := by
  obtain ⟨hpages, -⟩ := d.shadowPages_cmpKept (F.AAR_SHADOW_SPACE.of f.shadow) (shadowAddr f b d.cmp.index) (shadowSize b) entries
  exact ⟨hpages.cham, hpages.chQueues, hpages.flt, hpages.tim, hpages.regs, hpages.events⟩

/-- A difference rests on the array alone. -/
theorem Dev.shadowDiffers_of_cham {d e : Dev} (h : e.cham = d.cham) (b : List Byte) (i : Nat) (s : Shadow) :
    e.shadowDiffers b i s = d.shadowDiffers b i s := by
  unfold Dev.shadowDiffers Dev.chValid Dev.chKeyMask Dev.chRow Dev.chAt
  rw [h]

section
variable {d : Dev} {n : Nat} {b : List Byte} {f : CmpFetch} {entries : List (Nat × Option Word)}

/-- While a command update is queued for its group the compare waits. -/
theorem Dev.compareAt_waits (hq : (d.chQueue (chGroup b d.cmp.index)).any (·.byCmd) = true) (data : Option (List Word)) :
    d.compareAt n b f entries data = d := if_pos (.inl hq)

section
variable {e : Dev} (hloc : F.AAR_SHADOW_LOC.of f.shadow = 0)
include hloc

theorem Dev.fetchShadow_record (hp : d.readPages b f entries = (some true, e)) (ws : List Word) :
    d.fetchShadow d.cmp.index b f entries (some ws) = (.record (shadowOf b ws), e) := by
  unfold Dev.readPages at hp
  unfold Dev.fetchShadow
  dsimp only
  rw [if_neg (by rw [hloc]; decide), hp]

theorem Dev.fetchShadow_failed {data : Option (List Word)}
    (hp : d.readPages b f entries = (some false, e) ∨ d.readPages b f entries = (some true, e) ∧ data = none) :
    d.fetchShadow d.cmp.index b f entries data = (.failed, e) := by
  unfold Dev.readPages at hp
  unfold Dev.fetchShadow
  dsimp only
  rw [if_neg (by rw [hloc]; decide)]
  rcases hp with hp | ⟨hp, rfl⟩
  · rw [hp]
  · rw [hp]

end

variable (hq : (d.chQueue (chGroup b d.cmp.index)).any (·.byCmd) = false) (hroom : (d.chQueue (chGroup b d.cmp.index)).length < 32)
  (hloc : F.AAR_SHADOW_LOC.of f.shadow = 0)
include hq hroom hloc

/-- A shadow that cannot be read ends the compares of its table. -/
theorem Dev.compareAt_fault {data : Option (List Word)}
    (hp : (d.readPages b f entries).1 = some false ∨ (d.readPages b f entries).1 = some true ∧ data = none) :
    d.compareAt n b f entries data = ((d.shadowRead b f entries).shadowFault n d.cmp.index).cmpSettle 257 := by
  have hfetch := Dev.fetchShadow_failed (b := b) (entries := entries) (e := (d.readPages b f entries).2) hloc
    (hp.imp (Prod.ext · rfl) fun h => ⟨Prod.ext h.1 rfl, h.2⟩)
  unfold Dev.compareAt
  dsimp only
  rw [if_neg (by simp [hq, hroom]), hfetch]
  dsimp only
  rw [d.readPages_cmp]
  rfl

/-- A record that has been read is judged. -/
theorem Dev.compareAt_record (hp : (d.readPages b f entries).1 = some true) (ws : List Word) :
    d.compareAt n b f entries (some ws) =
      let e := d.shadowRead b f entries
      if f.raced then (e.count (Reg.AAR_COUNT 5) 1).cmpNext
      else if f.again then
        (if d.shadowDiffers b d.cmp.index (shadowOf b ws) then e.cmpMismatch n d.cmp.index b (shadowOf b ws) else e).cmpNext
      else if d.shadowDiffers b d.cmp.index (shadowOf b ws) then (e.count (Reg.AAR_COUNT 4) 1).cmpBegin b f.shadow true
      else (e.count (Reg.AAR_COUNT 4) 1).cmpNext := by
  have hfetch := Dev.fetchShadow_record (b := b) (entries := entries) (e := (d.readPages b f entries).2) hloc (Prod.ext hp rfl) ws
  rw [← Dev.shadowDiffers_of_cham (d.shadowRead_cmpKept b f entries).cham]
  unfold Dev.compareAt
  dsimp only
  rw [if_neg (by simp [hq, hroom]), hfetch]
  dsimp only
  rw [d.readPages_cmp]
  rfl

end

end Sys2Proof.Machine
end

section
/-! PROOFS. The verdicts of the comparer (R231 to R235, R237), and the statement of Chamois arrays. -/

namespace Sys2Proof.Machine

/-! ### Counts, and what AAR_CMP_LAST shows (R233, R550) -/

/-- Updates that touch neither a counter nor what the comparer keeps leave one more in it than there was. -/
theorem Dev.CmpKept.counted {d e f : Dev} {a : Nat} (h : d.CmpKept e cmpRegs) (ha : a ∉ cmpRegs) (k : (e.count a 1).CmpKept f cmpRegs) :
    d.CmpKept f (a :: cmpRegs) ∧ f.reg a = d.plus a 1 := by
  have hevent : Reg.AAR_EVENT ≠ a := fun he => ha (he ▸ by decide)
  have hcount := (h.mono (List.subset_cons_self a cmpRegs)).trans (e.count_cmpKept 1 List.mem_cons_self hevent)
  refine ⟨hcount.trans (k.mono (List.subset_cons_self _ _)), ?_⟩
  exact (k.regs a ha).trans (h.regs.count ha 1)

/-- AAR_CMP_LAST shows index `i` of table `n` with this KIND. -/
def Dev.lastShows (d : Dev) (n i kind : Nat) : Prop :=
  d.fld Reg.AAR_CMP_LAST F.AAR_CMP_LAST_TABLE = n ∧ d.fld Reg.AAR_CMP_LAST F.AAR_CMP_LAST_INDEX = i % 2 ^ F.AAR_CMP_LAST_INDEX.w ∧
  d.fld Reg.AAR_CMP_LAST F.AAR_CMP_LAST_KIND = kind ∧ d.fld Reg.AAR_CMP_LAST F.AAR_CMP_LAST_VALID = 1

theorem Dev.lastShows_of_reg {d : Dev} {n i kind : Nat} (h : d.reg Reg.AAR_CMP_LAST = cmpLast n i kind) (hn : n < 256) (hk : kind < 4) :
    d.lastShows n i kind := by
  unfold Dev.lastShows Dev.fld
  rw [h, cmpLast]
  refine ⟨?_, ?_, ?_, Fld.of_put_same _ _ _ (by decide)⟩
  · rw [Fld.of_put_apart _ _ (by decide), Fld.of_put_apart _ _ (by decide), Fld.of_put_apart _ _ (by decide), Fld.of_put_same _ _ _ (by decide)]
    exact Nat.mod_eq_of_lt hn
  · rw [Fld.of_put_apart _ _ (by decide), Fld.of_put_apart _ _ (by decide), Fld.of_put_same _ _ _ (by decide)]
  · rw [Fld.of_put_apart _ _ (by decide), Fld.of_put_same _ _ _ (by decide)]
    exact Nat.mod_eq_of_lt hk

/-- The comparer goes on to its next index, and its status follows. -/
theorem Dev.cmpNext_shown (d : Dev) : d.CmpKept d.cmpNext.cmpShow cmpRegs := d.cmpNext_cmpKept.trans (d.cmpNext.cmpShow_cmpKept.mono (by decide))

/-! ### A confirmed mismatch (R233) -/

/-- The device once a confirmed mismatch has been counted and recorded with its event. -/
def Dev.mismatchNoted (d : Dev) (n i kind : Nat) : Dev :=
  ((d.count (Reg.AAR_COUNT 6) 1).setReg Reg.AAR_CMP_LAST (cmpLast n i kind)).raise 3 0

/-- The registers that a confirmed mismatch may change, the next index included. -/
def mismatchRegs : List Nat := Reg.AAR_COUNT 6 :: Reg.AAR_CMP_LAST :: cmpRegs

theorem Dev.CmpKept.mismatchNoted {d e : Dev} (h : d.CmpKept e cmpRegs) (n i kind : Nat) :
    d.CmpKept (e.mismatchNoted n i kind) mismatchRegs ∧ (e.mismatchNoted n i kind).reg (Reg.AAR_COUNT 6) = d.plus (Reg.AAR_COUNT 6) 1 ∧
      (e.mismatchNoted n i kind).reg Reg.AAR_CMP_LAST = cmpLast n i kind ∧
      ((e.mismatchNoted n i kind).reg Reg.AAR_EVENT).getLsbD 0 = true := by
  unfold Dev.mismatchNoted
  refine ⟨?_, ?_, ?_, ?_⟩
  · have hcount := (h.mono (bs := mismatchRegs) (by decide)).trans (e.count_cmpKept (a := Reg.AAR_COUNT 6) 1 (by decide) (by decide))
    have hlast := hcount.trans (Dev.setReg_cmpKept _ (a := Reg.AAR_CMP_LAST) (cmpLast n i kind) (by decide) (by decide))
    exact hlast.trans ((Dev.raise_cmpKept _ (by decide)).mono (by decide))
  · rw [Dev.raise_aar_reg _ _ (by decide), Dev.reg_setReg_other _ _ _ _ (by decide)]
    exact h.regs.count (by decide) 1
  · rw [Dev.raise_aar_reg _ _ (by decide), Dev.reg_setReg_same]
  · rw [Dev.raise_aar_bit _ (by decide)]
    rfl

/-- The fault line of the segments that index `i` lies in. -/
def chLine (b : List Byte) (i : Nat) : Nat := 64 + (chainSegs b (i / 4096)).headD 0 / 4

/-- The queue of the index's group with the repair that a mismatch asks for, counted with its event. -/
def Dev.repaired (d : Dev) (n i : Nat) (b : List Byte) (x : Shadow) : Dev :=
  ((d.setChQueue (chGroup b i) (d.chQueue (chGroup b i) ++ [⟨n, i, x.valid, x.key, x.mask, none, false⟩])).count (Reg.AAR_COUNT 7) 1).raise 3 1

theorem Dev.repaired_spec (d : Dev) (n i : Nat) (b : List Byte) (x : Shadow) :
    let e := d.repaired n i b x
    e.chQueue (chGroup b i) = d.chQueue (chGroup b i) ++ [⟨n, i, x.valid, x.key, x.mask, none, false⟩] ∧ e.cham = d.cham ∧ e.flt = d.flt ∧
      e.tim = d.tim ∧ e.reg (Reg.AAR_COUNT 7) = d.plus (Reg.AAR_COUNT 7) 1 ∧ d.regsKept e (Reg.AAR_COUNT 7 :: cmpRegs) := by
  intro e
  obtain ⟨y, hy⟩ : ∃ y, d.setChQueue (chGroup b i) (d.chQueue (chGroup b i) ++ [⟨n, i, x.valid, x.key, x.mask, none, false⟩]) = y := ⟨_, rfl⟩
  have hcount := (y.count_cmpKept (a := Reg.AAR_COUNT 7) (as := Reg.AAR_COUNT 7 :: cmpRegs) 1 (by decide) (by decide)).trans
    ((Dev.raise_cmpKept _ (b := 1) (by decide)).mono (by decide))
  have he : e = (y.count (Reg.AAR_COUNT 7) 1).raise 3 1 := by rw [← hy]; rfl
  rw [he]
  refine ⟨?_, hcount.cham.trans (hy ▸ rfl), hcount.flt.trans (hy ▸ rfl), hcount.tim.trans (hy ▸ rfl), ?_, ?_⟩
  · rw [Dev.chQueue_of_chQueues hcount.chQueues, ← hy, Dev.chQueue_setChQueue]
  · rw [Dev.raise_aar_reg _ _ (by decide), Dev.reg_count, ← hy]
    rfl
  · exact (Dev.regsKept_of_regs (hy ▸ rfl) _).trans hcount.regs

section
variable {d e : Dev} (n i : Nat) (b : List Byte) (x : Shadow) (h : d.CmpKept e cmpRegs)
include h

/-- Without REPAIR a mismatch is reported as class U. -/
theorem Dev.cmpMismatch_reports (hrep : d.bit Reg.AAR_CMP_CTRL F.AAR_CMP_CTRL_REPAIR = false) :
    e.cmpMismatch n i b x = (e.mismatchNoted n i 0).report (chLine b i) 2 false := by
  have hbit : e.bit Reg.AAR_CMP_CTRL F.AAR_CMP_CTRL_REPAIR = false := (Dev.bit_of_reg (h.regs _ (by decide)) _).trans hrep
  unfold Dev.cmpMismatch
  dsimp only
  rw [hbit]
  rfl

/-- With REPAIR it is repaired and reported as class C. -/
theorem Dev.cmpMismatch_repairs (hrep : d.bit Reg.AAR_CMP_CTRL F.AAR_CMP_CTRL_REPAIR = true) :
    e.cmpMismatch n i b x = ((e.mismatchNoted n i 1).repaired n i b x).report (chLine b i) 1 false := by
  have hbit : e.bit Reg.AAR_CMP_CTRL F.AAR_CMP_CTRL_REPAIR = true := (Dev.bit_of_reg (h.regs _ (by decide)) _).trans hrep
  unfold Dev.cmpMismatch
  dsimp only
  rw [hbit]
  rfl

end

/-! ### A shadow that cannot be read (R234) -/

theorem Dev.CmpKept.shadowFault {d e : Dev} (h : d.CmpKept e cmpRegs) {n : Nat} (hn : n < 256) (i : Nat) {f : Dev}
    (k : (e.shadowFault n i).CmpKept f cmpRegs) :
    f.cham = d.cham ∧ f.bit (Reg.AAR_SHADOW n) F.AAR_SHADOW_EN = false ∧ f.reg (Reg.AAR_COUNT 8) = d.plus (Reg.AAR_COUNT 8) 1 ∧
      f.reg Reg.AAR_CMP_LAST = cmpLast n i 2 ∧ (f.reg Reg.AAR_EVENT).getLsbD 2 = true := by
  obtain ⟨x, hx⟩ : ∃ x, (e.setFld (Reg.AAR_SHADOW n) F.AAR_SHADOW_EN 0).setReg Reg.AAR_CMP_LAST (cmpLast n i 2) = x := ⟨_, rfl⟩
  have hfault : e.shadowFault n i = (x.count (Reg.AAR_COUNT 8) 1).raise 3 2 := by rw [← hx]; rfl
  have hshadow : Reg.AAR_SHADOW n ∉ Reg.AAR_COUNT 8 :: cmpRegs := by
    simp only [cmpRegs, eventRegs, List.mem_cons, List.not_mem_nil, or_false, Reg.AAR_SHADOW, Reg.AAR_COUNT, Reg.AAR_CMP_STATUS, Reg.HIF_COUNT,
      Reg.AAR_EVENT, Reg.SYS_MSIX_PBA]
    omega
  have hcount8 : Reg.AAR_COUNT 8 ≠ Reg.AAR_SHADOW n := fun he => hshadow (he ▸ List.mem_cons_self)
  have hlast : Reg.AAR_SHADOW n ≠ Reg.AAR_CMP_LAST := by
    simp only [Reg.AAR_SHADOW, Reg.AAR_CMP_LAST]
    omega
  have hkept : x.CmpKept f (Reg.AAR_COUNT 8 :: cmpRegs) :=
    ((x.count_cmpKept 1 (by decide) (by decide)).trans ((Dev.raise_cmpKept _ (b := 2) (by decide)).mono (by decide))).trans
      ((hfault ▸ k).mono (by decide))
  refine ⟨?_, ?_, ?_, ?_, ?_⟩
  · exact hkept.cham.trans ((hx ▸ rfl : x.cham = e.cham).trans h.cham)
  · refine Dev.bit_of_fld (n := 0) ((Dev.fld_of_reg (hkept.regs _ hshadow) _).trans ?_)
    rw [← hx, Dev.fld_setReg_other _ _ hlast, Dev.fld_setFld_same _ _ _ (by decide)]
    rfl
  · rw [k.regs _ (by decide), hfault, Dev.raise_aar_reg _ _ (by decide), Dev.reg_count, Dev.plus, ← hx, Dev.reg_setReg_other _ _ _ _ (by decide),
      Dev.reg_setFld_other _ _ _ _ _ hcount8, h.regs _ (by decide)]
    rfl
  · rw [hkept.regs _ (by decide), ← hx, Dev.reg_setReg_same]
  · refine k.events 2 ?_
    rw [hfault, Dev.raise_aar_bit _ (by decide)]
    rfl

/-! ### CMP_RESTART (R235) -/

theorem exec_cmpRestart {s : State} (hr : s.dev.running = true) (ho : s.dev.accessOpen Reg.AAR_CMP_CTRL = true) :
    exec .cmpRestart s = .next (s.withDev s.dev.cmpAgain) := by
  show execCmpRestart s = _
  rw [execCmpRestart, Dev.access_running _ _ _ hr ho]
  rfl

/-- A new sweep compares all tables, from the first index of the lowest on. -/
theorem Dev.cmpStart_all (d : Dev) :
    (d.cmpStart fun _ => false).cmp = ⟨true, (List.range 256).filter d.cmpOn, 0, d.free, none⟩ ∧ (d.cmpStart fun _ => false).cham = d.cham ∧
      (d.cmpStart fun _ => false).regs = d.regs := by
  unfold Dev.cmpStart
  cases d.cmp.fetch with
  | none => simp
  | some f => simp [Dev.takeAnswers, Dev.free]

theorem Dev.cmpAgain_off {d : Dev} (h : d.bit Reg.AAR_CMP_CTRL F.AAR_CMP_CTRL_EN = false) : d.cmpAgain = d := if_neg (by rw [h]; decide)

theorem Dev.cmpAgain_on {d : Dev} (h : d.bit Reg.AAR_CMP_CTRL F.AAR_CMP_CTRL_EN = true) : d.cmpAgain = (d.cmpStart fun _ => false).cmpShow := if_pos h

/-! ### The verdict on the current index (R224, R232 to R234, R237) -/

theorem Dev.fetching_cmpKept (d : Dev) (shadow : Word) (again : Bool) (as : List Nat) : d.CmpKept (d.fetching shadow again) as :=
  ⟨rfl, rfl, rfl, rfl, fun _ _ => rfl, fun _ h => h⟩

section
variable {d : Dev} (n : Nat) {b : List Byte} {f : CmpFetch} {entries : List (Nat × Option Word)}
  (hq : (d.chQueue (chGroup b d.cmp.index)).any (·.byCmd) = false) (hroom : (d.chQueue (chGroup b d.cmp.index)).length < 32)
  (hloc : F.AAR_SHADOW_LOC.of f.shadow = 0)
include hq hroom hloc

section
variable (hp : (d.readPages b f entries).1 = some true) (ws : List Word)
include hp

/-- An index for which a command update was accepted meanwhile is only counted. -/
theorem Dev.compareAt_raced (hraced : f.raced = true) :
    let e := (d.compareAt n b f entries (some ws)).cmpShow
    d.CmpKept e (Reg.AAR_COUNT 5 :: cmpRegs) ∧ e.reg (Reg.AAR_COUNT 5) = d.plus (Reg.AAR_COUNT 5) 1 := by
  have hread := (d.shadowRead_cmpKept b f entries).mono (bs := cmpRegs) (by decide)
  rw [Dev.compareAt_record hq hroom hloc hp]
  dsimp only
  rw [if_pos hraced]
  exact hread.counted (by decide) (Dev.cmpNext_shown _)

/-- A record that agrees counts its index. -/
theorem Dev.compareAt_agrees (hraced : f.raced = false) (hagain : f.again = false)
    (hdiff : d.shadowDiffers b d.cmp.index (shadowOf b ws) = false) :
    let e := (d.compareAt n b f entries (some ws)).cmpShow
    d.CmpKept e (Reg.AAR_COUNT 4 :: cmpRegs) ∧ e.reg (Reg.AAR_COUNT 4) = d.plus (Reg.AAR_COUNT 4) 1 := by
  have hread := (d.shadowRead_cmpKept b f entries).mono (bs := cmpRegs) (by decide)
  rw [Dev.compareAt_record hq hroom hloc hp]
  dsimp only
  rw [if_neg (by simp [hraced]), if_neg (by simp [hagain]), if_neg (by simp [hdiff])]
  exact hread.counted (by decide) (Dev.cmpNext_shown _)

/-- A record that differs counts its index and is fetched again. -/
theorem Dev.compareAt_refetches (hraced : f.raced = false) (hagain : f.again = false)
    (hdiff : d.shadowDiffers b d.cmp.index (shadowOf b ws) = true) :
    let e := (d.compareAt n b f entries (some ws)).cmpShow
    (d.CmpKept e (Reg.AAR_COUNT 4 :: cmpRegs) ∧ e.reg (Reg.AAR_COUNT 4) = d.plus (Reg.AAR_COUNT 4) 1) ∧
      ∃ tag, e.cmp = { d.cmp with fetch := some ⟨f.shadow, true, tag, false⟩ } := by
  have hread := (d.shadowRead_cmpKept b f entries).mono (bs := cmpRegs) (by decide)
  rw [Dev.compareAt_record hq hroom hloc hp]
  dsimp only
  rw [if_neg (by simp [hraced]), if_neg (by simp [hagain]), if_pos hdiff, Dev.cmpBegin_host _ _ hloc]
  exact ⟨hread.counted (by decide) ((Dev.fetching_cmpKept _ _ _ _).trans ((Dev.cmpShow_cmpKept _).mono (by decide))), _, rfl⟩

/-- A record that still differs is a confirmed mismatch. -/
theorem Dev.compareAt_mismatches (hraced : f.raced = false) (hagain : f.again = true)
    (hdiff : d.shadowDiffers b d.cmp.index (shadowOf b ws) = true) :
    d.compareAt n b f entries (some ws) = ((d.shadowRead b f entries).cmpMismatch n d.cmp.index b (shadowOf b ws)).cmpNext := by
  rw [Dev.compareAt_record hq hroom hloc hp]
  dsimp only
  rw [if_neg (by simp [hraced]), if_pos hagain, if_pos hdiff]

/-- Without REPAIR it is counted, recorded and reported as class U. -/
theorem Dev.compareAt_reports (hn : n < 256) (hraced : f.raced = false) (hagain : f.again = true)
    (hdiff : d.shadowDiffers b d.cmp.index (shadowOf b ws) = true) (hrep : d.bit Reg.AAR_CMP_CTRL F.AAR_CMP_CTRL_REPAIR = false) :
    let e := (d.compareAt n b f entries (some ws)).cmpShow
    e.cham = d.cham ∧ e.chQueues = d.chQueues ∧ e.reg (Reg.AAR_COUNT 6) = d.plus (Reg.AAR_COUNT 6) 1 ∧ e.lastShows n d.cmp.index 0 ∧
      (e.reg Reg.AAR_EVENT).getLsbD 0 = true ∧ e.flt.queue = d.flt.queue ++ [⟨chLine b d.cmp.index, 2, false, false, d.free⟩] := by
  have hread := (d.shadowRead_cmpKept b f entries).mono (bs := cmpRegs) (by decide)
  obtain ⟨hnoted, hcount, hlast, hevent⟩ := hread.mismatchNoted n d.cmp.index 0
  rw [Dev.compareAt_mismatches n hq hroom hloc hp ws hraced hagain hdiff, Dev.cmpMismatch_reports n _ b _ hread hrep]
  have hnext := Dev.cmpNext_shown (((d.shadowRead b f entries).mismatchNoted n d.cmp.index 0).report (chLine b d.cmp.index) 2 false)
  refine ⟨hnext.cham.trans hnoted.cham, hnext.chQueues.trans hnoted.chQueues, (hnext.regs _ (by decide)).trans hcount,
    Dev.lastShows_of_reg ((hnext.regs _ (by decide)).trans hlast) hn (by decide), hnext.events 0 hevent, ?_⟩
  rw [hnext.flt, Dev.report, Dev.free, Dev.free, hnoted.flt, hnoted.tim]

/-- With REPAIR it is counted, recorded, queued as an update, counted as such and reported as class C. -/
theorem Dev.compareAt_repairs (hn : n < 256) (hraced : f.raced = false) (hagain : f.again = true)
    (hdiff : d.shadowDiffers b d.cmp.index (shadowOf b ws) = true) (hrep : d.bit Reg.AAR_CMP_CTRL F.AAR_CMP_CTRL_REPAIR = true) :
    let e := (d.compareAt n b f entries (some ws)).cmpShow
    let x := shadowOf b ws
    e.cham = d.cham ∧
      e.chQueue (chGroup b d.cmp.index) = d.chQueue (chGroup b d.cmp.index) ++ [⟨n, d.cmp.index, x.valid, x.key, x.mask, none, false⟩] ∧
      e.reg (Reg.AAR_COUNT 6) = d.plus (Reg.AAR_COUNT 6) 1 ∧ e.reg (Reg.AAR_COUNT 7) = d.plus (Reg.AAR_COUNT 7) 1 ∧
      e.lastShows n d.cmp.index 1 ∧ e.flt.queue = d.flt.queue ++ [⟨chLine b d.cmp.index, 1, false, false, d.free⟩] := by
  have hread := (d.shadowRead_cmpKept b f entries).mono (bs := cmpRegs) (by decide)
  obtain ⟨hnoted, hcount, hlast, -⟩ := hread.mismatchNoted n d.cmp.index 1
  obtain ⟨y, hy⟩ : ∃ y, (d.shadowRead b f entries).mismatchNoted n d.cmp.index 1 = y := ⟨_, rfl⟩
  rw [Dev.compareAt_mismatches n hq hroom hloc hp ws hraced hagain hdiff, Dev.cmpMismatch_repairs n _ b _ hread hrep, hy]
  rw [hy] at hnoted hcount hlast
  obtain ⟨hqueue, hcham, hflt, htim, hrepairs, hregs⟩ := y.repaired_spec n d.cmp.index b (shadowOf b ws)
  have hnext := Dev.cmpNext_shown ((y.repaired n d.cmp.index b (shadowOf b ws)).report (chLine b d.cmp.index) 1 false)
  refine ⟨hnext.cham.trans (hcham.trans hnoted.cham), ?_, (hnext.regs _ (by decide)).trans ((hregs _ (by decide)).trans hcount), ?_,
    Dev.lastShows_of_reg ((hnext.regs _ (by decide)).trans ((hregs _ (by decide)).trans hlast)) hn (by decide), ?_⟩
  · rw [Dev.chQueue_of_chQueues hnext.chQueues, ← Dev.chQueue_of_chQueues hnoted.chQueues]
    exact hqueue
  · rw [hnext.regs _ (by decide), Dev.plus, ← hnoted.regs _ (by decide)]
    exact hrepairs
  · rw [hnext.flt, Dev.report, Dev.free, Dev.free, hflt, htim, hnoted.flt, hnoted.tim]

end

/-- A shadow that cannot be read turns its table's EN off, is counted and recorded. -/
theorem Dev.compareAt_faults (hn : n < 256) {data : Option (List Word)}
    (hp : (d.readPages b f entries).1 = some false ∨ (d.readPages b f entries).1 = some true ∧ data = none) :
    let e := (d.compareAt n b f entries data).cmpShow
    e.cham = d.cham ∧ e.bit (Reg.AAR_SHADOW n) F.AAR_SHADOW_EN = false ∧ e.reg (Reg.AAR_COUNT 8) = d.plus (Reg.AAR_COUNT 8) 1 ∧
      e.lastShows n d.cmp.index 2 ∧ (e.reg Reg.AAR_EVENT).getLsbD 2 = true := by
  have hread := (d.shadowRead_cmpKept b f entries).mono (bs := cmpRegs) (by decide)
  rw [Dev.compareAt_fault hq hroom hloc hp]
  obtain ⟨hcham, hbit, hcount, hlast, hevent⟩ := hread.shadowFault hn d.cmp.index
    ((Dev.cmpSettle_cmpKept _ 257).trans ((Dev.cmpShow_cmpKept _).mono (by decide)))
  exact ⟨hcham, hbit, hcount, Dev.lastShows_of_reg hlast hn (by decide), hevent⟩

end

/-! ### The statement -/

/-- Settles O34: what a command finds of its index and its queue, the write of the oldest update, and the verdict of the comparer case by case. -/
theorem chamoisArrays : Obligations.ChamoisArrays := by
  unfold Obligations.ChamoisArrays
  refine ⟨fun r i k m e b s hon he hgo hrec hst hturn hen hdef hup hholds hwords hidx => ?_, fun g u l b s hr h0 h1 hq hb => ?_,
    fun entries data s hr => ?_⟩
  · intro q will takes stops
    have hready : s.dev.ChReady r i e b := ⟨hon, he, hgo, hrec, hst, hturn, hen, hdef, hup, hholds, hwords, hidx⟩
    exact ⟨fun hop himg => State.tabInsert_cham hready hop himg, fun hop => State.tabDelete_cham hready hop⟩
  · obtain ⟨hqueues, hcham, -, hcount, hregs⟩ := s.dev.chWritten_kept g u l b
    obtain ⟨⟨hsameQueues, hsameCham, hsameRegs⟩, hfinishes, hnone⟩ := Dev.chUpdate_cases hq hb
    have hqueue := Dev.chQueue_of_chQueues (hsameQueues.trans hqueues)
    have hreg : ∀ a, (s.dev.chUpdate g).reg a = (s.dev.chWritten g u l b).reg a := fun a => Dev.regsKept_of_regs hsameRegs [] a (by simp)
    have harray := hsameCham.trans hcham
    exact ⟨_, exec_chamoisUpdate hr h0 h1, (hqueue g).trans (s.dev.chQueue_setChQueue g l),
      fun k hk => (hqueue k).trans (s.dev.chQueue_setChQueue_other l hk), harray,
      fun k hk => (congrArg (Map.find · k) harray).trans (s.dev.chWrite_find_other b u.index u.valid _ _ hk), hfinishes, hnone,
      (hreg _).trans hcount, fun a ha => (hreg a).trans (hregs a ha)⟩
  · intro runs
    have hexec := exec_compareIndex entries data hr
    refine ⟨fun hoff => ?_, fun n l b hon hrun htab hn hdef hup hidx => ?_, fun ho => ⟨fun hoff => ?_, fun hon => ?_⟩⟩
    · rw [hexec, Dev.compareIndex_off hoff]
      rfl
    · intro i q last
      have hsweep : s.dev.SweepAt n l b := ⟨hon, hrun, htab, hdef, hup, hidx⟩
      refine ⟨fun hf hen => ?_, fun f hf hloc => ?_⟩
      · have hbegin := s.dev.cmpBegin_requestOnly b (s.dev.reg (Reg.AAR_SHADOW n)) false
        rw [hsweep.compareIndex_begins entries data hf hen] at hexec
        exact ⟨_, ⟨hexec, hbegin.cham⟩, hbegin.cmp, hbegin.chQueues⟩
      · intro pages
        rw [hsweep.compareIndex_compares entries data hf] at hexec
        refine ⟨fun hq => ?_, fun hq hroom => ⟨fun ws hp hws => ?_, fun hp => ?_⟩⟩
        · rw [Dev.compareAt_waits hq] at hexec
          have hshow := s.dev.cmpShow_cmpKept
          exact ⟨_, ⟨hexec, hshow.cham⟩, rfl, hshow.chQueues, hshow.regs _ (by decide)⟩
        · subst hws
          intro differs
          refine ⟨fun hraced => ?_, fun hraced hagain hdiff => ?_, fun hraced hagain hdiff => ?_, fun hraced hagain hdiff hrep => ?_,
            fun hraced hagain hdiff hrep => ?_⟩
          · obtain ⟨hkept, hcount⟩ := Dev.compareAt_raced n hq hroom hloc hp ws hraced
            exact ⟨_, ⟨hexec, hkept.cham⟩, hcount, hkept.regs _ (by decide), congrArg Restarts.queue hkept.flt, hkept.chQueues⟩
          · obtain ⟨hkept, hcount⟩ := Dev.compareAt_agrees n hq hroom hloc hp ws hraced hagain hdiff
            exact ⟨_, ⟨hexec, hkept.cham⟩, hkept.chQueues, hcount, congrArg Restarts.queue hkept.flt⟩
          · obtain ⟨⟨hkept, hcount⟩, tag, hcmp⟩ := Dev.compareAt_refetches n hq hroom hloc hp ws hraced hagain hdiff
            exact ⟨_, _, ⟨hexec, hkept.cham⟩, hkept.chQueues, hcount, congrArg Restarts.queue hkept.flt, hcmp, rfl, rfl, rfl⟩
          · obtain ⟨hcham, hreports⟩ := Dev.compareAt_reports n hq hroom hloc hp ws hn hraced hagain hdiff hrep
            exact ⟨_, ⟨hexec, hcham⟩, hreports⟩
          · obtain ⟨hcham, hrepairs⟩ := Dev.compareAt_repairs n hq hroom hloc hp ws hn hraced hagain hdiff hrep
            exact ⟨_, ⟨hexec, hcham⟩, hrepairs⟩
        · obtain ⟨hcham, hfaults⟩ := Dev.compareAt_faults n hq hroom hloc hn hp
          exact ⟨_, ⟨hexec, hcham⟩, hfaults⟩
    · rw [exec_cmpRestart hr ho, Dev.cmpAgain_off hoff]
      rfl
    · obtain ⟨hcmp, hcham, hregs⟩ := s.dev.cmpStart_all
      have hexec := exec_cmpRestart hr ho
      rw [Dev.cmpAgain_on hon] at hexec
      have hshow := (s.dev.cmpStart fun _ => false).cmpShow_cmpKept
      exact ⟨_, hexec, hcmp, hshow.cham.trans hcham, (Dev.regsKept_of_regs hregs _).trans hshow.regs⟩

end Sys2Proof.Machine
end

section
/-! PROOFS. What the statements about the power manager rest on: its counters and events, the trims of regions and the voltages of rails, and the
limits within which they are commanded (R416, R422). -/

namespace Sys2Proof.Machine

/-! ### Counters and events of the power manager (R521, R550) -/

/-- The registers that a count of the power manager with its event may change. -/
def powerNotes (n : Nat) : List Nat := Reg.PWR_COUNT n :: eventRegs Reg.PWR_EVENT

theorem mem_powerNotes {n a : Nat} :
    a ∈ powerNotes n ↔ a = Reg.PWR_COUNT n ∨ a = Reg.PWR_EVENT ∨ a = Reg.HIF_COUNT 13 ∨ a = Reg.SYS_MSIX_PBA 0 ∨ a = Reg.SYS_MSIX_PBA 1 := by
  simp only [powerNotes, eventRegs, List.mem_cons, List.not_mem_nil, or_false]

theorem Dev.raise_power_regsKept (d : Dev) (b n : Nat) : d.regsKept (d.raise 11 b) (powerNotes n) :=
  (d.raise_regsKept b rfl).mono (List.subset_cons_self ..)

theorem Dev.raise_power_bit (d : Dev) {b : Nat} (hb : b < 64) : ((d.raise 11 b).reg Reg.PWR_EVENT).getLsbD b = true :=
  d.raise_reg_bit rfl hb (by decide) (by decide) (by decide)

theorem Dev.count_raise_power_regsKept (d : Dev) (n b : Nat) : d.regsKept ((d.count (Reg.PWR_COUNT n) 1).raise 11 b) (powerNotes n) :=
  (d.count_regsKept 1 List.mem_cons_self).trans (Dev.raise_power_regsKept _ b n)

theorem Dev.count_raise_power_count (d : Dev) {n : Nat} (b : Nat) (hn : n < 16) :
    ((d.count (Reg.PWR_COUNT n) 1).raise 11 b).reg (Reg.PWR_COUNT n) = d.plus (Reg.PWR_COUNT n) 1 := by
  rw [Dev.raise_regsKept _ b (a := Reg.PWR_EVENT) rfl, Dev.reg_count]
  simp only [eventRegs, List.mem_cons, List.not_mem_nil, or_false, Reg.PWR_COUNT, Reg.PWR_EVENT, Reg.HIF_COUNT, Reg.SYS_MSIX_PBA]
  omega

theorem Reg.PWR_REGION_quiet {g n : Nat} (hg : g < 512) (hn : n < 16) : Reg.PWR_REGION g ∉ powerNotes n := by
  simp only [mem_powerNotes, Reg.PWR_REGION, Reg.PWR_COUNT, Reg.PWR_EVENT, Reg.HIF_COUNT, Reg.SYS_MSIX_PBA]
  omega

theorem Reg.PWR_RAIL_quiet {k n : Nat} (hk : k < 6) : Reg.PWR_RAIL k ∉ powerNotes n := by
  simp only [mem_powerNotes, Reg.PWR_RAIL, Reg.PWR_COUNT, Reg.PWR_EVENT, Reg.HIF_COUNT, Reg.SYS_MSIX_PBA]
  omega

theorem Reg.PWR_RAIL_STAT_quiet {k n : Nat} (hk : k < 6) : Reg.PWR_RAIL_STAT k ∉ powerNotes n := by
  simp only [mem_powerNotes, Reg.PWR_RAIL_STAT, Reg.PWR_COUNT, Reg.PWR_EVENT, Reg.HIF_COUNT, Reg.SYS_MSIX_PBA]
  omega

/-- Commands of a region or a rail, while the blocks outside the core work (R409, R536). -/
theorem Dev.ite_up {d e : Dev} {p : Prop} [Decidable p] (hu : d.up = true) (hp : p) : (if d.up && decide p then e else d) = e :=
  if_pos (by simp [hu, hp])

/-! ### Regions and their neighbours (R602) -/

theorem railOf_lt (g : Nat) : railOf g < 6 := by
  unfold railOf
  split_ifs <;> decide

theorem mem_insertUp {x y : Nat} {l : List Nat} (h : x ∈ insertUp y l) : x = y ∨ x ∈ l := by
  induction l with
  | nil => simpa [insertUp] using h
  | cons z r ih =>
    unfold insertUp at h
    split at h
    · simpa using h
    · rcases List.mem_cons.mp h with rfl | h
      · simp
      · rcases ih h with rfl | h <;> simp [*]

theorem mem_of_mem_foldl_insertUp {x : Nat} (l m : List Nat) (h : x ∈ l.foldl (fun m x => insertUp x m) m) : x ∈ l ∨ x ∈ m := by
  induction l generalizing m with
  | nil => exact .inr h
  | cons y r ih =>
    rcases ih _ h with h | h
    · exact .inl (List.mem_cons_of_mem _ h)
    · rcases mem_insertUp h with rfl | h
      · exact .inl List.mem_cons_self
      · exact .inr h

theorem crossPairs_lt : ∀ p ∈ crossPairs, p.1 < 288 ∧ p.2 < 288 := by decide

theorem neighbours_lt {g b : Nat} (hg : g < 288) (h : b ∈ neighbours g) : b < 512 := by
  have hrun : ∀ {p : Prop} [Decidable p] {n : Nat}, b ∈ (if p then [n] else []) → b = n := fun hb => by
    split at hb
    · simpa using hb
    · cases hb
  rcases mem_of_mem_foldl_insertUp _ _ h with h | h
  · rcases List.mem_append.mp h with h | h
    · have := (List.mem_append.mp h).imp hrun hrun
      omega
    · obtain ⟨p, hp, hb⟩ := List.mem_filterMap.mp h
      obtain ⟨h1, h2⟩ := crossPairs_lt p hp
      split at hb
      · obtain rfl := Option.some.inj hb
        omega
      · split at hb
        · obtain rfl := Option.some.inj hb
          omega
        · cases hb
  · cases h

/-! ### Trims and voltages (R416, R422) -/

theorem Dev.trim_range (d : Dev) (g : Nat) : -128 ≤ d.trim g ∧ d.trim g < 128 := by
  have h : d.fld (Reg.PWR_REGION g) F.PWR_REGION_TRIM < 2 ^ 8 := Fld.of_lt F.PWR_REGION_TRIM _
  unfold Dev.trim signed
  split <;> omega

theorem Dev.trim_of_reg {d e : Dev} {g : Nat} (h : e.reg (Reg.PWR_REGION g) = d.reg (Reg.PWR_REGION g)) : e.trim g = d.trim g :=
  congrArg (signed · 8) (Dev.fld_of_reg h _)

/-- A trim of 8 bits reads back as it was set. -/
theorem Dev.trim_setFld (d : Dev) (g : Nat) {y : Int} (hl : -128 ≤ y) (hh : y < 128) :
    (d.setFld (Reg.PWR_REGION g) F.PWR_REGION_TRIM (y % 256).toNat).trim g = y := by
  have hfld : (d.setFld (Reg.PWR_REGION g) F.PWR_REGION_TRIM (y % 256).toNat).fld (Reg.PWR_REGION g) F.PWR_REGION_TRIM = (y % 256).toNat :=
    (d.fld_setFld_same _ _ (by decide)).trans (Nat.mod_eq_of_lt (show (y % 256).toNat < 256 by omega))
  rw [Dev.trim, hfld]
  unfold signed
  split <;> omega

theorem Dev.railHeld_of_reg {d e : Dev} {k : Nat} (h : e.reg (Reg.PWR_RAIL_STAT k) = d.reg (Reg.PWR_RAIL_STAT k)) : e.railHeld k = d.railHeld k :=
  Dev.bit_of_reg h _

theorem Dev.railMv_congr {d e : Dev} {k : Nat} (h : e.reg (Reg.PWR_RAIL_STAT k) = d.reg (Reg.PWR_RAIL_STAT k))
    (hcmd : e.pwr.railCmd = d.pwr.railCmd) : e.railMv k = d.railMv k := by
  unfold Dev.railMv
  rw [Dev.railHeld_of_reg h, Dev.fld_of_reg h, hcmd]

theorem Dev.railMv_of_free {d : Dev} {k : Nat} (h : d.railHeld k = false) : d.railMv k = (d.pwr.railCmd[k]?).getD 0 := by simp [Dev.railMv, h]

/-- The limits of a trim depend on the trims and the voltages alone. -/
theorem Dev.trimLimits_congr {d e : Dev} (htrim : ∀ b, e.trim b = d.trim b) (hmv : ∀ b, e.railMv (railOf b) = d.railMv (railOf b)) (g : Nat)
    (x : Int) : e.trimLimits g x = d.trimLimits g x := by
  simp only [Dev.trimLimits, Dev.veff2, htrim, hmv]

/-! ### Limits (R422) -/

/-- What a fold has reached or met is related to its result. -/
theorem foldl_bounds {α : Type} {R : Int → Int → Prop} (hrefl : ∀ x, R x x) (htrans : ∀ x y z, R x y → R y z → R x z) {f : Int → α → Int}
    {g : α → Int} (hacc : ∀ m p, R m (f m p)) (hmeets : ∀ m p, R (g p) (f m p)) (l : List α) (m : Int) :
    R m (l.foldl f m) ∧ ∀ p ∈ l, R (g p) (l.foldl f m) := by
  induction l generalizing m with
  | nil => exact ⟨hrefl m, by simp⟩
  | cons p r ih =>
    obtain ⟨hm, hr⟩ := ih (f m p)
    refine ⟨htrans _ _ _ (hacc m p) hm, fun q hq => ?_⟩
    rcases List.mem_cons.mp hq with rfl | hq
    · exact htrans _ _ _ (hmeets m q) hm
    · exact hr q hq

theorem within_mem {lh : List (Int × Int)} {x y : Int} (h : within lh x = some y) : ∀ p ∈ lh, p.1 ≤ y ∧ y ≤ p.2 := by
  intro p hp
  have hlo := (foldl_bounds (R := (· ≤ ·)) (fun _ => Int.le_refl _) (fun _ _ _ => Int.le_trans) (f := fun m (p : Int × Int) => max m p.1)
    (fun _ _ => Int.le_max_left ..) (fun _ _ => Int.le_max_right ..) lh (-100000)).2 p hp
  have hhi := (foldl_bounds (R := (· ≥ ·)) (fun _ => Int.le_refl _) (fun _ _ _ h k => Int.le_trans k h) (f := fun m (p : Int × Int) => min m p.2)
    (fun _ _ => Int.min_le_left ..) (fun _ _ => Int.min_le_right ..) lh 100000).2 p hp
  unfold within at h
  dsimp only at h
  split at h
  next hle =>
    obtain rfl := Option.some.inj h
    unfold clampInt
    omega
  next => cases h

/-- A command is made within all the hard limits, or the setting stays. -/
theorem clampTo_hard (hard soft : List (Int × Int)) (now x : Int) :
    (clampTo hard soft now x).1 = now ∨ ∀ p ∈ hard, p.1 ≤ (clampTo hard soft now x).1 ∧ (clampTo hard soft now x).1 ≤ p.2 := by
  unfold clampTo
  dsimp only
  cases hboth : within (hard ++ soft) x with
  | some y => exact .inr fun p hp => within_mem hboth p (List.mem_append_left _ hp)
  | none =>
    cases hhard : within hard x with
    | some y => exact .inr (within_mem hhard)
    | none => exact .inl rfl

/-- The trim `y` of region `g` lies within ±60 mV and within 120 mV of every neighbour. -/
def Dev.TrimFair (d : Dev) (g : Nat) (y : Int) : Prop :=
  -24 ≤ y ∧ y ≤ 24 ∧ ∀ b ∈ neighbours g, 2 * (d.railMv (railOf g) : Int) + 5 * y ≤ d.veff2 b + 240 ∧
    d.veff2 b ≤ 2 * (d.railMv (railOf g) : Int) + 5 * y + 240

theorem Dev.trimLimits_fair (d : Dev) (g : Nat) (x : Int) : (d.trimLimits g x).1 = d.trim g ∨ d.TrimFair g (d.trimLimits g x).1 := by
  rcases clampTo_hard _ _ (d.trim g) x with h | h
  · exact .inl h
  · obtain ⟨hlo, hhi⟩ := h _ List.mem_cons_self
    refine .inr ⟨hlo, hhi, fun b hb => ?_⟩
    obtain ⟨h1, h2⟩ := h _ (List.mem_cons_of_mem _ (List.mem_map_of_mem hb))
    change _ ≤ (d.trimLimits g x).1 at h1
    change (d.trimLimits g x).1 ≤ _ at h2
    omega

theorem Dev.trimLimits_range (d : Dev) (g : Nat) (x : Int) : -128 ≤ (d.trimLimits g x).1 ∧ (d.trimLimits g x).1 < 128 := by
  rcases d.trimLimits_fair g x with h | ⟨hlo, hhi, -⟩
  · rw [h]
    exact d.trim_range g
  · omega

/-! ### Clamped commands, and the command of a trim (R422) -/

theorem Dev.noteClamp_regsKept (d : Dev) (b : Bool) : d.regsKept (d.noteClamp b) (powerNotes 7) := by
  cases b with
  | false => exact .refl d _
  | true => exact d.count_raise_power_regsKept 7 12

@[simp] theorem Dev.noteClamp_pwr (d : Dev) (b : Bool) : (d.noteClamp b).pwr = d.pwr := by
  cases b with
  | false => rfl
  | true => simp [Dev.noteClamp]

theorem Dev.commandTrim_regsKept (d : Dev) (g : Nat) (x : Int) : d.regsKept (d.commandTrim g x) (Reg.PWR_REGION g :: powerNotes 7) :=
  ((d.noteClamp_regsKept _).mono (List.subset_cons_self ..)).trans (Dev.setFld_regsKept _ _ _ List.mem_cons_self)

@[simp] theorem Dev.commandTrim_pwr (d : Dev) (g : Nat) (x : Int) : (d.commandTrim g x).pwr = d.pwr := Dev.noteClamp_pwr _ _

/-- Of the region's register only TRIM changes. -/
theorem Dev.commandTrim_fld (d : Dev) {g : Nat} (hg : g < 512) (x : Int) {f : Fld} (hf : f.apart F.PWR_REGION_TRIM = true) :
    (d.commandTrim g x).fld (Reg.PWR_REGION g) f = d.fld (Reg.PWR_REGION g) f :=
  calc (d.commandTrim g x).fld (Reg.PWR_REGION g) f
    _ = (d.noteClamp (d.trimLimits g x).2).fld (Reg.PWR_REGION g) f := (congrArg f.of (Dev.reg_setFld_same _ _ _ _)).trans (Fld.of_put_apart _ _ hf)
    _ = d.fld (Reg.PWR_REGION g) f := Dev.fld_of_reg (d.noteClamp_regsKept _ _ (Reg.PWR_REGION_quiet hg (by decide))) f

theorem Dev.commandTrim_trim (d : Dev) (g : Nat) (x : Int) : (d.commandTrim g x).trim g = (d.trimLimits g x).1 :=
  Dev.trim_setFld _ g (d.trimLimits_range g x).1 (d.trimLimits_range g x).2

theorem Dev.commandTrim_trim_other (d : Dev) {g b : Nat} (x : Int) (hb : b < 512) (h : b ≠ g) : (d.commandTrim g x).trim b = d.trim b := by
  refine Dev.trim_of_reg (d.commandTrim_regsKept g x _ fun hm => ?_)
  rcases List.mem_cons.mp hm with hm | hm
  · simp only [Reg.PWR_REGION] at hm
    omega
  · exact Reg.PWR_REGION_quiet hb (by decide) hm

theorem Dev.commandTrim_railMv (d : Dev) (g : Nat) (x : Int) {k : Nat} (hk : k < 6) : (d.commandTrim g x).railMv k = d.railMv k := by
  refine Dev.railMv_congr (d.commandTrim_regsKept g x _ fun hm => ?_) (by simp)
  rcases List.mem_cons.mp hm with hm | hm
  · simp only [Reg.PWR_REGION, Reg.PWR_RAIL_STAT] at hm
    omega
  · exact Reg.PWR_RAIL_STAT_quiet hk hm

/-- Region `g` has in `e` the trim that it has in `d`, or one within ±60 mV and with VEFF within 120 mV of every neighbour's. -/
def Dev.TrimSettled (d e : Dev) (g : Nat) : Prop :=
  e.trim g = d.trim g ∨
    (-24 ≤ e.trim g ∧ e.trim g ≤ 24 ∧ ∀ b ∈ neighbours g, e.veff2 g ≤ e.veff2 b + 240 ∧ e.veff2 b ≤ e.veff2 g + 240)

theorem Dev.commandTrim_settled (d : Dev) {g : Nat} (hg : g < 288) (x : Int) : d.TrimSettled (d.commandTrim g x) g := by
  obtain ⟨e, he⟩ : ∃ e, d.commandTrim g x = e := ⟨_, rfl⟩
  have htrim : e.trim g = (d.trimLimits g x).1 := he ▸ d.commandTrim_trim g x
  have hveff : e.veff2 g = 2 * (d.railMv (railOf g) : Int) + 5 * e.trim g := by rw [Dev.veff2, ← he, d.commandTrim_railMv g x (railOf_lt g)]
  rw [he]
  rcases d.trimLimits_fair g x with h | ⟨hlo, hhi, hnear⟩
  · exact .inl (htrim.trans h)
  · rw [← htrim] at hlo hhi hnear
    refine .inr ⟨hlo, hhi, fun b hb => ?_⟩
    by_cases hbg : b = g
    · subst hbg
      omega
    · have hother : e.veff2 b = d.veff2 b := by
        rw [Dev.veff2, Dev.veff2, ← he, d.commandTrim_railMv g x (railOf_lt b), d.commandTrim_trim_other x (neighbours_lt hg hb) hbg]
      rw [hveff, hother]
      exact hnear b hb

/-- A command that no limit clamps writes TRIM, and nothing else. -/
theorem Dev.commandTrim_free {d : Dev} {g : Nat} {x y : Int} (h : d.trimLimits g x = (y, false)) :
    d.commandTrim g x = d.setFld (Reg.PWR_REGION g) F.PWR_REGION_TRIM (y % 256).toNat := by
  unfold Dev.commandTrim
  rw [h]
  rfl

theorem Dev.commandTrim_free_kept {d : Dev} {g : Nat} {x y : Int} (h : d.trimLimits g x = (y, false)) :
    d.regsKept (d.commandTrim g x) [Reg.PWR_REGION g] ∧ d.RegsOnly (d.commandTrim g x) := by
  rw [Dev.commandTrim_free h]
  exact ⟨d.setFld_regsKept _ _ (List.mem_singleton_self _), d.setReg_regsOnly _ _⟩

theorem Dev.commandTrim_free_trim {d : Dev} {g : Nat} {x y : Int} (h : d.trimLimits g x = (y, false)) : (d.commandTrim g x).trim g = y := by
  rw [d.commandTrim_trim, h]

/-! ### A rail sets out for its setting (R422) -/

theorem Dev.planRail_cases (d : Dev) (k : Nat) :
    d.planRail k = d ∨ ∃ b ask goal, d.planRail k =
      { d.noteClamp b with pwr := { (d.noteClamp b).pwr with railAsk := ask, railTo := goal } } := by
  unfold Dev.planRail
  split
  · exact .inl rfl
  · exact .inr ⟨_, _, _, rfl⟩

theorem Dev.planRail_regsKept (d : Dev) (k : Nat) : d.regsKept (d.planRail k) (powerNotes 7) := by
  rcases d.planRail_cases k with h | ⟨b, _, _, h⟩
  · rw [h]
    exact .refl d _
  · rw [h]
    exact d.noteClamp_regsKept b

@[simp] theorem Dev.planRail_railFails (d : Dev) (k : Nat) : (d.planRail k).pwr.railFails = d.pwr.railFails := by
  rcases d.planRail_cases k with h | ⟨b, _, _, h⟩
  · rw [h]
  · simp [h]

end Sys2Proof.Machine
end

section
/-! PROOFS. TRIM_STEP and PACE_MEASURE (R416, R417, R420, R421, R434). -/

namespace Sys2Proof.Machine

/-! ### TRIM_STEP (R416, R434) -/

theorem exec_trimStep {g : Nat} {s : State} (hu : s.dev.up = true) (hg : g < 288) : exec (.trimStep g) s = .next (s.withDev (s.dev.trimStep g)) :=
  congrArg (Host.Outcome.next <| s.withDev ·) (Dev.ite_up hu hg)

theorem Dev.trimStep_rests {d : Dev} {g : Nat} (h : d.trimTarget g = d.trim g) : d.trimStep g = d := by
  simp [Dev.trimStep, h]

theorem Dev.trimStep_rises {d : Dev} {g : Nat} (h : d.trim g < d.trimTarget g) : d.trimStep g = d.commandTrim g (d.trim g + 1) := if_pos h

theorem Dev.trimStep_falls {d : Dev} {g : Nat} (h : d.trimTarget g < d.trim g)
    (hfree : d.guarded g = false ∨ d.slow g = false ∨ d.trimTop g < d.trim g) : d.trimStep g = d.commandTrim g (d.trim g - 1) := by
  unfold Dev.trimStep
  dsimp only
  rw [if_neg (by omega), if_pos h, if_neg]
  rcases hfree with h | h | h
  · simp [h]
  · simp [h]
  · simp [show ¬ d.trim g ≤ d.trimTop g by omega]

theorem Dev.trimStep_cases (d : Dev) (g : Nat) : d.trimStep g = d ∨ ∃ x, d.trimStep g = d.commandTrim g x := by
  unfold Dev.trimStep
  dsimp only
  split
  · exact .inr ⟨_, rfl⟩
  · split
    · split
      · exact .inl rfl
      · exact .inr ⟨_, rfl⟩
    · exact .inl rfl

theorem Dev.trimStep_settled (d : Dev) {g : Nat} (hg : g < 288) : d.TrimSettled (d.trimStep g) g := by
  rcases d.trimStep_cases g with h | ⟨x, h⟩
  · rw [h]
    exact .inl rfl
  · rw [h]
    exact d.commandTrim_settled hg x

/-! ### A reading is stored (R417, R420) -/

theorem exec_paceMeasure {g : Nat} (pace : Nat) {s : State} (hu : s.dev.up = true) (hg : g < 288) :
    exec (.paceMeasure g pace) s = .next (s.withDev (s.dev.paceMeasure g pace)) :=
  congrArg (Host.Outcome.next <| s.withDev ·) (Dev.ite_up hu hg)

/-- PACE_MEASURE up to what it calls for: PACE, and how many readings in a row were low. -/
def Dev.paceStored (d : Dev) (g pace : Nat) : Dev :=
  let d := d.setFld (Reg.PWR_REGION g) F.PWR_REGION_PACE pace
  let n := if d.slow g then min 2 (Map.getD d.pwr.lowReads g 0 + 1) else 0
  { d with pwr := { d.pwr with lowReads := if n = 0 then Map.del d.pwr.lowReads g else Map.put d.pwr.lowReads g n } }

theorem Dev.paceMeasure_eq (d : Dev) (g pace : Nat) :
    d.paceMeasure g pace = (((d.paceStored g (min pace 4095)).paceFloor g (min pace 4095)).stopLowering g).paceGuard g := rfl

theorem lrPaceOf_le (g : Nat) : lrPaceOf g ≤ 4095 := Nat.le_of_lt_succ (Nat.mod_lt _ (by decide))

section
variable (d : Dev) (g : Nat) {pace : Nat}

theorem Dev.paceStored_regsKept : d.regsKept (d.paceStored g pace) [Reg.PWR_REGION g] := d.setFld_regsKept _ _ (List.mem_singleton_self _)

/-- Of the region's register only PACE changes. -/
theorem Dev.paceStored_fld {f : Fld} (a : Nat) (hf : f.apart F.PWR_REGION_PACE = true) : (d.paceStored g pace).fld a f = d.fld a f := by
  refine Eq.trans rfl (?_ : (d.setFld (Reg.PWR_REGION g) F.PWR_REGION_PACE pace).fld a f = d.fld a f)
  by_cases ha : a = Reg.PWR_REGION g
  · subst ha
    exact (congrArg f.of (d.reg_setFld_same _ _ _)).trans (Fld.of_put_apart _ _ hf)
  · exact d.fld_setFld_other _ (.inl ha)

theorem Dev.paceStored_trim (b : Nat) : (d.paceStored g pace).trim b = d.trim b :=
  congrArg (signed · 8) (d.paceStored_fld g (Reg.PWR_REGION b) (by decide))

theorem Dev.paceStored_guarded (b : Nat) : (d.paceStored g pace).guarded b = d.guarded b :=
  congrArg (· != 0) (d.paceStored_fld g (Reg.PWR_REGION b) (by decide))

theorem Dev.paceStored_reg {a : Nat} (h : a < 0x41000) : (d.paceStored g pace).reg a = d.reg a := by
  refine d.paceStored_regsKept g a fun hm => ?_
  rw [List.mem_singleton, Reg.PWR_REGION] at hm
  omega

theorem Dev.paceStored_railMv {k : Nat} (hk : k < 6) : (d.paceStored g pace).railMv k = d.railMv k :=
  Dev.railMv_congr (d.paceStored_reg g (by rw [Reg.PWR_RAIL_STAT]; omega)) rfl

theorem Dev.paceStored_trimLimits (x : Int) : (d.paceStored g pace).trimLimits g x = d.trimLimits g x :=
  Dev.trimLimits_congr (d.paceStored_trim g) (fun b => d.paceStored_railMv g (railOf_lt b)) g x

theorem Dev.paceStored_rungArgs (kind : Nat) : (d.paceStored g pace).rungArgs kind = d.rungArgs kind := by
  have hladder : (d.paceStored g pace).reg Reg.PWR_LADDER = d.reg Reg.PWR_LADDER := d.paceStored_reg g (by decide)
  have hrung : ∀ k, k ∈ List.range 16 → (d.paceStored g pace).reg (Reg.PWR_RUNG k) = d.reg (Reg.PWR_RUNG k) := fun k hk =>
    d.paceStored_reg g (by have := List.mem_range.mp hk; rw [Reg.PWR_RUNG]; omega)
  have hfilter : (List.range 16).filter (fun k => (d.paceStored g pace).rungOn k && (d.paceStored g pace).rungKind k == kind) =
      (List.range 16).filter (fun k => d.rungOn k && d.rungKind k == kind) :=
    List.filter_congr fun k hk => by simp only [Dev.rungOn, Dev.rungKind, Dev.fld_of_reg hladder, Dev.fld_of_reg (hrung k hk)]
  unfold Dev.rungArgs
  rw [hfilter]
  exact List.map_congr_left fun k hk => Dev.fld_of_reg (hrung k (List.mem_filter.mp hk).1) _

theorem Dev.paceStored_rungTrim (k : Nat) (below : Bool) : (d.paceStored g pace).rungTrim k below = d.rungTrim k below := by
  simp only [Dev.rungTrim, d.paceStored_rungArgs g]

theorem Dev.paceStored_rungRail (k : Nat) (below : Bool) : (d.paceStored g pace).rungRail k below = d.rungRail k below := by
  simp only [Dev.rungRail, d.paceStored_rungArgs g]

theorem Dev.paceStored_belowLr : (d.paceStored g pace).belowLr g = d.belowLr g := by
  simp only [Dev.belowLr, d.paceStored_rungArgs g]

section
variable (hp : pace ≤ 4095)
include hp

theorem Dev.paceStored_pace : (d.paceStored g pace).fld (Reg.PWR_REGION g) F.PWR_REGION_PACE = pace :=
  (d.fld_setFld_same _ _ (by decide)).trans (Nat.mod_eq_of_lt (show pace < 4096 by omega))

theorem Dev.paceStored_slow : (d.paceStored g pace).slow g = decide (pace < lrPaceOf g) := by
  rw [Dev.slow, d.paceStored_pace g hp]

theorem Dev.paceStored_fast_lowReads (h : lrPaceOf g ≤ pace) : Map.getD (d.paceStored g pace).pwr.lowReads g 0 = 0 := by
  have hslow : (d.setFld (Reg.PWR_REGION g) F.PWR_REGION_PACE pace).slow g = false :=
    (d.paceStored_slow g hp).trans (decide_eq_false (by omega))
  simp [Dev.paceStored, hslow, Map.getD]

theorem Dev.paceStored_slow_lowReads (h : pace < lrPaceOf g) :
    Map.getD (d.paceStored g pace).pwr.lowReads g 0 = min 2 (Map.getD d.pwr.lowReads g 0 + 1) := by
  have hslow : (d.setFld (Reg.PWR_REGION g) F.PWR_REGION_PACE pace).slow g = true := (d.paceStored_slow g hp).trans (decide_eq_true h)
  simp [Dev.paceStored, hslow, Map.getD]

end

end

/-! ### What a reading calls for (R420, R421, R434) -/

theorem Dev.paceFloor_high (d : Dev) {g pace : Nat} (h : lrPaceOf g / 4 ≤ pace) : d.paceFloor g pace = d := if_pos h

theorem Dev.stopLowering_fast {d : Dev} {g : Nat} (h : d.slow g = false) : d.stopLowering g = d := by simp [Dev.stopLowering, h]

/-- Rungs that lower neither the region nor its rail have nothing to stop. -/
theorem Dev.stopLowering_raised {d : Dev} {g : Nat} (ht : 0 ≤ d.rungTrim (railOf g) false) (hr : 0 ≤ d.rungRail (railOf g) false) :
    d.stopLowering g = d := by
  have ht' : ¬ d.rungTrim (railOf g) false < 0 := by omega
  have hr' : ¬ d.rungRail (railOf g) false < 0 := by omega
  simp [Dev.stopLowering, ht', hr']

theorem Dev.paceGuard_few {d : Dev} {g : Nat} (h : Map.getD d.pwr.lowReads g 0 < 2) : d.paceGuard g = d := by
  have h' : ¬ 2 ≤ Map.getD d.pwr.lowReads g 0 := by omega
  simp [Dev.paceGuard, h']

/-- The registers after a raise are those after its command; what it remembers of the raise lies outside them. -/
theorem Dev.raiseTrim_regs (d : Dev) (g n : Nat) : (d.raiseTrim g n).regs = (d.commandTrim g (min 24 (d.trim g + n))).regs := by
  unfold Dev.raiseTrim
  dsimp only
  split <;> rfl

theorem Dev.raiseTrim_reg (d : Dev) (g n a : Nat) : (d.raiseTrim g n).reg a = (d.commandTrim g (min 24 (d.trim g + n))).reg a :=
  Dev.regsKept_of_regs (d.raiseTrim_regs g n) [] a (by simp)

/-- The guard raises the trim of region `g` where it may: GUARD and GUARD_EN are 1, no rung has taken the region below LR_PACE, and its last two
readings were low. -/
structure Dev.GuardDue (d : Dev) (g : Nat) : Prop where
  guarded : d.guarded g = true
  enabled : d.bit Reg.PWR_CTRL F.PWR_CTRL_GUARD_EN = true
  above : d.belowLr g = false
  reads : 2 ≤ Map.getD d.pwr.lowReads g 0

/-- A guarded region at +60 mV that reads low again raises PACE_LOW. -/
theorem Dev.GuardDue.paceGuard_top {d : Dev} {g : Nat} (h : d.GuardDue g) (ht : 24 ≤ d.trim g) : d.paceGuard g = d.raise 11 10 := by
  simp [Dev.paceGuard, h.guarded, h.enabled, h.above, h.reads, ht]

/-- Below +60 mV its trim goes up by a step, which is counted. -/
theorem Dev.GuardDue.paceGuard_raises {d : Dev} {g : Nat} (h : d.GuardDue g) (ht : d.trim g < 24)
    (hl : d.trimLimits g (d.trim g + 1) = (d.trim g + 1, false)) :
    (d.paceGuard g).trim g = d.trim g + 1 ∧ (d.paceGuard g).reg (Reg.PWR_COUNT 6) = d.plus (Reg.PWR_COUNT 6) 1 := by
  have hmin : min 24 (d.trim g + (1 : Nat)) = d.trim g + 1 := by omega
  have htrim : (d.raiseTrim g 1).trim g = d.trim g + 1 := by
    rw [Dev.trim_of_reg (d.raiseTrim_reg g 1 _), hmin, Dev.commandTrim_free_trim hl]
  have hkept : d.regsKept (d.raiseTrim g 1) [Reg.PWR_REGION g] := fun a ha => by
    rw [d.raiseTrim_reg g 1 a, hmin]
    exact (Dev.commandTrim_free_kept hl).1 a ha
  have hguards : d.paceGuard g = (d.raiseTrim g 1).count (Reg.PWR_COUNT 6) 1 := by
    have hlow : ¬ 24 ≤ d.trim g := by omega
    simp [Dev.paceGuard, h.guarded, h.enabled, h.above, h.reads, hlow, htrim]
  have hne : Reg.PWR_COUNT 6 ≠ Reg.PWR_REGION g := by
    simp only [Reg.PWR_COUNT, Reg.PWR_REGION]
    omega
  rw [hguards]
  exact ⟨(Dev.trim_of_reg (Dev.reg_count_other _ _ _ _ hne.symm)).trans htrim, hkept.count (by simpa using hne) 1⟩

/-! ### PACE stands whatever follows (R417) -/

/-- The pace of region `g` reads in `e` as in `d`. -/
structure Dev.PaceKept (d e : Dev) (g : Nat) : Prop where
  pace : e.fld (Reg.PWR_REGION g) F.PWR_REGION_PACE = d.fld (Reg.PWR_REGION g) F.PWR_REGION_PACE

section
variable {d e : Dev} {g : Nat}

theorem Dev.PaceKept.trans {f : Dev} (h : d.PaceKept e g) (k : e.PaceKept f g) : d.PaceKept f g := ⟨k.pace.trans h.pace⟩

theorem Dev.PaceKept.of_regs (h : e.regs = d.regs) : d.PaceKept e g := ⟨Dev.fld_of_regs h _ _⟩

variable (hg : g < 512)
include hg

theorem Dev.PaceKept.of_notes {n : Nat} (h : d.regsKept e (powerNotes n)) (hn : n < 16) : d.PaceKept e g :=
  ⟨Dev.fld_of_reg (h _ (Reg.PWR_REGION_quiet hg hn)) _⟩

theorem Dev.raiseTrim_paceKept (d : Dev) (n : Nat) : d.PaceKept (d.raiseTrim g n) g :=
  ⟨(Dev.fld_of_reg (d.raiseTrim_reg g n _) _).trans (d.commandTrim_fld hg _ (by decide))⟩

theorem Dev.raise_power_paceKept (d : Dev) (b : Nat) : d.PaceKept (d.raise 11 b) g := .of_notes hg (d.raise_power_regsKept b 0) (by decide)

theorem Dev.PaceKept.planRail (h : e.regs = d.regs) (k : Nat) : d.PaceKept (e.planRail k) g :=
  (Dev.PaceKept.of_regs h).trans (.of_notes hg (e.planRail_regsKept k) (by decide))

theorem Dev.paceFloor_paceKept (d : Dev) (pace : Nat) : d.PaceKept (d.paceFloor g pace) g := by
  unfold Dev.paceFloor
  split
  · exact .of_regs (by rfl)
  · dsimp only
    refine Dev.PaceKept.trans ?_ ((Dev.raise_power_paceKept hg _ 11).trans (.of_regs (by rfl)))
    split
    · exact .planRail hg (by rfl) _
    · exact d.raiseTrim_paceKept hg 4

theorem Dev.stopLowering_paceKept (d : Dev) : d.PaceKept (d.stopLowering g) g := by
  unfold Dev.stopLowering
  split
  · exact .of_regs (by rfl)
  · dsimp only
    split
    · split
      · exact .planRail hg (by rfl) _
      · exact .of_regs (by rfl)
    · split
      · exact .planRail hg (by rfl) _
      · exact .of_regs (by rfl)

theorem Dev.paceGuard_paceKept (d : Dev) : d.PaceKept (d.paceGuard g) g := by
  unfold Dev.paceGuard
  split
  · split
    · exact d.raise_power_paceKept hg 10
    · refine (d.raiseTrim_paceKept hg 1).trans ?_
      dsimp only
      split
      · exact .of_notes (n := 6) hg (Dev.count_regsKept _ 1 List.mem_cons_self) (by decide)
      · exact .of_regs (by rfl)
  · exact .of_regs (by rfl)

theorem Dev.paceMeasure_pace (d : Dev) (pace : Nat) : (d.paceMeasure g pace).fld (Reg.PWR_REGION g) F.PWR_REGION_PACE = min pace 4095 := by
  have hfloor := (d.paceStored g (min pace 4095)).paceFloor_paceKept hg (min pace 4095)
  have hstop := hfloor.trans (Dev.stopLowering_paceKept hg _)
  have hguard := hstop.trans (Dev.paceGuard_paceKept hg _)
  rw [d.paceMeasure_eq g pace, hguard.pace, d.paceStored_pace g (Nat.min_le_right ..)]

end

/-! ### PACE_MEASURE (R417, R420) -/

section
variable (d : Dev) {g pace : Nat}

/-- A reading at or above LR_PACE is stored, and that is all. -/
theorem Dev.paceMeasure_fast (h : lrPaceOf g ≤ pace) : d.paceMeasure g pace = d.paceStored g (min pace 4095) := by
  have hp : min pace 4095 ≤ 4095 := Nat.min_le_right ..
  have hmin : lrPaceOf g ≤ min pace 4095 := by
    have := lrPaceOf_le g
    omega
  rw [d.paceMeasure_eq g pace, Dev.paceFloor_high _ (by omega), Dev.stopLowering_fast ((d.paceStored_slow g hp).trans (decide_eq_false (by omega))),
    Dev.paceGuard_few (by rw [d.paceStored_fast_lowReads g hp hmin]; decide)]

/-- A low reading above the retention floor goes to the guard, where no rung lowers the region or its rail. -/
theorem Dev.paceMeasure_slow (hlo : lrPaceOf g / 4 ≤ pace) (hhi : pace < lrPaceOf g) (ht : 0 ≤ d.rungTrim (railOf g) false)
    (hr : 0 ≤ d.rungRail (railOf g) false) : d.paceMeasure g pace = (d.paceStored g pace).paceGuard g := by
  have hmin : min pace 4095 = pace := by
    have := lrPaceOf_le g
    omega
  rw [d.paceMeasure_eq g pace, hmin, Dev.paceFloor_high _ hlo,
    Dev.stopLowering_raised (by rw [d.paceStored_rungTrim g]; exact ht) (by rw [d.paceStored_rungRail g]; exact hr)]

end

theorem Dev.paceStored_guardDue {d : Dev} {g pace : Nat} (hslow : pace < lrPaceOf g) (hreads : 1 ≤ Map.getD d.pwr.lowReads g 0)
    (hguard : d.guarded g = true) (hen : d.bit Reg.PWR_CTRL F.PWR_CTRL_GUARD_EN = true) (hbelow : d.belowLr g = false) :
    (d.paceStored g pace).GuardDue g where
  guarded := (d.paceStored_guarded g g).trans hguard
  enabled := (Dev.bit_of_reg (d.paceStored_reg g (by decide)) _).trans hen
  above := (d.paceStored_belowLr g).trans hbelow
  reads := by
    have := lrPaceOf_le g
    rw [d.paceStored_slow_lowReads g (by omega) hslow]
    omega

/-- The second low reading and each later one of a guarded region that no rung lowers: its trim goes up by a step, or PACE_LOW is raised at +60 mV. -/
theorem Dev.paceMeasure_guards {d : Dev} {g pace : Nat} (hg : g < 512) (hlo : lrPaceOf g / 4 ≤ pace) (hslow : pace < lrPaceOf g)
    (hreads : 1 ≤ Map.getD d.pwr.lowReads g 0) (hguard : d.guarded g = true) (hen : d.bit Reg.PWR_CTRL F.PWR_CTRL_GUARD_EN = true)
    (hbelow : d.belowLr g = false) (ht : 0 ≤ d.rungTrim (railOf g) false) (hr : 0 ≤ d.rungRail (railOf g) false) :
    let e := d.paceMeasure g pace
    (d.trim g < 24 → d.trimLimits g (d.trim g + 1) = (d.trim g + 1, false) →
      e.trim g = d.trim g + 1 ∧ e.reg (Reg.PWR_COUNT 6) = d.plus (Reg.PWR_COUNT 6) 1) ∧
    (24 ≤ d.trim g → e.trim g = d.trim g ∧ (e.reg Reg.PWR_EVENT).getLsbD 10 = true) := by
  have hdue : (d.paceStored g pace).GuardDue g := Dev.paceStored_guardDue hslow hreads hguard hen hbelow
  have htrim : (d.paceStored g pace).trim g = d.trim g := d.paceStored_trim g g
  rw [d.paceMeasure_slow hlo hslow ht hr]
  refine ⟨fun hlow hl => ?_, fun htop => ?_⟩
  · have hraises := hdue.paceGuard_raises (by omega) (by rw [d.paceStored_trimLimits g, htrim, hl])
    rw [htrim, Dev.plus, d.paceStored_reg g (by decide)] at hraises
    exact hraises
  · rw [hdue.paceGuard_top (by omega)]
    exact ⟨(Dev.trim_of_reg (Dev.raise_power_regsKept _ 10 0 _ (Reg.PWR_REGION_quiet hg (by decide)))).trans htrim,
      Dev.raise_power_bit _ (by decide)⟩

end Sys2Proof.Machine
end

section
/-! PROOFS. The regulators of the rails: failed transactions, steps, readings and writes (R422, R437, R438). -/

namespace Sys2Proof.Machine

/-! ### The commands of a rail -/

theorem exec_railStep {k : Nat} (ok : Bool) {s : State} (hu : s.dev.up = true) (hk : k < 6) :
    exec (.railStep k ok) s = .next (s.withDev (s.dev.railStep k ok)) :=
  congrArg (Host.Outcome.next <| s.withDev ·) (Dev.ite_up hu hk)

theorem exec_railTelemetry {k : Nat} (read : RailRead) {s : State} (hu : s.dev.up = true) (hk : k < 6) :
    exec (.railTelemetry k read) s = .next (s.withDev (s.dev.railTelemetry k read)) :=
  congrArg (Host.Outcome.next <| s.withDev ·) (Dev.ite_up hu hk)

theorem exec_railWrite {k : Nat} (v : Word) (ok : Bool) {s : State} (hu : s.dev.up = true) (hk : k < 6)
    (ho : s.dev.accessOpen (Reg.PWR_RAIL k) = true) : exec (.railWrite k v ok) s = .next (s.withDev ((s.dev.railWrite k v).railStep k ok)) :=
  congrArg (Host.Outcome.next <| s.withDev ·) ((if_pos hk).trans (s.dev.access_open _ _ _ hu ho))

/-! ### Failed transactions (R438) -/

/-- A failed transaction with rail `k` is remembered, counted and raises BUS_ERROR. -/
def Dev.busCounted (d : Dev) (k : Nat) : Dev :=
  ({ d with pwr := { d.pwr with railFails := Map.put d.pwr.railFails k (min 3 (Map.getD d.pwr.railFails k 0 + 1)) } }.count
    (Reg.PWR_COUNT 8) 1).raise 11 13

section
variable (d : Dev) (k : Nat)

theorem Dev.busCounted_regsKept : d.regsKept (d.busCounted k) (powerNotes 8) := by
  unfold Dev.busCounted
  exact Dev.count_raise_power_regsKept _ 8 13

theorem Dev.busCounted_count : (d.busCounted k).reg (Reg.PWR_COUNT 8) = d.plus (Reg.PWR_COUNT 8) 1 := by
  unfold Dev.busCounted
  exact Dev.count_raise_power_count _ 13 (by decide)

theorem Dev.busCounted_event : ((d.busCounted k).reg Reg.PWR_EVENT).getLsbD 13 = true := by
  unfold Dev.busCounted
  exact Dev.raise_power_bit _ (by decide)

theorem Dev.busCounted_railCmd : (d.busCounted k).pwr.railCmd = d.pwr.railCmd := by simp [Dev.busCounted]

theorem Dev.busCounted_railFails : Map.getD (d.busCounted k).pwr.railFails k 0 = min 3 (Map.getD d.pwr.railFails k 0 + 1) := by
  simp [Dev.busCounted, Map.getD]

theorem Dev.busCounted_railHeld {k : Nat} (hk : k < 6) : (d.busCounted k).railHeld k = d.railHeld k :=
  Dev.railHeld_of_reg (d.busCounted_regsKept k _ (Reg.PWR_RAIL_STAT_quiet hk))

theorem Dev.busCounted_tim : (d.busCounted k).tim = d.tim := by simp [Dev.busCounted]

theorem Dev.busCounted_flt : (d.busCounted k).flt = d.flt := by simp [Dev.busCounted]

/-- What a failed transaction leaves: a count, BUS_ERROR, no new command; the third in a row holds the rail and is reported. -/
structure Dev.BusFailed (d e : Dev) (k : Nat) : Prop where
  count : e.reg (Reg.PWR_COUNT 8) = d.plus (Reg.PWR_COUNT 8) 1
  event : (e.reg Reg.PWR_EVENT).getLsbD 13 = true
  cmd : e.pwr.railCmd = d.pwr.railCmd
  third : 2 ≤ Map.getD d.pwr.railFails k 0 → d.railHeld k = false → e.railHeld k = true ∧ d.pwrFault e
  early : Map.getD d.pwr.railFails k 0 < 2 →
    e.railHeld k = d.railHeld k ∧ Map.getD e.pwr.railFails k 0 = Map.getD d.pwr.railFails k 0 + 1

/-- Rail `k` is held where it stands, and reported. -/
def Dev.holdRail : Dev :=
  ({ d with pwr := { d.pwr with railTo := Map.del d.pwr.railTo k } }.setFld (Reg.PWR_RAIL_STAT k) F.PWR_RAIL_STAT_HELD 1).report 107 2 true

theorem Dev.holdRail_regsKept : d.regsKept (d.holdRail k) [Reg.PWR_RAIL_STAT k] := Dev.setFld_regsKept _ _ _ (List.mem_singleton_self _)

theorem Dev.busError_eq {k : Nat} (hk : k < 6) : d.busError k =
    if min 3 (Map.getD d.pwr.railFails k 0 + 1) = 3 ∧ !d.railHeld k then (d.busCounted k).holdRail k else d.busCounted k := by
  rw [← d.busCounted_railHeld hk]
  rfl

/-- One that is not the third, or finds the rail held, is counted. -/
theorem Dev.busError_counts {k : Nat} (hk : k < 6) (h : Map.getD d.pwr.railFails k 0 < 2 ∨ d.railHeld k = true) :
    d.busError k = d.busCounted k := by
  refine (d.busError_eq hk).trans (if_neg fun hthird => ?_)
  obtain ⟨hn, hfree⟩ := hthird
  rcases h with h | h
  · omega
  · simp [h] at hfree

/-- The third holds a rail that was not. -/
theorem Dev.busError_holds {k : Nat} (hk : k < 6) (h : 2 ≤ Map.getD d.pwr.railFails k 0) (hfree : d.railHeld k = false) :
    d.busError k = (d.busCounted k).holdRail k := (d.busError_eq hk).trans (if_pos ⟨by omega, by simp [hfree]⟩)

theorem Dev.busError_failed {k : Nat} (hk : k < 6) : d.BusFailed (d.busError k) k := by
  by_cases hthird : 2 ≤ Map.getD d.pwr.railFails k 0 ∧ d.railHeld k = false
  · obtain ⟨hn, hfree⟩ := hthird
    have hkept := (d.busCounted k).holdRail_regsKept k
    have hcount : Reg.PWR_COUNT 8 ∉ [Reg.PWR_RAIL_STAT k] := by
      rw [List.mem_singleton, Reg.PWR_COUNT, Reg.PWR_RAIL_STAT]
      omega
    have hevent : Reg.PWR_EVENT ∉ [Reg.PWR_RAIL_STAT k] := by
      rw [List.mem_singleton, Reg.PWR_EVENT, Reg.PWR_RAIL_STAT]
      omega
    rw [d.busError_holds hk hn hfree]
    refine ⟨(hkept _ hcount).trans (d.busCounted_count k), ?_, d.busCounted_railCmd k, fun _ _ => ⟨?_, ?_⟩, fun h => by omega⟩
    · rw [hkept _ hevent]
      exact d.busCounted_event k
    · exact Dev.bit_of_fld (Dev.fld_setFld_same _ _ _ (by decide))
    · rw [Dev.pwrFault, ← Dev.free_of_tim (d.busCounted_tim k), ← d.busCounted_flt k]
      rfl
  · have hcounts : Map.getD d.pwr.railFails k 0 < 2 ∨ d.railHeld k = true := by
      by_cases hn : 2 ≤ Map.getD d.pwr.railFails k 0
      · exact .inr (by simpa using fun h => hthird ⟨hn, h⟩)
      · exact .inl (by omega)
    rw [d.busError_counts hk hcounts]
    refine ⟨d.busCounted_count k, d.busCounted_event k, d.busCounted_railCmd k, fun h hfree => absurd ⟨h, hfree⟩ hthird,
      fun h => ⟨d.busCounted_railHeld hk, ?_⟩⟩
    rw [d.busCounted_railFails k]
    omega

end

/-! ### RAIL_STEP (R422, R434) -/

section
variable {d : Dev} {k : Nat}

theorem Dev.railStep_none (ok : Bool) (h : Map.find d.pwr.railTo k = none) : d.railStep k ok = d := by
  unfold Dev.railStep
  rw [h]

theorem Dev.railStep_waits (ok : Bool) {v : Nat} (hto : Map.find d.pwr.railTo k = some v) (h : d.railHeld k = true ∨ d.railSettled k = false) :
    d.railStep k ok = d := by
  unfold Dev.railStep
  rw [hto]
  exact if_pos (by simpa using h)

/-- The voltage after one step of a rail from `c` toward `v`. -/
def railNext (c v : Nat) : Nat := if c < v then min v (c + 10) else max v (c - 10)

section
variable {v : Nat} (hto : Map.find d.pwr.railTo k = some v) (hfree : d.railHeld k = false) (hsettled : d.railSettled k = true)
  (hmay : d.railMv k < v ∨ d.railSlow k = false)
include hto hfree hsettled hmay

theorem Dev.railStep_tries (ok : Bool) :
    let l := d.railLimits k (railNext (d.railMv k) v)
    d.railStep k ok =
      if !ok then (d.sendRail k l.1.toNat).busError k
      else ((d.sendRail k l.1.toNat).noteClamp l.2).commandRail k l.1.toNat (l.2 || railNext (d.railMv k) v = v) := by
  have hgo : (decide (v < d.railMv k) && decide ((d.railMv k : Int) ≤ d.railTop k) && d.railSlow k) = false := by
    rcases hmay with h | h
    · simp [show ¬ v < d.railMv k by omega]
    · simp [h]
  unfold Dev.railStep
  rw [hto]
  dsimp only
  rw [if_neg (by simp [hfree, hsettled]), if_neg (by simp [hgo])]
  rfl

theorem Dev.railStep_fails (hk : k < 6) : d.BusFailed (d.railStep k false) k := by
  obtain ⟨x, hx⟩ : ∃ x, d.sendRail k (d.railLimits k (railNext (d.railMv k) v)).1.toNat = x := ⟨_, rfl⟩
  have hstep : d.railStep k false = x.busError k := by rw [Dev.railStep_tries hto hfree hsettled hmay, hx]; rfl
  obtain ⟨hcount, hevent, hcmd, hthird, hearly⟩ := x.busError_failed hk
  rw [hstep]
  subst hx
  exact ⟨hcount, hevent, hcmd, hthird, hearly⟩

/-- A step that no limit clamps is the last command of the rail, and its end where it reaches the setting. -/
theorem Dev.railStep_moves (hl : d.railLimits k (railNext (d.railMv k) v) = ((railNext (d.railMv k) v : Int), false)) :
    let x := railNext (d.railMv k) v
    d.railStep k true = (d.sendRail k x).commandRail k x (x = v) := by
  intro x
  rw [Dev.railStep_tries hto hfree hsettled hmay, hl]
  rfl

end

theorem Dev.commandRail_railMv (d : Dev) {k : Nat} (x : Nat) (done : Bool) (hfree : d.railHeld k = false) (hk : k < d.pwr.railCmd.length) :
    (d.commandRail k x done).railMv k = x := by
  refine (Dev.railMv_of_free (d := d.commandRail k x done) hfree).trans ?_
  simp [Dev.commandRail, hk]

end

/-- A rail that has arrived is no longer on its way. -/
theorem Dev.commandRail_arrives (d : Dev) (k x : Nat) : Map.find (d.commandRail k x true).pwr.railTo k = none := Map.find_del_same d.pwr.railTo k

/-- The registers that a step of a rail may change, where it is not the third failure in a row. -/
def railStepRegs : List Nat := powerNotes 7 ++ powerNotes 8

theorem Dev.railStep_regsKept (d : Dev) {k : Nat} (hk : k < 6) (ok : Bool) (hf : Map.getD d.pwr.railFails k 0 < 2) :
    d.regsKept (d.railStep k ok) railStepRegs := by
  have hfails : ∀ x, d.regsKept ((d.sendRail k x).busError k) railStepRegs := fun x => by
    rw [(d.sendRail k x).busError_counts hk (.inl hf)]
    exact ((d.sendRail k x).busCounted_regsKept k).mono (List.subset_append_right ..)
  unfold Dev.railStep
  split
  · exact .refl d _
  · dsimp only
    split
    · exact .refl d _
    · split
      · exact .refl d _
      · split
        · exact hfails _
        · exact (Dev.noteClamp_regsKept (d.sendRail k _) _).mono (List.subset_append_left ..)

/-! ### RAIL_TELEMETRY (R437) -/

theorem Dev.railReading_spec (d : Dev) (k mv ma : Nat) :
    let e := d.railReading k mv ma
    d.regsKept e [Reg.PWR_RAIL_STAT k] ∧ e.fld (Reg.PWR_RAIL_STAT k) F.PWR_RAIL_STAT_V_MV = mv % 2 ^ 12 ∧
      e.fld (Reg.PWR_RAIL_STAT k) F.PWR_RAIL_STAT_I_MA = ma % 2 ^ 20 ∧ Map.getD e.pwr.railFails k 0 = 0 := by
  refine ⟨?_, ?_, ?_, ?_⟩
  · exact (Dev.setFld_regsKept _ _ mv (List.mem_singleton_self _)).trans (Dev.setFld_regsKept _ _ ma (List.mem_singleton_self _))
  · exact (Dev.fld_setFld_other _ _ (.inr (by decide))).trans (Dev.fld_setFld_same _ _ _ (by decide))
  · exact Dev.fld_setFld_same _ _ _ (by decide)
  · exact congrArg (Option.getD · 0) (Map.find_del_same d.pwr.railFails k)

section
variable {d : Dev} {k : Nat}

/-- A regulator on AVSBus answers in mV and units of 10 mA; on PMBus that answer does nothing. -/
theorem Dev.railTelemetry_avs (h : d.bit (Reg.PWR_RAIL k) F.PWR_RAIL_BUS = false) (v i : Nat) :
    d.railTelemetry k (.avs v i) = d.railReading k v (10 * i) := if_neg (by simp [h])

theorem Dev.railTelemetry_avs_strange (h : d.bit (Reg.PWR_RAIL k) F.PWR_RAIL_BUS = true) (v i : Nat) : d.railTelemetry k (.avs v i) = d := if_pos h

theorem Dev.railTelemetry_pmbus_strange (h : d.bit (Reg.PWR_RAIL k) F.PWR_RAIL_BUS = false) (m : BitVec 8) (v i : BitVec 16) :
    d.railTelemetry k (.pmbus m v i) = d := if_pos (by simp [h])

/-- On PMBus a VOUT_MODE other than ULINEAR16 is a failed transaction. -/
theorem Dev.railTelemetry_pmbus_bad (h : d.bit (Reg.PWR_RAIL k) F.PWR_RAIL_BUS = true) {m : BitVec 8} (hm : 32 ≤ m.toNat) (v i : BitVec 16) :
    d.railTelemetry k (.pmbus m v i) = d.busError k := (if_neg (by simp [h])).trans (if_pos hm)

theorem Dev.railTelemetry_pmbus (h : d.bit (Reg.PWR_RAIL k) F.PWR_RAIL_BUS = true) {m : BitVec 8} (hm : m.toNat < 32) (v i : BitVec 16) :
    d.railTelemetry k (.pmbus m v i) = Dev.railReading { d with pwr := { d.pwr with voutMode := Map.put d.pwr.voutMode k m.toNat } } k
      (ofUlinear v.toNat (voutExp m.toNat)) (ofLinear11 i.toNat) := (if_neg (by simp [h])).trans (if_neg (by omega))

end

/-! ### RAIL_WRITE (R438) -/

/-- A write stores the register and ends the hold; the rail then sets out anew, with no failure to its account. -/
theorem Dev.railWrite_eq (d : Dev) (k : Nat) (v : Word) :
    ∃ p, Map.getD p.railFails k 0 = 0 ∧ d.railWrite k v =
      Dev.planRail { (d.plainWrite (Reg.PWR_RAIL k) v).setFld (Reg.PWR_RAIL_STAT k) F.PWR_RAIL_STAT_HELD 0 with pwr := p } k := by
  refine ⟨_, ?_, rfl⟩
  exact congrArg (Option.getD · 0) (Map.find_del_same _ k)

theorem Dev.railWrite_spec (d : Dev) {k : Nat} (hk : k < 6) (v : Word) (ok : Bool) :
    let e := (d.railWrite k v).railStep k ok
    e.railHeld k = false ∧ e.reg (Reg.PWR_RAIL k) = (d.plainWrite (Reg.PWR_RAIL k) v).reg (Reg.PWR_RAIL k) := by
  intro e
  obtain ⟨p, hfails, hwrite⟩ := d.railWrite_eq k v
  obtain ⟨w, hw⟩ : ∃ w, (d.plainWrite (Reg.PWR_RAIL k) v).setFld (Reg.PWR_RAIL_STAT k) F.PWR_RAIL_STAT_HELD 0 = w := ⟨_, rfl⟩
  rw [hw] at hwrite
  have hplan : w.regsKept (d.railWrite k v) railStepRegs := by
    rw [hwrite]
    exact (Dev.planRail_regsKept { w with pwr := p } k).mono (List.subset_append_left ..)
  have hnone : Map.getD (d.railWrite k v).pwr.railFails k 0 < 2 := by
    rw [hwrite, Dev.planRail_railFails]
    exact lt_of_eq_of_lt hfails (by decide)
  have hkept : w.regsKept e railStepRegs := hplan.trans (Dev.railStep_regsKept _ hk ok hnone)
  have hquiet : ∀ {a}, (∀ n, a ∉ powerNotes n) → a ∉ railStepRegs := fun h hm => (List.mem_append.mp hm).elim (h 7) (h 8)
  have hne : Reg.PWR_RAIL k ≠ Reg.PWR_RAIL_STAT k := by
    simp only [Reg.PWR_RAIL, Reg.PWR_RAIL_STAT]
    omega
  refine ⟨?_, ?_⟩
  · rw [Dev.railHeld_of_reg (hkept _ (hquiet fun _ => Reg.PWR_RAIL_STAT_quiet hk)), ← hw]
    exact Dev.bit_of_fld (Dev.fld_setFld_same _ _ _ (by decide))
  · rw [hkept _ (hquiet fun _ => Reg.PWR_RAIL_quiet hk), ← hw, Dev.reg_setFld_other _ _ _ _ _ hne]

end Sys2Proof.Machine
end

section
/-! PROOFS. Recalibration of live costs (R265, R440, R441). -/

namespace Sys2Proof.Machine

theorem exec_recalibration {s : State} (hu : s.dev.up = true) : exec .recalibration s = .next (s.withDev s.dev.recalibrate) :=
  congrArg (Host.Outcome.next <| s.withDev ·) (if_pos hu)

/-! ### Factors of rails (R441) -/

/-- The registers that the factors of the six rails and what is learnt of LEAK go to. -/
def factorRegs : List Nat := (List.range 6).map Reg.PWR_RAIL ++ (List.range 6).map Reg.PWR_RAIL_STAT

theorem Dev.calRail_regsKept (d : Dev) {r : Nat} (hr : r < 6) (period : Nat) : d.regsKept (d.calRail r period).1 factorRegs := by
  have hrail : Reg.PWR_RAIL r ∈ factorRegs := List.mem_append_left _ (List.mem_map_of_mem (List.mem_range.mpr hr))
  have hstat : Reg.PWR_RAIL_STAT r ∈ factorRegs := List.mem_append_right _ (List.mem_map_of_mem (List.mem_range.mpr hr))
  unfold Dev.calRail
  dsimp only
  split
  · exact d.setFld_regsKept _ _ hrail
  · split
    · exact .refl d _
    · exact d.setFld_regsKept _ _ hstat

/-- The factor of rail `r` joins those of the rails before it. -/
def joinFactor (period : Nat) (x : Dev × List (Option Nat)) (r : Nat) : Dev × List (Option Nat) :=
  ((x.1.calRail r period).1, x.2 ++ [(x.1.calRail r period).2])

theorem foldl_joinFactor_regsKept (period : Nat) (l : List Nat) (x : Dev × List (Option Nat)) (hl : ∀ r ∈ l, r < 6) :
    x.1.regsKept (l.foldl (joinFactor period) x).1 factorRegs := by
  induction l generalizing x with
  | nil => exact .refl x.1 _
  | cons r l ih =>
    exact (x.1.calRail_regsKept (hl r List.mem_cons_self) period).trans (ih _ fun q hq => hl q (List.mem_cons_of_mem _ hq))

theorem Dev.calRails_regsKept (d : Dev) (period : Nat) : d.regsKept (d.calRails period).1 factorRegs :=
  foldl_joinFactor_regsKept period (List.range 6) (d, []) fun _ => List.mem_range.mp

theorem Reg.ACT_COST_factorRegs (k : Nat) : Reg.ACT_COST k ∉ factorRegs ∧ Reg.ACT_COST_REF k ∉ factorRegs := by
  simp only [factorRegs, List.mem_append, List.mem_map, List.mem_range, Reg.ACT_COST, Reg.ACT_COST_REF, Reg.PWR_RAIL, Reg.PWR_RAIL_STAT]
  constructor
  · rintro (⟨r, hr, h⟩ | ⟨r, hr, h⟩) <;> omega
  · rintro (⟨r, hr, h⟩ | ⟨r, hr, h⟩) <;> omega

/-! ### Live costs of one class (R265, R441) -/

theorem calCost_eq (live ref span f : Nat) :
    calCost live ref span f = max (ref * (256 - span) / 256) (min (live * f / 256) (min 65535 (ref * (256 + span) / 256))) := by
  simp only [calCost, Nat.shiftRight_eq_div_pow]

theorem calCost_lt {ref : Nat} (h : ref < 2 ^ 16) (live span f : Nat) : calCost live ref span f < 2 ^ 16 := by
  have hlow : ref * (256 - span) / 256 ≤ ref :=
    Nat.div_le_of_le_mul (by rw [Nat.mul_comm 256]; exact Nat.mul_le_mul_left _ (Nat.sub_le ..))
  rw [calCost_eq]
  omega

theorem Dev.calClass_regsKept (d : Dev) (k f : Nat) : d.regsKept (d.calClass k f) [Reg.ACT_COST k] :=
  (d.setFld_regsKept _ _ (List.mem_singleton_self _)).trans (Dev.setFld_regsKept _ _ _ (List.mem_singleton_self _))

theorem Dev.calClass_costs (d : Dev) (k f : Nat) :
    let a := Reg.ACT_COST k
    let r := Reg.ACT_COST_REF k
    let span := d.fld r F.ACT_COST_REF_SPAN
    (d.calClass k f).fld a F.ACT_COST_A = calCost (d.fld a F.ACT_COST_A) (d.fld r F.ACT_COST_REF_A_REF) span f ∧
      (d.calClass k f).fld a F.ACT_COST_B = calCost (d.fld a F.ACT_COST_B) (d.fld r F.ACT_COST_REF_B_REF) span f := by
  constructor
  · refine (Dev.fld_setFld_other _ _ (.inr (by decide))).trans ((Dev.fld_setFld_same _ _ _ (by decide)).trans ?_)
    exact Nat.mod_eq_of_lt (calCost_lt (Fld.of_lt F.ACT_COST_REF_A_REF _) ..)
  · refine (Dev.fld_setFld_same _ _ _ (by decide)).trans ?_
    exact Nat.mod_eq_of_lt (calCost_lt (Fld.of_lt F.ACT_COST_REF_B_REF _) ..)

/-- The class's live costs under the factors `fs`, where its CAL_EN is 1 and its rails give one. -/
def Dev.calTurn (fs : List (Option Nat)) (d : Dev) (k : Nat) : Dev :=
  if d.bit (Reg.ACT_COST k) F.ACT_COST_CAL_EN then
    match calFactor fs k with
    | some f => d.calClass k f
    | none => d
  else d

theorem Dev.calTurn_some {fs : List (Option Nat)} {d : Dev} {k f : Nat} (hen : d.bit (Reg.ACT_COST k) F.ACT_COST_CAL_EN = true)
    (hf : calFactor fs k = some f) : d.calTurn fs k = d.calClass k f := by
  unfold Dev.calTurn
  rw [if_pos hen, hf]

theorem Dev.calTurn_off {fs : List (Option Nat)} {d : Dev} {k : Nat}
    (h : d.bit (Reg.ACT_COST k) F.ACT_COST_CAL_EN = false ∨ calFactor fs k = none) : d.calTurn fs k = d := by
  unfold Dev.calTurn
  rcases h with h | h
  · rw [if_neg (by simp [h])]
  · rw [h]
    exact ite_self d

theorem Dev.calTurn_regsKept (fs : List (Option Nat)) (d : Dev) (k : Nat) : d.regsKept (d.calTurn fs k) [Reg.ACT_COST k] := by
  unfold Dev.calTurn
  split
  · split
    · exact d.calClass_regsKept k _
    · exact .refl d _
  · exact .refl d _

/-- The class's live costs after its turn depend on its own two registers alone. -/
theorem Dev.calTurn_reg_congr (fs : List (Option Nat)) {d e : Dev} {k : Nat} (hcost : e.reg (Reg.ACT_COST k) = d.reg (Reg.ACT_COST k))
    (href : e.reg (Reg.ACT_COST_REF k) = d.reg (Reg.ACT_COST_REF k)) :
    (e.calTurn fs k).reg (Reg.ACT_COST k) = (d.calTurn fs k).reg (Reg.ACT_COST k) := by
  unfold Dev.calTurn
  rw [Dev.bit_of_reg hcost]
  split
  · split
    · simp only [Dev.calClass, Dev.reg_setFld_same, Dev.fld, hcost, href]
    · exact hcost
  · exact hcost

/-! ### The turns of all classes (R441) -/

section
variable (fs : List (Option Nat)) (l : List Nat) (d : Dev)

/-- The classes `l` in turn. -/
def Dev.calTurns : Dev := l.foldl (Dev.calTurn fs) d

theorem Dev.calTurns_cons (k : Nat) : d.calTurns fs (k :: l) = (d.calTurn fs k).calTurns fs l := rfl

theorem Dev.calTurns_regsKept : d.regsKept (d.calTurns fs l) (l.map Reg.ACT_COST) := by
  induction l generalizing d with
  | nil => exact .refl d _
  | cons k l ih =>
    exact ((Dev.calTurn_regsKept fs d k).mono (by simp)).trans ((ih (d.calTurn fs k)).mono (by simp))

/-- A class of the list has the live costs that its own turn gives. -/
theorem Dev.calTurns_reg (hl : l.Nodup) (hlt : ∀ j ∈ l, j < 32) {k : Nat} (hk : k ∈ l) :
    (d.calTurns fs l).reg (Reg.ACT_COST k) = (d.calTurn fs k).reg (Reg.ACT_COST k) := by
  induction l generalizing d with
  | nil => cases hk
  | cons j l ih =>
    obtain ⟨hj, hnodup⟩ := List.nodup_cons.mp hl
    rw [Dev.calTurns_cons]
    by_cases hkj : k = j
    · subst hkj
      refine Dev.calTurns_regsKept fs l (d.calTurn fs k) _ fun hm => ?_
      obtain ⟨i, hi, he⟩ := List.mem_map.mp hm
      simp only [Reg.ACT_COST] at he
      obtain rfl : i = k := by omega
      exact hj hi
    · have hkept := Dev.calTurn_regsKept fs d j
      have hjlt := hlt j List.mem_cons_self
      refine (ih _ hnodup (fun i hi => hlt i (List.mem_cons_of_mem _ hi)) (List.mem_of_ne_of_mem hkj hk)).trans
        (Dev.calTurn_reg_congr fs (hkept _ ?_) (hkept _ ?_))
      · simp only [List.mem_singleton, Reg.ACT_COST]
        omega
      · simp only [List.mem_singleton, Reg.ACT_COST, Reg.ACT_COST_REF]
        omega

end

/-! ### RECALIBRATION (R440, R441) -/

theorem Dev.recalibrate_off {d : Dev} (h : d.bit Reg.PWR_CTRL F.PWR_CTRL_CAL_EN = false) : d.recalibrate = d := if_pos (by simp [h])

/-- A period in which a rail moved is skipped whole. -/
theorem Dev.recalibrate_skips {d : Dev} (hen : d.bit Reg.PWR_CTRL F.PWR_CTRL_CAL_EN = true) (h : d.pwr.calSkip = true) :
    d.recalibrate = d.calBegin := (if_neg (by simp [hen])).trans (if_pos h)

theorem Dev.calBegin_reg (d : Dev) (a : Nat) : d.calBegin.reg a = d.reg a := rfl

/-- PERIOD_MS in nanoseconds, 10 ms at least. -/
def Dev.calPeriod (d : Dev) : Nat := 1000000 * max 10 (d.fld Reg.PWR_CAL F.PWR_CAL_PERIOD_MS)

/-- The device after the factors of the rails and the turns of all classes. -/
def Dev.calTurned (d : Dev) : Dev := (d.calRails d.calPeriod).1.calTurns (d.calRails d.calPeriod).2 (List.range 21)

theorem Dev.recalibrate_runs {d : Dev} (hen : d.bit Reg.PWR_CTRL F.PWR_CTRL_CAL_EN = true) (h : d.pwr.calSkip = false) :
    d.recalibrate = ((d.calTurned.count (Reg.PWR_COUNT 10) 1).raise 11 14).calBegin := by
  unfold Dev.recalibrate
  rw [if_neg (by simp [hen]), if_neg (by simp [h])]
  unfold Dev.calTurned Dev.calPeriod
  cases d.calRails (1000000 * max 10 (d.fld Reg.PWR_CAL F.PWR_CAL_PERIOD_MS)) with
  | mk e fs =>
    dsimp only
    congr 4

theorem Reg.ACT_COST_quiet {k n : Nat} (hk : k < 32) (hn : n < 16) : Reg.ACT_COST k ∉ powerNotes n := by
  simp only [mem_powerNotes, Reg.ACT_COST, Reg.PWR_COUNT, Reg.PWR_EVENT, Reg.HIF_COUNT, Reg.SYS_MSIX_PBA]
  omega

theorem Dev.calTurned_count (d : Dev) : d.calTurned.reg (Reg.PWR_COUNT 10) = d.reg (Reg.PWR_COUNT 10) := by
  have hturns : Reg.PWR_COUNT 10 ∉ (List.range 21).map Reg.ACT_COST := by decide
  have hrails : Reg.PWR_COUNT 10 ∉ factorRegs := by decide
  rw [Dev.calTurned, Dev.calTurns_regsKept _ _ _ _ hturns, d.calRails_regsKept _ _ hrails]

section
variable {d : Dev} (hen : d.bit Reg.PWR_CTRL F.PWR_CTRL_CAL_EN = true) (hskip : d.pwr.calSkip = false)
include hen hskip

theorem Dev.recalibrate_noted : d.recalibrate.reg (Reg.PWR_COUNT 10) = d.plus (Reg.PWR_COUNT 10) 1 ∧
    (d.recalibrate.reg Reg.PWR_EVENT).getLsbD 14 = true ∧ d.recalibrate.pwr.calEnergy = List.replicate 6 0 := by
  rw [Dev.recalibrate_runs hen hskip]
  refine ⟨?_, ?_, rfl⟩
  · rw [Dev.calBegin_reg, d.calTurned.count_raise_power_count 14 (by decide), Dev.plus, d.calTurned_count]
    rfl
  · rw [Dev.calBegin_reg]
    exact Dev.raise_power_bit _ (by decide)

theorem Dev.recalibrate_actCost {k : Nat} (hk : k < 32) : d.recalibrate.reg (Reg.ACT_COST k) = d.calTurned.reg (Reg.ACT_COST k) := by
  rw [Dev.recalibrate_runs hen hskip, Dev.calBegin_reg]
  exact d.calTurned.count_raise_power_regsKept 10 14 _ (Reg.ACT_COST_quiet hk (by decide))

/-- A class that is not calibrated, or whose rails give no factor, keeps its live costs. -/
theorem Dev.recalibrate_keeps {k : Nat} (hk : k < 32)
    (h : 21 ≤ k ∨ d.bit (Reg.ACT_COST k) F.ACT_COST_CAL_EN = false ∨ calFactor (d.calRails d.calPeriod).2 k = none) :
    d.recalibrate.reg (Reg.ACT_COST k) = d.reg (Reg.ACT_COST k) := by
  have hrails := d.calRails_regsKept d.calPeriod _ (Reg.ACT_COST_factorRegs k).1
  rw [Dev.recalibrate_actCost hen hskip hk, ← hrails]
  by_cases hclass : k < 21
  · have hoff := h.resolve_left (by omega)
    rw [Dev.calTurned, Dev.calTurns_reg _ _ _ List.nodup_range (fun j hj => by have := List.mem_range.mp hj; omega) (List.mem_range.mpr hclass),
      Dev.calTurn_off (hoff.imp_left (Dev.bit_of_reg hrails _).trans)]
  · refine Dev.calTurns_regsKept _ _ _ _ fun hm => ?_
    obtain ⟨i, hi, he⟩ := List.mem_map.mp hm
    have := List.mem_range.mp hi
    simp only [Reg.ACT_COST] at he
    omega

/-- A calibrated class takes its live costs times the factor, within SPAN of the reference. -/
theorem Dev.recalibrate_costs {k f : Nat} (hk : k < 21) (hcal : d.bit (Reg.ACT_COST k) F.ACT_COST_CAL_EN = true)
    (hf : calFactor (d.calRails d.calPeriod).2 k = some f) :
    let a := Reg.ACT_COST k
    let r := Reg.ACT_COST_REF k
    let span := d.fld r F.ACT_COST_REF_SPAN
    d.recalibrate.fld a F.ACT_COST_A = calCost (d.fld a F.ACT_COST_A) (d.fld r F.ACT_COST_REF_A_REF) span f ∧
      d.recalibrate.fld a F.ACT_COST_B = calCost (d.fld a F.ACT_COST_B) (d.fld r F.ACT_COST_REF_B_REF) span f := by
  intro a r span
  have hcost := d.calRails_regsKept d.calPeriod _ (Reg.ACT_COST_factorRegs k).1
  have href := d.calRails_regsKept d.calPeriod _ (Reg.ACT_COST_factorRegs k).2
  have hreg : d.recalibrate.reg a = (d.calClass k f).reg a := by
    rw [Dev.recalibrate_actCost hen hskip (by omega), Dev.calTurned,
      Dev.calTurns_reg _ _ _ List.nodup_range (fun j hj => by have := List.mem_range.mp hj; omega) (List.mem_range.mpr hk),
      Dev.calTurn_reg_congr _ hcost href, Dev.calTurn_some hcal hf]
  obtain ⟨ha, hb⟩ := d.calClass_costs k f
  exact ⟨(Dev.fld_of_reg hreg _).trans ha, (Dev.fld_of_reg hreg _).trans hb⟩

end

/-! ### The statement -/

/-- Settles O49: what a pace reading calls for, a trim's one step and its limits, the ways a transaction with a rail ends, and the turn of each
class. The encodings of AVSBus (current in units of 10 mA) and PMBus are the model's choice of log entry 25; that a rail's hold is reported with
kind LOGIC is that of log entry 27. -/
theorem paceAndRecalibration : Obligations.PaceAndRecalibration := by
  unfold Obligations.PaceAndRecalibration
  refine ⟨fun g k s hu hg hk hcmd hat => ?_, fun s hu => ⟨fun hoff => ?_, fun hen hskip => ?_, fun hen hskip => ?_⟩⟩
  · intro r t0 fails pm fair busError
    have hg512 : g < 512 := by omega
    have hbusError : ∀ {c : Instr} {e : Dev}, exec c s = .next (s.withDev e) → s.dev.BusFailed e k → busError c := fun hexec h =>
      ⟨_, hexec, h.count, h.event, h.cmd, h.third, h.early⟩
    refine ⟨fun pace => ?_, ?_, fun hnone ok => ?_, fun v hto => ?_, ?_, fun m v i hpm hm => ?_, ?_, fun v ok ho => ?_⟩
    · have hexec := exec_paceMeasure pace hu hg
      refine ⟨_, hexec, s.dev.paceMeasure_pace hg512 pace, fun hfast => ?_, fun hlo hhi hreads hguard hen hbelow ht hr => ?_⟩
      · show s.withDev (s.dev.paceMeasure g pace) = _ ∧ s.dev.regsKept (s.dev.paceMeasure g pace) _ ∧ (s.dev.paceMeasure g pace).trim g = _
        rw [s.dev.paceMeasure_fast hfast]
        exact ⟨rfl, s.dev.paceStored_regsKept g, s.dev.paceStored_trim g g⟩
      · exact Dev.paceMeasure_guards hg512 hlo hhi hreads hguard hen hbelow ht hr
    · have hexec := exec_trimStep hu hg
      have hmoved : ∀ {y : Int}, s.dev.trimStep g = s.dev.commandTrim g y → s.dev.trimLimits g y = (y, false) →
          ∃ t, exec (.trimStep g) s = .next t ∧ t.dev.trim g = y ∧ s.dev.regsKept t.dev [r] ∧ t = s.withDev { s.dev with regs := t.dev.regs } := by
        intro y hstep hl
        obtain ⟨hkept, honly⟩ := Dev.commandTrim_free_kept hl
        rw [hstep] at hexec
        exact ⟨_, hexec, Dev.commandTrim_free_trim hl, hkept, congrArg s.withDev honly⟩
      refine ⟨fun hx => ?_, ⟨_, hexec, s.dev.trimStep_settled hg⟩, fun hx hl _ => hmoved (Dev.trimStep_rises hx) hl,
        fun hx hfree hl _ => hmoved (Dev.trimStep_falls hx hfree) hl⟩
      rw [hexec, Dev.trimStep_rests hx]
      rfl
    · rw [exec_railStep ok hu hk, Dev.railStep_none ok hnone]
      rfl
    · refine ⟨fun hheld ok => ?_, fun hfree hsettled hmay => ⟨?_, fun hl => ?_⟩⟩
      · rw [exec_railStep ok hu hk, Dev.railStep_waits ok hto hheld]
        rfl
      · exact hbusError (exec_railStep false hu hk) (Dev.railStep_fails hto hfree hsettled hmay hk)
      · have hexec := exec_railStep true hu hk
        rw [Dev.railStep_moves hto hfree hsettled hmay hl] at hexec
        refine ⟨_, hexec, rfl, Dev.commandRail_railMv _ _ _ hfree (hcmd ▸ hk), fun hx => ?_, rfl⟩
        have harrived : railNext (s.dev.railMv k) v = v := hx
        rw [decide_eq_true harrived]
        exact Dev.commandRail_arrives _ k _
    · exact hbusError (exec_railTelemetry _ hu hk) (s.dev.busError_failed hk)
    · have hexec := exec_railTelemetry (.pmbus m v i) hu hk
      rw [Dev.railTelemetry_pmbus_bad hpm hm v i] at hexec
      exact hbusError hexec (s.dev.busError_failed hk)
    · intro read
      refine ⟨fun v i hpm => ?_, fun m v i hpm hm => ?_, fun m v i hpm => ?_, fun v i hpm => ?_⟩
      · have hexec := exec_railTelemetry (.avs v i) hu hk
        rw [Dev.railTelemetry_avs hpm v i] at hexec
        exact ⟨_, hexec, s.dev.railReading_spec k v (10 * i)⟩
      · have hexec := exec_railTelemetry (.pmbus m v i) hu hk
        rw [Dev.railTelemetry_pmbus hpm hm v i] at hexec
        exact ⟨_, hexec, Dev.railReading_spec _ k _ _⟩
      · rw [exec_railTelemetry (.pmbus m v i) hu hk, Dev.railTelemetry_pmbus_strange hpm]
        rfl
      · rw [exec_railTelemetry (.avs v i) hu hk, Dev.railTelemetry_avs_strange hpm]
        rfl
    · exact ⟨_, exec_railWrite v ok hu hk ho, s.dev.railWrite_spec hk v ok⟩
  · rw [exec_recalibration hu, Dev.recalibrate_off hoff]
    rfl
  · have hexec := exec_recalibration hu
    rw [Dev.recalibrate_skips hen hskip] at hexec
    exact ⟨_, hexec, rfl, rfl⟩
  · obtain ⟨hcount, hevent, henergy⟩ := Dev.recalibrate_noted hen hskip
    refine ⟨_, exec_recalibration hu, hcount, hevent, henergy, fun k hk => ?_⟩
    intro live within
    refine ⟨fun f hclass hcal hf => ?_, fun h => Dev.recalibrate_keeps hen hskip hk h⟩
    obtain ⟨ha, hb⟩ := Dev.recalibrate_costs hen hskip hclass hcal hf
    exact ⟨ha.trans (calCost_eq ..), hb.trans (calCost_eq ..)⟩

end Sys2Proof.Machine
end
